-- ==== Sys2Proof/Word.lean ====
section
/-! DEFINITION. The byte and the byte string, the two word types of the device's formats (R10, R14). -/

namespace Sys2Proof

/-- One byte, as Wonel frames, images and front-port frames carry it. -/
abbrev Byte := BitVec 8

/-- A byte string in the order of transmission. -/
abbrev Bytes := List Byte

end Sys2Proof
end

