-- ==== Sys2Proof/Syntax.lean ====
section
/-! DEFINITION. The commands of the block: one constructor for each row of the table of operations and events, with the operands that
the step takes from outside (a pin, a measured value, a frame). A step that the device takes on its own state names the unit only. -/

namespace Sys2Proof

/-- The raw receive record of a frame's start (R410): the replica count F_L at which the CDR declared lock, the index s of the received symbol
counted from it, the phase accumulator A extended past its wraps, and the lane that carries the start of the frame. -/
structure RxStamp where
  lock : Nat := 0
  sym : Nat := 0
  acc : Int := 0
  lane : Nat := 0
deriving DecidableEq, Repr

/-- The raw transmit record of a frame's start (R410): the replica count F_T of the transmitter's first symbol boundary, the index s_tx of the
symbol, and the lane. -/
structure TxStamp where
  start : Nat := 0
  sym : Nat := 0
  lane : Nat := 0
deriving DecidableEq, Repr

/-- The commands. -/
inductive Instr where
  /-- RESET_N_ASSERTED. RESET_N is low at the ball for `ns` nanoseconds (R51). -/
  | resetNAsserted (ns : Nat)
  /-- RESET_N_RELEASE. RESET_N rises; the three strap samples (R66) and what the activity detectors of REFCLK0 and REFCLK1 report at the choice (R60). -/
  | resetNRelease (s0 s1 s2 : BitVec 2) (act0 act1 : Bool)
  /-- REFERENCE_APPEARS. Edges appear on REFCLK`r` (R60). -/
  | referenceAppears (r : Nat)
  /-- SUPPLY_LOSS. VIO (true) or VSTBY (false) leaves its range (R54). -/
  | supplyLoss (vio : Bool)
  /-- SUPPLY_VALID. Both supplies become valid; RESET_N's level, and what the release samples if it is high (R54, R68). -/
  | supplyValid (resetHigh : Bool) (s0 s1 s2 : BitVec 2) (act0 act1 : Bool)
  /-- ROOT_PLL_LOCK. The root PLL locks (R57). -/
  | rootPllLock
  /-- RAIL_POLL. READ_VOUT in mV and STATUS_WORD of the rail being raised (R498). -/
  | railPoll (rail vout : Nat) (status : BitVec 16)
  /-- RAIL_DEADLINE. The 50 ms of a rail end (R498, R499). -/
  | railDeadline (rail : Nat)
  /-- STORE_READ. Phase 4; the lanes whose calibration record fails its CRC (R412). -/
  | storeRead (badLanes : List Nat)
  /-- DIE_LINK_TRAINING. Phase 5: die-link lanes (q × 864 + direction × 432 + lane) that fail the test, quoins whose control channel does not open, and each quoin's largest skew in UI (R200). -/
  | dieLinkTraining (bad : List Nat) (closed : List Nat) (skew : List Nat)
  /-- GALLEY_SELF_TEST. Phase 6: words found weak and words found bad (by physical bank × 16,384 + word; a number past 2,112 banks names a word of the descriptor memory or the valid map), whether the checker test passed, and the time taken (R471, R472). -/
  | galleySelfTest (weak : List Nat) (bad : List Nat) (checker : Bool) (us : Nat)
  /-- WIPE. Phase 7: the wipe, and its measured duration (R71, R72). -/
  | wipe (ns : Nat)
  /-- PATCH_LOAD. Phase 8; whether a flash answers under BOOT_SEL 0b01 (R453, R526). -/
  | patchLoad (flash : Bool)
  /-- DICTIONARY_RESTORE. Phase 9 (R70). -/
  | dictionaryRestore
  /-- WONEL_ENABLE. Phase 10 (R68). -/
  | wonelEnable
  /-- REFERENCE_ABSENT. No edge of REFCLK`r` for 64 ns (R61). -/
  | referenceAbsent (r : Nat)
  /-- REFERENCE_MONITOR_WINDOW. A 1 ms window of REFCLK`r` ends with its offset from 156.25 MHz in 0.001 ppm (R61). -/
  | referenceMonitorWindow (r : Nat) (ppm : Int)
  /-- REVERTIVE_SWITCH. The revertive decision of R64. -/
  | revertiveSwitch
  /-- LCY_SOFT_RESET. The next request is a START on `LCY_SOFT_RESET` (R65). -/
  | lcySoftReset
  /-- SOFT_RESET. The requested soft reset begins (R65). -/
  | softReset
  /-- LCY_PS_COMMIT. The next request is a START on `LCY_PS_COMMIT` (R77). -/
  | lcyPsCommit
  /-- COMMIT_HOLD_EXPIRY. 5 s have passed since the previous commit's start (R78). -/
  | commitHoldExpiry
  /-- COMMIT_COMPLETE. The running commit programs, verifies and publishes; whether every flash write reads back (R77, R526). -/
  | commitComplete (flashOk : Bool)
  /-- LCY_TRANSITION. The next request is a START on `LCY_TRANSITION` (R82). -/
  | lcyTransition
  /-- TRANSITION_FINISH. Steps 4 to 6 of a transition (R83). -/
  | transitionFinish
  /-- WONEL_FRAME_RX. A frame (without FCS) reaches the management engine by a way in: port number, 0x400 MG0, 0x401 MG1 (R86, R94). -/
  | wonelFrameRx (way : Nat) (frame : Bytes)
  /-- ARP_REQUEST. An ARP frame on a way in (R88). -/
  | arpRequest (way : Nat) (frame : Bytes)
  /-- MG_FRAME_DROPPED. Any other frame on MG0 or MG1 (R88). -/
  | mgFrameDropped (mg : Nat) (frame : Bytes)
  /-- MG_FEC_CYCLE. A 2 s attempt ends without lock (R89). -/
  | mgFecCycle (mg : Nat)
  /-- MG_LINK_CHANGE. The link of a management port comes up or goes down (R89, R115). -/
  | mgLinkChange (mg : Nat) (up : Bool)
  /-- SESSION_IDLE_TIMEOUT. The idle timeout of session `s` (R99). -/
  | sessionIdleTimeout (s : Nat)
  /-- HELLO. The next request is a HELLO (R97). -/
  | hello
  /-- BYE. The next request is a BYE (R98). -/
  | bye
  /-- READ. The next request is a READ (R108). -/
  | read
  /-- WRITE. The next request is a WRITE (R109). -/
  | write
  /-- READ_MULTI. The next request is a READ_MULTI (R108). -/
  | readMulti
  /-- WRITE_MULTI. The next request is a WRITE_MULTI (R109). -/
  | writeMulti
  /-- BULK_READ. The next request is a BULK_READ (R112). -/
  | bulkRead
  /-- BULK_WRITE. The next request is a BULK_WRITE (R113). -/
  | bulkWrite
  /-- START. The next request is a START (R111). -/
  | start
  /-- ABORT. The next request is an ABORT (R111). -/
  | abort
  /-- KCE_INSTALL. The next request is a START on `KCE_INSTALL` (R160). -/
  | kceInstall
  /-- KCE_EMPTY. The next request is a START on `KCE_EMPTY` (R161). -/
  | kceEmpty
  /-- KCE_PAGE_HOLD_EXPIRY. The hold of a page ends (R162). -/
  | kcePageHoldExpiry (page : Nat)
  /-- KCE_MESSAGE. A customer hands over a message: to be tagged, or to be checked against `expect` (R164). -/
  | kceMessage (level page handle : Nat) (data : Bytes) (expect : Option Bytes)
  /-- KCE_SUSPEND. A block boundary with higher-level work waiting; blocks done since the message began or resumed (R165). -/
  | kceSuspend (blocks : Nat)
  /-- KCE_MESSAGE_DONE. The running message's last block completes (R166). -/
  | kceMessageDone
  /-- CEILING_RAISE_WRITTEN. The raise of a page's CEIL_U (true) or CEIL_S is written (R156). -/
  | ceilingRaiseWritten (page : Nat) (usage : Bool)
  /-- KCE_UNCORRECTABLE. An uncorrectable error in a page's working copy, or in a context slot (R167). -/
  | kceUncorrectable (page : Nat) (slot : Option Nat)
  /-- SIGNAL_DETECT. Signal at a lane's receive balls (R178). -/
  | signalDetect (lane : Nat)
  /-- ADAPTATION_COMPLETE. Initial adaptation completes with its CTLE peaking and SNR (R178). -/
  | adaptationComplete (lane ctle snr : Nat)
  /-- CONTINUOUS_ADAPTATION. A continuous change: new values and the delay step in fs (R178). -/
  | continuousAdaptation (lane ctle snr stepFs : Nat)
  /-- LINK_TRAINING_RETRY. A second after a training failed (R177). -/
  | linkTrainingRetry (lane : Nat)
  /-- CDR_LOCK. The CDR locks (R180). -/
  | cdrLock (lane : Nat)
  /-- CDR_LOCK_LOSS. The CDR loses lock (R179). -/
  | cdrLockLoss (lane : Nat)
  /-- PPM_UPDATE. The 1 ms update of `LN_RX_PPM` in 0.01 ppm, and the interpolator steps since the last one, modulo 2³² (R179, R180). -/
  | ppmUpdate (lane : Nat) (ppm : Int) (steps : Nat)
  /-- ALIGNMENT_LOSS. A skew change on a multi-lane port, in ps (R181). -/
  | alignmentLoss (port skewPs : Nat)
  /-- PRBS_LOCK_CHANGE. The checker gains or loses lock; bits and errors counted while it was locked (R183). -/
  | prbsLockChange (lane : Nat) (lock : Bool) (bits errors : Nat)
  /-- LANE_FAILURE. The device finds cause 1, 2 or 3 of R190 on a lane, or cause 4 from the flap record. -/
  | laneFailure (lane cause : Nat)
  /-- LN_ADAPT. The next request is a START on `LN_ADAPT` (R178). -/
  | lnAdapt
  /-- LN_EYE_RUN. The next request is a START on `LN_EYE_RUN` (R188). -/
  | lnEyeRun
  /-- EYE_SCAN_POINT_COMPLETE. A scan point ends with its error count (R188). -/
  | eyeScanPointComplete (lane errors : Nat)
  /-- LN_RELEASE. The next request is a START on `LN_RELEASE`; what the test of the cause finds (R191). -/
  | lnRelease (gone : Bool)
  /-- DIE_LINK_SLOT_RX. A slot as a receive end samples it, 130 bytes of 1,040 UI; `own`: the end's own count at the slot's first UI, less the link's constant flight time, in 2⁻¹⁶ ns modulo 2⁶⁴ (R193 to R197, R202). -/
  | dieLinkSlotRx (q dir lane own : Nat) (slot : Bytes)
  /-- CONTROL_CELL_RESEND. A control cell is resent and arrives or fails again (R199). -/
  | controlCellResend (q dir : Nat) (cell : Bytes) (ok : Bool)
  /-- MARGIN_MEASURE. The 1 ms margin of a lane in 1/64 UI (R203). -/
  | marginMeasure (q dir lane margin : Nat)
  /-- REPAIR_SPARE_CHOICE. The die-link manager of a quoin takes up its next repair (R204). -/
  | repairSpareChoice (q : Nat)
  /-- MIRROR_START. Slot n of the running repair (R204). -/
  | mirrorStart (q : Nat)
  /-- MIRROR_SWITCH. 4,096 clean mirrored slots have passed, or lane p has lost lock (R204, R205). -/
  | mirrorSwitch (q : Nat)
  /-- REPAIR_STOP_SLOT. The stop slot of the running repair (R204). -/
  | repairStopSlot (q : Nat)
  /-- QD_REPAIR. The next request is a START on `QD_REPAIR` (R210). -/
  | qdRepair
  /-- PORT_UP. The conditions of R215 have held for `PT_UP_HOLD`. -/
  | portUp (port : Nat)
  /-- PORT_DOWN. A condition of R215 has failed for `PT_DOWN_HOLD` (R217). -/
  | portDown (port : Nat)
  /-- FLUSH_COMPLETE. The flush of a port's queues ends (R357). -/
  | flushComplete (port : Nat)
  /-- FRAME_RX. A received frame, DA to FCS, whether the PCS marked an error in it, and the raw timestamp record of its start (R218, R409). -/
  | frameRx (port : Nat) (frame : Bytes) (pcsErr : Bool) (ts : RxStamp)
  /-- PAUSE_FRAME_RX. 10 ns after an accepted pause frame (R226). -/
  | pauseFrameRx (port : Nat)
  /-- PAUSE_TIMER_EXPIRY. A pause timer reaches 0: priority 0–7, or 8 the link timer (R226). -/
  | pauseTimerExpiry (port timer : Nat)
  /-- PAUSE_REFRESH. Half of `PT_PAUSE_QUANTA` after the last pause frame (R227). -/
  | pauseRefresh (port : Nat)
  /-- LOSSLESS_REFUSAL_CHECK. The 1 µs check of priorities held in XOFF by a refusal (R327). -/
  | losslessRefusalCheck (port : Nat)
  /-- LPI_ENTRY. `PT_LPI_IDLE` has passed with nothing to send (R230). -/
  | lpiEntry (port : Nat)
  /-- LPI_WAKE_COMPLETE. The wake time ends (R230). -/
  | lpiWakeComplete (port : Nat)
  /-- LLDP_SEND. The 30 s interval of the LLDP agent (R231). -/
  | lldpSend (port : Nat)
  /-- LLDP_RX. The LLDP agent takes its next received frame of a port (R231). -/
  | lldpRx (port : Nat)
  /-- LLDP_TIMEOUT. 90 s without an EEE TLV (R231). -/
  | lldpTimeout (port : Nat)
  /-- LARGE_SEND. A large send of the Compositor: the record of R232 as 8 bytes, its template and its payload. -/
  | largeSend (record template payload : Bytes)
  /-- INGRESS_PIPELINE. The oldest frame in a port's receive FIFO is processed (R264). -/
  | ingressPipeline (port : Nat)
  /-- GROWTH_REQUEST. The port's writer asks for the next buffer (R318). -/
  | growthRequest (port : Nat)
  /-- HANK_REFILL. A hank unlinks its head buffer (R320). -/
  | hankRefill (case hank : Nat)
  /-- FRAME_TAIL_WRITTEN. The tail of the frame a port is writing reaches the galley (R330). -/
  | frameTailWritten (port : Nat)
  /-- DEQUEUE. The scheduler selects for a port (R347). -/
  | dequeue (port : Nat)
  /-- FRAME_TRANSMIT. The transmit MAC of a port sends its frame; the raw departure record (R223, R410). -/
  | frameTransmit (port : Nat) (ts : TxStamp)
  /-- TRANSMIT_COMPLETE. The last byte of a port's frame is sent (R331). -/
  | transmitComplete (port : Nat)
  /-- SHAPER_REFILL. The 1 µs refill (R349). -/
  | shaperRefill
  /-- QUEUE_SAMPLE_SWEEP. A multiple of `SCH_SAMPLE_INTERVAL` (R355). -/
  | queueSampleSweep
  /-- MULTICAST_REPLICATION. The replication engine serves its queue (R360). -/
  | multicastReplication
  /-- RING_INJECT. An empty slot passes a pipeline (R295). -/
  | ringInject (pipe : Nat)
  /-- RING_MESSAGE_ARRIVAL. The next message of the ring reaches a pipeline; whether it arrived damaged (R296). -/
  | ringMessageArrival (pipe : Nat) (damaged : Bool)
  /-- AGER_VISIT. The ager of a pipeline visits its next bucket (R298). -/
  | agerVisit (pipe : Nat)
  /-- TBL_STATIC_ADD. The next request is a START on `TBL_STATIC_ADD` (R300). -/
  | tblStaticAdd
  /-- TBL_DELETE. The next request is a START on `TBL_DELETE` (R300). -/
  | tblDelete
  /-- TBL_FLUSH. The next request is a START on `TBL_FLUSH` (R300). -/
  | tblFlush
  /-- TBL_LPM_APPLY. The next request is a START on `TBL_LPM_APPLY` (R290). -/
  | tblLpmApply
  /-- LPM_RECORD_COMPLETE. The next staged route record is applied (R290). -/
  | lpmRecordComplete
  /-- ENTRY_RESTORATION. The Compositor restores a label (0) or next-hop (1) entry (R302). -/
  | entryRestoration (chase table entry : Nat)
  /-- LPM_SHADOW_REWRITE. A slot is rewritten from the shadow (R303). -/
  | lpmShadowRewrite (chase slot : Nat)
  /-- CHS_LPM_SPARE_IN. The next request is a START on `CHS_LPM_SPARE_IN` (R305). -/
  | chsLpmSpareIn
  /-- LPM_SPARE_SWITCH. The copy of a block is complete (R305). -/
  | lpmSpareSwitch (chase : Nat)
  /-- GAL_CARVE_APPLY. The next request is a START on `GAL_CARVE_APPLY` (R315). -/
  | galCarveApply
  /-- GAL_REMAP. The next request is a START on `GAL_REMAP` (R335). -/
  | galRemap
  /-- BANK_REMAP_SWITCH. The copy of a galley bank is complete (R335). -/
  | bankRemapSwitch
  /-- WRITE_BACK. A pending write-back takes its free cycle (R463). -/
  | writeBack (kind inst addr : Nat)
  /-- SCRUB_READ. The scrubber of an instance reads its next word; the mask of stored bits that have decayed in it (R469). -/
  | scrubRead (kind inst : Nat) (flips : Nat)
  /-- PLN_CHECK. The next request is a START on `PLN_CHECK` (R266). -/
  | plnCheck
  /-- PLN_INSTALL. The next request is a START on `PLN_INSTALL` (R267). -/
  | plnInstall
  /-- PLN_SWITCH. The next request is a START on `PLN_SWITCH` (R268). -/
  | plnSwitch
  /-- INGRESS_BANK_SWITCH. Clock T of a switch (R268). -/
  | ingressBankSwitch
  /-- EGRESS_BANK_SWITCH. The drain of a switch ends (R268). -/
  | egressBankSwitch
  /-- PROOF_CAPTURE. A proof engine has the bytes it needs (R366). -/
  | proofCapture (sampler : Nat)
  /-- PROOF_BATCH_CLOSE. The open batch reaches its size or hold time (R372). -/
  | proofBatchClose
  /-- EXPORT_SEND. A channel sends its next unit (R370). -/
  | exportSend (channel : Nat)
  /-- PMC_SNAP. The next request is a START on `PMC_SNAP` (R380). -/
  | pmcSnap
  /-- PERIODIC_SNAPSHOT. `ID_UPTIME` reaches a multiple of the interval (R380). -/
  | periodicSnapshot
  /-- SNAPSHOT_CAPTURE. Instant T of a snapshot (R379). -/
  | snapshotCapture
  /-- PMC_B_CLEAR. The next request is a START on `PMC_B_CLEAR` (R378). -/
  | pmcBClear
  /-- CTR_CLEAR. The next request is a START on `CTR_CLEAR` (R237). -/
  | ctrClear
  /-- TCI_EDGE. An edge at a TCI, with its fine phase in units of 2⁻¹⁶ ns within the tick (R401). -/
  | tciEdge (pin : Nat) (rising : Bool) (fine : Nat)
  /-- TPO_RISING_EDGE. The rising edge of an output falls due (R398). -/
  | tpoRisingEdge (pin : Nat)
  /-- TPO_FALLING_EDGE. The falling edge of an output falls due (R399). -/
  | tpoFallingEdge (pin : Nat)
  /-- SPLICE_END. The residue of a splice reaches zero (R395). -/
  | spliceEnd
  /-- SERVO_MEASUREMENT. A measurement of a domain, in units of 2⁻¹⁶ ns (R391). -/
  | servoMeasurement (domain : Nat) (offset : Int)
  /-- TCI_SOURCE_TIMEOUT. 1.5 s without a capture (R392). -/
  | tciSourceTimeout (domain : Nat)
  /-- PTP_MASTER_LOST. The loss of a PTP master (R423). -/
  | ptpMasterLost (domain : Nat)
  /-- PTP_MESSAGE_TERMINATED. An instance takes the next message terminated for it (R417). -/
  | ptpMessageTerminated (inst : Nat)
  /-- PTP_MESSAGE_SEND. An instance's interval for a message falls due (R422, R424). -/
  | ptpMessageSend (inst port kind : Nat)
  /-- UNICAST_GRANT_RENEWAL. Half the duration of a grant has passed (R425). -/
  | unicastGrantRenewal (inst : Nat)
  /-- AUTH_DEPARTURE. The departure instant of an authenticated message (R428). -/
  | authDeparture (port : Nat)
  /-- SEQ_NEXT. The running context executes a line of SEQ_OP 0 (R437). -/
  | seqNext
  /-- SEQ_JUMP. SEQ_OP 1. -/
  | seqJump
  /-- SEQ_BRT. SEQ_OP 2. -/
  | seqBrt
  /-- SEQ_BRF. SEQ_OP 3. -/
  | seqBrf
  /-- SEQ_CALL. SEQ_OP 4. -/
  | seqCall
  /-- SEQ_RET. SEQ_OP 5. -/
  | seqRet
  /-- SEQ_LOOP. SEQ_OP 6. -/
  | seqLoop
  /-- SEQ_WAIT. SEQ_OP 7. -/
  | seqWait
  /-- SEQ_DISP. SEQ_OP 8. -/
  | seqDisp
  /-- SEQ_END. SEQ_OP 9. -/
  | seqEnd
  /-- CONTEXT_WAKE. A ready context is chosen to run (R434). -/
  | contextWake (ctx : Nat)
  /-- NET_READ_RESPONSE. The response to a context's control-network read (R440). -/
  | netReadResponse (ctx : Nat) (value : BitVec 64)
  /-- CONTEXT_TIMER_EXPIRY. A context's timer (R433). -/
  | contextTimerExpiry (ctx : Nat)
  /-- FETCH_UNCORRECTABLE. The running context's line fetch is uncorrectable, in the patch RAM or the ROM (R447). -/
  | fetchUncorrectable (patch : Bool)
  /-- CMP_PATCH_CHECK. The next request is a START on `CMP_PATCH_CHECK` (R449). -/
  | cmpPatchCheck
  /-- CMP_PATCH_ACTIVATE. The next request is a START on `CMP_PATCH_ACTIVATE` (R451). -/
  | cmpPatchActivate
  /-- PATCH_HALT_LOAD. Every context has parked (R451). -/
  | patchHaltLoad
  /-- CMP_PATCH_REMOVE. The next request is a START on `CMP_PATCH_REMOVE` (R452). -/
  | cmpPatchRemove
  /-- FAULT_EVENT. A checker's report of a source reaches the collector (R485). -/
  | faultEvent (source cause tile detail : Nat) (failure : Bool)
  /-- REACTION_TIMER_EXPIRY. The reaction timer of a severe source expires (R486). -/
  | reactionTimerExpiry (source : Nat)
  /-- RUNG_NOT_BEGUN. 1 ms after a rung fell due (R486). -/
  | rungNotBegun (source : Nat)
  /-- FLT_CLEAR. The next request is a START on `FLT_CLEAR` (R488). -/
  | fltClear
  /-- FLT_SAFE_ENTER. The next request is a START on `FLT_SAFE_ENTER` (R492). -/
  | fltSafeEnter
  /-- FLT_INJ_ARM. The next request is a START on `FLT_INJ_ARM` (R490). -/
  | fltInjArm
  /-- FLT_DIAG_WRITE. The next request is a START on `FLT_DIAG_WRITE` (R476). -/
  | fltDiagWrite
  /-- FLT_DIAG_READ. The next request is a START on `FLT_DIAG_READ` (R475). -/
  | fltDiagRead
  /-- REGULATOR_POLL. The 10 ms poll of a regulator (R501). -/
  | regulatorPoll (rail vout iout : Nat) (status : BitVec 16)
  /-- PMB_ALERT. PMB_ALERT_N is asserted; the five status words then read (R501). -/
  | pmbAlert (status : List (BitVec 16))
  /-- PMBUS_TRANSACTION_FAILURE. A transaction to a regulator is abandoned (R52). -/
  | pmbusTransactionFailure (rail : Nat)
  /-- PMBUS_RETRY. The retry 1 ms later, and whether it succeeds (R52). -/
  | pmbusRetry (rail : Nat) (ok : Bool)
  /-- RAIL_DROOP. A rail lies below set point − 5% for `ns` (R502). -/
  | railDroop (rail ns : Nat)
  /-- AVS_LOOP. The least path margin in ps, each 1 ms (R503). -/
  | avsLoop (margin : Int)
  /-- SENSOR_READ. A reading in 0.125 °C (R507). -/
  | sensorRead (sensor : Nat) (temp : Int)
  /-- THERMAL_TRIP. The comparator of a sensor fires (R508). -/
  | thermalTrip (sensor : Nat)
  /-- PWR_SHUTDOWN. The next request is a START on `PWR_SHUTDOWN` (R500). -/
  | pwrShutdown
  /-- SIGNAL_LOSS. The signal at a lane's balls is lost (R178). -/
  | signalLoss (lane : Nat)
  /-- PCS_LOCK_ACQUIRED. Every lane of a port has block, FEC and alignment lock (R181). -/
  | pcsLockAcquired (port : Nat)
  /-- LINK_FAULT_RX. The Reconciliation Sublayer begins to receive local (1) or remote (2) fault, or neither (0) (R215). -/
  | linkFaultRx (port fault : Nat)
  /-- DIE_LINK_LOCK_LOSS. A die-link lane loses lock, or the whole die-link stops (R203, R29). -/
  | dieLinkLockLoss (q dir lane : Nat) (whole : Bool)
  /-- LINK_TRAINING_END. Link training completes with its six taps, or runs out of time (R177). -/
  | linkTrainingEnd (lane : Nat) (ok : Bool) (taps : Bytes)
  /-- LPI_RX_CHANGE. The partner enters or leaves low-power idle (R230). -/
  | lpiRxChange (port : Nat) (lpi : Bool)
  /-- KEY_RING_ENTRY_FREE. A ring entry becomes free 5 s after its last write (R157). -/
  | keyRingEntryFree (page : Nat) (usage : Bool)
  /-- REGULATOR_FAULT_REREAD. The 1 ms re-read after CLEAR_FAULTS (R501). -/
  | regulatorFaultReread (rail : Nat) (status : BitVec 16)
deriving DecidableEq, Repr

end Sys2Proof
end

