-- ==== Sys2Proof/Machine/Sparse.lean ====
section
/-! DEFINITION. Sparse maps in one canonical form (keys strictly rising, no entry equal to the default), and small list helpers.
Every addressed memory of the block, and the object dictionary, is such a map. -/

namespace Sys2Proof.Machine

/-- What a sparse map holds at a key; `d` is what an unlisted key reads as. -/
def smGet {α : Type} (d : α) (m : List (Nat × α)) (key : Nat) : α :=
  match m with
  | [] => d
  | (k, v) :: t => if k = key then v else smGet d t key

/-- Remove a key. -/
def smErase {α : Type} (m : List (Nat × α)) (key : Nat) : List (Nat × α) :=
  match m with
  | [] => []
  | (k, v) :: t => if k = key then smErase t key else (k, v) :: smErase t key

/-- Enter a key at its place in rising order. -/
def smInsert {α : Type} (m : List (Nat × α)) (key : Nat) (x : α) : List (Nat × α) :=
  match m with
  | [] => [(key, x)]
  | (k, v) :: t =>
    if k = key then (key, x) :: t
    else if key < k then (key, x) :: (k, v) :: t
    else (k, v) :: smInsert t key x

/-- Write a key; writing the default removes the entry, so equal contents are equal lists. -/
def smSet {α : Type} [DecidableEq α] (d : α) (m : List (Nat × α)) (key : Nat) (x : α) : List (Nat × α) :=
  if x = d then smErase m key else smInsert m key x

/-- Every key of a list above a bound, in strictly rising order, none holding the default. -/
def smWfFrom {α : Type} [DecidableEq α] (dflt : Nat → α) (lo : Nat) : List (Nat × α) → Bool
  | [] => true
  | (k, v) :: t => decide (lo ≤ k) && decide (v ≠ dflt k) && smWfFrom dflt (k + 1) t

/-- The canonical form. -/
def smWf {α : Type} [DecidableEq α] (dflt : Nat → α) (m : List (Nat × α)) : Bool := smWfFrom dflt 0 m

/-- The keys of a half-open range removed. -/
def smClearRange {α : Type} (m : List (Nat × α)) (lo hi : Nat) : List (Nat × α) :=
  m.filter fun e => !(decide (lo ≤ e.1) && decide (e.1 < hi))

/-- Set the element of a list at a position; beyond the end nothing happens. -/
def listSet {α : Type} (l : List α) (i : Nat) (x : α) : List α := l.set i x

/-- The element of a list at a position, or a default. -/
def listAt {α : Type} (d : α) (l : List α) (i : Nat) : α := (l[i]?).getD d

/-- Apply a function at one position. -/
def listMod {α : Type} (l : List α) (i : Nat) (f : α → α) : List α :=
  match l, i with
  | [], _ => []
  | x :: t, 0 => f x :: t
  | x :: t, n + 1 => x :: listMod t n f

/-- Insert into a list kept in rising order without repeats. -/
def setInsert (l : List Nat) (k : Nat) : List Nat :=
  match l with
  | [] => [k]
  | x :: t => if x = k then x :: t else if k < x then k :: x :: t else x :: setInsert t k

/-- Remove an element. -/
def setErase (l : List Nat) (k : Nat) : List Nat := l.filter (· ≠ k)

/-- Truth as a number. -/
def b2n (b : Bool) : Nat := if b then 1 else 0

/-- Bit `i` of a number. -/
def bitOf (v i : Nat) : Bool := v.testBit i

/-- Bit `i` of a number set or cleared. -/
def setBit (v i : Nat) (b : Bool) : Nat :=
  if b then v ||| (1 <<< i) else if v.testBit i then v - (1 <<< i) else v

/-- Field [hi:lo] of a number (R9). -/
def field (v hi lo : Nat) : Nat := (v >>> lo) % (1 <<< (hi + 1 - lo))

/-- Two's complement of a width as an integer (R124, I32 and I64). -/
def toSigned (w v : Nat) : Int := if v < 2 ^ (w - 1) then (v : Int) else (v : Int) - (2 ^ w : Nat)

/-- An integer as its two's complement of a width. -/
def ofSigned (w : Nat) (i : Int) : Nat := (i % (2 ^ w : Nat)).toNat

/-- Count the ones of the low `n` bits. -/
def popCount (n v : Nat) : Nat :=
  match n with
  | 0 => 0
  | k + 1 => b2n (v.testBit k) + popCount k v

/-- Zero-based range as a list, for the instance loops. -/
def upTo (n : Nat) : List Nat := List.range n

end Sys2Proof.Machine
end

