-- ==== Sys2Proof/Machine/Bytes.lean ====
section
/-! DEFINITION. Byte order (R10: most significant byte first) and the cyclic codes the device uses. -/

namespace Sys2Proof.Machine
open Sys2Proof

/-- A number as one byte. -/
def u8 (v : Nat) : Byte := BitVec.ofNat 8 v

/-- A number as `n` bytes, most significant first (R10). -/
def beBytes (n v : Nat) : Bytes :=
  match n with
  | 0 => []
  | k + 1 => BitVec.ofNat 8 (v >>> (8 * k)) :: beBytes k v

/-- Bytes, most significant first, as a number, on top of an accumulator. -/
def beAcc (acc : Nat) : Bytes → Nat
  | [] => acc
  | b :: t => beAcc (acc * 256 + b.toNat) t

/-- Bytes, most significant first, as a number (R10). -/
def beNat (l : Bytes) : Nat := beAcc 0 l

/-- The bytes [off, off + n) of a string. -/
def slice (l : Bytes) (off n : Nat) : Bytes := (l.drop off).take n

/-- The number in the `n` bytes at an offset. -/
def u (l : Bytes) (off n : Nat) : Nat := beNat (slice l off n)

/-- `n` zero bytes. -/
def zeros (n : Nat) : Bytes := List.replicate n 0#8

/-- A string zero-padded at the end, or cut, to `n` bytes. -/
def padTo (n : Nat) (l : Bytes) : Bytes := (l ++ zeros (n - l.length)).take n

/-- Bytes [off, off + x.length) of a string replaced by `x`. -/
def patchBytes (l : Bytes) (off : Nat) (x : Bytes) : Bytes := l.take off ++ x ++ l.drop (off + x.length)

/-- Bytewise exclusive or. -/
def xorBytes : Bytes → Bytes → Bytes
  | a :: s, b :: t => (a ^^^ b) :: xorBytes s t
  | _, _ => []

/-- The bits of a byte, least significant first. -/
def bitsLsb (b : Byte) : List Bool :=
  [b.getLsbD 0, b.getLsbD 1, b.getLsbD 2, b.getLsbD 3, b.getLsbD 4, b.getLsbD 5, b.getLsbD 6, b.getLsbD 7]

/-- One step of a reflected 32-bit CRC. -/
def crcRStep (poly reg : Nat) : Nat := if reg % 2 = 1 then (reg / 2) ^^^ poly else reg / 2

/-- One byte into a reflected 32-bit CRC. -/
def crcRByte (poly reg : Nat) (b : Byte) : Nat :=
  let r := reg ^^^ b.toNat
  crcRStep poly (crcRStep poly (crcRStep poly (crcRStep poly
    (crcRStep poly (crcRStep poly (crcRStep poly (crcRStep poly r)))))))

/-- A byte string into a reflected 32-bit CRC register. -/
def crcR (poly reg : Nat) : Bytes → Nat
  | [] => reg
  | b :: t => crcR poly (crcRByte poly reg b) t

/-- The CRC-32 of IEEE 802.3 (R74), as a number whose byte order on the wire is that of the standard. -/
def crc32 (l : Bytes) : Nat := crcR 0xEDB88320 0xFFFFFFFF l ^^^ 0xFFFFFFFF

/-- The four FCS bytes of a frame, in transmission order. -/
def fcsBytes (l : Bytes) : Bytes :=
  let c := crc32 l
  [BitVec.ofNat 8 c, BitVec.ofNat 8 (c >>> 8), BitVec.ofNat 8 (c >>> 16), BitVec.ofNat 8 (c >>> 24)]

end Sys2Proof.Machine
end

