-- ==== Sys2Proof/Machine/Aes.lean ====
section
/-! DEFINITION. AES-128 and AES-256 (FIPS 197, the block cipher R147 names) and AES-CMAC (SP 800-38B, R147, R148). -/

namespace Sys2Proof.Machine
open Sys2Proof

/-- The AES S-box, 32 entries to a number, entry i of a row in bits [8i + 7 : 8i]. -/
def aesSboxRow (r : Nat) : Nat :=
  match r with
  | 0 => 0xC072A49CAFA2D4ADF04759FA7DC982CA76ABD7FE2B670130C56F6BF27B777C63
  | 1 => 0x75B227EBE28012079A059618C323C7041531D871F1E5A534CCF73F362693FDB7
  | 2 => 0xCF584C4A39BECB6A5BB1FC20ED00D153842FE329B3D63B52A05A6E1B1A2C8309
  | 3 => 0xD2F3FF1021DAB6BCF5389D928F40A351A89F3C507F02F94585334D43FBAAEFD0
  | 4 => 0xDB0B5EDE14B8EE4688902A22DC4F816073195D643D7EA7C41744975FEC130CCD
  | 5 => 0x08AE7A65EAF4566CA94ED58D6D37C8E779E4959162ACD3C25C2406490A3A32E0
  | 6 => 0x9E1DC186B95735610EF6034866B53E708A8BBD4B1F74DDE8C6B4A61C2E2578BA
  | _ => 0x16BB54B00F2D99416842E6BF0D89A18CDF2855CEE9871E9B948ED9691198F8E1

/-- SubBytes of one byte. -/
def aesSub (b : Byte) : Byte := BitVec.ofNat 8 (aesSboxRow (b.toNat / 32) >>> (8 * (b.toNat % 32)))

/-- Multiplication by x in the AES field. -/
def aesXtime (b : Byte) : Byte := if b.getLsbD 7 then (b <<< 1) ^^^ 0x1B#8 else b <<< 1

/-- MixColumns of one column. -/
def aesMixColumn : Bytes → Bytes
  | [a, b, c, d] =>
    let e := a ^^^ b ^^^ c ^^^ d
    [a ^^^ e ^^^ aesXtime (a ^^^ b), b ^^^ e ^^^ aesXtime (b ^^^ c),
     c ^^^ e ^^^ aesXtime (c ^^^ d), d ^^^ e ^^^ aesXtime (d ^^^ a)]
  | l => l

/-- MixColumns of a block, column by column. -/
def aesMix (s : Bytes) : Bytes :=
  aesMixColumn (slice s 0 4) ++ aesMixColumn (slice s 4 4) ++ aesMixColumn (slice s 8 4) ++ aesMixColumn (slice s 12 4)

/-- ShiftRows of a block held column by column. -/
def aesShiftRows (s : Bytes) : Bytes :=
  [0, 5, 10, 15, 4, 9, 14, 3, 8, 13, 2, 7, 12, 1, 6, 11].map (listAt 0#8 s)

/-- The key-schedule word before word `i`, transformed as FIPS 197 gives for a key of `nk` words. -/
def aesSchedWord (nk i : Nat) (rcon : Byte) (w : Bytes) : Bytes :=
  if i % nk = 0 then
    match w.map aesSub with
    | [a, b, c, d] => [b ^^^ rcon, c, d, a]
    | l => l
  else if nk > 6 ∧ i % nk = 4 then w.map aesSub
  else w

/-- Key expansion: `n` further words after those of `ws`, which holds the words newest first. -/
def aesExpand (nk : Nat) (n i : Nat) (rcon : Byte) (ws : List Bytes) : List Bytes :=
  match n with
  | 0 => ws
  | k + 1 =>
    let next := xorBytes (listAt (zeros 4) ws (nk - 1)) (aesSchedWord nk i rcon (listAt (zeros 4) ws 0))
    aesExpand nk k (i + 1) (if i % nk = 0 then aesXtime rcon else rcon) (next :: ws)

/-- Cut a byte string into pieces of `n` bytes (at most `fuel` of them). -/
def chunks (n fuel : Nat) (l : Bytes) : List Bytes :=
  match fuel with
  | 0 => []
  | k + 1 => if l.isEmpty then [] else l.take n :: chunks n k (l.drop n)

/-- The round keys of a 16-byte or 32-byte key. -/
def aesRoundKeys (key : Bytes) : List Bytes :=
  let nk := key.length / 4
  let rounds := nk + 6
  let ws := aesExpand nk (4 * (rounds + 1) - nk) nk 1#8 (chunks 4 nk key).reverse
  chunks 16 (rounds + 1) ws.reverse.flatten

/-- The rounds after the first key addition. -/
def aesRounds (s : Bytes) : List Bytes → Bytes
  | [] => s
  | [k] => xorBytes (aesShiftRows (s.map aesSub)) k
  | k :: ks => aesRounds (xorBytes (aesMix (aesShiftRows (s.map aesSub))) k) ks

/-- AES of one block under expanded keys. -/
def aesBlock (ks : List Bytes) (b : Bytes) : Bytes :=
  match ks with
  | [] => b
  | k :: rest => aesRounds (xorBytes b k) rest

/-- Doubling in the CMAC field, for the subkeys K1 and K2 (R148). -/
def cmacDouble (b : Bytes) : Bytes :=
  let v := beNat b
  beBytes 16 ((v * 2) ^^^ (if v.testBit 127 then 0x87 else 0))

/-- The chaining of AES-CMAC over whole blocks and the last block (R148). -/
def cmacChain (ks : List Bytes) (k1 k2 : Bytes) (x : Bytes) (fuel : Nat) (l : Bytes) : Bytes :=
  match fuel with
  | 0 => x
  | n + 1 =>
    if l.length > 16 then cmacChain ks k1 k2 (aesBlock ks (xorBytes x (l.take 16))) n (l.drop 16)
    else if l.length = 16 then aesBlock ks (xorBytes x (xorBytes l k1))
    else aesBlock ks (xorBytes x (xorBytes (padTo 16 (l ++ [0x80#8])) k2))

/-- AES-CMAC of a message, 16 bytes (R147). -/
def cmac (key msg : Bytes) : Bytes :=
  let ks := aesRoundKeys key
  let k1 := cmacDouble (aesBlock ks (zeros 16))
  cmacChain ks k1 (cmacDouble k1) (zeros 16) (msg.length / 16 + 1) msg

end Sys2Proof.Machine
end

