-- ==== Sys2Proof/Machine/Objects.lean ====
section
/-! DEFINITION. The names of the dictionary's objects: each gives the key index × 256 + subindex of its subindex (R7, R120). -/

namespace Sys2Proof.Machine.Obj

abbrev CLK_REF_PREFER : Nat := 0x030001
abbrev CLK_REF_REVERT : Nat := 0x030002
abbrev CLK_REF_ACTIVE : Nat := 0x030003
abbrev CLK_REF0_STATE : Nat := 0x030004
abbrev CLK_REF1_STATE : Nat := 0x030005
abbrev CLK_REF_OFFSET : Nat := 0x030006
abbrev CLK_REF_SWITCHES : Nat := 0x030007
abbrev CLK_PLL_STATE : Nat := 0x030008
abbrev LCY_RESET_CAUSE : Nat := 0x020101
abbrev LCY_SOFT_RESET : Nat := 0x020102
abbrev LCY_START_TIME : Nat := 0x020103
abbrev LCY_WIPE_STATE : Nat := 0x020201
abbrev LCY_WIPE_TIME : Nat := 0x020202
abbrev LCY_PS_BANK : Nat := 0x020301
abbrev LCY_PS_GENERATION : Nat := 0x020302
abbrev LCY_PS_DIRTY : Nat := 0x020303
abbrev LCY_PS_COMMIT : Nat := 0x020304
abbrev LCY_PS_WEAR : Nat := 0x020305
abbrev LCY_PS_USED : Nat := 0x020306
abbrev LCY_STATE : Nat := 0x020001
abbrev LCY_TARGET : Nat := 0x020002
abbrev LCY_NEXT_KEY : Nat := 0x020003
abbrev LCY_NEXT_KEY_LEN : Nat := 0x020004
abbrev LCY_TRANSITIONS : Nat := 0x020005
abbrev LCY_CONFIRM : Nat := 0x020006
abbrev LCY_TRANSITION : Nat := 0x020007
abbrev SES_MAC_ADDR : Nat := 0x010001
abbrev SES_IPV4_ADDR : Nat := 0x010002
abbrev SES_UDP_PORT : Nat := 0x010003
abbrev SES_VLAN : Nat := 0x010004
abbrev SES_MG_ENABLE : Nat := 0x010005
abbrev SES_MG_FEC : Nat := 0x010006
abbrev SES_MG_FEC_ACTIVE : Nat := 0x010007
abbrev SES_INBAND : Nat := 0x010008
abbrev SES_IDLE_DEFAULT : Nat := 0x010009
abbrev SES_RX_DROPPED : Nat := 0x01000A
abbrev SES_BAD_TAG : Nat := 0x01000B
abbrev SES_PAGE_DROPS : Nat := 0x01000C
abbrev SES_QUEUE_DROPS : Nat := 0x01000D
abbrev ID_VENDOR : Nat := 0x000001
abbrev ID_DEVICE : Nat := 0x000002
abbrev ID_STEPPING : Nat := 0x000003
abbrev ID_ORDER_CODE : Nat := 0x000004
abbrev ID_SERIAL : Nat := 0x000005
abbrev ID_ROM_VERSION : Nat := 0x000006
abbrev ID_DICT_VERSION : Nat := 0x000007
abbrev ID_BOOT_SEL : Nat := 0x000008
abbrev ID_DIE_FORME : Nat := 0x000101
abbrev ID_DIE_G_Gn (i : Nat) : Nat := 0x000102 + i
abbrev ID_DIE_Q_Qn (i : Nat) : Nat := 0x000104 + i
abbrev ID_STATUS : Nat := 0x001001
abbrev ID_UPTIME : Nat := 0x001002
abbrev ID_ATTN_LEVEL : Nat := 0x001003
abbrev ID_SAFE_CAUSE : Nat := 0x001004
abbrev ID_SPARES_USED : Nat := 0x001005
abbrev ID_SESSIONS_OPEN : Nat := 0x001006
abbrev SES_STATE (i : Nat) : Nat := 0x011001 + 256 * i
abbrev SES_CLASS (i : Nat) : Nat := 0x011002 + 256 * i
abbrev SES_IDLE (i : Nat) : Nat := 0x011003 + 256 * i
abbrev SES_IDLE_LEFT (i : Nat) : Nat := 0x011004 + 256 * i
abbrev SES_COUNTER (i : Nat) : Nat := 0x011005 + 256 * i
abbrev SES_ACCEPTED (i : Nat) : Nat := 0x011006 + 256 * i
abbrev SES_WAY (i : Nat) : Nat := 0x011007 + 256 * i
abbrev SES_QUEUE (i : Nat) : Nat := 0x011008 + 256 * i
abbrev SES_BULK_REF (i : Nat) : Nat := 0x011009 + 256 * i
abbrev SES_BULK_NEXT (i : Nat) : Nat := 0x01100A + 256 * i
abbrev SES_BULK_TOTAL (i : Nat) : Nat := 0x01100B + 256 * i
abbrev SES_GRANT (i : Nat) : Nat := 0x012001 + i
abbrev KCE_BUSY : Nat := 0x014001
abbrev KCE_SUSPENDED : Nat := 0x014002
abbrev KCE_BLOCKS : Nat := 0x014003
abbrev KCE_MESSAGES : Nat := 0x014004
abbrev KCE_L0_WAIT_MAX : Nat := 0x014005
abbrev KCE_REFUSED : Nat := 0x014006
abbrev KCE_PAGE_STATE (i : Nat) : Nat := 0x015001 + 256 * i
abbrev KCE_PAGE_USE (i : Nat) : Nat := 0x015002 + 256 * i
abbrev KCE_PAGE_CLASS (i : Nat) : Nat := 0x015003 + 256 * i
abbrev KCE_PAGE_KEYLEN (i : Nat) : Nat := 0x015004 + 256 * i
abbrev KCE_PAGE_USED (i : Nat) : Nat := 0x015005 + 256 * i
abbrev KCE_PAGE_REMAINING (i : Nat) : Nat := 0x015006 + 256 * i
abbrev KCE_PAGE_NEAR (i : Nat) : Nat := 0x015007 + 256 * i
abbrev KCE_PAGE_CEIL_S (i : Nat) : Nat := 0x015008 + 256 * i
abbrev KCE_PAGE_CEIL_U (i : Nat) : Nat := 0x015009 + 256 * i
abbrev KCE_PAGE_INSTALLS (i : Nat) : Nat := 0x01500A + 256 * i
abbrev KCE_PAGE_HOLD (i : Nat) : Nat := 0x01500B + 256 * i
abbrev KCE_NEW_KEY (i : Nat) : Nat := 0x016001 + 256 * i
abbrev KCE_NEW_KEYLEN (i : Nat) : Nat := 0x016002 + 256 * i
abbrev KCE_NEW_CLASS (i : Nat) : Nat := 0x016003 + 256 * i
abbrev KCE_NEW_USE (i : Nat) : Nat := 0x016004 + 256 * i
abbrev KCE_NEW_NEAR (i : Nat) : Nat := 0x016005 + 256 * i
abbrev KCE_INSTALL (i : Nat) : Nat := 0x016006 + 256 * i
abbrev KCE_EMPTY (i : Nat) : Nat := 0x016007 + 256 * i
abbrev LN_STATE (i : Nat) : Nat := 0x100001 + 256 * i
abbrev LN_MODE (i : Nat) : Nat := 0x100002 + 256 * i
abbrev LN_FEC (i : Nat) : Nat := 0x100003 + 256 * i
abbrev LN_EQ_MODE (i : Nat) : Nat := 0x100004 + 256 * i
abbrev LN_TX_FFE (i : Nat) : Nat := 0x100005 + 256 * i
abbrev LN_TX_FFE_ACTIVE (i : Nat) : Nat := 0x100006 + 256 * i
abbrev LN_TX_SWING (i : Nat) : Nat := 0x100007 + 256 * i
abbrev LN_POLARITY (i : Nat) : Nat := 0x100008 + 256 * i
abbrev LN_TX_DISABLE (i : Nat) : Nat := 0x100009 + 256 * i
abbrev LN_LOOPBACK (i : Nat) : Nat := 0x10000A + 256 * i
abbrev LN_PRBS_TX (i : Nat) : Nat := 0x10000B + 256 * i
abbrev LN_PRBS_RX (i : Nat) : Nat := 0x10000C + 256 * i
abbrev LN_PRBS_LOCK (i : Nat) : Nat := 0x10000D + 256 * i
abbrev LN_PRBS_BITS (i : Nat) : Nat := 0x10000E + 256 * i
abbrev LN_PRBS_ERRORS (i : Nat) : Nat := 0x10000F + 256 * i
abbrev LN_SIGNAL (i : Nat) : Nat := 0x100010 + 256 * i
abbrev LN_CDR_PHASE (i : Nat) : Nat := 0x100011 + 256 * i
abbrev LN_RX_PPM (i : Nat) : Nat := 0x100012 + 256 * i
abbrev LN_RX_CTLE (i : Nat) : Nat := 0x100013 + 256 * i
abbrev LN_RX_SNR (i : Nat) : Nat := 0x100014 + 256 * i
abbrev LN_FEC_SYMERR (i : Nat) : Nat := 0x100015 + 256 * i
abbrev LN_FEC_MAXSYM (i : Nat) : Nat := 0x100016 + 256 * i
abbrev LN_TEMP (i : Nat) : Nat := 0x100017 + 256 * i
abbrev LN_ADAPT (i : Nat) : Nat := 0x100018 + 256 * i
abbrev LN_EYE_PHASE (i : Nat) : Nat := 0x100019 + 256 * i
abbrev LN_EYE_VOFF (i : Nat) : Nat := 0x10001A + 256 * i
abbrev LN_EYE_SEL (i : Nat) : Nat := 0x10001B + 256 * i
abbrev LN_EYE_LEN (i : Nat) : Nat := 0x10001C + 256 * i
abbrev LN_EYE_MODE (i : Nat) : Nat := 0x10001D + 256 * i
abbrev LN_EYE_BER (i : Nat) : Nat := 0x10001E + 256 * i
abbrev LN_EYE_RUN (i : Nat) : Nat := 0x10001F + 256 * i
abbrev LN_EYE_RESULT (i : Nat) : Nat := 0x100020 + 256 * i
abbrev LN_EYE_COUNT (i : Nat) : Nat := 0x100021 + 256 * i
abbrev LN_FAIL_CAUSE (i : Nat) : Nat := 0x100022 + 256 * i
abbrev LN_RELEASE (i : Nat) : Nat := 0x100023 + 256 * i
abbrev LN_FLAPS (i : Nat) : Nat := 0x100024 + 256 * i
abbrev QD_STATE (i : Nat) : Nat := 0x220001 + 256 * i
abbrev QD_UP_SPARES (i : Nat) : Nat := 0x220002 + 256 * i
abbrev QD_DOWN_SPARES (i : Nat) : Nat := 0x220003 + 256 * i
abbrev QD_REPAIRS (i : Nat) : Nat := 0x220004 + 256 * i
abbrev QD_REPAIR_STATE (i : Nat) : Nat := 0x220005 + 256 * i
abbrev QD_LAST_REPAIR (i : Nat) : Nat := 0x220006 + 256 * i
abbrev QD_LAST_REPAIR_TIME (i : Nat) : Nat := 0x220007 + 256 * i
abbrev QD_CRC_UP (i : Nat) : Nat := 0x220008 + 256 * i
abbrev QD_CRC_DOWN (i : Nat) : Nat := 0x220009 + 256 * i
abbrev QD_LOST_SLOTS (i : Nat) : Nat := 0x22000A + 256 * i
abbrev QD_MARGIN_MIN (i : Nat) : Nat := 0x22000B + 256 * i
abbrev QD_MARGIN_THRESH (i : Nat) : Nat := 0x22000C + 256 * i
abbrev QD_SKEW_MAX (i : Nat) : Nat := 0x22000D + 256 * i
abbrev QD_REPAIR_LANE (i : Nat) : Nat := 0x22000E + 256 * i
abbrev QD_REPAIR (i : Nat) : Nat := 0x22000F + 256 * i
abbrev QD_TEMP_DELTA (i : Nat) : Nat := 0x220010 + 256 * i
abbrev QD_OCTETS_SHED (i : Nat) : Nat := 0x220011 + 256 * i
abbrev QD_MAP (i : Nat) : Nat := 0x3F0001 + 256 * i
abbrev PT_TYPE (i : Nat) : Nat := 0x140001 + 256 * i
abbrev PT_FEC (i : Nat) : Nat := 0x140002 + 256 * i
abbrev PT_MEDIA (i : Nat) : Nat := 0x140003 + 256 * i
abbrev PT_ENABLE (i : Nat) : Nat := 0x140004 + 256 * i
abbrev PT_STATE (i : Nat) : Nat := 0x140005 + 256 * i
abbrev PT_SPEED (i : Nat) : Nat := 0x140006 + 256 * i
abbrev PT_LINK_CHANGES (i : Nat) : Nat := 0x140007 + 256 * i
abbrev PT_UP_HOLD (i : Nat) : Nat := 0x140008 + 256 * i
abbrev PT_DOWN_HOLD (i : Nat) : Nat := 0x140009 + 256 * i
abbrev PT_MAXLEN (i : Nat) : Nat := 0x14000A + 256 * i
abbrev PT_ACCEPT (i : Nat) : Nat := 0x14000B + 256 * i
abbrev PT_STAG_TPID (i : Nat) : Nat := 0x14000C + 256 * i
abbrev PT_PVID (i : Nat) : Nat := 0x14000D + 256 * i
abbrev PT_DEFAULT_PRIO (i : Nat) : Nat := 0x14000E + 256 * i
abbrev PT_PCP_MAP (i : Nat) : Nat := 0x14000F + 256 * i
abbrev PT_DROP_PRIV (i : Nat) : Nat := 0x140010 + 256 * i
abbrev PT_FC_MODE (i : Nat) : Nat := 0x140011 + 256 * i
abbrev PT_PFC_ENABLE (i : Nat) : Nat := 0x140012 + 256 * i
abbrev PT_PFC_QMAP (i : Nat) : Nat := 0x140013 + 256 * i
abbrev PT_PAUSE_QUANTA (i : Nat) : Nat := 0x140014 + 256 * i
abbrev PT_PAUSE_MARKS (i : Nat) : Nat := 0x140015 + 256 * i
abbrev PT_PAUSE_STATE (i : Nat) : Nat := 0x140016 + 256 * i
abbrev PT_LPI_ENABLE (i : Nat) : Nat := 0x140017 + 256 * i
abbrev PT_LPI_IDLE (i : Nat) : Nat := 0x140018 + 256 * i
abbrev PT_LPI_TW_OWN (i : Nat) : Nat := 0x140019 + 256 * i
abbrev PT_LPI_TW (i : Nat) : Nat := 0x14001A + 256 * i
abbrev PT_LPI_STATE (i : Nat) : Nat := 0x14001B + 256 * i
abbrev PT_LLDP (i : Nat) : Nat := 0x14001C + 256 * i
abbrev PLN_CHECK : Nat := 0x0B0001
abbrev PLN_CHECK_ID : Nat := 0x0B0002
abbrev PLN_CHECK_WHERE : Nat := 0x0B0003
abbrev PLN_INSTALL_MASK : Nat := 0x0B0004
abbrev PLN_INSTALL : Nat := 0x0B0005
abbrev PLN_SWITCH_MASK : Nat := 0x0B0006
abbrev PLN_SWITCH_MODE : Nat := 0x0B0007
abbrev PLN_DRAIN_TIMEOUT : Nat := 0x0B0008
abbrev PLN_SWITCH : Nat := 0x0B0009
abbrev PLN_DRAIN_LEFT : Nat := 0x0B000A
abbrev PLN_IOAM_NODE_ID : Nat := 0x0B000B
abbrev PLN_IOAM_NS : Nat := 0x0B000C
abbrev PLN_IOAM_NS_EN : Nat := 0x0B000D
abbrev PLN_STATE (i : Nat) : Nat := 0x200001 + 256 * i
abbrev PLN_ACTIVE_ID (i : Nat) : Nat := 0x200002 + 256 * i
abbrev PLN_STANDBY_ID (i : Nat) : Nat := 0x200003 + 256 * i
abbrev PLN_SWITCHES (i : Nat) : Nat := 0x200004 + 256 * i
abbrev PLN_DEFAULT_CLASS (i : Nat) : Nat := 0x200005 + 256 * i
abbrev PLN_IN_PKTS (i : Nat) : Nat := 0x200006 + 256 * i
abbrev PLN_OUT_PKTS (i : Nat) : Nat := 0x200007 + 256 * i
abbrev PLN_DROPS (i : Nat) : Nat := 0x200008 + 256 * i
abbrev PLN_LAST_DROP (i : Nat) : Nat := 0x200009 + 256 * i
abbrev PLN_TO_CMP (i : Nat) : Nat := 0x20000A + 256 * i
abbrev PLN_PARSE_ERR (i : Nat) : Nat := 0x20000B + 256 * i
abbrev PLN_LPM_STALLS (i : Nat) : Nat := 0x20000C + 256 * i
abbrev PLN_WINDOW_OVF (i : Nat) : Nat := 0x20000D + 256 * i
abbrev PLN_COLO_DONE (i : Nat) : Nat := 0x20000E + 256 * i
abbrev PLN_COLO_SKIPPED (i : Nat) : Nat := 0x20000F + 256 * i
abbrev PLN_IMAGE : Nat := 0x3B0001
abbrev PLN_ACTIVE_IMAGE (i : Nat) : Nat := 0x3B2001 + 256 * i
abbrev TBL_AGE_TIME : Nat := 0x0A0001
abbrev TBL_HASH_SEED : Nat := 0x0A0002
abbrev TBL_HASH_SEED_ACTIVE : Nat := 0x0A0003
abbrev TBL_LEARN_PORTS : Nat := 0x0A0004
abbrev TBL_FLUSH_ON_DOWN : Nat := 0x0A0005
abbrev TBL_EVENT : Nat := 0x0A0006
abbrev TBL_EVENT_COUNT : Nat := 0x0A0007
abbrev TBL_EVENT_THRESH : Nat := 0x0A0008
abbrev TBL_EVENT_LOST : Nat := 0x0A0009
abbrev TBL_KEY : Nat := 0x0A000A
abbrev TBL_KEY_PORT : Nat := 0x0A000B
abbrev TBL_STATIC_ADD : Nat := 0x0A000C
abbrev TBL_DELETE : Nat := 0x0A000D
abbrev TBL_FLUSH_PORT : Nat := 0x0A000E
abbrev TBL_FLUSH_VID : Nat := 0x0A000F
abbrev TBL_FLUSH : Nat := 0x0A0010
abbrev TBL_LABEL_BASE : Nat := 0x0A0011
abbrev TBL_NH_BASE : Nat := 0x0A0012
abbrev TBL_LPM_APPLY : Nat := 0x0A0013
abbrev TBL_LPM_DONE : Nat := 0x0A0014
abbrev TBL_LPM_V4 : Nat := 0x0A0015
abbrev TBL_LPM_V6 : Nat := 0x0A0016
abbrev TBL_LPM_BLOCKS : Nat := 0x0A0017
abbrev TBL_LRN_ENTRIES (i : Nat) : Nat := 0x0A2001 + 256 * i
abbrev TBL_LRN_STATIC (i : Nat) : Nat := 0x0A2002 + 256 * i
abbrev TBL_LRN_EVENTS (i : Nat) : Nat := 0x0A2003 + 256 * i
abbrev TBL_LRN_INSTALLS (i : Nat) : Nat := 0x0A2004 + 256 * i
abbrev TBL_LRN_FULL (i : Nat) : Nat := 0x0A2005 + 256 * i
abbrev TBL_LRN_INJ_DROPS (i : Nat) : Nat := 0x0A2006 + 256 * i
abbrev TBL_LRN_SUPPRESSED (i : Nat) : Nat := 0x0A2007 + 256 * i
abbrev TBL_LRN_AGED (i : Nat) : Nat := 0x0A2008 + 256 * i
abbrev TBL_LRN_UNCORR (i : Nat) : Nat := 0x0A2009 + 256 * i
abbrev TBL_LRN_LAG_MAX (i : Nat) : Nat := 0x0A200A + 256 * i
abbrev TBL_LRN_STATIC_MOVES (i : Nat) : Nat := 0x0A200B + 256 * i
abbrev TBL_LRN_RING_ERR (i : Nat) : Nat := 0x0A200C + 256 * i
abbrev CHS_STATE (i : Nat) : Nat := 0x210001 + 256 * i
abbrev CHS_LABEL_CE (i : Nat) : Nat := 0x210002 + 256 * i
abbrev CHS_LABEL_UE (i : Nat) : Nat := 0x210003 + 256 * i
abbrev CHS_NH_CE (i : Nat) : Nat := 0x210004 + 256 * i
abbrev CHS_NH_UE (i : Nat) : Nat := 0x210005 + 256 * i
abbrev CHS_LPM_PARITY (i : Nat) : Nat := 0x210006 + 256 * i
abbrev CHS_LPM_MISMATCH (i : Nat) : Nat := 0x210007 + 256 * i
abbrev CHS_RESTORED (i : Nat) : Nat := 0x210008 + 256 * i
abbrev CHS_UNRESTORED (i : Nat) : Nat := 0x210009 + 256 * i
abbrev CHS_LPM_HELD (i : Nat) : Nat := 0x21000A + 256 * i
abbrev CHS_LPM_HOLD_MAX (i : Nat) : Nat := 0x21000B + 256 * i
abbrev CHS_LPM_SPARE (i : Nat) : Nat := 0x21000C + 256 * i
abbrev CHS_LPM_SPARE_LBLOCK (i : Nat) : Nat := 0x21000D + 256 * i
abbrev CHS_LPM_SPARE_IN (i : Nat) : Nat := 0x21000E + 256 * i
abbrev TBL_LABEL : Nat := 0x300001
abbrev TBL_LABEL_C (i : Nat) : Nat := 0x300801 + 256 * i
abbrev TBL_NH : Nat := 0x301001
abbrev TBL_NH_C (i : Nat) : Nat := 0x301801 + 256 * i
abbrev TBL_LPM_OPS : Nat := 0x302001
abbrev TBL_LPM_C (i : Nat) : Nat := 0x302801 + 256 * i
abbrev TBL_LPM_DIR_C (i : Nat) : Nat := 0x303001 + 256 * i
abbrev TBL_LEARN_P (i : Nat) : Nat := 0x304001 + 256 * i
abbrev GAL_STATE : Nat := 0x080001
abbrev GAL_GROUPS_ACTIVE : Nat := 0x080002
abbrev GAL_CAPACITY : Nat := 0x080003
abbrev GAL_PTR_FAULTS : Nat := 0x080004
abbrev GAL_QUAR_LAST : Nat := 0x080005
abbrev GAL_QUARANTINED : Nat := 0x080006
abbrev GAL_LOST : Nat := 0x080007
abbrev GAL_CARVE_GROUPS : Nat := 0x080101
abbrev GAL_CARVE_AGATE : Nat := 0x080102
abbrev GAL_CARVE_BREVIER : Nat := 0x080103
abbrev GAL_CARVE_PICA : Nat := 0x080104
abbrev GAL_CARVE_CANON : Nat := 0x080105
abbrev GAL_CARVE_APPLY : Nat := 0x080106
abbrev GAL_C_SIZE (i : Nat) : Nat := 0x080801 + 256 * i
abbrev GAL_C_BASE (i : Nat) : Nat := 0x080802 + 256 * i
abbrev GAL_C_COUNT (i : Nat) : Nat := 0x080803 + 256 * i
abbrev GAL_C_FREE (i : Nat) : Nat := 0x080804 + 256 * i
abbrev GAL_C_FREE_MIN (i : Nat) : Nat := 0x080805 + 256 * i
abbrev GAL_C_GUAR_UNUSED (i : Nat) : Nat := 0x080806 + 256 * i
abbrev GAL_C_GRANTS (i : Nat) : Nat := 0x080807 + 256 * i
abbrev GAL_C_REFUSED (i : Nat) : Nat := 0x080808 + 256 * i
abbrev GAL_C_FALLBACKS (i : Nat) : Nat := 0x080809 + 256 * i
abbrev GAL_C_LAST_LOST (i : Nat) : Nat := 0x08080A + 256 * i
abbrev GAL_QP_MIN (i : Nat) : Nat := 0x081001 + 256 * i
abbrev GAL_QP_ALPHA (i : Nat) : Nat := 0x081002 + 256 * i
abbrev GAL_QP_FALLBACK (i : Nat) : Nat := 0x081003 + 256 * i
abbrev GAL_PORT_PROFILE : Nat := 0x082001
abbrev GAL_CMP_PROFILE : Nat := 0x082002
abbrev GAL_REP_PROFILE : Nat := 0x082003
abbrev GAL_DESC_FRAMES : Nat := 0x082801
abbrev GAL_DESC_COPY_LIMIT : Nat := 0x082802
abbrev GAL_DESC_COPY_USED : Nat := 0x082803
abbrev GAL_DESC_COPY_REFUSED : Nat := 0x082804
abbrev GAL_CT_PORTS : Nat := 0x083001
abbrev GAL_CT_FRAMES : Nat := 0x083002
abbrev GAL_CT_UNDERRUN : Nat := 0x083003
abbrev GAL_CT_BAD : Nat := 0x083004
abbrev GAL_POISON_READS : Nat := 0x083005
abbrev GAL_POISON_FRAMES : Nat := 0x083006
abbrev GAL_INVALID_READS : Nat := 0x083007
abbrev GAL_SPARES_FREE : Nat := 0x083801
abbrev GAL_REMAP_STATE : Nat := 0x083802
abbrev GAL_REMAPS : Nat := 0x083803
abbrev GAL_LAST_REMAP : Nat := 0x083804
abbrev GAL_REMAP_BANK : Nat := 0x083805
abbrev GAL_REMAP : Nat := 0x083806
abbrev GAL_HELD : Nat := 0x308001
abbrev GAL_BANK_MAP : Nat := 0x308101
abbrev SCH_REFILL_NS : Nat := 0x090001
abbrev SCH_MC_QUEUE : Nat := 0x090002
abbrev SCH_MC_FRAMES : Nat := 0x090003
abbrev SCH_MC_COPIES : Nat := 0x090004
abbrev SCH_MC_NONE : Nat := 0x090005
abbrev SCH_MC_ENGINE_DROPS : Nat := 0x090006
abbrev SCH_MC_BASE : Nat := 0x090007
abbrev SCH_SAMPLE_INTERVAL : Nat := 0x090101
abbrev SCH_SAMPLE_SEQ : Nat := 0x090102
abbrev SCH_SP_PARAM (i : Nat) : Nat := 0x098001 + 256 * i
abbrev SCH_SP_USERS (i : Nat) : Nat := 0x098002 + 256 * i
abbrev SCH_SP_PENDING (i : Nat) : Nat := 0x098003 + 256 * i
abbrev Q_PORT_SHAPER (i : Nat) : Nat := 0x180001 + 256 * i
abbrev Q_PORT_CREDIT (i : Nat) : Nat := 0x180002 + 256 * i
abbrev Q_INFLIGHT (i : Nat) : Nat := 0x180003 + 256 * i
abbrev Q_DEPTH_TOTAL (i : Nat) : Nat := 0x180004 + 256 * i
abbrev Q_VTIME (i : Nat) : Nat := 0x180005 + 256 * i
abbrev Q_FLUSH_STATE (i : Nat) : Nat := 0x180006 + 256 * i
abbrev Q_MC_COPIES (i : Nat) : Nat := 0x180007 + 256 * i
abbrev Q_MC_DOWN (i : Nat) : Nat := 0x180008 + 256 * i
abbrev Q_MC_FULL (i : Nat) : Nat := 0x180009 + 256 * i
abbrev Q_MC_NODESC (i : Nat) : Nat := 0x18000A + 256 * i
abbrev Q_PAUSED (i : Nat) : Nat := 0x18000B + 256 * i
abbrev Q_TIER (p q : Nat) : Nat := 0x180010 + 256 * p + 13 * q
abbrev Q_WEIGHT (p q : Nat) : Nat := 0x180011 + 256 * p + 13 * q
abbrev Q_BURST (p q : Nat) : Nat := 0x180012 + 256 * p + 13 * q
abbrev Q_SHAPER (p q : Nat) : Nat := 0x180013 + 256 * p + 13 * q
abbrev Q_ECN_THRESH (p q : Nat) : Nat := 0x180014 + 256 * p + 13 * q
abbrev Q_MAX_DEPTH (p q : Nat) : Nat := 0x180015 + 256 * p + 13 * q
abbrev Q_DEPTH (p q : Nat) : Nat := 0x180016 + 256 * p + 13 * q
abbrev Q_HOL_DELAY (p q : Nat) : Nat := 0x180017 + 256 * p + 13 * q
abbrev Q_CREDIT (p q : Nat) : Nat := 0x180018 + 256 * p + 13 * q
abbrev Q_ENQ (p q : Nat) : Nat := 0x180019 + 256 * p + 13 * q
abbrev Q_DEQ (p q : Nat) : Nat := 0x18001A + 256 * p + 13 * q
abbrev Q_TAIL_DROPS (p q : Nat) : Nat := 0x18001B + 256 * p + 13 * q
abbrev Q_ECN_MARKS (p q : Nat) : Nat := 0x18001C + 256 * p + 13 * q
abbrev SCH_POLICER (i : Nat) : Nat := 0x310001 + 256 * i
abbrev SCH_POLICER_STATE (i : Nat) : Nat := 0x312001 + 256 * i
abbrev SCH_MC_GROUPS : Nat := 0x314001
abbrev SCH_SAMPLES : Nat := 0x314101
abbrev PMC_PROOF : Nat := 0x070001
abbrev PMC_PROOF_COUNT : Nat := 0x070002
abbrev PMC_PROOF_LOST : Nat := 0x070003
abbrev PMC_STREAM_CHAN : Nat := 0x070004
abbrev PMC_PROOF_BATCH : Nat := 0x070005
abbrev PMC_PROOF_HOLD : Nat := 0x070006
abbrev PMC_EXP_SKIP_SAMPLES : Nat := 0x070007
abbrev PMC_EXP_SKIP_SNAPS : Nat := 0x070008
abbrev PMC_PS_ENABLE (i : Nat) : Nat := 0x070801 + 256 * i
abbrev PMC_PS_N (i : Nat) : Nat := 0x070802 + 256 * i
abbrev PMC_PS_MODE (i : Nat) : Nat := 0x070803 + 256 * i
abbrev PMC_PS_TRUNC (i : Nat) : Nat := 0x070804 + 256 * i
abbrev PMC_PS_DROPS (i : Nat) : Nat := 0x070805 + 256 * i
abbrev PMC_PS_SEEN (i : Nat) : Nat := 0x070806 + 256 * i
abbrev PMC_PS_SELECTED (i : Nat) : Nat := 0x070807 + 256 * i
abbrev PMC_PS_MADE (i : Nat) : Nat := 0x070808 + 256 * i
abbrev PMC_PS_MISSED (i : Nat) : Nat := 0x070809 + 256 * i
abbrev PMC_PS_REFUSED (i : Nat) : Nat := 0x07080A + 256 * i
abbrev PMC_SEL : Nat := 0x071001
abbrev PMC_B_KIND : Nat := 0x071101
abbrev PMC_B_INSTANCE : Nat := 0x071102
abbrev PMC_B_CYCLES : Nat := 0x071103
abbrev PMC_B_CFG (i : Nat) : Nat := 0x071104 + i
abbrev PMC_B_CTR (i : Nat) : Nat := 0x07110C + i
abbrev PMC_B_CLEAR : Nat := 0x071114
abbrev PMC_SNAP_AT : Nat := 0x071801
abbrev PMC_SNAP : Nat := 0x071802
abbrev PMC_SNAP_INTERVAL : Nat := 0x071803
abbrev PMC_SNAP_SEQ : Nat := 0x071804
abbrev PMC_SNAP_TIME : Nat := 0x071805
abbrev PMC_SNAP_SKIPPED : Nat := 0x071806
abbrev PMC_CH_ENABLE (i : Nat) : Nat := 0x072001 + 256 * i
abbrev PMC_CH_PORT (i : Nat) : Nat := 0x072002 + 256 * i
abbrev PMC_CH_QUEUE (i : Nat) : Nat := 0x072003 + 256 * i
abbrev PMC_CH_L3 (i : Nat) : Nat := 0x072004 + 256 * i
abbrev PMC_CH_UDP_CSUM (i : Nat) : Nat := 0x072005 + 256 * i
abbrev PMC_CH_HDR_LEN (i : Nat) : Nat := 0x072006 + 256 * i
abbrev PMC_CH_L3_OFF (i : Nat) : Nat := 0x072007 + 256 * i
abbrev PMC_CH_TEMPLATE (i : Nat) : Nat := 0x072008 + 256 * i
abbrev PMC_CH_SEG (i : Nat) : Nat := 0x072009 + 256 * i
abbrev PMC_CH_DATAGRAMS (i : Nat) : Nat := 0x07200A + 256 * i
abbrev PMC_CH_SENDS (i : Nat) : Nat := 0x07200B + 256 * i
abbrev PMC_CH_REFUSED (i : Nat) : Nat := 0x07200C + 256 * i
abbrev PMC_SNAPSHOT : Nat := 0x370001
abbrev TIM_FRC : Nat := 0x060001
abbrev TIM_NOW : Nat := 0x060002
abbrev TIM_SELECT : Nat := 0x060003
abbrev TIM_AUTO_SWITCH : Nat := 0x060004
abbrev TIM_SPLICE_WINDOW : Nat := 0x060005
abbrev TIM_SPLICE_SLOPE : Nat := 0x060006
abbrev TIM_OUT_ENGAGE : Nat := 0x060007
abbrev TIM_SPLICE_STATE : Nat := 0x060008
abbrev TIM_SPLICE_RES : Nat := 0x060009
abbrev TIM_SPLICES : Nat := 0x06000A
abbrev TIM_OUTPUT : Nat := 0x06000B
abbrev TIM_EVENT : Nat := 0x06000C
abbrev TIM_EVENT_COUNT : Nat := 0x06000D
abbrev TIM_EVENT_LOST : Nat := 0x06000E
abbrev TIM_REPLICA_VALID : Nat := 0x06000F
abbrev TIM_D_SOURCE (i : Nat) : Nat := 0x061001 + 256 * i
abbrev TIM_D_STATE (i : Nat) : Nat := 0x061002 + 256 * i
abbrev TIM_D_NOW (i : Nat) : Nat := 0x061003 + 256 * i
abbrev TIM_D_OFFSET (i : Nat) : Nat := 0x061004 + 256 * i
abbrev TIM_D_ANCHOR (i : Nat) : Nat := 0x061005 + 256 * i
abbrev TIM_D_RATE (i : Nat) : Nat := 0x061006 + 256 * i
abbrev TIM_D_SET (i : Nat) : Nat := 0x061007 + 256 * i
abbrev TIM_D_ADJUST (i : Nat) : Nat := 0x061008 + 256 * i
abbrev TIM_D_TCI (i : Nat) : Nat := 0x061009 + 256 * i
abbrev TIM_D_BW (i : Nat) : Nat := 0x06100A + 256 * i
abbrev TIM_D_STEP_THRESH (i : Nat) : Nat := 0x06100B + 256 * i
abbrev TIM_D_LOCK_THRESH (i : Nat) : Nat := 0x06100C + 256 * i
abbrev TIM_D_LAST_OFFSET (i : Nat) : Nat := 0x06100D + 256 * i
abbrev TIM_D_FREQ (i : Nat) : Nat := 0x06100E + 256 * i
abbrev TIM_D_STEPS (i : Nat) : Nat := 0x06100F + 256 * i
abbrev TIM_D_OUTLIERS (i : Nat) : Nat := 0x061010 + 256 * i
abbrev TIM_D_HOLDOVERS (i : Nat) : Nat := 0x061011 + 256 * i
abbrev TIM_D_HOLD_TIME (i : Nat) : Nat := 0x061012 + 256 * i
abbrev TIM_TPO_MODE (i : Nat) : Nat := 0x062001 + 256 * i
abbrev TIM_TPO_START (i : Nat) : Nat := 0x062002 + 256 * i
abbrev TIM_TPO_PERIOD (i : Nat) : Nat := 0x062003 + 256 * i
abbrev TIM_TPO_WIDTH (i : Nat) : Nat := 0x062004 + 256 * i
abbrev TIM_TPO_COMP (i : Nat) : Nat := 0x062005 + 256 * i
abbrev TIM_TPO_STATE (i : Nat) : Nat := 0x062006 + 256 * i
abbrev TIM_TPO_NEXT (i : Nat) : Nat := 0x062007 + 256 * i
abbrev TIM_TPO_EDGES (i : Nat) : Nat := 0x062008 + 256 * i
abbrev TIM_TPO_SKIPPED (i : Nat) : Nat := 0x062009 + 256 * i
abbrev TIM_TCI_EDGE (i : Nat) : Nat := 0x063001 + 256 * i
abbrev TIM_TCI_DIVIDE (i : Nat) : Nat := 0x063002 + 256 * i
abbrev TIM_TCI_COMP (i : Nat) : Nat := 0x063003 + 256 * i
abbrev TIM_TCI_QUEUE (i : Nat) : Nat := 0x063004 + 256 * i
abbrev TIM_TCI_LAST (i : Nat) : Nat := 0x063005 + 256 * i
abbrev TIM_TCI_COUNT (i : Nat) : Nat := 0x063006 + 256 * i
abbrev TIM_TCI_OVERRUN (i : Nat) : Nat := 0x063007 + 256 * i
abbrev TIM_TC_ENABLE : Nat := 0x068001
abbrev TIM_CLOCK_ID : Nat := 0x068002
abbrev TIM_AUTH_HOLD : Nat := 0x068003
abbrev TIM_TC_CORRECTED : Nat := 0x068004
abbrev TIM_TS_INVALID : Nat := 0x068005
abbrev TIM_PTP_DROPPED : Nat := 0x068006
abbrev TIM_AUTH_FAIL : Nat := 0x068007
abbrev TIM_AUTH_UNKNOWN : Nat := 0x068008
abbrev TIM_AUTH_LATE : Nat := 0x068009
abbrev TIM_AUTH_REFUSED : Nat := 0x06800A
abbrev TIM_AUTH_REPLAY : Nat := 0x06800B
abbrev TIM_AUTH_KEY (i : Nat) : Nat := 0x068101 + i
abbrev TIM_P_ENABLE (i : Nat) : Nat := 0x069001 + 256 * i
abbrev TIM_P_PROFILE (i : Nat) : Nat := 0x069002 + 256 * i
abbrev TIM_P_DOMAIN (i : Nat) : Nat := 0x069003 + 256 * i
abbrev TIM_P_PRIORITY2 (i : Nat) : Nat := 0x069004 + 256 * i
abbrev TIM_P_LOCAL_PRIO (i : Nat) : Nat := 0x069005 + 256 * i
abbrev TIM_P_STEP (i : Nat) : Nat := 0x069006 + 256 * i
abbrev TIM_P_SYNC_LOG (i : Nat) : Nat := 0x069007 + 256 * i
abbrev TIM_P_DREQ_LOG (i : Nat) : Nat := 0x069008 + 256 * i
abbrev TIM_P_ANN_LOG (i : Nat) : Nat := 0x069009 + 256 * i
abbrev TIM_P_ANN_TIMEOUT (i : Nat) : Nat := 0x06900A + 256 * i
abbrev TIM_P_QUEUE (i : Nat) : Nat := 0x06900B + 256 * i
abbrev TIM_P_AUTH (i : Nat) : Nat := 0x06900C + 256 * i
abbrev TIM_P_HOLD_SPEC (i : Nat) : Nat := 0x06900D + 256 * i
abbrev TIM_P_OWN_CLASS (i : Nat) : Nat := 0x06900E + 256 * i
abbrev TIM_P_CLASS (i : Nat) : Nat := 0x06900F + 256 * i
abbrev TIM_P_GM (i : Nat) : Nat := 0x069010 + 256 * i
abbrev TIM_P_PARENT (i : Nat) : Nat := 0x069011 + 256 * i
abbrev TIM_P_SLAVE_PORT (i : Nat) : Nat := 0x069012 + 256 * i
abbrev TIM_P_PATH_DELAY (i : Nat) : Nat := 0x069013 + 256 * i
abbrev TIM_CAL : Nat := 0x360001
abbrev TIM_PTP_PORTS : Nat := 0x360101
abbrev TIM_PTP_STATE : Nat := 0x360201
abbrev CMP_STATE : Nat := 0x050001
abbrev CMP_PATCH_ID : Nat := 0x050002
abbrev CMP_PATCH_SEGS : Nat := 0x050003
abbrev CMP_PATCH_MAPS : Nat := 0x050004
abbrev CMP_PATCH_STAGED_ID : Nat := 0x050005
abbrev CMP_PATCH_CHECK : Nat := 0x050006
abbrev CMP_PATCH_ACTIVATE : Nat := 0x050007
abbrev CMP_PATCH_REMOVE : Nat := 0x050008
abbrev CMP_LINES : Nat := 0x050009
abbrev CMP_PATCH_LINES : Nat := 0x05000A
abbrev CMP_SAFE_GAP_MAX : Nat := 0x05000B
abbrev CMP_HALT_MAX : Nat := 0x05000C
abbrev CMP_FETCH_CE : Nat := 0x05000D
abbrev CMP_FETCH_UE : Nat := 0x05000E
abbrev CMP_C_STATE (i : Nat) : Nat := 0x051001 + 256 * i
abbrev CMP_C_PRIORITY (i : Nat) : Nat := 0x051002 + 256 * i
abbrev CMP_C_LINE (i : Nat) : Nat := 0x051003 + 256 * i
abbrev CMP_C_LINES (i : Nat) : Nat := 0x051004 + 256 * i
abbrev CMP_C_READY_MAX (i : Nat) : Nat := 0x051005 + 256 * i
abbrev CMP_C_RESTARTS (i : Nat) : Nat := 0x051006 + 256 * i
abbrev CMP_P_RUN (i : Nat) : Nat := 0x053001 + 256 * i
abbrev CMP_P_STATE (i : Nat) : Nat := 0x053002 + 256 * i
abbrev CMP_P_DONE (i : Nat) : Nat := 0x053003 + 256 * i
abbrev CMP_P_TOTAL (i : Nat) : Nat := 0x053004 + 256 * i
abbrev CMP_P_RESTART (i : Nat) : Nat := 0x053005 + 256 * i
abbrev CMP_P_LINE (i : Nat) : Nat := 0x053006 + 256 * i
abbrev CMP_P_TIME (i : Nat) : Nat := 0x053007 + 256 * i
abbrev CMP_PATCH_IMAGE : Nat := 0x350001
abbrev CMP_PATCH_ACTIVE_IMAGE : Nat := 0x350101
abbrev FLT_MI_CE (i : Nat) : Nat := 0x048001 + 256 * i
abbrev FLT_MI_UE (i : Nat) : Nat := 0x048002 + 256 * i
abbrev FLT_MI_SCRUB_PASSES (i : Nat) : Nat := 0x048003 + 256 * i
abbrev FLT_MI_SCRUB_PERIOD (i : Nat) : Nat := 0x048004 + 256 * i
abbrev FLT_MI_LAST (i : Nat) : Nat := 0x048005 + 256 * i
abbrev FLT_MI_WRITEBACKS (i : Nat) : Nat := 0x048006 + 256 * i
abbrev FLT_MI_DISCARDS (i : Nat) : Nat := 0x048007 + 256 * i
abbrev FLT_BIST_RESULT : Nat := 0x049001
abbrev FLT_BIST_REMAPPED : Nat := 0x049002
abbrev FLT_BIST_WEAK : Nat := 0x049003
abbrev FLT_BIST_TIME : Nat := 0x049004
abbrev FLT_BIST_FIRST_FAIL : Nat := 0x049005
abbrev FLT_DIAG_ENABLE : Nat := 0x049101
abbrev FLT_DIAG_KIND : Nat := 0x049102
abbrev FLT_DIAG_INSTANCE : Nat := 0x049103
abbrev FLT_DIAG_ADDR : Nat := 0x049104
abbrev FLT_DIAG_DATA : Nat := 0x049105
abbrev FLT_DIAG_CHECK : Nat := 0x049106
abbrev FLT_DIAG_WRITE : Nat := 0x049107
abbrev FLT_DIAG_READ : Nat := 0x049108
abbrev FLT_DIAG_SYNDROME : Nat := 0x049109
abbrev FLT_DIAG_LOGGED : Nat := 0x04910A
abbrev FLT_STATE : Nat := 0x040001
abbrev FLT_PENDING : Nat := 0x040002
abbrev FLT_SEVERE : Nat := 0x040003
abbrev FLT_EVENT : Nat := 0x040004
abbrev FLT_EVENT_COUNT : Nat := 0x040005
abbrev FLT_EVENT_LOST : Nat := 0x040006
abbrev FLT_EVENTS : Nat := 0x040007
abbrev FLT_CLEAR_SRC : Nat := 0x040008
abbrev FLT_CLEAR : Nat := 0x040009
abbrev FLT_SAFE_ENTER : Nat := 0x04000A
abbrev FLT_REPAIRS_WAITING : Nat := 0x04000B
abbrev FLT_RUNGS : Nat := 0x04000C
abbrev FLT_INJ_KIND : Nat := 0x042001
abbrev FLT_INJ_INSTANCE : Nat := 0x042002
abbrev FLT_INJ_TYPE : Nat := 0x042003
abbrev FLT_INJ_BIT : Nat := 0x042004
abbrev FLT_INJ_PATH : Nat := 0x042005
abbrev FLT_INJ_COUNT : Nat := 0x042006
abbrev FLT_INJ_ESCALATE : Nat := 0x042007
abbrev FLT_INJ_ARM : Nat := 0x042008
abbrev FLT_INJ_LEFT : Nat := 0x042009
abbrev FLT_INJ_DONE : Nat := 0x04200A
abbrev FLT_INJ_COINCIDENT : Nat := 0x04200B
abbrev FLT_SRC_STATE : Nat := 0x340001
abbrev FLT_SRC_CFG : Nat := 0x340101
abbrev PWR_STATE : Nat := 0x031001
abbrev PWR_TOTAL : Nat := 0x031002
abbrev PWR_AVS_MODE : Nat := 0x031003
abbrev PWR_AVS_FIXED : Nat := 0x031004
abbrev PWR_AVS_MARGIN : Nat := 0x031005
abbrev PWR_SHUTDOWN : Nat := 0x031006
abbrev PWR_ALERTS : Nat := 0x031007
abbrev PWR_TRIP_LAST : Nat := 0x031008
abbrev PWR_R_STATE (i : Nat) : Nat := 0x031801 + 256 * i
abbrev PWR_R_SET (i : Nat) : Nat := 0x031802 + 256 * i
abbrev PWR_R_VOUT (i : Nat) : Nat := 0x031803 + 256 * i
abbrev PWR_R_IOUT (i : Nat) : Nat := 0x031804 + 256 * i
abbrev PWR_R_STATUS (i : Nat) : Nat := 0x031805 + 256 * i
abbrev PWR_R_DROOPS (i : Nat) : Nat := 0x031806 + 256 * i
abbrev PWR_R_TRIM (i : Nat) : Nat := 0x031807 + 256 * i
abbrev PWR_GATE_OCTETS : Nat := 0x032001
abbrev PWR_GATE_PIPES : Nat := 0x032002
abbrev PWR_GATE_CHASES : Nat := 0x032003
abbrev PWR_GATED_GROUPS : Nat := 0x032004
abbrev PWR_T_MAX : Nat := 0x033001
abbrev PWR_T_MAX_SENSOR : Nat := 0x033002
abbrev PWR_S_TEMP (i : Nat) : Nat := 0x034001 + 256 * i
abbrev PWR_S_MAX (i : Nat) : Nat := 0x034002 + 256 * i
abbrev PWR_S_WARN (i : Nat) : Nat := 0x034003 + 256 * i
abbrev PWR_S_STATE (i : Nat) : Nat := 0x034004 + 256 * i
abbrev CTR_RX_FRAMES (i : Nat) : Nat := 0x1C0001 + 256 * i
abbrev CTR_RX_OCTETS (i : Nat) : Nat := 0x1C0002 + 256 * i
abbrev CTR_RX_UCAST (i : Nat) : Nat := 0x1C0003 + 256 * i
abbrev CTR_RX_MCAST (i : Nat) : Nat := 0x1C0004 + 256 * i
abbrev CTR_RX_BCAST (i : Nat) : Nat := 0x1C0005 + 256 * i
abbrev CTR_RX_FCS_ERR (i : Nat) : Nat := 0x1C0006 + 256 * i
abbrev CTR_RX_UNDERSIZE (i : Nat) : Nat := 0x1C0007 + 256 * i
abbrev CTR_RX_FRAGMENT (i : Nat) : Nat := 0x1C0008 + 256 * i
abbrev CTR_RX_OVERSIZE (i : Nat) : Nat := 0x1C0009 + 256 * i
abbrev CTR_RX_JABBER (i : Nat) : Nat := 0x1C000A + 256 * i
abbrev CTR_RX_PCS_ERR (i : Nat) : Nat := 0x1C000B + 256 * i
abbrev CTR_RX_ABORTED (i : Nat) : Nat := 0x1C000C + 256 * i
abbrev CTR_RX_PAUSE (i : Nat) : Nat := 0x1C000D + 256 * i
abbrev CTR_RX_CTRL_DISCARD (i : Nat) : Nat := 0x1C000E + 256 * i
abbrev CTR_RX_TAG_DISCARD (i : Nat) : Nat := 0x1C000F + 256 * i
abbrev CTR_RX_LLDP (i : Nat) : Nat := 0x1C0010 + 256 * i
abbrev CTR_RX_OVERFLOW_DROP (i : Nat) : Nat := 0x1C0011 + 256 * i
abbrev CTR_RX_LOSSLESS_DROP (i : Nat) : Nat := 0x1C0012 + 256 * i
abbrev CTR_TX_FRAMES (i : Nat) : Nat := 0x1C0013 + 256 * i
abbrev CTR_TX_OCTETS (i : Nat) : Nat := 0x1C0014 + 256 * i
abbrev CTR_TX_PAUSE (i : Nat) : Nat := 0x1C0015 + 256 * i
abbrev CTR_TX_STOMP (i : Nat) : Nat := 0x1C0016 + 256 * i
abbrev CTR_TX_FLUSHED (i : Nat) : Nat := 0x1C0017 + 256 * i
abbrev CTR_TX_ABORTED (i : Nat) : Nat := 0x1C0018 + 256 * i
abbrev CTR_TX_LSO_SEGMENTS (i : Nat) : Nat := 0x1C0019 + 256 * i
abbrev CTR_TX_LSO_REFUSED (i : Nat) : Nat := 0x1C001A + 256 * i
abbrev CTR_LPI_TX_ENTRIES (i : Nat) : Nat := 0x1C001B + 256 * i
abbrev CTR_LPI_TX_US (i : Nat) : Nat := 0x1C001C + 256 * i
abbrev CTR_LPI_RX_US (i : Nat) : Nat := 0x1C001D + 256 * i
abbrev CTR_CLEAR (i : Nat) : Nat := 0x1C001E + 256 * i

end Sys2Proof.Machine.Obj
end

