-- ==== Sys2Proof/Config.lean ====
section
/-! DEFINITION. What one part fixes and what the spec leaves open, as constants with no body: nothing can prove a value of one. -/

namespace Sys2Proof.Config

/-- A free value: what the spec leaves open, indexed by the state's counter `fresh` (DESIGN CHOICE, notes/assumptions/3). -/
opaque freeValue : Nat → Nat

/-- The factory key of page 00 as shipped (R80, R168); 32 bytes where `factoryKeyLong`, else 16. -/
opaque factoryKeyByte : Nat → BitVec 8

/-- Whether the factory key has 32 bytes. -/
opaque factoryKeyLong : Bool

/-- The length of the calibration region that a bank header records (R74). -/
opaque calibLength : Nat

/-- The identity record of a part (R74): bytes of `ID_SERIAL` (0–15), the eleven die identities (16–103), `SES_MAC_ADDR` (104–109) and
`TIM_CLOCK_ID` (110–117). -/
opaque identityByte : Nat → BitVec 8

/-- The lane calibration record of a lane, 80 bytes as one number (R412). -/
opaque laneCalibration : Nat → Nat

/-- The margin that the start-up test of a die-link lane measures, above the threshold of 12, in 1/64 UI (R200), by lane key
q × 864 + direction × 432 + lane. -/
opaque trainMargin : Nat → Nat

/-- The trim of a rail from calibration, in mV within ±25 (R497), coded 0–50 for −25–25. -/
opaque railTrim : Nat → Nat

/-- The ROM line at an address of the control store, 144 bits (R435). -/
opaque romLine : Nat → BitVec 144

/-- The Tw_sys_tx that IEEE 802.3 Clause 78 gives for the PHY type of a port type, in µs (R231). -/
opaque lpiTw : Nat → Nat

end Sys2Proof.Config
end

