-- ==== Sys2Proof/Machine/DictTable.lean ====
section
/-! DEFINITION. The object dictionary's shape: one descriptor for each subindex of the object tables (R120–R143 and the object rules
of every chapter), the highest subindex of each index (R120), and every value after wipe that is not zero (R132). -/

namespace Sys2Proof.Machine

/-- The types of R124. -/
inductive OType where
  | bool | u8 | u16 | u32 | u64 | i32 | i64 | t96 | octets (n : Nat) | bulk | start
deriving DecidableEq, Repr

/-- The entries of the Read and Write columns (R126); `operG g` is "Op+ (O with g)". -/
inductive Right where
  | obs | oper | admin | cust | none | own | operG (bit : Nat)
deriving DecidableEq, Repr

/-- One row of an object table: indexes base … base + count − 1, subindexes sub, sub + step, … (subs of them). -/
structure Desc where
  base : Nat
  count : Nat
  sub : Nat
  subs : Nat
  step : Nat
  ty : OType
  rd : Right
  wr : Right
  persist : Bool
deriving DecidableEq, Repr

/-- Object rows of chapter 03, part 1. -/
def descs03a : List Desc := [
  ⟨0x0300, 1, 0x01, 1, 1, .u8, .obs, .admin, true⟩,
  ⟨0x0300, 1, 0x02, 1, 1, .bool, .obs, .admin, true⟩,
  ⟨0x0300, 1, 0x03, 1, 1, .u8, .obs, .none, false⟩,
  ⟨0x0300, 1, 0x04, 1, 1, .u8, .obs, .none, false⟩,
  ⟨0x0300, 1, 0x05, 1, 1, .u8, .obs, .none, false⟩,
  ⟨0x0300, 1, 0x06, 1, 1, .i32, .obs, .none, false⟩,
  ⟨0x0300, 1, 0x07, 1, 1, .u32, .obs, .none, false⟩,
  ⟨0x0300, 1, 0x08, 1, 1, .u8, .obs, .none, false⟩,
  ⟨0x0201, 1, 0x01, 1, 1, .u8, .obs, .none, false⟩,
  ⟨0x0201, 1, 0x02, 1, 1, .start, .admin, .admin, false⟩,
  ⟨0x0201, 1, 0x03, 1, 1, .u32, .obs, .none, false⟩,
  ⟨0x0202, 1, 0x01, 1, 1, .u8, .obs, .none, false⟩,
  ⟨0x0202, 1, 0x02, 1, 1, .u32, .obs, .none, false⟩,
  ⟨0x0203, 1, 0x01, 1, 1, .u8, .obs, .none, false⟩,
  ⟨0x0203, 1, 0x02, 1, 1, .u64, .obs, .none, false⟩,
  ⟨0x0203, 1, 0x03, 1, 1, .bool, .obs, .none, false⟩,
  ⟨0x0203, 1, 0x04, 1, 1, .start, .admin, .admin, false⟩,
  ⟨0x0203, 1, 0x05, 1, 1, .u32, .obs, .none, false⟩,
  ⟨0x0203, 1, 0x06, 1, 1, .u32, .obs, .none, false⟩,
  ⟨0x0200, 1, 0x01, 1, 1, .u8, .obs, .none, false⟩,
  ⟨0x0200, 1, 0x02, 1, 1, .u8, .cust, .cust, false⟩,
  ⟨0x0200, 1, 0x03, 1, 1, (.octets 32), .none, .cust, false⟩,
  ⟨0x0200, 1, 0x04, 1, 1, .u8, .cust, .cust, false⟩,
  ⟨0x0200, 1, 0x05, 1, 1, .u32, .obs, .none, false⟩,
  ⟨0x0200, 1, 0x06, 1, 1, .u32, .cust, .cust, false⟩,
  ⟨0x0200, 1, 0x07, 1, 1, .start, .cust, .cust, false⟩]

/-- Object rows of chapter 04, part 1. -/
def descs04a : List Desc := [
  ⟨0x0100, 1, 0x01, 1, 1, (.octets 6), .obs, .none, false⟩,
  ⟨0x0100, 1, 0x02, 1, 1, (.octets 4), .obs, .admin, true⟩,
  ⟨0x0100, 1, 0x03, 1, 1, .u16, .obs, .admin, true⟩,
  ⟨0x0100, 1, 0x04, 1, 1, .u16, .obs, .admin, true⟩,
  ⟨0x0100, 1, 0x05, 1, 1, .u8, .obs, .admin, true⟩,
  ⟨0x0100, 1, 0x06, 1, 1, .u8, .obs, .admin, true⟩,
  ⟨0x0100, 1, 0x07, 1, 1, .u16, .obs, .none, false⟩,
  ⟨0x0100, 1, 0x08, 1, 1, .bool, .obs, .admin, true⟩,
  ⟨0x0100, 1, 0x09, 1, 1, .u16, .obs, .admin, true⟩,
  ⟨0x0100, 1, 0x0A, 1, 1, .u32, .obs, .none, false⟩,
  ⟨0x0100, 1, 0x0B, 1, 1, .u32, .obs, .none, false⟩,
  ⟨0x0100, 1, 0x0C, 1, 1, .u32, .obs, .none, false⟩,
  ⟨0x0100, 1, 0x0D, 1, 1, .u32, .obs, .none, false⟩]

/-- Object rows of chapter 05, part 1. -/
def descs05a : List Desc := [
  ⟨0x0000, 1, 0x01, 1, 1, .u32, .obs, .none, false⟩,
  ⟨0x0000, 1, 0x02, 1, 1, .u16, .obs, .none, false⟩,
  ⟨0x0000, 1, 0x03, 1, 1, .u8, .obs, .none, false⟩,
  ⟨0x0000, 1, 0x04, 1, 1, (.octets 16), .obs, .none, false⟩,
  ⟨0x0000, 1, 0x05, 1, 1, (.octets 16), .obs, .none, false⟩,
  ⟨0x0000, 1, 0x06, 1, 1, .u32, .obs, .none, false⟩,
  ⟨0x0000, 1, 0x07, 1, 1, .u32, .obs, .none, false⟩,
  ⟨0x0000, 1, 0x08, 1, 1, .u8, .obs, .none, false⟩,
  ⟨0x0001, 1, 0x01, 1, 1, (.octets 8), .obs, .none, false⟩,
  ⟨0x0001, 1, 0x02, 2, 1, (.octets 8), .obs, .none, false⟩,
  ⟨0x0001, 1, 0x04, 8, 1, (.octets 8), .obs, .none, false⟩,
  ⟨0x0010, 1, 0x01, 1, 1, .u32, .obs, .none, false⟩,
  ⟨0x0010, 1, 0x02, 1, 1, .u64, .obs, .none, false⟩,
  ⟨0x0010, 1, 0x03, 1, 1, .u16, .obs, .none, false⟩,
  ⟨0x0010, 1, 0x04, 1, 1, .u16, .obs, .none, false⟩,
  ⟨0x0010, 1, 0x05, 1, 1, .u16, .obs, .none, false⟩,
  ⟨0x0010, 1, 0x06, 1, 1, .u16, .obs, .none, false⟩,
  ⟨0x0110, 16, 0x01, 1, 1, .u8, .own, .none, false⟩,
  ⟨0x0110, 16, 0x02, 1, 1, .u8, .own, .none, false⟩,
  ⟨0x0110, 16, 0x03, 1, 1, .u16, .own, .none, false⟩,
  ⟨0x0110, 16, 0x04, 1, 1, .u16, .own, .none, false⟩,
  ⟨0x0110, 16, 0x05, 1, 1, .u64, .own, .none, false⟩,
  ⟨0x0110, 16, 0x06, 1, 1, .u32, .own, .none, false⟩,
  ⟨0x0110, 16, 0x07, 1, 1, .u16, .own, .none, false⟩,
  ⟨0x0110, 16, 0x08, 1, 1, .u8, .own, .none, false⟩,
  ⟨0x0110, 16, 0x09, 1, 1, .u32, .own, .none, false⟩,
  ⟨0x0110, 16, 0x0A, 1, 1, .u32, .own, .none, false⟩,
  ⟨0x0110, 16, 0x0B, 1, 1, .u32, .own, .none, false⟩,
  ⟨0x0120, 1, 0x01, 16, 1, .u16, .admin, .admin, true⟩]

/-- Object rows of chapter 06, part 1. -/
def descs06a : List Desc := [
  ⟨0x0140, 1, 0x01, 1, 1, .u8, .obs, .none, false⟩,
  ⟨0x0140, 1, 0x02, 1, 1, .u8, .obs, .none, false⟩,
  ⟨0x0140, 1, 0x03, 1, 1, .u64, .obs, .none, false⟩,
  ⟨0x0140, 1, 0x04, 1, 1, .u64, .obs, .none, false⟩,
  ⟨0x0140, 1, 0x05, 1, 1, .u16, .obs, .none, false⟩,
  ⟨0x0140, 1, 0x06, 1, 1, .u32, .obs, .none, false⟩,
  ⟨0x0150, 16, 0x01, 1, 1, .u8, .own, .none, false⟩,
  ⟨0x0150, 16, 0x02, 1, 1, .u8, .own, .none, false⟩,
  ⟨0x0150, 16, 0x03, 1, 1, .u8, .own, .none, false⟩,
  ⟨0x0150, 16, 0x04, 1, 1, .u8, .own, .none, false⟩,
  ⟨0x0150, 16, 0x05, 1, 1, .u64, .own, .none, false⟩,
  ⟨0x0150, 16, 0x06, 1, 1, .u64, .own, .none, false⟩,
  ⟨0x0150, 16, 0x07, 1, 1, .u64, .own, .none, false⟩,
  ⟨0x0150, 16, 0x08, 1, 1, .u64, .own, .none, false⟩,
  ⟨0x0150, 16, 0x09, 1, 1, .u64, .own, .none, false⟩,
  ⟨0x0150, 16, 0x0A, 1, 1, .u32, .own, .none, false⟩,
  ⟨0x0150, 16, 0x0B, 1, 1, .u16, .own, .none, false⟩,
  ⟨0x0160, 16, 0x01, 1, 1, (.octets 32), .none, .cust, false⟩,
  ⟨0x0160, 16, 0x02, 1, 1, .u8, .cust, .cust, false⟩,
  ⟨0x0160, 16, 0x03, 1, 1, .u8, .cust, .cust, false⟩,
  ⟨0x0160, 16, 0x04, 1, 1, .u8, .cust, .cust, false⟩,
  ⟨0x0160, 16, 0x05, 1, 1, .u64, .cust, .cust, false⟩,
  ⟨0x0160, 16, 0x06, 1, 1, .start, .cust, .cust, false⟩,
  ⟨0x0160, 16, 0x07, 1, 1, .start, .cust, .cust, false⟩]

/-- Object rows of chapter 07, part 1. -/
def descs07a : List Desc := [
  ⟨0x1000, 1024, 0x01, 1, 1, .u8, .obs, .none, false⟩,
  ⟨0x1000, 1024, 0x02, 1, 1, .u8, .obs, .none, false⟩,
  ⟨0x1000, 1024, 0x03, 1, 1, .u8, .obs, .none, false⟩,
  ⟨0x1000, 1024, 0x04, 1, 1, .u8, .obs, .admin, true⟩,
  ⟨0x1000, 1024, 0x05, 1, 1, (.octets 6), .obs, .admin, true⟩,
  ⟨0x1000, 1024, 0x06, 1, 1, (.octets 6), .obs, .none, false⟩,
  ⟨0x1000, 1024, 0x07, 1, 1, .u8, .obs, .admin, true⟩,
  ⟨0x1000, 1024, 0x08, 1, 1, .u8, .obs, .admin, true⟩,
  ⟨0x1000, 1024, 0x09, 1, 1, .bool, .obs, .admin, true⟩,
  ⟨0x1000, 1024, 0x0A, 1, 1, .u8, .obs, .admin, false⟩,
  ⟨0x1000, 1024, 0x0B, 1, 1, .u8, .obs, .admin, false⟩,
  ⟨0x1000, 1024, 0x0C, 1, 1, .u8, .obs, .admin, false⟩,
  ⟨0x1000, 1024, 0x0D, 1, 1, .bool, .obs, .none, false⟩,
  ⟨0x1000, 1024, 0x0E, 1, 1, .u64, .obs, .none, false⟩,
  ⟨0x1000, 1024, 0x0F, 1, 1, .u64, .obs, .none, false⟩,
  ⟨0x1000, 1024, 0x10, 1, 1, .bool, .obs, .none, false⟩,
  ⟨0x1000, 1024, 0x11, 1, 1, .u32, .obs, .none, false⟩,
  ⟨0x1000, 1024, 0x12, 1, 1, .i32, .obs, .none, false⟩,
  ⟨0x1000, 1024, 0x13, 1, 1, .u8, .obs, .none, false⟩,
  ⟨0x1000, 1024, 0x14, 1, 1, .u16, .obs, .none, false⟩,
  ⟨0x1000, 1024, 0x15, 1, 1, .u64, .obs, .none, false⟩,
  ⟨0x1000, 1024, 0x16, 1, 1, .u8, .obs, .none, false⟩,
  ⟨0x1000, 1024, 0x17, 1, 1, .i32, .obs, .none, false⟩,
  ⟨0x1000, 1024, 0x18, 1, 1, .start, .oper, .oper, false⟩,
  ⟨0x1000, 1024, 0x19, 1, 1, .i32, .obs, .oper, false⟩,
  ⟨0x1000, 1024, 0x1A, 1, 1, .i32, .obs, .oper, false⟩,
  ⟨0x1000, 1024, 0x1B, 1, 1, .u8, .obs, .oper, false⟩,
  ⟨0x1000, 1024, 0x1C, 1, 1, .u8, .obs, .oper, false⟩,
  ⟨0x1000, 1024, 0x1D, 1, 1, .u8, .obs, .oper, false⟩,
  ⟨0x1000, 1024, 0x1E, 1, 1, .u8, .obs, .oper, false⟩,
  ⟨0x1000, 1024, 0x1F, 1, 1, .start, .oper, .oper, false⟩,
  ⟨0x1000, 1024, 0x20, 1, 1, .u64, .obs, .none, false⟩,
  ⟨0x1000, 1024, 0x21, 1, 1, .u64, .obs, .none, false⟩,
  ⟨0x1000, 1024, 0x22, 1, 1, .u8, .obs, .none, false⟩,
  ⟨0x1000, 1024, 0x23, 1, 1, .start, .admin, .admin, false⟩,
  ⟨0x1000, 1024, 0x24, 1, 1, .u32, .obs, .none, false⟩,
  ⟨0x2200, 8, 0x01, 1, 1, .u8, .obs, .none, false⟩,
  ⟨0x2200, 8, 0x02, 1, 1, .u8, .obs, .none, false⟩,
  ⟨0x2200, 8, 0x03, 1, 1, .u8, .obs, .none, false⟩,
  ⟨0x2200, 8, 0x04, 1, 1, .u32, .obs, .none, false⟩]

/-- Object rows of chapter 07, part 2. -/
def descs07b : List Desc := [
  ⟨0x2200, 8, 0x05, 1, 1, .u8, .obs, .none, false⟩,
  ⟨0x2200, 8, 0x06, 1, 1, (.octets 8), .obs, .none, false⟩,
  ⟨0x2200, 8, 0x07, 1, 1, .u64, .obs, .none, false⟩,
  ⟨0x2200, 8, 0x08, 1, 1, .u64, .obs, .none, false⟩,
  ⟨0x2200, 8, 0x09, 1, 1, .u64, .obs, .none, false⟩,
  ⟨0x2200, 8, 0x0A, 1, 1, .u64, .obs, .none, false⟩,
  ⟨0x2200, 8, 0x0B, 1, 1, .u8, .obs, .none, false⟩,
  ⟨0x2200, 8, 0x0C, 1, 1, .u8, .obs, .admin, true⟩,
  ⟨0x2200, 8, 0x0D, 1, 1, .u16, .obs, .none, false⟩,
  ⟨0x2200, 8, 0x0E, 1, 1, .u16, .obs, .admin, false⟩,
  ⟨0x2200, 8, 0x0F, 1, 1, .start, .admin, .admin, false⟩,
  ⟨0x2200, 8, 0x10, 1, 1, .i32, .obs, .none, false⟩,
  ⟨0x2200, 8, 0x11, 1, 1, .u16, .obs, .none, false⟩,
  ⟨0x3F00, 8, 0x01, 1, 1, .bulk, .oper, .none, false⟩]

/-- Object rows of chapter 08, part 1. -/
def descs08a : List Desc := [
  ⟨0x1400, 1024, 0x01, 1, 1, .u8, .obs, .admin, true⟩,
  ⟨0x1400, 1024, 0x02, 1, 1, .u8, .obs, .admin, true⟩,
  ⟨0x1400, 1024, 0x03, 1, 1, .u8, .obs, .admin, true⟩,
  ⟨0x1400, 1024, 0x04, 1, 1, .bool, .obs, .admin, true⟩,
  ⟨0x1400, 1024, 0x05, 1, 1, .u8, .obs, .none, false⟩,
  ⟨0x1400, 1024, 0x06, 1, 1, .u16, .obs, .none, false⟩,
  ⟨0x1400, 1024, 0x07, 1, 1, .u32, .obs, .none, false⟩,
  ⟨0x1400, 1024, 0x08, 1, 1, .u16, .obs, .admin, true⟩,
  ⟨0x1400, 1024, 0x09, 1, 1, .u16, .obs, .admin, true⟩,
  ⟨0x1400, 1024, 0x0A, 1, 1, .u16, .obs, .admin, true⟩,
  ⟨0x1400, 1024, 0x0B, 1, 1, .u8, .obs, .admin, true⟩,
  ⟨0x1400, 1024, 0x0C, 1, 1, .u16, .obs, .admin, true⟩,
  ⟨0x1400, 1024, 0x0D, 1, 1, .u16, .obs, .admin, true⟩,
  ⟨0x1400, 1024, 0x0E, 1, 1, .u8, .obs, .admin, true⟩,
  ⟨0x1400, 1024, 0x0F, 1, 1, .u32, .obs, .admin, true⟩,
  ⟨0x1400, 1024, 0x10, 1, 1, .bool, .obs, .admin, true⟩,
  ⟨0x1400, 1024, 0x11, 1, 1, .u8, .obs, .admin, true⟩,
  ⟨0x1400, 1024, 0x12, 1, 1, .u8, .obs, .admin, true⟩,
  ⟨0x1400, 1024, 0x13, 1, 1, (.octets 16), .obs, .admin, true⟩,
  ⟨0x1400, 1024, 0x14, 1, 1, .u16, .obs, .admin, true⟩,
  ⟨0x1400, 1024, 0x15, 1, 1, (.octets 64), .obs, .admin, true⟩,
  ⟨0x1400, 1024, 0x16, 1, 1, .u16, .obs, .none, false⟩,
  ⟨0x1400, 1024, 0x17, 1, 1, .bool, .obs, .admin, true⟩,
  ⟨0x1400, 1024, 0x18, 1, 1, .u32, .obs, .admin, true⟩,
  ⟨0x1400, 1024, 0x19, 1, 1, .u16, .obs, .none, false⟩,
  ⟨0x1400, 1024, 0x1A, 1, 1, .u16, .obs, .none, false⟩,
  ⟨0x1400, 1024, 0x1B, 1, 1, .u8, .obs, .none, false⟩,
  ⟨0x1400, 1024, 0x1C, 1, 1, .bool, .obs, .admin, true⟩,
  ⟨0x1C00, 1024, 0x01, 1, 1, .u64, .obs, .none, false⟩,
  ⟨0x1C00, 1024, 0x02, 1, 1, .u64, .obs, .none, false⟩,
  ⟨0x1C00, 1024, 0x03, 1, 1, .u64, .obs, .none, false⟩,
  ⟨0x1C00, 1024, 0x04, 1, 1, .u64, .obs, .none, false⟩,
  ⟨0x1C00, 1024, 0x05, 1, 1, .u64, .obs, .none, false⟩,
  ⟨0x1C00, 1024, 0x06, 1, 1, .u64, .obs, .none, false⟩,
  ⟨0x1C00, 1024, 0x07, 1, 1, .u64, .obs, .none, false⟩,
  ⟨0x1C00, 1024, 0x08, 1, 1, .u64, .obs, .none, false⟩,
  ⟨0x1C00, 1024, 0x09, 1, 1, .u64, .obs, .none, false⟩,
  ⟨0x1C00, 1024, 0x0A, 1, 1, .u64, .obs, .none, false⟩,
  ⟨0x1C00, 1024, 0x0B, 1, 1, .u64, .obs, .none, false⟩,
  ⟨0x1C00, 1024, 0x0C, 1, 1, .u64, .obs, .none, false⟩]

/-- Object rows of chapter 08, part 2. -/
def descs08b : List Desc := [
  ⟨0x1C00, 1024, 0x0D, 1, 1, .u64, .obs, .none, false⟩,
  ⟨0x1C00, 1024, 0x0E, 1, 1, .u64, .obs, .none, false⟩,
  ⟨0x1C00, 1024, 0x0F, 1, 1, .u64, .obs, .none, false⟩,
  ⟨0x1C00, 1024, 0x10, 1, 1, .u64, .obs, .none, false⟩,
  ⟨0x1C00, 1024, 0x11, 1, 1, .u64, .obs, .none, false⟩,
  ⟨0x1C00, 1024, 0x12, 1, 1, .u64, .obs, .none, false⟩,
  ⟨0x1C00, 1024, 0x13, 1, 1, .u64, .obs, .none, false⟩,
  ⟨0x1C00, 1024, 0x14, 1, 1, .u64, .obs, .none, false⟩,
  ⟨0x1C00, 1024, 0x15, 1, 1, .u64, .obs, .none, false⟩,
  ⟨0x1C00, 1024, 0x16, 1, 1, .u64, .obs, .none, false⟩,
  ⟨0x1C00, 1024, 0x17, 1, 1, .u64, .obs, .none, false⟩,
  ⟨0x1C00, 1024, 0x18, 1, 1, .u64, .obs, .none, false⟩,
  ⟨0x1C00, 1024, 0x19, 1, 1, .u64, .obs, .none, false⟩,
  ⟨0x1C00, 1024, 0x1A, 1, 1, .u64, .obs, .none, false⟩,
  ⟨0x1C00, 1024, 0x1B, 1, 1, .u64, .obs, .none, false⟩,
  ⟨0x1C00, 1024, 0x1C, 1, 1, .u64, .obs, .none, false⟩,
  ⟨0x1C00, 1024, 0x1D, 1, 1, .u64, .obs, .none, false⟩,
  ⟨0x1C00, 1024, 0x1E, 1, 1, .start, .oper, .oper, false⟩]

/-- Object rows of chapter 09, part 1. -/
def descs09a : List Desc := [
  ⟨0x0B00, 1, 0x01, 1, 1, .start, .oper, .admin, false⟩,
  ⟨0x0B00, 1, 0x02, 1, 1, .u32, .oper, .none, false⟩,
  ⟨0x0B00, 1, 0x03, 1, 1, .u32, .oper, .none, false⟩,
  ⟨0x0B00, 1, 0x04, 1, 1, .u32, .oper, .admin, false⟩,
  ⟨0x0B00, 1, 0x05, 1, 1, .start, .oper, .admin, false⟩,
  ⟨0x0B00, 1, 0x06, 1, 1, .u32, .oper, .admin, false⟩,
  ⟨0x0B00, 1, 0x07, 1, 1, .u8, .oper, .admin, true⟩,
  ⟨0x0B00, 1, 0x08, 1, 1, .u16, .oper, .admin, true⟩,
  ⟨0x0B00, 1, 0x09, 1, 1, .start, .oper, .admin, false⟩,
  ⟨0x0B00, 1, 0x0A, 1, 1, .u32, .oper, .none, false⟩,
  ⟨0x0B00, 1, 0x0B, 1, 1, .u32, .oper, .admin, true⟩,
  ⟨0x0B00, 1, 0x0C, 1, 1, (.octets 8), .oper, .admin, true⟩,
  ⟨0x0B00, 1, 0x0D, 1, 1, .u8, .oper, .admin, true⟩,
  ⟨0x2000, 32, 0x01, 1, 1, .u8, .obs, .none, false⟩,
  ⟨0x2000, 32, 0x02, 1, 1, .u32, .obs, .none, false⟩,
  ⟨0x2000, 32, 0x03, 1, 1, .u32, .obs, .none, false⟩,
  ⟨0x2000, 32, 0x04, 1, 1, .u32, .obs, .none, false⟩,
  ⟨0x2000, 32, 0x05, 1, 1, .u8, .obs, .admin, true⟩,
  ⟨0x2000, 32, 0x06, 1, 1, .u64, .obs, .none, false⟩,
  ⟨0x2000, 32, 0x07, 1, 1, .u64, .obs, .none, false⟩,
  ⟨0x2000, 32, 0x08, 1, 1, .u64, .obs, .none, false⟩,
  ⟨0x2000, 32, 0x09, 1, 1, .u8, .obs, .none, false⟩,
  ⟨0x2000, 32, 0x0A, 1, 1, .u64, .obs, .none, false⟩,
  ⟨0x2000, 32, 0x0B, 1, 1, .u64, .obs, .none, false⟩,
  ⟨0x2000, 32, 0x0C, 1, 1, .u64, .obs, .none, false⟩,
  ⟨0x2000, 32, 0x0D, 1, 1, .u64, .obs, .none, false⟩,
  ⟨0x2000, 32, 0x0E, 1, 1, .u64, .obs, .none, false⟩,
  ⟨0x2000, 32, 0x0F, 1, 1, .u64, .obs, .none, false⟩,
  ⟨0x3B00, 1, 0x01, 1, 1, .bulk, (.operG 2), .admin, false⟩,
  ⟨0x3B20, 32, 0x01, 1, 1, .bulk, (.operG 2), .none, false⟩]

/-- Object rows of chapter 10, part 1. -/
def descs10a : List Desc := [
  ⟨0x0A00, 1, 0x01, 1, 1, .u32, (.operG 1), .admin, true⟩,
  ⟨0x0A00, 1, 0x02, 1, 1, .u32, (.operG 1), .admin, true⟩,
  ⟨0x0A00, 1, 0x03, 1, 1, .u32, (.operG 1), .none, false⟩,
  ⟨0x0A00, 1, 0x04, 1, 1, (.octets 128), (.operG 1), .admin, true⟩,
  ⟨0x0A00, 1, 0x05, 1, 1, .bool, (.operG 1), .admin, true⟩,
  ⟨0x0A00, 1, 0x06, 1, 1, (.octets 24), (.operG 1), .none, false⟩,
  ⟨0x0A00, 1, 0x07, 1, 1, .u16, (.operG 1), .none, false⟩,
  ⟨0x0A00, 1, 0x08, 1, 1, .u16, (.operG 1), .admin, true⟩,
  ⟨0x0A00, 1, 0x09, 1, 1, .u32, (.operG 1), .none, false⟩,
  ⟨0x0A00, 1, 0x0A, 1, 1, (.octets 8), (.operG 1), .admin, false⟩,
  ⟨0x0A00, 1, 0x0B, 1, 1, .u16, (.operG 1), .admin, false⟩,
  ⟨0x0A00, 1, 0x0C, 1, 1, .start, (.operG 1), .admin, false⟩,
  ⟨0x0A00, 1, 0x0D, 1, 1, .start, (.operG 1), .admin, false⟩,
  ⟨0x0A00, 1, 0x0E, 1, 1, .u16, (.operG 1), .admin, false⟩,
  ⟨0x0A00, 1, 0x0F, 1, 1, .u16, (.operG 1), .admin, false⟩,
  ⟨0x0A00, 1, 0x10, 1, 1, .start, (.operG 1), .admin, false⟩,
  ⟨0x0A00, 1, 0x11, 1, 1, .u32, (.operG 1), .admin, false⟩,
  ⟨0x0A00, 1, 0x12, 1, 1, .u32, (.operG 1), .admin, false⟩,
  ⟨0x0A00, 1, 0x13, 1, 1, .start, (.operG 1), .admin, false⟩,
  ⟨0x0A00, 1, 0x14, 1, 1, .u32, (.operG 1), .none, false⟩,
  ⟨0x0A00, 1, 0x15, 1, 1, .u32, (.operG 1), .none, false⟩,
  ⟨0x0A00, 1, 0x16, 1, 1, .u32, (.operG 1), .none, false⟩,
  ⟨0x0A00, 1, 0x17, 1, 1, .u8, (.operG 1), .none, false⟩,
  ⟨0x0A20, 32, 0x01, 1, 1, .u32, (.operG 1), .none, false⟩,
  ⟨0x0A20, 32, 0x02, 1, 1, .u32, (.operG 1), .none, false⟩,
  ⟨0x0A20, 32, 0x03, 1, 1, .u64, (.operG 1), .none, false⟩,
  ⟨0x0A20, 32, 0x04, 1, 1, .u64, (.operG 1), .none, false⟩,
  ⟨0x0A20, 32, 0x05, 1, 1, .u64, (.operG 1), .none, false⟩,
  ⟨0x0A20, 32, 0x06, 1, 1, .u64, (.operG 1), .none, false⟩,
  ⟨0x0A20, 32, 0x07, 1, 1, .u64, (.operG 1), .none, false⟩,
  ⟨0x0A20, 32, 0x08, 1, 1, .u64, (.operG 1), .none, false⟩,
  ⟨0x0A20, 32, 0x09, 1, 1, .u64, (.operG 1), .none, false⟩,
  ⟨0x0A20, 32, 0x0A, 1, 1, .u32, (.operG 1), .none, false⟩,
  ⟨0x0A20, 32, 0x0B, 1, 1, .u64, (.operG 1), .none, false⟩,
  ⟨0x0A20, 32, 0x0C, 1, 1, .u64, (.operG 1), .none, false⟩,
  ⟨0x2100, 8, 0x01, 1, 1, .u8, .obs, .none, false⟩,
  ⟨0x2100, 8, 0x02, 1, 1, .u64, .obs, .none, false⟩,
  ⟨0x2100, 8, 0x03, 1, 1, .u64, .obs, .none, false⟩,
  ⟨0x2100, 8, 0x04, 1, 1, .u64, .obs, .none, false⟩,
  ⟨0x2100, 8, 0x05, 1, 1, .u64, .obs, .none, false⟩]

/-- Object rows of chapter 10, part 2. -/
def descs10b : List Desc := [
  ⟨0x2100, 8, 0x06, 1, 1, .u64, .obs, .none, false⟩,
  ⟨0x2100, 8, 0x07, 1, 1, .u64, .obs, .none, false⟩,
  ⟨0x2100, 8, 0x08, 1, 1, .u64, .obs, .none, false⟩,
  ⟨0x2100, 8, 0x09, 1, 1, .u32, .obs, .none, false⟩,
  ⟨0x2100, 8, 0x0A, 1, 1, .u64, .obs, .none, false⟩,
  ⟨0x2100, 8, 0x0B, 1, 1, .u8, .obs, .none, false⟩,
  ⟨0x2100, 8, 0x0C, 1, 1, .u8, .obs, .none, false⟩,
  ⟨0x2100, 8, 0x0D, 1, 1, .u8, .obs, .admin, false⟩,
  ⟨0x2100, 8, 0x0E, 1, 1, .start, .obs, .admin, false⟩,
  ⟨0x3000, 1, 0x01, 1, 1, .bulk, .none, .admin, false⟩,
  ⟨0x3008, 8, 0x01, 1, 1, .bulk, (.operG 2), .none, false⟩,
  ⟨0x3010, 1, 0x01, 1, 1, .bulk, .none, .admin, false⟩,
  ⟨0x3018, 8, 0x01, 1, 1, .bulk, (.operG 2), .none, false⟩,
  ⟨0x3020, 1, 0x01, 1, 1, .bulk, (.operG 2), .admin, false⟩,
  ⟨0x3028, 8, 0x01, 1, 1, .bulk, (.operG 2), .none, false⟩,
  ⟨0x3030, 8, 0x01, 1, 1, .bulk, (.operG 2), .none, false⟩,
  ⟨0x3040, 32, 0x01, 1, 1, .bulk, (.operG 2), .none, false⟩]

/-- Object rows of chapter 11, part 1. -/
def descs11a : List Desc := [
  ⟨0x0800, 1, 0x01, 1, 1, .u8, .obs, .none, false⟩,
  ⟨0x0800, 1, 0x02, 1, 1, .u8, .obs, .none, false⟩,
  ⟨0x0800, 1, 0x03, 1, 1, .u16, .obs, .none, false⟩,
  ⟨0x0800, 1, 0x04, 1, 1, .u64, .obs, .none, false⟩,
  ⟨0x0800, 1, 0x05, 1, 1, (.octets 8), .obs, .none, false⟩,
  ⟨0x0800, 1, 0x06, 1, 1, .u32, .obs, .none, false⟩,
  ⟨0x0800, 1, 0x07, 1, 1, .u32, .obs, .none, false⟩,
  ⟨0x0801, 1, 0x01, 1, 1, .u8, .obs, .admin, true⟩,
  ⟨0x0801, 1, 0x02, 1, 1, .u32, .obs, .admin, true⟩,
  ⟨0x0801, 1, 0x03, 1, 1, .u32, .obs, .admin, true⟩,
  ⟨0x0801, 1, 0x04, 1, 1, .u32, .obs, .admin, true⟩,
  ⟨0x0801, 1, 0x05, 1, 1, .u32, .obs, .admin, true⟩,
  ⟨0x0801, 1, 0x06, 1, 1, .start, .obs, .admin, false⟩,
  ⟨0x0808, 4, 0x01, 1, 1, .u16, .obs, .none, false⟩,
  ⟨0x0808, 4, 0x02, 1, 1, .u32, .obs, .none, false⟩,
  ⟨0x0808, 4, 0x03, 1, 1, .u32, .obs, .none, false⟩,
  ⟨0x0808, 4, 0x04, 1, 1, .u32, .obs, .none, false⟩,
  ⟨0x0808, 4, 0x05, 1, 1, .u32, .obs, .none, false⟩,
  ⟨0x0808, 4, 0x06, 1, 1, .u32, .obs, .none, false⟩,
  ⟨0x0808, 4, 0x07, 1, 1, .u64, .obs, .none, false⟩,
  ⟨0x0808, 4, 0x08, 1, 1, .u64, .obs, .none, false⟩,
  ⟨0x0808, 4, 0x09, 1, 1, .u64, .obs, .none, false⟩,
  ⟨0x0808, 4, 0x0A, 1, 1, .u64, .obs, .none, false⟩,
  ⟨0x0810, 16, 0x01, 1, 1, (.octets 16), .obs, .admin, true⟩,
  ⟨0x0810, 16, 0x02, 1, 1, .u16, .obs, .admin, true⟩,
  ⟨0x0810, 16, 0x03, 1, 1, .u8, .obs, .admin, true⟩,
  ⟨0x0820, 1, 0x01, 1, 1, (.octets 512), .obs, .admin, true⟩,
  ⟨0x0820, 1, 0x02, 1, 1, .u8, .obs, .admin, true⟩,
  ⟨0x0820, 1, 0x03, 1, 1, .u8, .obs, .admin, true⟩,
  ⟨0x0828, 1, 0x01, 1, 1, .u32, .obs, .none, false⟩,
  ⟨0x0828, 1, 0x02, 1, 1, .u32, .obs, .none, false⟩,
  ⟨0x0828, 1, 0x03, 1, 1, .u32, .obs, .none, false⟩,
  ⟨0x0828, 1, 0x04, 1, 1, .u64, .obs, .none, false⟩,
  ⟨0x0830, 1, 0x01, 1, 1, (.octets 128), .obs, .admin, true⟩,
  ⟨0x0830, 1, 0x02, 1, 1, .u64, .obs, .none, false⟩,
  ⟨0x0830, 1, 0x03, 1, 1, .u64, .obs, .none, false⟩,
  ⟨0x0830, 1, 0x04, 1, 1, .u64, .obs, .none, false⟩,
  ⟨0x0830, 1, 0x05, 1, 1, .u64, .obs, .none, false⟩,
  ⟨0x0830, 1, 0x06, 1, 1, .u64, .obs, .none, false⟩,
  ⟨0x0830, 1, 0x07, 1, 1, .u64, .obs, .none, false⟩]

/-- Object rows of chapter 11, part 2. -/
def descs11b : List Desc := [
  ⟨0x0838, 1, 0x01, 1, 1, .u8, .obs, .none, false⟩,
  ⟨0x0838, 1, 0x02, 1, 1, .u8, .obs, .none, false⟩,
  ⟨0x0838, 1, 0x03, 1, 1, .u32, .obs, .none, false⟩,
  ⟨0x0838, 1, 0x04, 1, 1, (.octets 8), .obs, .none, false⟩,
  ⟨0x0838, 1, 0x05, 1, 1, .u16, .obs, .admin, false⟩,
  ⟨0x0838, 1, 0x06, 1, 1, .start, .obs, .admin, false⟩,
  ⟨0x3080, 1, 0x01, 1, 1, .bulk, (.operG 2), .none, false⟩,
  ⟨0x3081, 1, 0x01, 1, 1, .bulk, (.operG 2), .none, false⟩]

/-- Object rows of chapter 12, part 1. -/
def descs12a : List Desc := [
  ⟨0x0900, 1, 0x01, 1, 1, .u32, .obs, .none, false⟩,
  ⟨0x0900, 1, 0x02, 1, 1, .u16, .obs, .none, false⟩,
  ⟨0x0900, 1, 0x03, 1, 1, .u64, .obs, .none, false⟩,
  ⟨0x0900, 1, 0x04, 1, 1, .u64, .obs, .none, false⟩,
  ⟨0x0900, 1, 0x05, 1, 1, .u64, .obs, .none, false⟩,
  ⟨0x0900, 1, 0x06, 1, 1, .u64, .obs, .none, false⟩,
  ⟨0x0900, 1, 0x07, 1, 1, .u32, .obs, .admin, false⟩,
  ⟨0x0901, 1, 0x01, 1, 1, .u32, .obs, .admin, true⟩,
  ⟨0x0901, 1, 0x02, 1, 1, .u64, .obs, .none, false⟩,
  ⟨0x0980, 1, 0x01, 1, 1, .u64, .obs, .none, true⟩,
  ⟨0x0981, 127, 0x01, 1, 1, .u64, .obs, .admin, true⟩,
  ⟨0x0980, 128, 0x02, 1, 1, .u16, .obs, .none, false⟩,
  ⟨0x0980, 128, 0x03, 1, 1, .bool, .obs, .none, false⟩,
  ⟨0x1800, 1024, 0x01, 1, 1, .u8, .obs, .admin, true⟩,
  ⟨0x1800, 1024, 0x02, 1, 1, .i64, .obs, .none, false⟩,
  ⟨0x1800, 1024, 0x03, 1, 1, .u32, .obs, .none, false⟩,
  ⟨0x1800, 1024, 0x04, 1, 1, .u32, .obs, .none, false⟩,
  ⟨0x1800, 1024, 0x05, 1, 1, .u64, .obs, .none, false⟩,
  ⟨0x1800, 1024, 0x06, 1, 1, .u8, .obs, .none, false⟩,
  ⟨0x1800, 1024, 0x07, 1, 1, .u64, .obs, .none, false⟩,
  ⟨0x1800, 1024, 0x08, 1, 1, .u64, .obs, .none, false⟩,
  ⟨0x1800, 1024, 0x09, 1, 1, .u64, .obs, .none, false⟩,
  ⟨0x1800, 1024, 0x0A, 1, 1, .u64, .obs, .none, false⟩,
  ⟨0x1800, 1024, 0x0B, 1, 1, .u16, .obs, .none, false⟩,
  ⟨0x1800, 1024, 0x10, 16, 13, .u8, .obs, .admin, true⟩,
  ⟨0x1800, 1024, 0x11, 16, 13, .u16, .obs, .admin, true⟩,
  ⟨0x1800, 1024, 0x12, 16, 13, .u32, .obs, .admin, true⟩,
  ⟨0x1800, 1024, 0x13, 16, 13, .u8, .obs, .admin, true⟩,
  ⟨0x1800, 1024, 0x14, 16, 13, .u32, .obs, .admin, true⟩,
  ⟨0x1800, 1024, 0x15, 16, 13, .u32, .obs, .admin, true⟩,
  ⟨0x1800, 1024, 0x16, 16, 13, .u32, .obs, .none, false⟩,
  ⟨0x1800, 1024, 0x17, 16, 13, .u32, .obs, .none, false⟩,
  ⟨0x1800, 1024, 0x18, 16, 13, .i64, .obs, .none, false⟩,
  ⟨0x1800, 1024, 0x19, 16, 13, .u64, .obs, .none, false⟩,
  ⟨0x1800, 1024, 0x1A, 16, 13, .u64, .obs, .none, false⟩,
  ⟨0x1800, 1024, 0x1B, 16, 13, .u64, .obs, .none, false⟩,
  ⟨0x1800, 1024, 0x1C, 16, 13, .u64, .obs, .none, false⟩,
  ⟨0x3100, 32, 0x01, 1, 1, .bulk, (.operG 2), .admin, false⟩,
  ⟨0x3120, 32, 0x01, 1, 1, .bulk, (.operG 2), .none, false⟩,
  ⟨0x3140, 1, 0x01, 1, 1, .bulk, (.operG 2), .admin, false⟩]

/-- Object rows of chapter 12, part 2. -/
def descs12b : List Desc := [
  ⟨0x3141, 1, 0x01, 1, 1, .bulk, (.operG 2), .none, false⟩]

/-- Object rows of chapter 13, part 1. -/
def descs13a : List Desc := [
  ⟨0x0700, 1, 0x01, 1, 1, (.octets 288), (.operG 0), .none, false⟩,
  ⟨0x0700, 1, 0x02, 1, 1, .u16, (.operG 0), .none, false⟩,
  ⟨0x0700, 1, 0x03, 1, 1, .u64, (.operG 0), .none, false⟩,
  ⟨0x0700, 1, 0x04, 1, 1, (.octets 3), (.operG 0), .admin, true⟩,
  ⟨0x0700, 1, 0x05, 1, 1, .u16, (.operG 0), .admin, true⟩,
  ⟨0x0700, 1, 0x06, 1, 1, .u32, (.operG 0), .admin, true⟩,
  ⟨0x0700, 1, 0x07, 1, 1, .u64, (.operG 0), .none, false⟩,
  ⟨0x0700, 1, 0x08, 1, 1, .u64, (.operG 0), .none, false⟩,
  ⟨0x0708, 8, 0x01, 1, 1, .bool, (.operG 0), .oper, true⟩,
  ⟨0x0708, 8, 0x02, 1, 1, .u32, (.operG 0), .oper, true⟩,
  ⟨0x0708, 8, 0x03, 1, 1, .u8, (.operG 0), .oper, true⟩,
  ⟨0x0708, 8, 0x04, 1, 1, .u16, (.operG 0), .oper, true⟩,
  ⟨0x0708, 8, 0x05, 1, 1, .bool, (.operG 0), .oper, true⟩,
  ⟨0x0708, 8, 0x06, 1, 1, .u64, (.operG 0), .none, false⟩,
  ⟨0x0708, 8, 0x07, 1, 1, .u64, (.operG 0), .none, false⟩,
  ⟨0x0708, 8, 0x08, 1, 1, .u64, (.operG 0), .none, false⟩,
  ⟨0x0708, 8, 0x09, 1, 1, .u64, (.operG 0), .none, false⟩,
  ⟨0x0708, 8, 0x0A, 1, 1, .u64, (.operG 0), .none, false⟩,
  ⟨0x0710, 1, 0x01, 1, 1, .u16, (.operG 0), (.operG 0), false⟩,
  ⟨0x0711, 1, 0x01, 1, 1, .u8, (.operG 0), .none, false⟩,
  ⟨0x0711, 1, 0x02, 1, 1, .u16, (.operG 0), .none, false⟩,
  ⟨0x0711, 1, 0x03, 1, 1, .u64, (.operG 0), .none, false⟩,
  ⟨0x0711, 1, 0x04, 8, 1, (.octets 20), (.operG 0), .oper, false⟩,
  ⟨0x0711, 1, 0x0C, 8, 1, .u64, (.operG 0), .none, false⟩,
  ⟨0x0711, 1, 0x14, 1, 1, .start, (.operG 0), .oper, false⟩,
  ⟨0x0718, 1, 0x01, 1, 1, .u64, (.operG 0), .oper, false⟩,
  ⟨0x0718, 1, 0x02, 1, 1, .start, (.operG 0), .oper, false⟩,
  ⟨0x0718, 1, 0x03, 1, 1, .u32, (.operG 0), .oper, true⟩,
  ⟨0x0718, 1, 0x04, 1, 1, .u64, (.operG 0), .none, false⟩,
  ⟨0x0718, 1, 0x05, 1, 1, .u64, (.operG 0), .none, false⟩,
  ⟨0x0718, 1, 0x06, 1, 1, .u64, (.operG 0), .none, false⟩,
  ⟨0x0720, 4, 0x01, 1, 1, .bool, (.operG 0), .admin, true⟩,
  ⟨0x0720, 4, 0x02, 1, 1, .u16, (.operG 0), .admin, true⟩,
  ⟨0x0720, 4, 0x03, 1, 1, .u8, (.operG 0), .admin, true⟩,
  ⟨0x0720, 4, 0x04, 1, 1, .u8, (.operG 0), .admin, true⟩,
  ⟨0x0720, 4, 0x05, 1, 1, .bool, (.operG 0), .admin, true⟩,
  ⟨0x0720, 4, 0x06, 1, 1, .u8, (.operG 0), .admin, true⟩,
  ⟨0x0720, 4, 0x07, 1, 1, .u8, (.operG 0), .admin, true⟩,
  ⟨0x0720, 4, 0x08, 1, 1, (.octets 128), (.operG 0), .admin, true⟩,
  ⟨0x0720, 4, 0x09, 1, 1, .u16, (.operG 0), .admin, true⟩]

/-- Object rows of chapter 13, part 2. -/
def descs13b : List Desc := [
  ⟨0x0720, 4, 0x0A, 1, 1, .u64, (.operG 0), .none, false⟩,
  ⟨0x0720, 4, 0x0B, 1, 1, .u64, (.operG 0), .none, false⟩,
  ⟨0x0720, 4, 0x0C, 1, 1, .u64, (.operG 0), .none, false⟩,
  ⟨0x3700, 1, 0x01, 1, 1, .bulk, (.operG 2), .none, false⟩]

/-- Object rows of chapter 14, part 1. -/
def descs14a : List Desc := [
  ⟨0x0600, 1, 0x01, 1, 1, (.octets 12), .obs, .none, false⟩,
  ⟨0x0600, 1, 0x02, 1, 1, (.octets 48), .obs, .none, false⟩,
  ⟨0x0600, 1, 0x03, 1, 1, .u8, .obs, .admin, true⟩,
  ⟨0x0600, 1, 0x04, 1, 1, .bool, .obs, .admin, true⟩,
  ⟨0x0600, 1, 0x05, 1, 1, .u32, .obs, .admin, true⟩,
  ⟨0x0600, 1, 0x06, 1, 1, .u32, .obs, .admin, true⟩,
  ⟨0x0600, 1, 0x07, 1, 1, .bool, .obs, .admin, false⟩,
  ⟨0x0600, 1, 0x08, 1, 1, .u8, .obs, .none, false⟩,
  ⟨0x0600, 1, 0x09, 1, 1, .i64, .obs, .none, false⟩,
  ⟨0x0600, 1, 0x0A, 1, 1, .u32, .obs, .none, false⟩,
  ⟨0x0600, 1, 0x0B, 1, 1, .t96, .obs, .none, false⟩,
  ⟨0x0600, 1, 0x0C, 1, 1, (.octets 48), .obs, .none, false⟩,
  ⟨0x0600, 1, 0x0D, 1, 1, .u16, .obs, .none, false⟩,
  ⟨0x0600, 1, 0x0E, 1, 1, .u32, .obs, .none, false⟩,
  ⟨0x0600, 1, 0x0F, 1, 1, .u8, .obs, .none, false⟩,
  ⟨0x0610, 2, 0x01, 1, 1, .u8, .obs, .admin, true⟩,
  ⟨0x0610, 2, 0x02, 1, 1, .u8, .obs, .none, false⟩,
  ⟨0x0610, 2, 0x03, 1, 1, .t96, .obs, .none, false⟩,
  ⟨0x0610, 2, 0x04, 1, 1, (.octets 12), .obs, .none, false⟩,
  ⟨0x0610, 2, 0x05, 1, 1, (.octets 12), .obs, .none, false⟩,
  ⟨0x0610, 2, 0x06, 1, 1, .i64, .obs, .admin, false⟩,
  ⟨0x0610, 2, 0x07, 1, 1, .t96, .obs, .admin, false⟩,
  ⟨0x0610, 2, 0x08, 1, 1, .i64, .obs, .admin, false⟩,
  ⟨0x0610, 2, 0x09, 1, 1, .u8, .obs, .admin, true⟩,
  ⟨0x0610, 2, 0x0A, 1, 1, .u32, .obs, .admin, true⟩,
  ⟨0x0610, 2, 0x0B, 1, 1, .u32, .obs, .admin, true⟩,
  ⟨0x0610, 2, 0x0C, 1, 1, .u32, .obs, .admin, true⟩,
  ⟨0x0610, 2, 0x0D, 1, 1, .i64, .obs, .none, false⟩,
  ⟨0x0610, 2, 0x0E, 1, 1, .i64, .obs, .none, false⟩,
  ⟨0x0610, 2, 0x0F, 1, 1, .u32, .obs, .none, false⟩,
  ⟨0x0610, 2, 0x10, 1, 1, .u32, .obs, .none, false⟩,
  ⟨0x0610, 2, 0x11, 1, 1, .u32, .obs, .none, false⟩,
  ⟨0x0610, 2, 0x12, 1, 1, .u32, .obs, .none, false⟩,
  ⟨0x0620, 16, 0x01, 1, 1, .u8, .obs, .admin, true⟩,
  ⟨0x0620, 16, 0x02, 1, 1, .t96, .obs, .admin, true⟩,
  ⟨0x0620, 16, 0x03, 1, 1, .t96, .obs, .admin, true⟩,
  ⟨0x0620, 16, 0x04, 1, 1, .u32, .obs, .admin, true⟩,
  ⟨0x0620, 16, 0x05, 1, 1, .i32, .obs, .admin, true⟩,
  ⟨0x0620, 16, 0x06, 1, 1, .u8, .obs, .none, false⟩,
  ⟨0x0620, 16, 0x07, 1, 1, .t96, .obs, .none, false⟩]

/-- Object rows of chapter 14, part 2. -/
def descs14b : List Desc := [
  ⟨0x0620, 16, 0x08, 1, 1, .u64, .obs, .none, false⟩,
  ⟨0x0620, 16, 0x09, 1, 1, .u32, .obs, .none, false⟩,
  ⟨0x0630, 16, 0x01, 1, 1, .u8, .obs, .admin, true⟩,
  ⟨0x0630, 16, 0x02, 1, 1, .u32, .obs, .admin, true⟩,
  ⟨0x0630, 16, 0x03, 1, 1, .i32, .obs, .admin, true⟩,
  ⟨0x0630, 16, 0x04, 1, 1, .bool, .obs, .admin, true⟩,
  ⟨0x0630, 16, 0x05, 1, 1, (.octets 48), .obs, .none, false⟩,
  ⟨0x0630, 16, 0x06, 1, 1, .u64, .obs, .none, false⟩,
  ⟨0x0630, 16, 0x07, 1, 1, .u32, .obs, .none, false⟩]

/-- Object rows of chapter 15, part 1. -/
def descs15a : List Desc := [
  ⟨0x0680, 1, 0x01, 1, 1, .bool, .obs, .admin, true⟩,
  ⟨0x0680, 1, 0x02, 1, 1, (.octets 8), .obs, .none, false⟩,
  ⟨0x0680, 1, 0x03, 1, 1, .u32, .obs, .admin, true⟩,
  ⟨0x0680, 1, 0x04, 1, 1, .u64, .obs, .none, false⟩,
  ⟨0x0680, 1, 0x05, 1, 1, .u64, .obs, .none, false⟩,
  ⟨0x0680, 1, 0x06, 1, 1, .u64, .obs, .none, false⟩,
  ⟨0x0680, 1, 0x07, 1, 1, .u64, .obs, .none, false⟩,
  ⟨0x0680, 1, 0x08, 1, 1, .u64, .obs, .none, false⟩,
  ⟨0x0680, 1, 0x09, 1, 1, .u64, .obs, .none, false⟩,
  ⟨0x0680, 1, 0x0A, 1, 1, .u64, .obs, .none, false⟩,
  ⟨0x0680, 1, 0x0B, 1, 1, .u64, .obs, .none, false⟩,
  ⟨0x0681, 1, 0x01, 8, 1, (.octets 8), .obs, .admin, true⟩,
  ⟨0x0690, 2, 0x01, 1, 1, .bool, .obs, .admin, true⟩,
  ⟨0x0690, 2, 0x02, 1, 1, .u8, .obs, .admin, true⟩,
  ⟨0x0690, 2, 0x03, 1, 1, .u8, .obs, .admin, true⟩,
  ⟨0x0690, 2, 0x04, 1, 1, .u8, .obs, .admin, true⟩,
  ⟨0x0690, 2, 0x05, 1, 1, .u8, .obs, .admin, true⟩,
  ⟨0x0690, 2, 0x06, 1, 1, .u8, .obs, .admin, true⟩,
  ⟨0x0690, 2, 0x07, 1, 1, .i32, .obs, .admin, true⟩,
  ⟨0x0690, 2, 0x08, 1, 1, .i32, .obs, .admin, true⟩,
  ⟨0x0690, 2, 0x09, 1, 1, .i32, .obs, .admin, true⟩,
  ⟨0x0690, 2, 0x0A, 1, 1, .u8, .obs, .admin, true⟩,
  ⟨0x0690, 2, 0x0B, 1, 1, .u8, .obs, .admin, true⟩,
  ⟨0x0690, 2, 0x0C, 1, 1, .u8, .obs, .admin, true⟩,
  ⟨0x0690, 2, 0x0D, 1, 1, .u32, .obs, .admin, true⟩,
  ⟨0x0690, 2, 0x0E, 1, 1, .u8, .obs, .admin, true⟩,
  ⟨0x0690, 2, 0x0F, 1, 1, .u8, .obs, .none, false⟩,
  ⟨0x0690, 2, 0x10, 1, 1, (.octets 8), .obs, .none, false⟩,
  ⟨0x0690, 2, 0x11, 1, 1, (.octets 10), .obs, .none, false⟩,
  ⟨0x0690, 2, 0x12, 1, 1, .u16, .obs, .none, false⟩,
  ⟨0x0690, 2, 0x13, 1, 1, .i64, .obs, .none, false⟩,
  ⟨0x3600, 1, 0x01, 1, 1, .bulk, (.operG 2), .none, false⟩,
  ⟨0x3601, 1, 0x01, 1, 1, .bulk, (.operG 2), .admin, false⟩,
  ⟨0x3602, 1, 0x01, 1, 1, .bulk, (.operG 2), .none, false⟩]

/-- Object rows of chapter 16, part 1. -/
def descs16a : List Desc := [
  ⟨0x0500, 1, 0x01, 1, 1, .u8, .obs, .none, false⟩,
  ⟨0x0500, 1, 0x02, 1, 1, .u32, .obs, .none, false⟩,
  ⟨0x0500, 1, 0x03, 1, 1, .u16, .obs, .none, false⟩,
  ⟨0x0500, 1, 0x04, 1, 1, .u16, .obs, .none, false⟩,
  ⟨0x0500, 1, 0x05, 1, 1, .u32, .obs, .none, false⟩,
  ⟨0x0500, 1, 0x06, 1, 1, .start, .admin, .admin, false⟩,
  ⟨0x0500, 1, 0x07, 1, 1, .start, .admin, .admin, false⟩,
  ⟨0x0500, 1, 0x08, 1, 1, .start, .admin, .admin, false⟩,
  ⟨0x0500, 1, 0x09, 1, 1, .u64, .obs, .none, false⟩,
  ⟨0x0500, 1, 0x0A, 1, 1, .u64, .obs, .none, false⟩,
  ⟨0x0500, 1, 0x0B, 1, 1, .u16, .obs, .none, false⟩,
  ⟨0x0500, 1, 0x0C, 1, 1, .u32, .obs, .none, false⟩,
  ⟨0x0500, 1, 0x0D, 1, 1, .u64, .obs, .none, false⟩,
  ⟨0x0500, 1, 0x0E, 1, 1, .u32, .obs, .none, false⟩,
  ⟨0x0510, 16, 0x01, 1, 1, .u8, .obs, .none, false⟩,
  ⟨0x0510, 16, 0x02, 1, 1, .u8, .obs, .none, false⟩,
  ⟨0x0510, 16, 0x03, 1, 1, .u32, .obs, .none, false⟩,
  ⟨0x0510, 16, 0x04, 1, 1, .u64, .obs, .none, false⟩,
  ⟨0x0510, 16, 0x05, 1, 1, .u32, .obs, .none, false⟩,
  ⟨0x0510, 16, 0x06, 1, 1, .u32, .obs, .none, false⟩,
  ⟨0x0530, 7, 0x01, 1, 1, .u32, .obs, .none, false⟩,
  ⟨0x0530, 7, 0x02, 1, 1, .u8, .obs, .none, false⟩,
  ⟨0x0530, 7, 0x03, 1, 1, .u32, .obs, .none, false⟩,
  ⟨0x0530, 7, 0x04, 1, 1, .u32, .obs, .none, false⟩,
  ⟨0x0530, 7, 0x05, 1, 1, .u32, .obs, .none, false⟩,
  ⟨0x0530, 7, 0x06, 1, 1, .u32, .obs, .none, false⟩,
  ⟨0x0530, 7, 0x07, 1, 1, .u64, .obs, .none, false⟩,
  ⟨0x3500, 1, 0x01, 1, 1, .bulk, .admin, .admin, false⟩,
  ⟨0x3501, 1, 0x01, 1, 1, .bulk, .admin, .none, false⟩]

/-- Object rows of chapter 17, part 1. -/
def descs17a : List Desc := [
  ⟨0x0480, 14, 0x01, 1, 1, .u64, .obs, .none, false⟩,
  ⟨0x0480, 14, 0x02, 1, 1, .u64, .obs, .none, false⟩,
  ⟨0x0480, 14, 0x03, 1, 1, .u32, .obs, .none, false⟩,
  ⟨0x0480, 14, 0x04, 1, 1, .u32, .obs, .none, false⟩,
  ⟨0x0480, 14, 0x05, 1, 1, (.octets 32), .obs, .none, false⟩,
  ⟨0x0480, 14, 0x06, 1, 1, .u64, .obs, .none, false⟩,
  ⟨0x0480, 14, 0x07, 1, 1, .u64, .obs, .none, false⟩,
  ⟨0x0490, 1, 0x01, 1, 1, .u8, .obs, .none, false⟩,
  ⟨0x0490, 1, 0x02, 1, 1, .u16, .obs, .none, false⟩,
  ⟨0x0490, 1, 0x03, 1, 1, .u32, .obs, .none, false⟩,
  ⟨0x0490, 1, 0x04, 1, 1, .u32, .obs, .none, false⟩,
  ⟨0x0490, 1, 0x05, 1, 1, (.octets 32), .obs, .none, false⟩,
  ⟨0x0491, 1, 0x01, 1, 1, .bool, .cust, .cust, false⟩,
  ⟨0x0491, 1, 0x02, 1, 1, .u8, .cust, .cust, false⟩,
  ⟨0x0491, 1, 0x03, 1, 1, .u16, .cust, .cust, false⟩,
  ⟨0x0491, 1, 0x04, 1, 1, .u32, .cust, .cust, false⟩,
  ⟨0x0491, 1, 0x05, 1, 1, (.octets 16), .cust, .cust, false⟩,
  ⟨0x0491, 1, 0x06, 1, 1, .u8, .cust, .cust, false⟩,
  ⟨0x0491, 1, 0x07, 1, 1, .start, .cust, .cust, false⟩,
  ⟨0x0491, 1, 0x08, 1, 1, .start, .cust, .cust, false⟩,
  ⟨0x0491, 1, 0x09, 1, 1, .u16, .cust, .none, false⟩,
  ⟨0x0491, 1, 0x0A, 1, 1, .u8, .cust, .none, false⟩]

/-- Object rows of chapter 18, part 1. -/
def descs18a : List Desc := [
  ⟨0x0400, 1, 0x01, 1, 1, .u8, .obs, .none, false⟩,
  ⟨0x0400, 1, 0x02, 1, 1, .u16, .obs, .none, false⟩,
  ⟨0x0400, 1, 0x03, 1, 1, .u16, .obs, .none, false⟩,
  ⟨0x0400, 1, 0x04, 1, 1, (.octets 32), .obs, .none, false⟩,
  ⟨0x0400, 1, 0x05, 1, 1, .u16, .obs, .none, false⟩,
  ⟨0x0400, 1, 0x06, 1, 1, .u32, .obs, .none, false⟩,
  ⟨0x0400, 1, 0x07, 1, 1, .u64, .obs, .none, false⟩,
  ⟨0x0400, 1, 0x08, 1, 1, .u16, .obs, .admin, false⟩,
  ⟨0x0400, 1, 0x09, 1, 1, .start, .admin, .admin, false⟩,
  ⟨0x0400, 1, 0x0A, 1, 1, .start, .cust, .cust, false⟩,
  ⟨0x0400, 1, 0x0B, 1, 1, .u8, .obs, .none, false⟩,
  ⟨0x0400, 1, 0x0C, 1, 1, .u32, .obs, .none, false⟩,
  ⟨0x0420, 1, 0x01, 1, 1, .u8, .obs, .admin, false⟩,
  ⟨0x0420, 1, 0x02, 1, 1, .u32, .obs, .admin, false⟩,
  ⟨0x0420, 1, 0x03, 1, 1, .u8, .obs, .admin, false⟩,
  ⟨0x0420, 1, 0x04, 1, 1, .u8, .obs, .admin, false⟩,
  ⟨0x0420, 1, 0x05, 1, 1, .u8, .obs, .admin, false⟩,
  ⟨0x0420, 1, 0x06, 1, 1, .u16, .obs, .admin, false⟩,
  ⟨0x0420, 1, 0x07, 1, 1, .bool, .obs, .admin, false⟩,
  ⟨0x0420, 1, 0x08, 1, 1, .start, .admin, .admin, false⟩,
  ⟨0x0420, 1, 0x09, 1, 1, .u16, .obs, .none, false⟩,
  ⟨0x0420, 1, 0x0A, 1, 1, .u32, .obs, .none, false⟩,
  ⟨0x0420, 1, 0x0B, 1, 1, .u32, .obs, .none, false⟩,
  ⟨0x3400, 1, 0x01, 1, 1, .bulk, (.operG 2), .none, false⟩,
  ⟨0x3401, 1, 0x01, 1, 1, .bulk, (.operG 2), .admin, false⟩]

/-- Object rows of chapter 19, part 1. -/
def descs19a : List Desc := [
  ⟨0x0310, 1, 0x01, 1, 1, .u8, .obs, .none, false⟩,
  ⟨0x0310, 1, 0x02, 1, 1, .u32, .obs, .none, false⟩,
  ⟨0x0310, 1, 0x03, 1, 1, .u8, .obs, .admin, true⟩,
  ⟨0x0310, 1, 0x04, 1, 1, .u16, .obs, .admin, true⟩,
  ⟨0x0310, 1, 0x05, 1, 1, .i32, .obs, .none, false⟩,
  ⟨0x0310, 1, 0x06, 1, 1, .start, .admin, .admin, false⟩,
  ⟨0x0310, 1, 0x07, 1, 1, .u32, .obs, .none, false⟩,
  ⟨0x0310, 1, 0x08, 1, 1, .u8, .obs, .none, false⟩,
  ⟨0x0318, 5, 0x01, 1, 1, .u8, .obs, .none, false⟩,
  ⟨0x0318, 5, 0x02, 1, 1, .u16, .obs, .none, false⟩,
  ⟨0x0318, 5, 0x03, 1, 1, .u16, .obs, .none, false⟩,
  ⟨0x0318, 5, 0x04, 1, 1, .u32, .obs, .none, false⟩,
  ⟨0x0318, 5, 0x05, 1, 1, .u16, .obs, .none, false⟩,
  ⟨0x0318, 5, 0x06, 1, 1, .u32, .obs, .none, false⟩,
  ⟨0x0318, 5, 0x07, 1, 1, .i32, .obs, .none, false⟩,
  ⟨0x0320, 1, 0x01, 1, 1, (.octets 16), .obs, .admin, true⟩,
  ⟨0x0320, 1, 0x02, 1, 1, .u32, .obs, .admin, true⟩,
  ⟨0x0320, 1, 0x03, 1, 1, .u8, .obs, .admin, true⟩,
  ⟨0x0320, 1, 0x04, 1, 1, .u32, .obs, .none, false⟩,
  ⟨0x0330, 1, 0x01, 1, 1, .i32, .obs, .none, false⟩,
  ⟨0x0330, 1, 0x02, 1, 1, .u8, .obs, .none, false⟩,
  ⟨0x0340, 64, 0x01, 1, 1, .i32, .obs, .none, false⟩,
  ⟨0x0340, 64, 0x02, 1, 1, .i32, .obs, .none, false⟩,
  ⟨0x0340, 64, 0x03, 1, 1, .i32, .obs, .admin, true⟩,
  ⟨0x0340, 64, 0x04, 1, 1, .u8, .obs, .none, false⟩]

/-- The object rows that can hold an index, by range of the index map (R135). -/
def descsOf (idx : Nat) : List Desc :=
  if 0x0000 ≤ idx ∧ idx < 0x0100 then descs05a
  else if 0x0100 ≤ idx ∧ idx < 0x0200 then descs04a ++ descs05a ++ descs06a
  else if 0x0200 ≤ idx ∧ idx < 0x0300 then descs03a
  else if 0x0300 ≤ idx ∧ idx < 0x0400 then descs03a ++ descs19a
  else if 0x0400 ≤ idx ∧ idx < 0x0500 then descs17a ++ descs18a
  else if 0x0500 ≤ idx ∧ idx < 0x0600 then descs16a
  else if 0x0600 ≤ idx ∧ idx < 0x0700 then descs14a ++ descs14b ++ descs15a
  else if 0x0700 ≤ idx ∧ idx < 0x0800 then descs13a ++ descs13b
  else if 0x0800 ≤ idx ∧ idx < 0x0900 then descs11a ++ descs11b
  else if 0x0900 ≤ idx ∧ idx < 0x0A00 then descs12a ++ descs12b
  else if 0x0A00 ≤ idx ∧ idx < 0x0B00 then descs10a ++ descs10b
  else if 0x0B00 ≤ idx ∧ idx < 0x0C00 then descs09a
  else if 0x1000 ≤ idx ∧ idx < 0x1400 then descs07a ++ descs07b
  else if 0x1400 ≤ idx ∧ idx < 0x1800 then descs08a ++ descs08b
  else if 0x1800 ≤ idx ∧ idx < 0x1C00 then descs12a ++ descs12b
  else if 0x1C00 ≤ idx ∧ idx < 0x2000 then descs08a ++ descs08b
  else if 0x2000 ≤ idx ∧ idx < 0x2100 then descs09a
  else if 0x2100 ≤ idx ∧ idx < 0x2200 then descs10a ++ descs10b
  else if 0x2200 ≤ idx ∧ idx < 0x2300 then descs07a ++ descs07b
  else if 0x3000 ≤ idx ∧ idx < 0x3100 then descs10a ++ descs10b ++ descs11a ++ descs11b
  else if 0x3100 ≤ idx ∧ idx < 0x3200 then descs12a ++ descs12b
  else if 0x3400 ≤ idx ∧ idx < 0x3500 then descs18a
  else if 0x3500 ≤ idx ∧ idx < 0x3600 then descs16a
  else if 0x3600 ≤ idx ∧ idx < 0x3700 then descs15a
  else if 0x3700 ≤ idx ∧ idx < 0x3800 then descs13a ++ descs13b
  else if 0x3B00 ≤ idx ∧ idx < 0x3C00 then descs09a
  else if 0x3F00 ≤ idx ∧ idx < 0x4000 then descs07a ++ descs07b
  else []

/-- Does a row hold (idx, sub)? -/
def Desc.holds (d : Desc) (idx sub : Nat) : Bool :=
  decide (d.base ≤ idx) && decide (idx < d.base + d.count) && decide (d.sub ≤ sub) &&
  decide ((sub - d.sub) % d.step = 0) && decide ((sub - d.sub) / d.step < d.subs)

/-- The row of a subindex, none where it is absent (R121); subindex 0x00 is answered by `maxSub`. -/
def descOf (idx sub : Nat) : Option Desc := (descsOf idx).find? (·.holds idx sub)

/-- Highest subindexes, part 1: first index, instances, highest subindex, Read right of subindex 0x00. -/
def maxSubsa : List (Nat × Nat × Nat × Right) := [
  (0x0000, 1, 0x08, .obs),
  (0x0001, 1, 0x0B, .obs),
  (0x0010, 1, 0x06, .obs),
  (0x0100, 1, 0x0D, .obs),
  (0x0110, 16, 0x0B, .own),
  (0x0120, 1, 0x10, .obs),
  (0x0140, 1, 0x06, .obs),
  (0x0150, 16, 0x0B, .obs),
  (0x0160, 16, 0x07, .obs),
  (0x0200, 1, 0x07, .obs),
  (0x0201, 1, 0x03, .obs),
  (0x0202, 1, 0x02, .obs),
  (0x0203, 1, 0x06, .obs),
  (0x0300, 1, 0x08, .obs),
  (0x0310, 1, 0x08, .obs),
  (0x0318, 5, 0x07, .obs),
  (0x0320, 1, 0x04, .obs),
  (0x0330, 1, 0x02, .obs),
  (0x0340, 64, 0x04, .obs),
  (0x0400, 1, 0x0C, .obs),
  (0x0420, 1, 0x0B, .obs),
  (0x0480, 14, 0x07, .obs),
  (0x0490, 1, 0x05, .obs),
  (0x0491, 1, 0x0A, .cust),
  (0x0500, 1, 0x0E, .obs),
  (0x0510, 16, 0x06, .obs),
  (0x0530, 7, 0x07, .obs),
  (0x0600, 1, 0x0F, .obs),
  (0x0610, 2, 0x12, .obs),
  (0x0620, 16, 0x09, .obs),
  (0x0630, 16, 0x07, .obs),
  (0x0680, 1, 0x0B, .obs),
  (0x0681, 1, 0x08, .obs),
  (0x0690, 2, 0x13, .obs),
  (0x0700, 1, 0x08, (.operG 0)),
  (0x0708, 8, 0x0A, (.operG 0)),
  (0x0710, 1, 0x01, (.operG 0)),
  (0x0711, 1, 0x14, (.operG 0)),
  (0x0718, 1, 0x06, (.operG 0)),
  (0x0720, 4, 0x0C, (.operG 0))]

/-- Highest subindexes, part 2: first index, instances, highest subindex, Read right of subindex 0x00. -/
def maxSubsb : List (Nat × Nat × Nat × Right) := [
  (0x0800, 1, 0x07, .obs),
  (0x0801, 1, 0x06, .obs),
  (0x0808, 4, 0x0A, .obs),
  (0x0810, 16, 0x03, .obs),
  (0x0820, 1, 0x03, .obs),
  (0x0828, 1, 0x04, .obs),
  (0x0830, 1, 0x07, .obs),
  (0x0838, 1, 0x06, .obs),
  (0x0900, 1, 0x07, .obs),
  (0x0901, 1, 0x02, .obs),
  (0x0980, 128, 0x03, .obs),
  (0x0A00, 1, 0x17, (.operG 1)),
  (0x0A20, 32, 0x0C, (.operG 1)),
  (0x0B00, 1, 0x0D, .oper),
  (0x1000, 1024, 0x24, .obs),
  (0x1400, 1024, 0x1C, .obs),
  (0x1800, 1024, 0xDF, .obs),
  (0x1C00, 1024, 0x1E, .obs),
  (0x2000, 32, 0x0F, .obs),
  (0x2100, 8, 0x0E, .obs),
  (0x2200, 8, 0x11, .obs),
  (0x3000, 1, 0x01, .oper),
  (0x3008, 8, 0x01, .oper),
  (0x3010, 1, 0x01, .oper),
  (0x3018, 8, 0x01, .oper),
  (0x3020, 1, 0x01, .oper),
  (0x3028, 8, 0x01, .oper),
  (0x3030, 8, 0x01, .oper),
  (0x3040, 32, 0x01, .oper),
  (0x3080, 1, 0x01, .oper),
  (0x3081, 1, 0x01, .oper),
  (0x3100, 32, 0x01, .oper),
  (0x3120, 32, 0x01, .oper),
  (0x3140, 1, 0x01, .oper),
  (0x3141, 1, 0x01, .oper),
  (0x3400, 1, 0x01, .oper),
  (0x3401, 1, 0x01, .oper),
  (0x3500, 1, 0x01, .oper),
  (0x3501, 1, 0x01, .oper),
  (0x3600, 1, 0x01, .oper)]

/-- Highest subindexes, part 3: first index, instances, highest subindex, Read right of subindex 0x00. -/
def maxSubsc : List (Nat × Nat × Nat × Right) := [
  (0x3601, 1, 0x01, .oper),
  (0x3602, 1, 0x01, .oper),
  (0x3700, 1, 0x01, .oper),
  (0x3B00, 1, 0x01, .oper),
  (0x3B20, 32, 0x01, .oper),
  (0x3F00, 8, 0x01, .oper)]

/-- Subindex 0x00 of an index: its value and Read right; none for an absent index (R120, R121). -/
def maxSub (idx : Nat) : Option (Nat × Right) :=
  ((maxSubsa ++ maxSubsb ++ maxSubsc).find? fun e => decide (e.1 ≤ idx) && decide (idx < e.1 + e.2.1)).map (·.2.2)

/-- Values after wipe that are not zero, part 1: first index, instances, subindex, subindexes, step, value. -/
def defaultsa : List (Nat × Nat × Nat × Nat × Nat × Nat) := [
  (0x0100, 1, 0x03, 1, 1, 47072),
  (0x0100, 1, 0x05, 1, 1, 3),
  (0x0100, 1, 0x09, 1, 1, 10),
  (0x0000, 1, 0x01, 1, 1, 0x54494c41),
  (0x0000, 1, 0x02, 1, 1, 4132),
  (0x0000, 1, 0x03, 1, 1, 160),
  (0x0000, 1, 0x04, 1, 1, 0x4a5a313032342d413000000000000000),
  (0x0000, 1, 0x06, 1, 1, 0x10000),
  (0x0000, 1, 0x07, 1, 1, 0x10000),
  (0x0010, 1, 0x04, 1, 1, 65535),
  (0x0110, 16, 0x07, 1, 1, 65535),
  (0x0160, 16, 0x05, 1, 1, 0x100000000),
  (0x1000, 1024, 0x05, 1, 1, 0x400000),
  (0x1000, 1024, 0x07, 1, 1, 10),
  (0x1000, 1024, 0x1B, 1, 1, 1),
  (0x1000, 1024, 0x1C, 1, 1, 30),
  (0x1000, 1024, 0x1E, 1, 1, 6),
  (0x2200, 8, 0x0C, 1, 1, 12),
  (0x1400, 1024, 0x02, 1, 1, 255),
  (0x1400, 1024, 0x08, 1, 1, 10),
  (0x1400, 1024, 0x0A, 1, 1, 9216),
  (0x1400, 1024, 0x0C, 1, 1, 34984),
  (0x1400, 1024, 0x0D, 1, 1, 1),
  (0x1400, 1024, 0x0F, 1, 1, 0xfac688),
  (0x1400, 1024, 0x13, 1, 1, 0x3000c003000c003000c003000c000),
  (0x1400, 1024, 0x14, 1, 1, 65535),
  (0x1400, 1024, 0x15, 1, 1, 0x40000000400000004000000040000000400000004000000040000000400000003000000030000000300000003000000030000000300000003000000030000),
  (0x1400, 1024, 0x18, 1, 1, 10000),
  (0x1400, 1024, 0x1C, 1, 1, 1),
  (0x0B00, 1, 0x08, 1, 1, 100),
  (0x0A00, 1, 0x01, 1, 1, 300),
  (0x0A00, 1, 0x04, 1, 1, 0xffffffffffffffffffffffffffffffffffffffffffffffffffffffffffffffffffffffffffffffffffffffffffffffffffffffffffffffffffffffffffffffffffffffffffffffffffffffffffffffffffffffffffffffffffffffffffffffffffffffffffffffffffffffffffffffffffffffffffffffffffffffffffffffff),
  (0x0A00, 1, 0x05, 1, 1, 1),
  (0x0A00, 1, 0x08, 1, 1, 1024),
  (0x0A00, 1, 0x0E, 1, 1, 65535),
  (0x0A00, 1, 0x0F, 1, 1, 65535),
  (0x2100, 8, 0x0C, 1, 1, 255),
  (0x0800, 1, 0x02, 1, 1, 32),
  (0x0800, 1, 0x03, 1, 1, 1024),
  (0x0801, 1, 0x01, 1, 1, 32)]

/-- Values after wipe that are not zero, part 2: first index, instances, subindex, subindexes, step, value. -/
def defaultsb : List (Nat × Nat × Nat × Nat × Nat × Nat) := [
  (0x0801, 1, 0x02, 1, 1, 0x100000),
  (0x0801, 1, 0x03, 1, 1, 0x30000),
  (0x0801, 1, 0x04, 1, 1, 47104),
  (0x0801, 1, 0x05, 1, 1, 20480),
  (0x0810, 16, 0x01, 1, 1, 0x80000000100000000400000002),
  (0x0810, 16, 0x02, 1, 1, 13107),
  (0x0810, 16, 0x03, 1, 1, 7),
  (0x0828, 1, 0x02, 1, 1, 0xbf800),
  (0x0838, 1, 0x01, 1, 1, 64),
  (0x0900, 1, 0x01, 1, 1, 1000),
  (0x0981, 127, 0x01, 1, 1, 0x989680),
  (0x1800, 1024, 0x11, 16, 13, 1),
  (0x1800, 1024, 0x12, 16, 13, 10296),
  (0x0700, 1, 0x04, 1, 1, 0xffffff),
  (0x0700, 1, 0x05, 1, 1, 8192),
  (0x0700, 1, 0x06, 1, 1, 100),
  (0x0708, 8, 0x02, 1, 1, 1024),
  (0x0708, 8, 0x04, 1, 1, 128),
  (0x0720, 4, 0x04, 1, 1, 1),
  (0x0720, 4, 0x05, 1, 1, 1),
  (0x0720, 4, 0x06, 1, 1, 42),
  (0x0720, 4, 0x07, 1, 1, 14),
  (0x0720, 4, 0x09, 1, 1, 1440),
  (0x0600, 1, 0x04, 1, 1, 1),
  (0x0600, 1, 0x05, 1, 1, 20000),
  (0x0600, 1, 0x06, 1, 1, 10000),
  (0x0610, 2, 0x0A, 1, 1, 100),
  (0x0610, 2, 0x0B, 1, 1, 1000),
  (0x0610, 2, 0x0C, 1, 1, 50),
  (0x0620, 16, 0x03, 1, 1, 0x1000000000000),
  (0x0620, 16, 0x04, 1, 1, 0x5f5e100),
  (0x0630, 16, 0x02, 1, 1, 1),
  (0x0630, 16, 0x04, 1, 1, 1),
  (0x0680, 1, 0x03, 1, 1, 500),
  (0x0681, 1, 0x01, 8, 1, 0xff000000000000),
  (0x0690, 2, 0x04, 1, 1, 128),
  (0x0690, 2, 0x05, 1, 1, 128),
  (0x0690, 2, 0x07, 1, 1, 0xfffffffc),
  (0x0690, 2, 0x08, 1, 1, 0xfffffffc),
  (0x0690, 2, 0x09, 1, 1, 0xfffffffd)]

/-- Values after wipe that are not zero, part 3: first index, instances, subindex, subindexes, step, value. -/
def defaultsc : List (Nat × Nat × Nat × Nat × Nat × Nat) := [
  (0x0690, 2, 0x0A, 1, 1, 3),
  (0x0690, 2, 0x0B, 1, 1, 15),
  (0x0690, 2, 0x0D, 1, 1, 600),
  (0x0690, 2, 0x0E, 1, 1, 248),
  (0x0690, 2, 0x0F, 1, 1, 248),
  (0x0690, 2, 0x12, 1, 1, 65535),
  (0x0491, 1, 0x02, 1, 1, 3),
  (0x0400, 1, 0x08, 1, 1, 65535),
  (0x0420, 1, 0x03, 1, 1, 1),
  (0x0420, 1, 0x06, 1, 1, 1),
  (0x0310, 1, 0x04, 1, 1, 800),
  (0x0340, 64, 0x03, 1, 1, 1000)]

/-- The value after wipe of the object with a key (index × 256 + subindex), R132. -/
def dictDefault (key : Nat) : Nat :=
  let idx := key / 256
  let sub := key % 256
  if 0x0690 ≤ idx ∧ idx < 0x0692 ∧ sub = 0x03 then 24 + (idx - 0x0690)
  else if 0x0510 ≤ idx ∧ idx < 0x0520 ∧ sub = 0x03 then idx - 0x0510
  else if 0x1800 ≤ idx ∧ idx < 0x1C00 ∧ (sub = 0x10 + 13 * 14 ∨ sub = 0x10 + 13 * 15) then 1
  else
    match (defaultsa ++ defaultsb ++ defaultsc).find? fun e =>
        decide (e.1 ≤ idx) && decide (idx < e.1 + e.2.1) && decide (e.2.2.1 ≤ sub) &&
        decide ((sub - e.2.2.1) % e.2.2.2.2.1 = 0) && decide ((sub - e.2.2.1) / e.2.2.2.2.1 < e.2.2.2.1) with
    | some e => e.2.2.2.2.2
    | none => 0

/-- Bytes a value of a type has on the wire (R107). -/
def OType.len : OType → Nat
  | .bool => 1 | .u8 => 1 | .u16 => 2 | .u32 => 4 | .u64 => 8 | .i32 => 4 | .i64 => 8 | .t96 => 12
  | .octets n => n | .bulk => 0 | .start => 8

/-- The TYPE code of a type (R107). -/
def OType.code : OType → Nat
  | .bool => 0x01 | .u8 => 0x02 | .u16 => 0x03 | .u32 => 0x04 | .u64 => 0x05 | .i32 => 0x06 | .i64 => 0x07 | .t96 => 0x08
  | .octets _ => 0x09 | .bulk => 0x0A | .start => 0x0B

end Sys2Proof.Machine
end

