-- ==== Sys2Proof/Machine/PipeCore.lean ====
section
/-! DEFINITION. The packet inside a pipeline: window, header instances, metadata and result slots; the parser graph, the key extractor,
the action ALU, the metadata writer and the window edits (R241–R258, R530). Nothing here touches the device's state. -/

namespace Sys2Proof.Machine
open Sys2Proof

/-- A stage-program image as 256-bit words by word number (R265); unlisted words are zero. -/
abbrev Image := List (Nat × Nat)

/-- The packet in a pipeline. `mark1`, `mark2`, `mark3`: window offsets recorded by MARK 1 (with MARK_OFF added), 2 and 3 (R243).
`growth` is the net growth of the window (R258), `overflow` that an INSB was refused. -/
structure Pkt where
  win : Bytes
  inst : List (Option Nat)
  md : Bytes
  slots : List (Nat × Bool)
  mark1 : Option Nat
  mark2 : Option Nat
  mark3 : Option Nat
  ipoff : Nat
  growth : Int
  limit : Int
  overflow : Bool
deriving DecidableEq, Repr

/-- What the parser found (R244), and the nodes it read. -/
structure Parse where
  inst : List (Option Nat)
  mark1 : Option Nat
  mark2 : Option Nat
  mark3 : Option Nat
  iplen : Option Nat
  ipoff : Nat
  ecn : Option (Nat × Bool)
  clsI : Option Nat
  clsE : Option Nat
  err : Bool
  nodes : List Nat
deriving DecidableEq, Repr

/-- A parse that has recorded nothing. -/
def Parse.empty : Parse :=
  { inst := List.replicate 12 none, mark1 := none, mark2 := none, mark3 := none, iplen := none, ipoff := 0,
    ecn := none, clsI := none, clsE := none, err := false, nodes := [] }

/-- Parser node `n` of an image (R265). -/
def Image.node (im : Image) (n : Nat) : Nat := smGet 0 im (2 + n)

/-- Ingress stage word (R265). -/
def Image.ingress (im : Image) (stage cls : Nat) : Nat := smGet 0 im (258 + 64 * stage + cls)

/-- Egress stage word (R265). -/
def Image.egress (im : Image) (stage cls : Nat) : Nat := smGet 0 im (1794 + 64 * stage + cls)

/-- The byte at a window offset; zero beyond the window (R244). -/
def winByte (w : Bytes) (i : Nat) : Nat := (listAt 0#8 w i).toNat

/-- The length of the header at `off` by LEN_MODE (R243). -/
def nodeLen (w : Bytes) (off nd : Nat) : Nat :=
  let mode := field nd 250 249
  let fixed := field nd 248 241
  if mode = 2 then 0
  else if mode = 0 then fixed
  else
    let f := (winByte w (off + field nd 240 235) >>> field nd 234 232) % (1 <<< (field nd 231 229 + 1))
    fixed + (f <<< field nd 228 227)

/-- Record the instance and apply MARK, IPLEN, ECN and the classes of a node (R243, R244). -/
def nodeApply (w : Bytes) (off nd : Nat) (p : Parse) : Parse :=
  let inst := field nd 254 251
  let p := if inst = 15 then p else { p with inst := listSet p.inst inst (some off) }
  let mark := field nd 218 217
  let p := if mark = 1 then { p with mark1 := some (off + field nd 216 211) }
    else if mark = 2 then { p with mark2 := some off }
    else if mark = 3 then { p with mark3 := some off } else p
  let ipl := field nd 210 209
  let p := if ipl = 1 then { p with iplen := some (min 65535 (winByte w (off + 2) * 256 + winByte w (off + 3))), ipoff := off }
    else if ipl = 2 then { p with iplen := some (min 65535 (winByte w (off + 4) * 256 + winByte w (off + 5) + 40)), ipoff := off }
    else p
  let e := field nd 208 207
  let p := if e = 1 ∨ e = 2 then { p with ecn := some (if off + 1 > 254 then 0xFF else off + 1, decide (e = 2)) } else p
  let p := if bitOf nd 206 then { p with clsI := some (field nd 205 200) } else p
  if bitOf nd 199 then { p with clsE := some (field nd 198 193) } else p

/-- The next node by the select field (R244); 0 ends the parse. -/
def nodeNext (w : Bytes) (off nd : Nat) : Nat :=
  let width := field nd 220 219
  let dflt := field nd 7 0
  if width = 0 then dflt
  else
    let so := off + field nd 226 221
    let key := if width = 1 then winByte w so else winByte w so * 256 + winByte w (so + 1)
    let t (i : Nat) : Option Nat :=
      let base := 128 - 40 * i
      let value := field nd (base + 39) (base + 24)
      let mask := field nd (base + 23) (base + 8)
      let next := field nd (base + 7) base
      if next ≠ 0 ∧ key &&& mask = value &&& mask then some next else none
    match t 0, t 1, t 2, t 3 with
    | some n, _, _, _ => n
    | none, some n, _, _ => n
    | none, none, some n, _ => n
    | none, none, none, some n => n
    | none, none, none, none => dflt

/-- The parser walk of R244; `fuel` is the nodes left of the 16. -/
def parseWalk (im : Image) (w : Bytes) (fuel node off : Nat) (p : Parse) : Parse :=
  match fuel with
  | 0 => { p with err := true }
  | k + 1 =>
    let nd := im.node node
    let p := { p with nodes := p.nodes ++ [node] }
    if !bitOf nd 255 then p
    else
      let len := nodeLen w off nd
      if off + len > w.length then { p with err := true }
      else
        let p := nodeApply w off nd p
        if field nd 250 249 = 2 then p
        else
          let next := nodeNext w off nd
          if next = 0 then p else parseWalk im w k next (off + len) p

/-- The parse of a window (R244). -/
def parseWindow (im : Image) (w : Bytes) : Parse := parseWalk im w 16 0 0 Parse.empty

/-- Metadata word Mk (R247). -/
def Pkt.m (p : Pkt) (k : Nat) : Nat := u p.md (4 * k) 4

/-- A metadata word written whole. -/
def Pkt.setM (p : Pkt) (k v : Nat) : Pkt := { p with md := patchBytes p.md (4 * k) (beBytes 4 v) }

/-- Field [hi:lo] of a metadata word written. -/
def Pkt.setMField (p : Pkt) (k hi lo v : Nat) : Pkt :=
  let old := p.m k
  let w := hi + 1 - lo
  let v := v % (1 <<< w)
  p.setM k (old - (field old hi lo <<< lo) + (v <<< lo))

/-- DTYPE (R247, R248). -/
def Pkt.dtype (p : Pkt) : Nat := field (p.m 2) 31 30

/-- Set DTYPE and DROP_REASON. -/
def Pkt.drop (p : Pkt) (dtype reason : Nat) : Pkt := (p.setMField 2 31 30 dtype).setMField 3 31 24 reason

/-- A condition of R250. -/
def Pkt.cond (p : Pkt) (c : Nat) : Bool :=
  if c < 12 then (listAt none p.inst c).isSome
  else if c < 16 then (listAt (0, false) p.slots (c - 12)).2
  else if c = 16 then bitOf (p.m 3) 14
  else if c = 17 then bitOf (p.m 3) 13
  else if c = 18 then bitOf (p.m 3) 12
  else if c = 19 then bitOf (p.m 3) 11
  else if c = 20 then decide (field (p.m 3) 7 6 = 1)
  else if c = 21 then decide (field (p.m 3) 7 6 = 2)
  else if c = 22 then decide (winByte p.win 0 % 2 = 1)
  else if c = 23 then bitOf (p.m 1) 16
  else if c < 32 then false
  else bitOf (p.m 4) (c - 32)

/-- The byte at an offset of a source area (R251). -/
def Pkt.srcByte (p : Pkt) (imm src off : Nat) : Nat :=
  if src < 12 then
    match listAt none p.inst src with
    | some o => winByte p.win (o + off)
    | none => 0
  else if src = 12 then (listAt 0#8 p.md off).toNat
  else if src = 13 then ((listAt (0, false) p.slots (off / 16)).1 >>> (8 * (15 - off % 16))) % 256
  else if src = 14 then (if off < 4 then (imm >>> (8 * (3 - off))) % 256 else 0)
  else 0

/-- `n` bytes of a source area as a number, most significant first (R255). -/
def Pkt.srcNat (p : Pkt) (imm src off n : Nat) : Nat :=
  (upTo n).foldl (fun a i => a * 256 + p.srcByte imm src (off + i)) 0

/-- The key bytes of a stage word in segment order (R252). -/
def Pkt.keyBytes (p : Pkt) (w : Nat) : Bytes :=
  let imm := field w 117 86
  ([240, 223, 206, 189].map fun hi =>
    let seg := field w hi (hi - 16)
    let src := field seg 16 13
    if src = 15 then [] else
      (upTo (field seg 4 0)).map fun i => BitVec.ofNat 8 (p.srcByte imm src (field seg 12 5 + i))).flatten

/-- The key a lookup of a table receives (R252). -/
def Pkt.key (p : Pkt) (w : Nat) : Nat :=
  let width := match field w 246 243 with
    | 1 => 20 | 2 => 18 | 3 => 48 | 4 => 144 | 5 => 60 | 6 => 60 | 7 => 13 | _ => 0
  (beNat (p.keyBytes w) >>> field w 172 169) % (1 <<< width)

/-- CRC-32C with an initial value (R530). -/
def crc32c (init : Nat) (l : Bytes) : Nat := crcR 0x82F63B78 init l ^^^ 0xFFFFFFFF

/-- Write bytes at a destination; a write to an absent instance or past the window is discarded (R255). -/
def Pkt.writeBytes (p : Pkt) (dst off : Nat) (x : Bytes) : Pkt :=
  if dst < 12 then
    match listAt none p.inst dst with
    | none => p
    | some o => { p with win := (patchBytes p.win (o + off) (x.take (p.win.length - (o + off)))).take p.win.length }
  else if dst = 12 then { p with md := (patchBytes p.md off x).take 64 }
  else p

/-- Move an offset for `n` bytes inserted at `at_` (R258). -/
def shiftIns (at_ n o : Nat) : Nat := if at_ ≤ o then o + n else o

/-- Move an offset for `n` bytes removed at `at_`; none where its byte is removed (R258). -/
def shiftRem (at_ n o : Nat) : Option Nat := if o < at_ then some o else if o < at_ + n then none else some (o - n)

/-- Insert `x` at a window offset and move every recorded offset (R258). -/
def Pkt.insertAt (p : Pkt) (at_ : Nat) (x : Bytes) : Pkt :=
  let n := x.length
  let p := { p with
    win := p.win.take at_ ++ x ++ p.win.drop at_
    inst := p.inst.map (·.map (shiftIns at_ n))
    mark1 := p.mark1.map (shiftIns at_ n)
    mark2 := p.mark2.map (shiftIns at_ n)
    mark3 := p.mark3.map (shiftIns at_ n)
    growth := p.growth + n }
  let e := field (p.m 3) 23 16
  if e = 0xFF then p else p.setMField 3 23 16 (min 0xFF (shiftIns at_ n e))

/-- Remove `n` bytes at a window offset and move every recorded offset (R258). -/
def Pkt.removeAt (p : Pkt) (at_ n : Nat) : Pkt :=
  let n := min n (p.win.length - at_)
  let p := { p with
    win := p.win.take at_ ++ p.win.drop (at_ + n)
    inst := p.inst.map (·.bind (shiftRem at_ n))
    mark1 := p.mark1.bind (shiftRem at_ n)
    mark2 := p.mark2.bind (shiftRem at_ n)
    mark3 := p.mark3.bind (shiftRem at_ n)
    growth := p.growth - n }
  let e := field (p.m 3) 23 16
  if e = 0xFF then p else p.setMField 3 23 16 ((shiftRem at_ n e).getD 0xFF)

/-- One's-complement sum of 16-bit words (RFC 1071). -/
def onesFold (v : Nat) : Nat :=
  let v := v % 65536 + v / 65536
  let v := v % 65536 + v / 65536
  v % 65536 + v / 65536

/-- The sum of a byte string as big-endian 16-bit words. -/
def onesSum : Bytes → Nat
  | a :: b :: t => a.toNat * 256 + b.toNat + onesSum t
  | [a] => a.toNat * 256
  | [] => 0

/-- The Internet checksum of a byte string. -/
def inetChecksum (l : Bytes) : Nat := 0xFFFF - onesFold (onesSum l)

/-- The incremental checksum of RFC 1624: HC' = ~(~HC + ~m + m'). -/
def rfc1624 (hc m m' : Nat) : Nat := 0xFFFF - onesFold ((0xFFFF - hc) + (0xFFFF - m) + m')

/-- The byte of a destination, as the ALU of DECTTL reads it; none past the window or in an absent instance. -/
def Pkt.dstByte? (p : Pkt) (dst off : Nat) : Option Nat :=
  if dst < 12 then
    match listAt none p.inst dst with
    | none => none
    | some o => if o + off < p.win.length then some (winByte p.win (o + off)) else none
  else if off < 64 then some (p.srcByte 0 dst off) else none

/-- Write a number as W bytes at the stage word's destination. -/
def Pkt.writeD (p : Pkt) (w n v : Nat) : Pkt := p.writeBytes (field w 135 132) (field w 131 124) (beBytes n v)

/-- Set a USER bit (R255). -/
def Pkt.setUser (p : Pkt) (i : Nat) (b : Bool) : Pkt := p.setM 4 (setBit (p.m 4) i b)

/-- INSB (R255, R258). -/
def Pkt.insb (p : Pkt) (w : Nat) : Pkt :=
  let imm := field w 117 86
  let n := field imm 31 24
  let wb := field w 162 160 + 1
  match listAt none p.inst (field w 135 132) with
  | none => p
  | some o =>
    let at_ := o + field w 131 124
    if n = 0 ∨ p.win.length < at_ then p
    else if p.growth + n > p.limit then { p.drop 0 0xFD with overflow := true }
    else
      let a := beBytes wb (p.srcNat imm (field w 159 156) (field w 155 148) wb)
      p.insertAt at_ (padTo n (a.take n))

/-- REMB (R255, R258). -/
def Pkt.remb (p : Pkt) (w : Nat) : Pkt :=
  let n := field (field w 117 86) 31 24
  match listAt none p.inst (field w 135 132) with
  | none => p
  | some o =>
    let at_ := o + field w 131 124
    if n = 0 ∨ p.win.length ≤ at_ then p else p.removeAt at_ n

/-- CSUM4 (R255): the IPv4 header checksum of an instance recomputed over 4 × IHL bytes. -/
def Pkt.csum4 (p : Pkt) (w : Nat) : Pkt :=
  let d := field w 135 132
  match listAt none p.inst d with
  | none => p
  | some o =>
    let n := 4 * (winByte p.win o % 16)
    let h := (upTo n).map fun i => if i = 10 ∨ i = 11 then 0#8 else BitVec.ofNat 8 (winByte p.win (o + i))
    p.writeBytes d 10 (beBytes 2 (inetChecksum h))

/-- DECTTL (R255). -/
def Pkt.decttl (p : Pkt) (w : Nat) : Pkt :=
  let d := field w 135 132
  let off := field w 131 124
  let imm := field w 117 86
  match p.dstByte? d off with
  | none => p
  | some v =>
    if v ≤ 1 then p.drop 3 (field imm 7 0)
    else
      let p1 := p.writeBytes d off [BitVec.ofNat 8 (v - 1)]
      if bitOf imm 8 then
        let lo := p.srcByte 0 d (off + 1)
        let hc := p.srcNat 0 d (off + 2) 2
        p1.writeBytes d (off + 2) (beBytes 2 (rfc1624 hc (v * 256 + lo) ((v - 1) * 256 + lo)))
      else p1

/-- IMM as an operand of W bytes (R255). -/
def immOperand (imm wb : Nat) : Nat := imm % (1 <<< (8 * wb))

/-- The action ALU (R255): the operation of a stage word, its operands read from `r` and its result written into `p`. -/
def Pkt.alu (p r : Pkt) (w : Nat) : Pkt :=
  let imm := field w 117 86
  let wb := field w 162 160 + 1
  let a := r.srcNat imm (field w 159 156) (field w 155 148) wb
  let b := r.srcNat imm (field w 147 144) (field w 143 136) wb
  let sh := field w 123 118
  let md := 1 <<< (8 * wb)
  let i := immOperand imm wb
  let d (v : Nat) : Pkt := p.writeD w wb (v % md)
  match field w 168 163 with
  | 0x01 => d a
  | 0x02 => d i
  | 0x03 => d (a + b)
  | 0x04 => d (a + i)
  | 0x05 => d (a + md - b)
  | 0x06 => d (a + md - i)
  | 0x07 => d (a - i)
  | 0x08 => d (a &&& b)
  | 0x09 => d (a &&& i)
  | 0x0A => d (a ||| b)
  | 0x0B => d (a ||| i)
  | 0x0C => d (a ^^^ b)
  | 0x0D => d (a ^^^ i)
  | 0x0E => d (a <<< sh)
  | 0x0F => d (a >>> sh)
  | 0x10 =>
    let n := field imm 5 0 + 1
    let old := p.srcNat imm (field w 135 132) (field w 131 124) wb
    let hi := sh + n - 1
    d (old - (field old hi sh <<< sh) + ((a % (1 <<< n)) <<< sh))
  | 0x11 => d (min a b)
  | 0x12 => d (max a b)
  | 0x13 => d (crc32c imm (r.keyBytes w))
  | 0x14 => d (a + (((b % 0x100000000) * field imm 15 0) >>> 32))
  | 0x15 => p.setUser (sh % 32) (decide (a = b))
  | 0x16 => p.setUser (sh % 32) (decide (a < b))
  | 0x17 => p.setUser (sh % 32) (decide (a = 0))
  | 0x18 => p.insb w
  | 0x19 => p.remb w
  | 0x1A => p.csum4 w
  | 0x1B => p.decttl w
  | 0x1C => p.drop 0 (field imm 7 0)
  | _ => p

/-- A metadata-writer entry (R256): the field is read from the slots of `r`. -/
def Pkt.metaWrite (p r : Pkt) (e : Nat) : Pkt :=
  if bitOf e 23 then
    let width := field e 4 0 + 1
    let v := ((listAt (0, false) r.slots (field e 22 21)).1 >>> field e 20 14) % (1 <<< width)
    p.setMField (field e 13 10) (field e 9 5 + width - 1) (field e 9 5) v
  else p

/-- Does a stage word act on the packet (R249)? -/
def Pkt.acts (p : Pkt) (w : Nat) : Bool :=
  bitOf w 255 && (!bitOf w 254 || (p.cond (field w 252 247) == bitOf w 253))

/-- The commits of a stage but the colophon (R257); `r` is the packet as the stage fetched it. -/
def Pkt.commit (p r : Pkt) (w : Nat) : Pkt :=
  ((p.alu r w).metaWrite r (field w 85 62)).metaWrite r (field w 61 38)

/-- CE marking at the end of egress (R262). -/
def Pkt.ceMark (p : Pkt) : Pkt :=
  let off := field (p.m 3) 23 16
  if !bitOf (p.m 8) 11 ∨ off = 0xFF ∨ p.win.length ≤ off then p
  else
    let v6 := bitOf (p.m 3) 15
    let b := winByte p.win off
    let lo := if v6 then 4 else 0
    let cp := field b (lo + 1) lo
    if cp = 1 ∨ cp = 2 then
      let b' := b ||| (3 <<< lo)
      let p1 := { p with win := listSet p.win off (BitVec.ofNat 8 b') }
      if v6 then p1
      else
        -- the ECN byte is the low byte of the first word of the IPv4 header
        let hc := winByte p.win (off + 9) * 256 + winByte p.win (off + 10)
        let hi := winByte p.win (off - 1)
        { p1 with win := (patchBytes p1.win (off + 9) (beBytes 2 (rfc1624 hc (hi * 256 + b) (hi * 256 + b')))).take p1.win.length }
    else p

end Sys2Proof.Machine
end

