-- ==== Sys2Proof/Machine/State.lean ====
section
/-! DEFINITION. The state of the block as plain data: everything the spec gives the JZ1024, grouped by chapter, and the queue of
waiting commands. Instants are ticks of 1.25 ns of the model clock `now` (R58, R534). Sparse maps are canonical lists (Sparse.lean). -/

namespace Sys2Proof.Machine
open Sys2Proof

/-- The only fault of the model: none of the conditions that the spec gives the block stops it (R3, R483). -/
inductive Fault where
  /-- Raised by nothing: the block has no condition under which it stops without a next state. Safe. -/
  | noFault
deriving DecidableEq, Repr

/-- Why a command has no meaning. -/
inductive Refusal where
  /-- A command whose meaning is not written. Raised by exec's arms only. Safe: the run stops. -/
  | notModelled (mnemonic : String)
deriving DecidableEq, Repr

/-! ### Start-up, clocks (03) -/

/-- The phases of start-up (R68), the waits before them, and service. -/
inductive Phase where
  | inReset | awaitReference | pll | rails | store | links | selfTest | wipe | patch | restore | enable | service
  | noImage | shutDown
deriving DecidableEq, Repr

/-- One reference input (R60, R61). -/
structure RefIn where
  present : Bool := false
  since : Nat := 0
  qualified : Bool := false
  qualSince : Nat := 0
  ppm : Int := 0
deriving DecidableEq, Repr

/-- Reset control, straps and references: the always-on domain (R51, R57–R67). `heldFaults`: source and cause of faults found before the
collector runs (R67, R499). `badCal`: lanes whose calibration record fails its CRC (R412). `selfTestFail`: the source of what the self-test could not absorb (R472). -/
structure Boot where
  phase : Phase := .inReset
  vstby : Bool := true
  vio : Bool := true
  resetN : Bool := false
  bootSel : Nat := 0
  clock0 : Nat := 0
  cause : Nat := 1
  ref0 : RefIn := {}
  ref1 : RefIn := {}
  activeRef : Nat := 0
  pllState : Nat := 0
  softPending : Bool := false
  railIx : Nat := 0
  railFault : Option Nat := none
  heldFaults : List (Nat × Nat) := []
  badCal : List Nat := []
  restartAt : Option Nat := none
  selfTestFail : Option Nat := none
deriving DecidableEq, Repr

/-! ### Persistent store and lifecycle (03) -/

/-- The content of an image area or dictionary image entry list of one bank (R74, R75, R531). -/
structure Images where
  fltCfg : List (Nat × Nat) := []
  ptpPorts : List (Nat × Nat) := []
  policers : List (Nat × Nat) := []
  groups : List (Nat × Nat) := []
  programs : List (Nat × Nat) := []
  active : List Nat := []
deriving DecidableEq, Repr

/-- The calibration region's parts that the device itself writes (R201, R336), and whether the factory part is there (R81). -/
structure Calib where
  factory : Bool := true
  linkMap : List (Nat × Nat) := []
  bankMap : List (Nat × Nat) := []
deriving DecidableEq, Repr

/-- One bank of the store (R74); `valid` says that the header CRC and every region CRC are correct (R76). -/
structure Bank where
  valid : Bool := false
  generation : Nat := 0
  lifecycle : Nat := 0
  transitions : Nat := 0
  carriedKey : Bytes := []
  calib : Calib := {}
  dictImage : List (Nat × Nat) := []
  patch : Bytes := []
  images : Images := {}
deriving DecidableEq, Repr

/-- The record of a key page as the key region holds it (R157). -/
structure KeyRec where
  key : Bytes := []
  use : Nat := 0
  cls : Nat := 0
  state : Nat := 0
  near : Nat := 0
  installs : Nat := 0
deriving DecidableEq, Repr

/-- One copy of the key region (R157): its tag, sixteen records, and the two rings of each page as (page × 64 + kind × 32 + entry) ↦
(VALUE, INSTALLS). -/
structure KeyCopy where
  tag : Option Nat := none
  recs : List (Nat × KeyRec) := []
  ring : List (Nat × (Nat × Nat)) := []
deriving DecidableEq, Repr

/-- What a commit is doing (R77, R78). -/
inductive CommitStage where
  | idle
  /-- Held by the 5 s rule. -/
  | held
  /-- The snapshot is taken; program, verify and publish run. -/
  | running
deriving DecidableEq, Repr

/-- A commit's snapshot: what the inactive bank will hold (R77). -/
structure Snapshot where
  dictImage : List (Nat × Nat) := []
  calib : Calib := {}
  patch : Bytes := []
  images : Images := {}
deriving DecidableEq, Repr

/-- A lifecycle transition in progress: its target, carried key, requesting session and step (R83). -/
structure Transition where
  target : Nat
  key : Bytes
  session : Nat
  step : Nat
deriving DecidableEq, Repr

/-- The persistent store and its commits; survives every reset (R71, R74). `wear` counts writes by word: bank headers 0, 1; key-region
headers 2, 3; page records 16 + p; ring entries 64 + (page × 64 + kind × 32 + entry) (R78). -/
structure Store where
  bankA : Bank := {}
  bankB : Bank := {}
  active : Nat := 0
  keys0 : KeyCopy := {}
  keys1 : KeyCopy := {}
  wear : List (Nat × Nat) := []
  stage : CommitStage := .idle
  snap : Snapshot := {}
  queued : Bool := false
  lastStart : Option Nat := none
  transition : Option Transition := none
  lostCommit : Bool := false
  flashPresent : Bool := false
  flash : Images := {}
deriving DecidableEq, Repr

/-! ### Wonel (04, 05) -/

/-- How a request came: way in, source address, 802.1Q TCI, and for UDP the addresses, ports and DSCP (R87). -/
structure Via where
  way : Nat
  src : Bytes
  vlan : Option Nat
  udp : Option (Nat × Nat × Nat × Nat × Nat)
deriving DecidableEq, Repr

/-- An accepted request waiting in its session's queue (R94); the grant it is judged under (R145); the ceilings CEIL_S and CEIL_U it waits for (R156). -/
structure Request where
  msg : Bytes
  via : Via
  grant : Nat
  need : Option Nat
  needU : Option Nat
deriving DecidableEq, Repr

/-- The open bulk transfer of a session (R113), with the base entry that its FIRST segment latched (R279, R363). -/
structure Bulk where
  idx : Nat
  sub : Nat
  next : Nat
  total : Nat
  base : Nat
deriving DecidableEq, Repr

/-- A session (R97–R117, R142). `latches` holds ATTN bits 16–31 as bits 0–15. `cache` is the last reply's SEQ and message (R102). -/
structure Session where
  isOpen : Bool := false
  idle : Nat := 0
  deadline : Nat := 0
  latches : Nat := 0
  queue : List Request := []
  bulk : Option Bulk := none
  cache : Option (Nat × Bytes) := none
  pmcSel : Nat := 0
deriving DecidableEq, Repr

/-- A management port (R89): link, FEC in use or being tried (codes of `SES_MG_FEC`), and when the attempt began. -/
structure MgPort where
  up : Bool := false
  fec : Nat := 0
  since : Nat := 0
deriving DecidableEq, Repr

/-- The management engine: sixteen sessions, the session served last (R96), the two ports. `rx`: frames that front ports have delivered to
it, oldest first, with their way in (R22, R86). -/
structure Wonel where
  rx : List (Nat × Bytes) := []
  sessions : List Session := List.replicate 16 {}
  served : Nat := 15
  mg0 : MgPort := {}
  mg1 : MgPort := {}
deriving DecidableEq, Repr

/-! ### Keyed check engine (06) -/

/-- A key page's working copy (R149) with its ceilings in force and, for each, the raise not yet written (R155, R156).
`pos` and `times`: the next ring entry and the last write of each entry, counter ring then usage ring (R157). -/
structure KeyPage where
  key : Bytes := []
  use : Nat := 0
  cls : Nat := 0
  state : Nat := 0
  counter : Nat := 0
  used : Nat := 0
  near : Nat := 0
  installs : Nat := 0
  ceilS : Nat := 0
  ceilU : Nat := 0
  writtenS : Nat := 0
  writtenU : Nat := 0
  raiseS : Option Nat := none
  raiseU : Option Nat := none
  posS : Nat := 0
  posU : Nat := 0
  timesS : List Nat := []
  timesU : List Nat := []
  holdUntil : Nat := 0
deriving DecidableEq, Repr

/-- A message in the KCE (R164): its level, page, the key it runs under once begun (R163), its bytes, the tag it is checked against,
the blocks done, and the customer's handle. -/
structure KceMsg where
  level : Nat
  page : Nat
  handle : Nat
  data : Bytes
  expect : Option Bytes
  key : Bytes
  done : Nat
  arrived : Nat
deriving DecidableEq, Repr

/-- The KCE: pages, level queues, the running message, suspended contexts by level (R165), and verdicts not yet taken:
handle, tag, and whether the check passed. -/
structure Kce where
  pages : List KeyPage := List.replicate 16 {}
  queues : List KceMsg := []
  running : Option KceMsg := none
  slots : List KceMsg := []
  results : List (Nat × Bytes × Bool) := []
deriving DecidableEq, Repr

/-! ### Faults (18) -/

/-- The scope fields of an event (R19, R481). -/
structure Scope where
  level : Nat := 0
  die : Nat := 0xFF
  slice : Nat := 0xFF
  tile : Nat := 0xFFFF
deriving DecidableEq, Repr

/-- A tile tracker (R482): the tile and up to 64 stamps, newest first, each with the code-word address of a memory event. -/
structure Tracker where
  tile : Nat
  stamps : List (Nat × Option Nat)
deriving DecidableEq, Repr

/-- A fault source (R482, R483, R496). `level` is a level cause reported present by its checker (R484). -/
structure Source where
  status : Nat := 0
  rung : Nat := 0
  timer : Option Nat := none
  count : Nat := 0
  last : Nat := 0
  trackers : List Tracker := []
  sevTile : Nat := 0xFFFF
  sevCause : Nat := 0
  level : Bool := false
deriving DecidableEq, Repr

/-- A source's configuration (R496). -/
structure SrcCfg where
  n : Nat
  flags : Nat
  window : Nat
  react : Nat
deriving DecidableEq, Repr

/-- A queued event record (R489). -/
structure FltRec where
  source : Nat
  cls : Nat
  flags : Nat
  scope : Scope
  cause : Nat
  rung : Nat
  detail : Nat
  seq : Nat
  time : Nat
deriving DecidableEq, Repr

/-- What a tile repair replaces (R20, R493). -/
inductive RepairKind where
  | dieLink (q dir lane : Nat)
  | bank (die group bank : Nat)
  | lpmBlock (chase block : Nat)
deriving DecidableEq, Repr

/-- A repair waiting for its stack or running in it (R39): the stack (0 Forme, 3 + q), the source it serves (none when commanded), the
instant its rung fell due, and whether it has begun. -/
structure Repair where
  stack : Nat
  source : Option Nat
  kind : RepairKind
  reason : Nat
  dueAt : Nat
  begun : Bool
deriving DecidableEq, Repr

/-- The armed injection (R490). -/
structure Injection where
  kind : Nat
  inst : Nat
  type : Nat
  bit : Nat
  path : Nat
  left : Nat
  escalate : Bool
deriving DecidableEq, Repr

/-- The fault collector (R480–R496). -/
structure Flt where
  running : Bool := false
  sources : List (Nat × Source) := []
  cfg : List (Nat × SrcCfg) := []
  queue : List FltRec := []
  seq : Nat := 0
  safe : Bool := false
  repairs : List Repair := []
  inj : Option Injection := none
deriving DecidableEq, Repr

/-! ### Power (19) -/

/-- A commanded rail (R497–R502): state (R510), set point and reading in mV, current in mA, tries, deadline, and the failed PMBus
attempts in a row with the instant of the next retry. -/
structure Rail where
  state : Nat := 0
  set : Nat := 0
  vout : Nat := 0
  iout : Nat := 0
  tries : Nat := 0
  deadline : Nat := 0
  onSent : Bool := false
  fails : Nat := 0
  retryAt : Option Nat := none
  rereadAt : Option Nat := none
deriving DecidableEq, Repr

/-- A thermal sensor (R507): reading, state, when the reading last changed, VCORE moves since then, and whether it has been read since reset. -/
structure Sensor where
  temp : Int := 0
  failed : Bool := false
  warn : Bool := false
  changed : Nat := 0
  vcoreMoved : Bool := false
  own : Int := 0
  seen : Bool := false
deriving DecidableEq, Repr

/-- Power and thermal management, and the latch of the always-on domain (R50, R508). -/
structure Power where
  rails : List Rail := List.replicate 5 {}
  sensors : List (Nat × Sensor) := []
  thermtrip : Bool := false
  tripSensor : Nat := 0xFF
  margin : Int := 0
  marginRun : Nat := 0
deriving DecidableEq, Repr

/-! ### Lanes and die-links (07) -/

/-- A running eye scan (R187–R189): its mode, LEN and BER as they stood at its START, the direction and offset of the current point, the
results so far, the symbols compared, and a pending ABORT. -/
structure EyeScan where
  mode : Nat
  len : Nat
  ber : Nat
  dirUp : Bool
  offset : Int
  low : Int
  high : Int
  centre : Bool
  count : Nat
  abort : Bool
deriving DecidableEq, Repr

/-- A front lane (R172–R191): what its receiver has reached, link training, the failure record, and the flap times of R190. `flap`: 1 the
link went down and no flap is counted for it yet, 2 it is counted already (R181). -/
structure Lane where
  signal : Bool := false
  cdr : Bool := false
  pcs : Bool := false
  adapted : Bool := false
  trainDone : Bool := false
  retryAt : Option Nat := none
  failCause : Nat := 0
  over200 : Bool := false
  flaps : List Nat := []
  flap : Nat := 0
  adaptedAt : Nat := 0
  eye : Option EyeScan := none
deriving DecidableEq, Repr

/-- A physical die-link lane of one direction (R192–R206, R211): state 0 active, 1 idle spare, 2 mirroring, 3 retired, 4 untested; the
logical lane it carries; margin and CRC record; the scrambler register (R194); the slot within the superframe; and the marker record
being received (R196). -/
structure DLane where
  state : Nat
  logical : Option Nat
  margin : Option Nat := none
  crcErrors : Nat := 0
  lowSince : Option Nat := none
  badSlot : Bool := false
  scr : Nat := 0
  slot : Nat := 0
  marker : Nat := 0
  markerOk : Bool := false
  own : Nat := 0
  locked : Bool := true
  misSync : Nat := 0
  goodSync : Nat := 0
deriving DecidableEq, Repr

/-- The stage of the running repair of a quoin (R204). -/
inductive RepStage where
  | chosen | mirroring | switched
deriving DecidableEq, Repr

/-- A running die-link repair: direction, logical lane, from p, to s, reason (R210), and whether it was commanded. -/
structure LinkRepair where
  dir : Nat
  logical : Nat
  p : Nat
  s : Nat
  reason : Nat
  stage : RepStage
  commanded : Bool
  source : Option Nat
  clean : Nat := 0
  held : Option (Nat × Nat × Nat) := none
deriving DecidableEq, Repr

/-- The die-links of a quoin (R192–R211): state 0 down, 1 training, 2 up, 4 failed (3 is computed); physical lanes by
direction × 432 + lane, listed where they differ from their home state (`dlaneHome`); the last accepted FRC stamp of each direction;
control-cell resends of the cell in flight (R199). -/
structure Link where
  state : Nat := 0
  lanes : List (Nat × DLane) := []
  repair : Option LinkRepair := none
  resendUp : Nat := 0
  resendDown : Nat := 0
  sfCount : Nat := 0
  stampUp : Nat := 0
  stampDown : Nat := 0
  mismatches : Nat := 0
deriving DecidableEq, Repr

/-! ### Pipelines (09) -/

/-- A pipeline's two banks and which of them ingress and egress use (R267, R268). -/
structure Pipe where
  bank0 : Image := []
  bank1 : Image := []
  id0 : Nat := 0
  id1 : Nat := 0
  ingress1 : Bool := false
  egress1 : Bool := false
deriving DecidableEq, Repr

/-- A running bank switch (R268): masked pipelines, mode, whether clock T has passed, the first enqueue number that is not "before T",
the drain's end, and a pending ABORT. -/
structure PlnSwitch where
  mask : Nat
  mode : Nat
  passed : Bool
  seqT : Nat
  deadline : Nat
  abort : Bool
deriving DecidableEq, Repr

/-- The program-load state (R266–R268): the staging window, TOTAL of the last completed transfer to it, and the running switch. -/
structure Pipes where
  pipes : List (Nat × Pipe) := []
  staging : Image := []
  stagedTotal : Nat := 0
  switch : Option PlnSwitch := none
deriving DecidableEq, Repr

/-! ### Galley (11) -/

/-- A hank (R319). -/
structure Hank where
  head : Nat
  headV : Bool
  len : Nat
  pf : List Nat
deriving DecidableEq, Repr

/-- A descriptor in use (R328, R329). A frame descriptor's further fields are what the scheduler keeps with it: the EtherType-level
facts of its ingress that cut-through needs (CL_e, ingress port). -/
inductive Descr where
  | frame (state src prio : Nat) (lossless ct poison : Bool) (stored refs : Nat) (bufs : List (Nat × Nat)) (inPort cle : Nat)
  | copy (orig port queue : Nat)
deriving DecidableEq, Repr

/-- A bank remap in progress on the Forme stack (R335). -/
structure BankRemap where
  die : Nat
  group : Nat
  logical : Nat
  fromBank : Nat
  toBank : Nat
  reason : Nat
deriving DecidableEq, Repr

/-- The galley and its buffer pool manager (R311–R338). `words`: logical word (stripe × 8 + word) ↦ data with POISON at bit 256, listed
where it differs from what the wipe wrote. `remap`: (die × 1,024 + group × 64 + bank) ↦ physical bank + 1, listed where it differs from
the bank of the same number. `retired`: physical banks out of service, (die × 16 + group) × 66 + bank. -/
structure Galley where
  groups : Nat := 32
  counts : List Nat := [1048576, 196608, 47104, 20480]
  words : List (Nat × Nat) := []
  valid : List (Nat × Nat) := []
  remap : List (Nat × Nat) := []
  retired : List Nat := []
  hanks : List (Nat × Hank) := []
  rot : List Nat := [0, 0, 0, 0]
  free : List Nat := [1048576, 196608, 47104, 20480]
  held : List (Nat × Nat) := []
  descs : List (Nat × Option Descr) := []
  copying : Option BankRemap := none
deriving DecidableEq, Repr

/-! ### Queues and scheduling (12) -/

/-- A queue entry: its descriptor, whether it is a copy's, the charge, the enqueue number and time. -/
structure QEntry where
  desc : Nat
  cl : Nat
  seq : Nat
  time : Nat
deriving DecidableEq, Repr

/-- An egress queue (R339–R349). -/
structure Queue where
  entries : List QEntry := []
  credit : Int := 0
  shaper : Nat := 0
  shaped : Bool := false
  fHead : Nat := 0
  fLast : Nat := 0
deriving DecidableEq, Repr

/-- A frame dequeued for a port and not yet finished (R347, R223): its descriptor, the bytes egress delivered (edited window), where the
stored bytes that follow begin, its charge, and what the transmit MAC is to do: the offset of a colophon's
transit delay (R261) and of a MARK 3 instance (R416). -/
structure TxFrame where
  desc : Nat
  win : Bytes
  restOff : Nat
  cl : Nat
  queue : Nat
  stomp : Bool
  colo : Option Nat
  rxNs : Nat
  ptp : Option Nat
  inPort : Nat
  fromCmp : Bool
  shapedQ : Bool
  shapedP : Bool
deriving DecidableEq, Repr

/-- A policer (R351, R352). -/
structure Policer where
  cir : Nat := 0
  pir : Nat := 0
  cbs : Nat := 0
  pbs : Nat := 0
  tc : Nat := 0
  tp : Nat := 0
  green : Nat := 0
  yellow : Nat := 0
  red : Nat := 0
  pending : Bool := false
  nCir : Nat := 0
  nPir : Nat := 0
  nCbs : Nat := 0
  nPbs : Nat := 0
deriving DecidableEq, Repr

/-- One sweep in the sample ring (R356): its number, time, interval, and the non-zero entries by 16p + q as DEPTH × 2³² + DELAY. -/
structure Sweep where
  seq : Nat
  time : Nat
  interval : Nat
  entries : List (Nat × Nat)
deriving DecidableEq, Repr

/-- The scheduler, replication engine, shapers, policers and samples (R339–R363). Queues by 16p + q. `profiles`: parameters in force by
profile. `groups`: multicast groups as 132-byte numbers. `mcQueue`: frames waiting for the replication engine with group, queue and ingress port. -/
structure Sched where
  queues : List (Nat × Queue) := []
  portCredit : List (Nat × Int) := []
  portShaper : List (Nat × Nat) := []
  portShaped : List (Nat × Nat) := []
  vtime : List (Nat × Nat) := []
  inflight : List (Nat × Nat) := []
  profiles : List (Nat × Nat) := []
  policers : List (Nat × Policer) := []
  groups : List (Nat × Nat) := []
  mcQueue : List (Nat × Nat × Nat × Nat) := []
  ring : List (Nat × Sweep) := []
  enqSeq : Nat := 0
  lastRefill : Nat := 0
  lastSweep : Nat := 0
deriving DecidableEq, Repr

/-! ### Ports (08) -/

/-- Where a received frame goes (R222): `ptp` to an instance that terminates it (R417), 2 where the Compositor then discards it. -/
inductive RxDest where
  | pipeline | lldp | management | compositor | ptp (inst : Nat)
deriving DecidableEq, Repr

/-- A frame in a port's receive FIFO (R218–R222): its bytes without FCS, whether its tail fails the checks, the metadata of R221, and T_RX in
units of 2⁻¹⁶ ns. -/
structure RxFrame where
  bytes : Bytes
  bad : Bool
  prio : Nat
  vid : Nat
  tagged : Bool
  lossless : Bool
  dest : RxDest
  ts : Nat
deriving DecidableEq, Repr

/-- The frame a port's galley writer is storing (R318): descriptor, the bytes not yet stored, the outcome of its tail, its destination and
the disposition of R248, the IP length with its offset (R317), whether it is enqueued already for cut-through with the queue entry's charge, and
whether a growth request of it was refused. `ts` and `win`: T_RX and the frame's own first bytes, for a terminated PTP message. -/
structure Writing where
  desc : Nat
  rest : Bytes
  bad : Bool
  dest : RxDest
  dtype : Nat
  dval : Nat
  queue : Nat
  toCmp : Bool
  enqueued : Bool
  failed : Bool
  iplen : Option (Nat × Nat)
  cle : Nat
  ts : Nat
deriving DecidableEq, Repr

/-- The flow control a received pause frame loads 10 ns after it (R226): a link pause, or class-enable bits and eight times. -/
structure PauseLoad where
  at_ : Nat
  link : Bool
  mask : Nat
  times : List Nat
deriving DecidableEq, Repr

/-- A port index (R212–R231). `timers`: ends of the eight priority timers and the link timer (8). `held`: priorities in XOFF;
`refused`: those held by a refusal, with the case that refused.
`pauseDue`: a pause frame that waits for the frame in transmission, with the priorities that have just left XOFF. `bytes`: bytes of R227 by priority.
`loop`: frames sent under near-end loopback that have not yet reached the port's own receive MAC (R185). -/
structure Port where
  up : Bool := false
  okSince : Option Nat := none
  badSince : Option Nat := none
  fault : Nat := 0
  flushing : Bool := false
  fifo : List RxFrame := []
  writing : Option Writing := none
  tx : List TxFrame := []
  sending : Option TxFrame := none
  timers : List (Nat × Nat) := []
  loads : List PauseLoad := []
  xoff : Nat := 0
  refused : List (Nat × Nat) := []
  lastPause : Nat := 0
  pauseDue : Option Nat := none
  bytes : List (Nat × Nat) := []
  txLpi : Bool := false
  waking : Option Nat := none
  txLpiSince : Nat := 0
  rxLpi : Bool := false
  rxLpiSince : Nat := 0
  idleSince : Nat := 0
  lldpSent : Option Nat := none
  lldpHeard : Nat := 0
  lldpRx : List Bytes := []
  wakeTs : Nat := 0
  loop : List Bytes := []
deriving DecidableEq, Repr

/-! ### Forwarding tables and learning (10) -/

/-- A message of the learn ring, or a learn event (R295). `kind`: 1 LEARN, 2 REMOVE, 3 REFRESH. -/
structure LMsg where
  kind : Nat
  origin : Nat
  static : Bool
  force : Bool
  vid : Nat
  mac : Nat
  port : Nat
  stamp : Nat
deriving DecidableEq, Repr

/-- A learning pipeline: the filter of R294 with the instant of each key, the injection queue, the messages its ager or a controller run
holds until there is a place (R298, R300), and the ager's next visit, 0–32,767: first the owned half of a pass, then the other. -/
structure Learner where
  filter : List (Nat × Nat) := []
  inj : List LMsg := []
  waiting : List LMsg := []
  visit : Nat := 0
  passStart : Nat := 0
  ageTime : Nat := 300
deriving DecidableEq, Repr

/-- A running spare-in of an LPM block (R305): the logical block, the physical block it leaves, its fault source and reason. -/
structure LpmSpare where
  logical : Nat
  old : Nat
  source : Option Nat
deriving DecidableEq, Repr

/-- The tables (R274–R310). The label, next-hop and LPM content is the content all chases share (R275); a chase's own difference is an
error pattern of `Mem`. `label`: index ↦ 80-bit entry. `nextHop`: index ↦ 128-bit entry. `slots`: logical block × 2,048 + slot ↦ slot × 2³² +
result word. `dir4`, `dir6`: directory entries. `learn`: pipeline × 65,536 + 4 × bucket + way ↦ 128-bit entry. `ops`: the bytes of the
route window, with TOTAL of its last completed transfer. `apply`: the running apply's next record, its number of records and ABORT. -/
structure Tables where
  label : List (Nat × Nat) := []
  nextHop : List (Nat × Nat) := []
  slots : List (Nat × Nat) := []
  dir4 : List (Nat × Nat) := []
  dir6 : List (Nat × Nat) := []
  learn : List (Nat × Nat) := []
  learners : List (Nat × Learner) := []
  ring : List (LMsg × Nat) := []
  events : List Bytes := []
  ops : List (Nat × Nat) := []
  opsTotal : Option Nat := none
  apply : Option (Nat × Nat × Bool) := none
  spares : List (Nat × LpmSpare) := []
deriving DecidableEq, Repr

/-! ### Telemetry (13) -/

/-- A proof sampler's count C and generator (R365). -/
structure Sampler where
  count : Nat := 0
  gen : Nat := 1
deriving DecidableEq, Repr

/-- A selected frame in the engine's proof queue (R366): its descriptor and the header fields fixed at its offer (R367). -/
structure ProofSel where
  sampler : Nat
  desc : Nat
  dropped : Bool
  inPort : Nat
  dest : Nat
  qp : Nat
  reason : Nat
  length : Nat
  rxNs : Nat
  user : Nat
  seq : Nat
deriving DecidableEq, Repr

/-- A proof (R367): the buffer its record lies in (case, number), RLEN, and when it came. -/
structure Proof where
  buf : Nat × Nat
  rlen : Nat
  at_ : Nat
deriving DecidableEq, Repr

/-- An export unit (R372): its stream, TIME and UNIT of R371, and what it carries: proofs, or the non-zero sparse records of a
sweep or of a snapshot. -/
structure ExportUnit where
  stream : Nat
  time : Nat
  unit : Nat
  proofs : List Proof
  entries : List (Nat × Nat)
deriving DecidableEq, Repr

/-- A counter set (R373, R374): configurations as 160-bit numbers, counters as WRAP × 2⁶³ + count, and the instant its cycles count from. -/
structure CtrSet where
  cfg : List Nat := [0, 0, 0, 0, 0, 0, 0, 0]
  ctr : List Nat := [0, 0, 0, 0, 0, 0, 0, 0]
  since : Nat := 0
deriving DecidableEq, Repr

/-- The snapshot window (R379): SEQ, T, and the record of each block as one 80-byte number. -/
structure Snap where
  seq : Nat := 0
  time : Nat := 0
  records : List (Nat × Nat) := []
deriving DecidableEq, Repr

/-- Telemetry. `proofs`: the Compositor's proof queue. `sets`: counter sets by block. `snapAt`: the pending snapshot's T and whether a START
waits for it. `lastSnap`: `ID_UPTIME` at the last periodic instant. -/
structure Telem where
  samplers : List Sampler := [⟨0, 1⟩, ⟨0, 2⟩, ⟨0, 3⟩, ⟨0, 4⟩, ⟨0, 5⟩, ⟨0, 6⟩, ⟨0, 7⟩, ⟨0, 8⟩]
  engine : List ProofSel := []
  proofs : List Proof := []
  units : List ExportUnit := []
  sets : List (Nat × CtrSet) := []
  wiped : Nat := 0
  snapAt : Option (Nat × Bool) := none
  lastSnap : Nat := 0
  snap : Snap := {}
deriving DecidableEq, Repr

/-! ### Time (14) -/

/-- A time domain (R386–R391): the present segment, the segment before it (R389), when the present one began, and the servo's integrator
as `r0 × 2⁻⁵⁶` plus the sum `acc` of BW² × τ × θ terms (in mHz², s and 2⁻¹⁶ ns units; R391), its counts, and the start of a holdover. -/
structure Domain where
  off : Int := 0
  rate : Int := 0
  anc : Nat := 0
  pOff : Int := 0
  pRate : Int := 0
  pAnc : Nat := 0
  segAt : Option Nat := none
  r0 : Int := 0
  acc : Int := 0
  bad : Nat := 0
  good : Nat := 0
  holdSince : Option Nat := none
  lastPps : Option Nat := none
deriving DecidableEq, Repr

/-- An armed time pulse output (R397–R399): what it was armed with, the next k, and the FE of the falling edge of a pulse that is high. -/
structure Tpo where
  mode : Nat := 0
  start : Nat := 0
  period : Nat := 0
  width : Nat := 0
  comp : Int := 0
  nextK : Nat := 0
  fall : Option Nat := none
  lastFall : Nat := 0
deriving DecidableEq, Repr

/-- A capture input (R401, R402): edges since the divider was written, and the last edge's FRC. -/
structure Tci where
  seen : Nat := 0
  last : Option Nat := none
deriving DecidableEq, Repr

/-- The time base (R384–R408). `start`: the tick at which the FRC was zero. `res0`, `fs`, `slope`: the splice in force (R394); `large`:
it is beyond the window; `spliceTo`: the domain it began for (R403). `phase`: E of each quoin, what turns its replica's count into the FRC's, in units of 2⁻¹⁶ ns (R410). -/
structure Tim where
  running : Bool := false
  start : Nat := 0
  domains : List Domain := [{}, {}]
  res0 : Int := 0
  fs : Nat := 0
  slope : Nat := 10000
  large : Bool := false
  auto : Bool := false
  splicing : Bool := false
  spliceTo : Nat := 0
  tpo : List Tpo := List.replicate 16 {}
  tci : List Tci := List.replicate 16 {}
  events : List Bytes := []
  seq : Nat := 0
  phase : List (Nat × Int) := []
deriving DecidableEq, Repr

/-! ### PTP (15) -/

/-- What an instance holds of a received Announce (R421): the data set fields that the alternate BMCA compares, its port, its transport
source, and when it came. -/
structure Foreign where
  port : Nat
  sender : Bytes
  gm : Bytes
  gmClass : Nat
  gmAccuracy : Nat
  gmVariance : Nat
  prio2 : Nat
  steps : Nat
  count : Nat
  at_ : Nat
  flags : Nat
  utc : Nat
  source : Nat
deriving DecidableEq, Repr

/-- A terminated message waiting for its instance (R417): the port, the full receive time, the message, and its source addresses. -/
structure PtpRx where
  inst : Nat
  port : Nat
  time : Nat
  msg : Bytes
  mac : Bytes
  ip : Nat
deriving DecidableEq, Repr

/-- A unicast grant (R425): whether this instance granted it, its message type, port, peer address and MAC, its log interval, and its end. -/
structure Grant where
  master : Bool
  kind : Nat
  port : Nat
  ip : Nat
  mac : Bytes
  interval : Nat
  duration : Nat
  at_ : Nat
deriving DecidableEq, Repr

/-- A departure time the transmit MAC returns to an instance (R422): instance, port, message type, sequenceId, and T_TX. -/
structure PtpTx where
  inst : Nat
  port : Nat
  kind : Nat
  seqId : Nat
  time : Nat
deriving DecidableEq, Repr

/-- An instance (R421–R429). `states`: portState by port. `sync`: a two-step Sync that waits for its Follow_Up (sequenceId, t2, corrections).
`last`: t1 and t2 of the last complete Sync in domain time. `delays`: the last eight path delays. `replay`: sourcePortIdentity × 16 +
messageType ↦ sequenceId. `seqIds`, `sentAt`: port × 16 + messageType ↦ next sequenceId, and when one was sent last. `reqs`: Delay_Reqs that
wait for their Delay_Resp. `measured`: measurements that wait for the servo. -/
structure PtpInst where
  states : List (Nat × Nat) := []
  foreign : List Foreign := []
  parent : Option Foreign := none
  sync : Option (Nat × Nat × Int) := none
  last : Option (Int × Int) := none
  syncAt : Nat := 0
  delays : List Int := []
  replay : List (Nat × Nat) := []
  seqIds : List (Nat × Nat) := []
  sentAt : List (Nat × Nat) := []
  reqs : List PtpRx := []
  grants : List Grant := []
  measured : List Int := []
deriving DecidableEq, Repr

/-- An authenticated message held at a port until its departure (R428): the attempts begun, T_TX as it would be at the commit and the commit,
the frame as egress gave it, and the message formed for the departure. -/
structure AuthTx where
  departure : Nat
  attempts : Nat
  commit : Nat
  tTx : Nat
  formed : Bytes
  frame : TxFrame
deriving DecidableEq, Repr

/-- PTP. `ports`: entries of `TIM_PTP_PORTS` by port. `rxCount`: messages terminated by port. -/
structure Ptp where
  insts : List PtpInst := [{}, {}]
  rx : List PtpRx := []
  tx : List PtpTx := []
  ports : List (Nat × Nat) := []
  rxCount : List (Nat × Nat) := []
  auth : List (Nat × AuthTx) := []
deriving DecidableEq, Repr

/-! ### Compositor (16) -/

/-- The states of R434. -/
inductive CtxState where
  | idle | ready | running | waiting | parked
deriving DecidableEq, Repr

/-- A context (R433, R440). `regs`: W01–W63 where not zero. `pend`: registers that await a delivery: lines left and the value for a
data-memory read, none for a control-network read. `netWrites`: posted writes not acknowledged. `gap`: lines since a safe point.
`run`: lines since it was last chosen. `readyAt`: when it became ready. `line`: the next line, of a waiting context the line of its WAIT, whose
COND is `wait`. `queue`: its event queue of 64 words, behind it the words whose sources are held back (R434). `was`: the state a parked
context returns to. `touched`: a patch change in progress touches it (R450). -/
structure Ctx where
  state : CtxState := .idle
  line : Nat := 0
  stack : List Nat := []
  lc : Nat := 0
  z : Bool := false
  n : Bool := false
  c : Bool := false
  v : Bool := false
  timer : Option Nat := none
  expired : Bool := false
  abort : Bool := false
  queue : List Nat := []
  regs : List (Nat × Nat) := []
  pend : List (Nat × Option (Nat × Nat)) := []
  netWrites : Nat := 0
  gap : Nat := 0
  run : Nat := 0
  readyAt : Nat := 0
  wait : Nat := 0
  was : CtxState := .idle
  touched : Bool := false
deriving DecidableEq, Repr

/-- A patch change in progress (R451, R452): to the staged image, or to none; `own`: the device's own removal (R447); once the touched contexts have settled, the halt has begun. -/
structure PatchRun where
  remove : Bool
  own : Bool
  halted : Option Nat
deriving DecidableEq, Repr

/-- A frame of the Compositor that waits for its buffers (R234, R327): port, queue, the frame without FCS, and whether it is a large send's segment. -/
structure CmpSend where
  port : Nat
  queue : Nat
  frame : Bytes
  lso : Bool
deriving DecidableEq, Repr

/-- The Compositor (R433–R457). `last`: the context chosen last at each priority. `overlay`: ROM segment ↦ patch segment + 1. `ram`:
patch line ↦ 144-bit line. `staged`: the bytes of the staging window, TOTAL of its last completed transfer. `active`: the active image.
`rx`: the receive queue, by frame descriptor (R248, R331). `sends`: frames of its own that wait for the galley, oldest first. -/
structure Cmp where
  rx : List Nat := []
  sends : List CmpSend := []
  ctxs : List Ctx := List.replicate 16 {}
  current : Option Nat := none
  last : List Nat := [15, 15, 15, 15]
  mem : List (Nat × Nat) := []
  overlay : List (Nat × Nat) := []
  ram : List (Nat × Nat) := []
  staged : List (Nat × Nat) := []
  stagedTotal : Nat := 0
  active : Bytes := []
  patchRun : Option PatchRun := none
deriving DecidableEq, Repr

/-! ### Memory integrity (17) -/

/-- A pending write-back (R463, R465): the word, and whether it is written back poisoned. -/
structure WriteBack where
  key : Nat
  poison : Bool
  at_ : Nat
deriving DecidableEq, Repr

/-- Stored errors and the work that finds them. `flips`: (kind × 2³² + INSTANCE) × 2³² + address ↦ the bits of the stored code word that
differ from the code word of the memory's content. `scrub`: kind × 2³² + INSTANCE ↦ the scrubber's next address, with the passes and the start of
the pass beside it. `log`: words written in the diagnostic mode (R476). `quarantine`: descriptors out of use (R466). -/
structure Mem where
  flips : List (Nat × Nat) := []
  backs : List WriteBack := []
  scrub : List (Nat × Nat) := []
  passes : List (Nat × Nat) := []
  passAt : List (Nat × Nat) := []
  log : List Nat := []
  quarantine : List Nat := []
deriving DecidableEq, Repr

/-! ### What leaves the device -/

/-- Everything the device sends or drives, newest first in `State.out`: it is what another party observes. -/
inductive Out where
  /-- A Wonel frame on MG0 (0) or MG1 (1) (R86). -/
  | mgFrame (mg : Nat) (frame : Bytes)
  /-- A frame on a front port, DA to FCS, and whether it ended stomped (R223). -/
  | frame (port : Nat) (bytes : Bytes) (stomped : Bool)
  /-- A PAUSE or PFC frame (R227). -/
  | pauseFrame (port : Nat) (bytes : Bytes)
  /-- A level of a pin: ATTN_N, THERMTRIP_N and the always-on signals (02). -/
  | pin (name : String) (level : Bool)
  /-- An edge of a TPO: its pin, level, tick and fine step (R398). -/
  | tpo (pin : Nat) (level : Bool) (tick step : Nat)
  /-- A PMBus write to the regulator of a rail: command code and data (R498). -/
  | pmbus (rail cmd data : Nat)
  /-- An AVS order of the VCORE set point in mV (R503). -/
  | avs (mv : Nat)
  /-- A write to the configuration flash (R526). -/
  | flashWrite
  /-- A control-network write or read of a Compositor line: the context, node and address, and the value written (R441). -/
  | netWrite (ctx node addr value : Nat)
  | netRead (ctx node addr : Nat)
  /-- Low-power idle signalled on a port, or wake begun (R230). -/
  | lpi (port : Nat) (asleep : Bool)
deriving DecidableEq, Repr

/-- The state of the block. `now`: ticks of 1.25 ns since power-on. `dict`: every plain dictionary value that differs from its value after
wipe (R132), by index × 256 + subindex. `busy`: START objects whose run lasts. `fresh`: how many free values have been taken; it is the
model's own. `pending`: the commands that wait, first in first out. -/
structure State where
  now : Nat
  boot : Boot
  store : Store
  wonel : Wonel
  kce : Kce
  flt : Flt
  power : Power
  lanes : List (Nat × Lane)
  links : List Link
  pipes : Pipes
  galley : Galley
  sched : Sched
  ports : List (Nat × Port)
  tables : Tables
  telem : Telem
  tim : Tim
  ptp : Ptp
  cmp : Cmp
  mem : Mem
  dict : List (Nat × Nat)
  busy : List Nat
  out : List Out
  fresh : Nat
  pending : List Instr
deriving DecidableEq, Repr

/-- The state after power-on reset with RESET_N low (R54, R68): both supplies valid, nothing sampled, the store as shipped in BLANK
(R80, R168), every volatile memory at its value after wipe, and no command waiting. -/
def State.reset : State :=
  { now := 0
    boot := {}
    store := { bankA := { valid := true, generation := 1 } }
    wonel := {}
    kce := {}
    flt := {}
    power := {}
    lanes := []
    links := List.replicate 8 {}
    pipes := {}
    galley := {}
    sched := {}
    ports := []
    tables := {}
    telem := {}
    tim := {}
    ptp := {}
    cmp := {}
    mem := {}
    dict := []
    busy := []
    out := []
    fresh := 0
    pending := [] }

end Sys2Proof.Machine
end

