-- ==== Sys2Proof/Machine/Ops.lean ====
section
/-! DEFINITION. The operations every chapter shares: dictionary values, counters, what leaves the device, the FRC, free values, attention
latches, bounded event queues, START records, times, and units that are in use. -/

namespace Sys2Proof.Machine
open Sys2Proof

/-! ### The dictionary (R120–R133) -/

/-- The present value of a plain dictionary object. -/
def State.get (s : State) (key : Nat) : Nat := smGet (dictDefault key) s.dict key

/-- Store a value of a plain dictionary object. -/
def State.put (s : State) (key v : Nat) : State := { s with dict := smSet (dictDefault key) s.dict key v }

/-- The width in bits of the type of an object. -/
def widthOf (key : Nat) : Nat :=
  match descOf (key / 256) (key % 256) with
  | some d => 8 * d.ty.len
  | none => 64

/-- Add to a counter that wraps to 0 at the width of its type (R124). -/
def State.bumpBy (s : State) (key n : Nat) : State := s.put key ((s.get key + n) % 2 ^ widthOf key)

/-- Count one. -/
def State.bump (s : State) (key : Nat) : State := s.bumpBy key 1

/-- Keep the largest value seen. -/
def State.raiseTo (s : State) (key v : Nat) : State := if s.get key < v then s.put key v else s

/-- Set or clear one bit of an object. -/
def State.putBit (s : State) (key i : Nat) (b : Bool) : State := s.put key (setBit (s.get key) i b)

/-- Return a range of objects to their values after wipe. -/
def State.clearKeys (s : State) (lo hi : Nat) : State := { s with dict := smClearRange s.dict lo hi }

/-! ### Out, time, free values -/

/-- Something leaves the device. -/
def State.emit (s : State) (o : Out) : State := { s with out := o :: s.out }

/-- The FRC in units of 2⁻¹⁶ ns (R384). -/
def State.frc (s : State) : Nat := if s.tim.running then ((s.now - s.tim.start) * 81920) % 2 ^ 96 else 0

/-- `ID_UPTIME`, FRC[79:16] (R140). -/
def State.uptime (s : State) : Nat := (s.frc / 65536) % 2 ^ 64

/-- Ticks of 1.25 ns in a number of ns, rounded up. -/
def nsTicks (ns : Nat) : Nat := (ns * 4 + 4) / 5

/-- Ticks in microseconds, milliseconds and seconds. -/
def usTicks (n : Nat) : Nat := n * 800
def msTicks (n : Nat) : Nat := n * 800000
def secTicks (n : Nat) : Nat := n * 800000000

/-- The next free value, below 2^width. -/
def State.freeVal (s : State) (width : Nat) : Nat := Config.freeValue s.fresh % 2 ^ width

/-- The free value has been taken. -/
def State.useFree (s : State) : State := { s with fresh := s.fresh + 1 }

/-! ### Result codes (R114) -/

namespace Res
abbrev ok : Nat := 0
abbrev notReady : Nat := 1
abbrev busy : Nat := 2
abbrev denied : Nat := 3
abbrev noObject : Nat := 4
abbrev readOnly : Nat := 5
abbrev badType : Nat := 6
abbrev badValue : Nat := 7
abbrev badState : Nat := 8
abbrev badOpcode : Nat := 9
abbrev badLength : Nat := 10
abbrev badOffset : Nat := 11
abbrev noSession : Nat := 12
abbrev replay : Nat := 13
abbrev causePresent : Nat := 14
abbrev aborted : Nat := 15
abbrev notApplied : Nat := 16
abbrev notAbortable : Nat := 17
end Res

/-! ### Sessions and attention (R115–R117) -/

/-- Session `i`. -/
def State.session (s : State) (i : Nat) : Session := listAt {} s.wonel.sessions i

/-- Change session `i`. -/
def State.modSession (s : State) (i : Nat) (f : Session → Session) : State :=
  { s with wonel := { s.wonel with sessions := listMod s.wonel.sessions i f } }

/-- Key page `i`. -/
def State.page (s : State) (i : Nat) : KeyPage := listAt {} s.kce.pages i

/-- Change key page `i`. -/
def State.modPage (s : State) (i : Nat) (f : KeyPage → KeyPage) : State :=
  { s with kce := { s.kce with pages := listMod s.kce.pages i f } }

/-! Attention bits by their number less 16 (R115). -/

namespace Attn
abbrev fault : Nat := 0
abbrev time : Nat := 1
abbrev learn : Nat := 2
abbrev proof : Nat := 3
abbrev link : Nat := 4
abbrev thermal : Nat := 5
abbrev key : Nat := 6
abbrev lifecycle : Nat := 7
abbrev patch : Nat := 8
abbrev lost : Nat := 15
end Attn

/-- Whether a user class sees an attention bit (R115). -/
def sees (cls bit : Nat) : Bool :=
  if bit = Attn.learn ∨ bit = Attn.proof then decide (1 ≤ cls)
  else if bit = Attn.patch then decide (2 ≤ cls)
  else decide (bit ≤ 8 ∨ bit = 15)

/-- Set a latch in the sessions that are open and whose class sees the bit, and satisfy `p` (R116, R117). -/
def State.latchIf (s : State) (bit : Nat) (p : Nat → Bool) : State :=
  let set_ := fun (i : Nat) (x : Session) =>
    if x.isOpen && sees (s.page i).cls bit && p (s.page i).cls then { x with latches := x.latches ||| (1 <<< bit) } else x
  { s with wonel := { s.wonel with sessions := s.wonel.sessions.mapIdx set_ } }

/-- An event sets the latch of its bit (R116). -/
def State.latch (s : State) (bit : Nat) : State := s.latchIf bit fun _ => true

/-- An event queue that feeds attention bit `bit` has discarded an item: ATTN_LOST in the sessions that see that bit (R117). -/
def State.latchLost (s : State) (bit : Nat) : State := s.latchIf Attn.lost fun c => sees c bit

/-! ### The store under a reset or a trip (R79) -/

/-- A commit that a reset, a loss of VSTBY or a trip stops: once its snapshot is taken, the inactive bank has no valid header; a held commit
and a queued one are discarded (R65, R79). -/
def Store.stopCommit (st : Store) : Store :=
  match st.stage with
  | .running =>
    if st.active = 0 then { st with bankB := { st.bankB with valid := false }, stage := .idle, queued := false, lostCommit := true, transition := none }
    else { st with bankA := { st.bankA with valid := false }, stage := .idle, queued := false, lostCommit := true, transition := none }
  | _ => { st with stage := .idle, queued := false, transition := none }

/-! ### START records (R110, R111) -/

/-- A run of a START object begins. -/
def State.runBegin (s : State) (key : Nat) : State := { s with busy := setInsert s.busy key }

/-- Whether a run of a START object lasts. -/
def State.isBusy (s : State) (key : Nat) : Bool := s.busy.contains key

/-- A run of a START object lasts no more. -/
def State.runStop (s : State) (key : Nat) : State := { s with busy := setErase s.busy key }

/-- The record of a START object after a run: RUN counts it (R110). -/
def runRecord (old outcome detail : Nat) : Nat := (old / 2 ^ 32 + 1) % 2 ^ 32 * 2 ^ 32 + outcome * 2 ^ 16 + detail

/-- A run ends with an OUTCOME and a DETAIL (R110). -/
def State.runEnd (s : State) (key outcome detail : Nat) : State := (s.put key (runRecord (s.get key) outcome detail)).runStop key

/-- A run that completes as it begins. -/
def State.runOnce (s : State) (key outcome detail : Nat) : State := s.runEnd key outcome detail

/-! ### Compositor contexts (R433, R434) -/

/-- Context `c`. -/
def State.ctx (s : State) (c : Nat) : Ctx := listAt {} s.cmp.ctxs c

/-- Change context `c`. -/
def State.modCtx (s : State) (c : Nat) (f : Ctx → Ctx) : State := { s with cmp := { s.cmp with ctxs := listMod s.cmp.ctxs c f } }

/-- A word enters the event queue of a context; the words are the device's own (DESIGN CHOICE, notes/assumptions/42). -/
def State.cmpPush (s : State) (c : Nat) : State := (s.modCtx c fun x => { x with queue := x.queue ++ [s.freeVal 64] }).useFree

/-- The routine of a context has taken the word at the head of its queue. -/
def State.cmpTake (s : State) (c : Nat) : State := s.modCtx c fun x => { x with queue := x.queue.drop 1 }

/-- The halt of a patch change: what the Compositor serves waits (R451). -/
def State.halted (s : State) : Bool := match s.cmp.patchRun with | some r => r.halted.isSome | none => false

/-- A long routine begins a run on its progress object (R456) with its units. -/
def State.progBegin (s : State) (k total : Nat) : State :=
  ((((s.bump (Obj.CMP_P_RUN k)).put (Obj.CMP_P_STATE k) 1).put (Obj.CMP_P_DONE k) 0).put (Obj.CMP_P_TOTAL k) total).put (Obj.CMP_P_RESTART k) 0

/-- A unit of a run is done. -/
def State.progDone (s : State) (k n : Nat) : State := s.bumpBy (Obj.CMP_P_DONE k) n

/-- The run ends with an OUTCOME; the next one starts at `restart` (R446, R456). -/
def State.progEnd (s : State) (k outcome restart : Nat) : State :=
  (s.put (Obj.CMP_P_STATE k) (if outcome = Res.ok then 3 else if outcome = Res.aborted then 4 else 5)).put (Obj.CMP_P_RESTART k) restart

/-! ### Times (R124) -/

/-- A T96 as one number of a count of 2⁻¹⁶ ns units, or the out-of-range value of R386. -/
def t96OfUnits (u : Int) : Nat :=
  if u < 0 ∨ (2 ^ 48 * 1000000000 * 65536 : Int) ≤ u then
    (0xFFFFFFFFFFFF <<< 48) ||| (999999999 <<< 16) ||| 0xFFFF
  else
    let n := u.toNat
    let ns := n / 65536
    ((ns / 1000000000) <<< 48) ||| ((ns % 1000000000) <<< 16) ||| (n % 65536)

/-- The units of 2⁻¹⁶ ns of a T96. -/
def unitsOfT96 (t : Nat) : Nat := ((t / 2 ^ 48) * 1000000000 + (t / 2 ^ 16) % 2 ^ 32) * 65536 + t % 65536

/-- Picoseconds in units of 2⁻¹⁶ ns, rounded toward minus infinity. -/
def psUnits (ps : Int) : Int := (ps * 65536).fdiv 1000

/-! ### Units -/

/-- Port index `p`. -/
def State.port (s : State) (p : Nat) : Port := smGet {} s.ports p

/-- Change a port index; canonical. -/
def State.modPort (s : State) (p : Nat) (f : Port → Port) : State := { s with ports := smSet {} s.ports p (f (s.port p)) }

/-- Lane `n`. -/
def State.lane (s : State) (n : Nat) : Lane := smGet {} s.lanes n

/-- Change a lane; canonical. -/
def State.modLane (s : State) (n : Nat) (f : Lane → Lane) : State := { s with lanes := smSet {} s.lanes n (f (s.lane n)) }

/-- Change the die-links of a quoin. -/
def State.modLink (s : State) (q : Nat) (f : Link → Link) : State := { s with links := listMod s.links q f }

/-- The die-links of a quoin. -/
def State.link (s : State) (q : Nat) : Link := listAt {} s.links q

/-- Byte `i` of an OCTETS(n) value held as a number, byte 0 most significant. -/
def octByte (n v i : Nat) : Nat := if i < n then (v / 2 ^ (8 * (n - 1 - i))) % 256 else 0

/-- Member `i` of an OCTETS(n) bit map: bit i mod 8 of byte i div 8. -/
def octBit (n v i : Nat) : Bool := bitOf (octByte n v (i / 8)) (i % 8)

/-- Bytes `i` to `i + k − 1` of an OCTETS(n) value as a number. -/
def octField (n v i k : Nat) : Nat := if i + k ≤ n then (v / 2 ^ (8 * (n - i - k))) % 2 ^ (8 * k) else 0

/-! ### Performance counters (R374–R377) -/

/-- What an event of a large block carries (R375). -/
structure PmcAttr where
  req : Option Nat := none
  cls : Option Nat := none
  tc : Option Nat := none
  addr : Option Nat := none

/-- An event passes the filters of a counter configuration (R374, R375), a 160-bit number, byte 0 most significant. -/
def PmcAttr.passes (a : PmcAttr) (cfg : Nat) : Bool :=
  let mode := octByte 20 cfg 1
  let bit := fun (mask : Nat) (x : Option Nat) => decide (mask = 0) || (match x with | some v => bitOf mask v | none => false)
  bit (octByte 20 cfg 2 % 16) a.cls && bit (octByte 20 cfg 3) a.tc &&
    (!bitOf mode 2 || decide (a.req = some (octField 20 cfg 8 2))) &&
    (!bitOf mode 3 || (match a.addr with | some v => decide (octField 20 cfg 12 4 ≤ v ∧ v ≤ octField 20 cfg 16 4) | none => false))

/-- Add to a counter held as WRAP × 2⁶³ + count (R377). -/
def ctrAdd (v n : Nat) : Nat :=
  let c := v % 2 ^ 40 + n
  (if 2 ^ 63 ≤ v ∨ 2 ^ 40 ≤ c then 2 ^ 63 else 0) + c % 2 ^ 40

/-- `n` events of a code in a block's clock: every counter in MODE 0 that the event passes adds them (R377). -/
def CtrSet.event (x : CtrSet) (code n : Nat) (a : PmcAttr) : CtrSet :=
  { x with ctr := (x.ctr.zip x.cfg).map fun (e : Nat × Nat) =>
      if octByte 20 e.2 0 = code ∧ octByte 20 e.2 1 % 4 = 0 ∧ a.passes e.2 then ctrAdd e.1 n else e.1 }

/-- A counter set after a clock in which an occupancy of a small block is one (R377). -/
def CtrSet.pulse (x : CtrSet) (code : Nat) : CtrSet :=
  { x with ctr := (x.ctr.zip x.cfg).map fun (e : Nat × Nat) =>
      let m := octByte 20 e.2 1 % 4
      if octByte 20 e.2 0 = code ∧ (m = 2 ∨ (m = 1 ∧ octField 20 e.2 4 4 = 0)) then ctrAdd e.1 1 else e.1 }

/-- An occupancy of a small block is one for one clock (R376, R377). -/
def State.pmcPulse (s : State) (block code : Nat) : State :=
  match s.telem.sets.find? fun (e : Nat × CtrSet) => decide (e.1 = block) with
  | none => s
  | some e => { s with telem := { s.telem with sets := smSet {} s.telem.sets block (e.2.pulse code) } }

/-- Count events of a block (R373, R376). -/
def State.pmc (s : State) (block code n : Nat) (a : PmcAttr := {}) : State :=
  match s.telem.sets.find? fun (e : Nat × CtrSet) => decide (e.1 = block) with
  | none => s
  | some e => { s with telem := { s.telem with sets := smSet {} s.telem.sets block (e.2.event code n a) } }

/-! ### Units out of service -/

/-- Octet `o` (0–127) is gated (R504). -/
def State.octetGated (s : State) (o : Nat) : Bool := octBit 16 (s.get Obj.PWR_GATE_OCTETS) o

/-- Octet `o` (0–127) has been disabled (R206). -/
def State.octetShed (s : State) (o : Nat) : Bool := bitOf (s.get (Obj.QD_OCTETS_SHED (o / 16))) (o % 16)

/-- Pipeline `k` is gated. -/
def State.pipeGated (s : State) (k : Nat) : Bool := bitOf (s.get Obj.PWR_GATE_PIPES) k

/-- The table set of chase `c` is gated. -/
def State.chaseGated (s : State) (c : Nat) : Bool := bitOf (s.get Obj.PWR_GATE_CHASES) c

/-- Wonel is served and the device is in service (R68, phase 10 done). -/
def State.inService (s : State) : Bool := decide (s.boot.phase = .service)

/-- Whether a region wipe excludes memories (R72). -/
def State.wiping (s : State) : Bool := decide (s.get Obj.LCY_WIPE_STATE = 1)

end Sys2Proof.Machine
end

