-- ==== Sys2Proof/Machine/Faults.lean ====
section
/-! DEFINITION. The fault collector: sources, counting, severity, the ladder, records (R480–R493). Every chapter reports through
`State.report`. -/

namespace Sys2Proof.Machine
open Sys2Proof

/-- The values after wipe of a source's configuration (R480). -/
def srcDefault (src : Nat) : SrcCfg :=
  if src < 128 then ⟨8, 0, 60000, 60000⟩
  else if src < 144 then ⟨4, 0, 1000, 0⟩
  else if src < 152 then ⟨1, 0, 1000, 1000⟩
  else if src < 184 then ⟨32, 0, 1000, 0⟩
  else if src < 192 then ⟨8, 0, 1000, 0⟩
  else if src < 242 then ⟨8, 0, 1000, 600000⟩
  else if src < 248 then ⟨4, 0, 1000, 600000⟩
  else if src = 248 then ⟨4, 0, 1000, 0xFFFFFFFF⟩
  else if src < 251 then ⟨4, 0, 1000, 600000⟩
  else if src < 253 then ⟨1, 0, 1000, 0xFFFFFFFF⟩
  else if src < 258 then ⟨3, 0, 10, 1000⟩
  else ⟨1, 0, 1000, 0xFFFFFFFF⟩

/-- A source's configuration in force. -/
def State.srcCfg (s : State) (src : Nat) : SrcCfg := smGet (srcDefault src) s.flt.cfg src

/-- A source. -/
def State.source (s : State) (src : Nat) : Source := smGet {} s.flt.sources src

/-- Change a source; canonical. -/
def State.modSource (s : State) (src : Nat) (f : Source → Source) : State :=
  { s with flt := { s.flt with sources := smSet {} s.flt.sources src (f (s.source src)) } }

/-- The scope fields of an event (R481). A source that names no hardware unit has LEVEL 0 (DEDUCED, notes/assumptions/20). -/
def scopeOf (src cause tile : Nat) : Scope :=
  if src < 128 then ⟨3, 3 + src / 16, src % 16, tile⟩
  else if src < 144 then ⟨3, 3 + (src - 128) / 2, (tile % 512) / 27, tile⟩
  else if src < 152 then ⟨6, 3 + (src - 144), 0xFF, 0xFFFF⟩
  else if src < 184 then ⟨3, 1 + (src - 152) / 16, (src - 152) % 16, tile⟩
  else if src < 192 then ⟨3, 0, 32 + (src - 184), tile⟩
  else if src < 200 then ⟨2, 0, 32 + (src - 192), tile⟩
  else if src < 232 then ⟨if cause = 8 then 3 else 2, 0, src - 200, tile⟩
  else if src < 240 then ⟨2, 0, 32 + (src - 232), tile⟩
  else if src < 251 then ⟨2, 0, 0xFF, tile⟩
  else if src < 260 then ⟨0, 0xFF, 0xFF, 0xFFFF⟩
  else
    let k := src - 260
    ⟨5, if k < 24 then 0 else if k < 28 then 1 else if k < 32 then 2 else 3 + (k - 32) / 4, 0xFF, 0xFFFF⟩

/-! The CLASS codes of R489. -/

namespace Cls
abbrev corrected : Nat := 1
abbrev failure : Nat := 2
abbrev info : Nat := 3
abbrev causeGone : Nat := 4
abbrev severe : Nat := 5
abbrev rungTaken : Nat := 6
abbrev rungDone : Nat := 7
abbrev rungRefused : Nat := 8
abbrev cleared : Nat := 9
abbrev restoration : Nat := 10
abbrev switchover : Nat := 11
abbrev patch : Nat := 12
abbrev commanded : Nat := 13
end Cls

/-- Queue an event record (R489); a full queue of 1,024 discards it. -/
def State.queueRec (s : State) (src cls flags : Nat) (scope : Scope) (cause rung detail : Nat) : State :=
  if s.flt.queue.length < 1024 then
    { s with flt := { s.flt with
        seq := (s.flt.seq + 1) % 2 ^ 32
        queue := s.flt.queue ++ [⟨src, cls, flags, scope, cause, rung, detail, (s.flt.seq + 1) % 2 ^ 32, s.uptime⟩] } }
  else (s.bump Obj.FLT_EVENT_LOST).latchLost Attn.fault

/-- An event of any class (R483, R489): it counts, raises FAULT as an event, and is queued. -/
def State.event (s : State) (src cls flags : Nat) (scope : Scope) (cause rung detail : Nat) : State :=
  ((s.bump Obj.FLT_EVENTS).queueRec src cls flags scope cause rung detail).latch Attn.fault

/-- An event that changes no status: restoration, switchover, patch activation, spare-in, a cause that is gone (R38, R489). -/
def State.note (s : State) (src cls cause rung detail tile : Nat) : State := s.event src cls 0 (scopeOf src cause tile) cause rung detail

/-- A rung is taken, completed or refused (R486, R489). -/
def State.rungEvent (s : State) (src cls rung : Nat) : State := s.note src cls 0 rung 0 (s.source src).sevTile

/-- The 32 bytes of an event record. -/
def FltRec.bytes (r : FltRec) : Bytes :=
  beBytes 2 r.source ++ [u8 r.cls, u8 r.flags, u8 r.scope.level, u8 r.scope.die, u8 r.scope.slice, 0] ++ beBytes 2 r.scope.tile ++
    [u8 r.cause, u8 r.rung] ++ beBytes 4 r.detail ++ beBytes 4 r.seq ++ zeros 4 ++ beBytes 8 r.time

/-- Sources in status 1 to 4, and in 2 or 3 (R494). -/
def State.pendingSources (s : State) : Nat := (s.flt.sources.filter fun e => decide (1 ≤ e.2.status ∧ e.2.status ≤ 4)).length
def State.severeSources (s : State) : Nat := (s.flt.sources.filter fun e => decide (e.2.status = 2 ∨ e.2.status = 3)).length

/-- The stack of a source: 0 the Forme stack, 3 + q a quoin stack (R480, R481). -/
def stackOf (src : Nat) : Nat :=
  if src < 128 then 3 + src / 16 else if src < 144 then 3 + (src - 128) / 2 else if src < 152 then 3 + (src - 144) else 0

/-- The home state of a physical die-link lane: lane 27g + i carries logical lane 26g + i, lane 27g + 26 is the group's spare (R192). -/
def dlaneHome (lane : Nat) : DLane :=
  if lane % 27 < 26 then { state := 0, logical := some (26 * (lane / 27) + lane % 27) } else { state := 1, logical := none }

/-- A physical die-link lane. -/
def State.dlane (s : State) (q dir lane : Nat) : DLane := smGet (dlaneHome lane) (s.link q).lanes (dir * 432 + lane)

/-- Change a physical die-link lane; canonical. -/
def State.modDlane (s : State) (q dir lane : Nat) (f : DLane → DLane) : State :=
  s.modLink q fun l => { l with lanes := smSet (dlaneHome lane) l.lanes (dir * 432 + lane) (f (s.dlane q dir lane)) }

/-- The free spares of a quoin and direction, rising (R192, R210). -/
def State.freeSpares (s : State) (q dir : Nat) : List Nat := (upTo 432).filter fun p => decide ((s.dlane q dir p).state = 1)

/-- The device enters its safe state (R492): every front port is held down, the TPO pins are low. -/
def State.enterSafe (s : State) (cause : Nat) : State :=
  if s.flt.safe then s
  else
    let s1 := { s with flt := { s.flt with safe := true } }
    let s2 := (s1.put Obj.FLT_STATE 1).put Obj.ID_SAFE_CAUSE cause
    (upTo 16).foldl (fun a i => { a.emit (.tpo i false a.now 0) with tim := { a.tim with tpo := listMod a.tim.tpo i fun t => { t with fall := none } } }) s2

/-- Octet `o` of quoin `q` is disabled (R206): its bit is set, its logical lanes are unmapped, its healthy lanes join the spares. -/
def State.shedOctet (s : State) (q o : Nat) : State :=
  if bitOf (s.get (Obj.QD_OCTETS_SHED q)) o then s
  else
    let s1 := (s.putBit (Obj.QD_OCTETS_SHED q) o true).latch Attn.fault
    s1.modLink q fun l =>
      { l with lanes := (upTo 864).foldl (fun m k =>
          let p := k % 432
          let d := smGet (dlaneHome p) m k
          match d.logical with
          | some g => if g / 26 = o then smSet (dlaneHome p) m k { d with logical := none, state := if d.state = 3 then 3 else 1 } else m
          | none => m) l.lanes }

/-- Rung 2 (R486): the octets it disables. -/
def State.rung2 (s : State) (src : Nat) : State :=
  let taken := fun (a : State) => (a.bump Obj.FLT_RUNGS).rungEvent src Cls.rungTaken 2
  if src < 128 then
    ((taken s).shedOctet (src / 16) (src % 16)).modSource src fun x => { x with status := 4, rung := 2, timer := none }
  else if src < 144 then
    let q := (src - 128) / 2
    let lane := (s.source src).sevTile % 512
    let o := match (s.dlane q ((src - 128) % 2) lane).logical with
      | some l => l / 26
      | none => lane / 27
    ((taken s).shedOctet q o).modSource src fun x => { x with status := 0, rung := 2, timer := none }
  else
    let q := src - 144
    ((upTo 16).foldl (fun a o => a.shedOctet q o) (taken s)).modSource src fun x => { x with status := 4, rung := 2, timer := none }

/-- Rung 3 (R486): the safe state. -/
def State.rung3 (s : State) (src : Nat) : State :=
  (((s.bump Obj.FLT_RUNGS).rungEvent src Cls.rungTaken 3).modSource src fun x => { x with status := 5, rung := 3, timer := none }).enterSafe src

/-- The next rung after a refused first rung (R486). -/
def State.rungAfter1 (s : State) (src : Nat) : State :=
  let s1 := s.rungEvent src Cls.rungRefused 1
  if src < 152 then s1.rung2 src else s1.rung3 src

/-- The free spares of a bank group: physical banks 64 and 65 that no entry names and that are not retired (R335). -/
def State.bankSpares (s : State) (die group : Nat) : List Nat :=
  [64, 65].filter fun b =>
    !(s.galley.retired.contains ((die * 16 + group) * 66 + b)) &&
    !((upTo 64).any fun l => decide (smGet 0 s.galley.remap (die * 1024 + group * 64 + l) = b + 1))

/-- The logical bank that a physical bank serves, if any. -/
def State.bankLogical (s : State) (die group bank : Nat) : Option Nat :=
  (upTo 64).find? fun l =>
    let e := smGet 0 s.galley.remap (die * 1024 + group * 64 + l)
    decide (e = bank + 1) || (decide (e = 0) && decide (l = bank))

/-- A repair runs in a stack (R39). -/
def State.repairRuns (s : State) (stack : Nat) : Bool := s.flt.repairs.any fun r => decide (r.stack = stack) && r.begun

/-- Begin the first waiting repair of the Forme stack when none runs there and context 0 is not parked (R39, R486). A repair that cannot
run leaves the list; its source takes the next rung. -/
def State.dispatchForme (s : State) : State :=
  if s.repairRuns 0 || decide ((listAt {} s.cmp.ctxs 0).state = .parked) then s
  else
    match s.flt.repairs.find? (fun r => decide (r.stack = 0)) with
    | none => s
    | some r =>
      let begin_ := fun (a : State) => { a with flt := { a.flt with repairs := a.flt.repairs.map fun x => if x = r then { x with begun := true } else x } }
      let drop_ := fun (a : State) => { a with flt := { a.flt with repairs := a.flt.repairs.erase r } }
      match r.kind with
      | .bank die group bank =>
        match s.bankSpares die group, s.bankLogical die group bank with
        | sp :: _, some lb =>
          { begin_ s with galley := { s.galley with copying := some ⟨die, group, lb, bank, sp, r.reason⟩ } }
        | _, _ =>
          match r.source with
          | some src => (drop_ s).rungAfter1 src
          | none => drop_ s
      | .lpmBlock c block =>
        let used := s.get (Obj.CHS_LPM_SPARE c)
        if used = 0xFF ∧ (smGet none (s.tables.spares.map fun e => (e.1, some e.2)) c).isNone then
          { begin_ s with tables := { s.tables with spares := smInsert s.tables.spares c ⟨block, block, r.source⟩ } }
        else
          match r.source with
          | some src => (drop_ s).rungAfter1 src
          | none => drop_ s
      | .dieLink .. => s

/-- The reason of a die-link repair (R210) by the cause of its call (R489). -/
def linkReason (cause : Nat) : Nat := if cause = 0x13 then 1 else if cause = 0x14 then 3 else 2

/-- Rung 1 (R486): the repair of the failing tile joins its stack's repairs. -/
def State.rung1 (s : State) (src : Nat) : State :=
  let tile := (s.source src).sevTile
  let kind : RepairKind :=
    if src < 144 then .dieLink ((src - 128) / 2) ((src - 128) % 2) (tile % 512)
    else if src < 184 then .bank ((src - 152) / 16) ((src - 152) % 16) tile
    else .lpmBlock (src - 184) tile
  let s1 := (s.bump Obj.FLT_RUNGS).rungEvent src Cls.rungTaken 1
  let s2 := s1.modSource src fun x => { x with status := 3, rung := 1, timer := none }
  let reason := if src < 144 then linkReason (s.source src).sevCause else 1
  let s3 := { s2 with flt := { s2.flt with repairs := s2.flt.repairs ++ [Repair.mk (stackOf src) (some src) kind reason s.now false] } }
  s3.dispatchForme

/-- With no free spare: a lane of the highest-numbered gated octet's group (R206), the lowest of its lanes that carries traffic. -/
def State.gatedLane (s : State) (q dir : Nat) : Option Nat :=
  ((upTo 16).reverse.filter fun o => s.octetGated (16 * q + o)).findSome? fun o =>
    ((upTo 27).map (27 * o + ·)).find? fun p => decide ((s.dlane q dir p).state = 0) && (s.dlane q dir p).logical.isSome

/-- No spare remains that R20 allows for the failing tile of a source with spares (R40). -/
def State.noSpare (s : State) (src : Nat) : Bool :=
  if src < 144 then
    (s.freeSpares ((src - 128) / 2) ((src - 128) % 2)).isEmpty && (s.gatedLane ((src - 128) / 2) ((src - 128) % 2)).isNone
  else if src < 184 then (s.bankSpares ((src - 152) / 16) ((src - 152) % 16)).isEmpty
  else decide (s.get (Obj.CHS_LPM_SPARE (src - 184)) ≠ 0xFF)

/-- The failing tile of a die-link source is a lane that carries no logical lane: it needs no rung (R203, R486). -/
def State.idleLane (s : State) (src : Nat) : Bool :=
  decide (src < 144) && (s.dlane ((src - 128) / 2) ((src - 128) % 2) ((s.source src).sevTile % 512)).logical.isNone

/-- Such a lane is retired, and its source is quiet (R203). -/
def State.retireIdle (s : State) (src : Nat) : State :=
  let tile := (s.source src).sevTile
  (s.modDlane ((src - 128) / 2) ((src - 128) % 2) (tile % 512) fun d => { d with state := 3, logical := none }).modSource src fun x =>
    { x with status := 0, timer := none, trackers := x.trackers.filter fun (t : Tracker) => decide (t.tile ≠ tile) }

/-- The lowest rung that a source's row allows (R480, R486); a first rung that finds no spare moves the source to the next. -/
def State.takeRung (s : State) (src : Nat) : State :=
  if (128 ≤ src ∧ src < 144) ∨ (152 ≤ src ∧ src < 192) then
    if s.idleLane src then s.retireIdle src
    else if s.noSpare src then s.rungAfter1 src
    else s.rung1 src
  else if src < 152 then s.rung2 src
  else if src = 248 ∨ src = 251 ∨ src = 252 ∨ 258 ≤ src then s
  else s.rung3 src

/-- Stamps of a tracker younger than a window, in ms. -/
def freshStamps (now window : Nat) (t : Tracker) : List (Nat × Option Nat) := t.stamps.filter fun e => decide (now < e.1 + msTicks window)

/-- The trackers after an event of a tile (R482). A corrected event whose code word is held within the window adds no stamp. -/
def addStamp (now window : Nat) (ts : List Tracker) (tile : Nat) (word : Option Nat) (corrected : Bool) : List Tracker :=
  match ts.find? (fun t => decide (t.tile = tile)) with
  | some t =>
    if corrected && (word.isSome) && ((freshStamps now window t).any fun e => decide (e.2 = word)) then ts
    else ts.map fun x => if x.tile = tile then { x with stamps := ((now, word) :: x.stamps).take 64 } else x
  | none =>
    if ts.length < 4 then ts ++ [⟨tile, [(now, word)]⟩]
    else
      let newest := fun (t : Tracker) => (t.stamps.head?.map Prod.fst).getD 0
      let oldest := ts.foldl (fun m t => min m (newest t)) (newest (listAt { tile := 0, stamps := [] } ts 0))
      match ts.findIdx? (fun t => decide (newest t = oldest)) with
      | some i => listSet ts i ⟨tile, [(now, word)]⟩
      | none => ts

/-- A report of a checker: its source, class, cause code, tile, detail, record flags, code-word address, and whether it is immediate. -/
structure Report where
  src : Nat
  cls : Nat
  cause : Nat
  tile : Nat := 0xFFFF
  detail : Nat := 0
  flags : Nat := 0
  word : Option Nat := none
  immediate : Bool := false
  stamp : Bool := true

/-- A source becomes severe (R482, R485): record, timer, and the first rung at once when the reaction time is 0. -/
def State.becomeSevere (s : State) (src tile : Nat) (scope : Scope) (cause flags : Nat) : State :=
  let cfg := s.srcCfg src
  let s1 := s.modSource src fun x =>
    { x with status := 2, sevTile := tile, sevCause := cause, timer := if cfg.react = 0xFFFFFFFF then none else some (s.now + msTicks cfg.react) }
  let s2 := (s1.event src Cls.severe flags scope cause 0 0).cmpPush 0
  if cfg.react = 0 then s2.takeRung src else s2

/-- The collector handles an event (R482–R485, R489). -/
def State.report (s : State) (r : Report) : State :=
  let cfg := s.srcCfg r.src
  let scope := scopeOf r.src r.cause r.tile
  let old := s.source r.src
  let stamps := r.stamp && (decide (r.cls = Cls.corrected) || decide (r.cls = Cls.failure))
  let tile := if r.src < 144 ∨ 152 ≤ r.src then r.tile else 0xFFFF
  let ts := if stamps then addStamp s.now cfg.window old.trackers tile r.word (decide (r.cls = Cls.corrected)) else old.trackers
  let full := ts.any fun t => decide (t.tile = tile) && decide (cfg.n ≤ (freshStamps s.now cfg.window t).length)
  let now_ := r.immediate || (decide (cfg.n = 1) && decide (r.cls = Cls.failure))
  let severe := stamps && (full || now_)
  let status := if r.cls = Cls.failure ∧ old.status = 0 then 1 else old.status
  let s1 := (s.bump Obj.FLT_EVENTS).modSource r.src fun x => { x with status := status, count := (x.count + 1) % 2 ^ 64, last := s.uptime, trackers := ts }
  let s2 := s1.latch Attn.fault
  let flags := r.flags ||| (if now_ then 8 else 0)
  let s3 := if r.cls = Cls.corrected ∧ ¬ bitOf cfg.flags 0 then s2 else s2.queueRec r.src r.cls flags scope r.cause 0 r.detail
  if severe ∧ status ≤ 1 then s3.becomeSevere r.src r.tile scope r.cause flags else s3

/-- A failure event with no tile. -/
def State.failureOf (s : State) (src cause detail : Nat) : State := s.report { src := src, cls := Cls.failure, cause := cause, detail := detail }

/-- A restore fault (R70): a failure event of source 251 with the failing index (R489). -/
def State.restoreFault (s : State) (index : Nat) : State := s.failureOf 251 0x1E index

/-- A repair has put its spare in service (R486, R489): the record; the tile's tracker is freed; the source returns to quiet unless another
of its repairs waits, or another tracker holds a cause and makes it severe again. -/
def State.repairDone (s : State) (src : Option Nat) (asSrc tile detail : Nat) (stack : Nat) : State :=
  let s1 := { s with flt := { s.flt with repairs := s.flt.repairs.filter fun r => !(decide (r.stack = stack) && r.begun) } }
  let s2 := match src with
    | none => s1.note asSrc Cls.commanded 0 0 detail tile
    | some _ => s1.note asSrc Cls.rungDone 0 1 detail tile
  let s3 := match src with
    | none => s2
    | some x =>
      let cfg := s2.srcCfg x
      let ts := (s2.source x).trackers.filter fun (t : Tracker) => decide (t.tile ≠ tile)
      let a := s2.modSource x fun y => { y with trackers := ts }
      if a.flt.repairs.any fun r => decide (r.source = some x) then a
      else
        match ts.find? fun t => decide (cfg.n ≤ (freshStamps s2.now cfg.window t).length) with
        | some t => (a.modSource x fun y => { y with status := 1 }).becomeSevere x t.tile (scopeOf x (a.source x).sevCause t.tile) (a.source x).sevCause 0
        | none => a.modSource x fun y => { y with status := 0, timer := none }
  s3.dispatchForme

/-! ### Sensors (R506–R508) -/

/-- The die of a sensor: 0 Forme, 1 G0, 2 G1, 3 + q (R506). -/
def sensorDie (k : Nat) : Nat := if k < 24 then 0 else if k < 28 then 1 else if k < 32 then 2 else 3 + (k - 32) / 4

/-- A sensor. -/
def State.sensor (s : State) (k : Nat) : Sensor := smGet {} s.power.sensors k

/-- Change a sensor; canonical. -/
def State.modSensor (s : State) (k : Nat) (f : Sensor → Sensor) : State :=
  { s with power := { s.power with sensors := smSet {} s.power.sensors k (f (s.sensor k)) } }

/-- The reading of the nearest working sensor of the same die, by number, the lower first (R507; DEDUCED, notes/assumptions/32). -/
def State.nearestTemp (s : State) (k : Nat) : Int :=
  match ((upTo 24).flatMap fun d => [k - d, k + d]).find? (fun j => decide (j < 64) && decide (j ≠ k) && decide (sensorDie j = sensorDie k) && (s.sensor j).seen && !(s.sensor j).failed) with
  | some j => (s.sensor j).own
  | none => (s.sensor k).own

/-- The readings of a die's sensors that have been read since reset. -/
def State.dieTemps (s : State) (die : Nat) : List Int :=
  ((upTo 64).filter fun k => decide (sensorDie k = die) && (s.sensor k).seen).map fun k => (s.sensor k).temp

/-- The hottest reading of a die. -/
def State.dieMax (s : State) (die : Nat) : Int :=
  match s.dieTemps die with
  | [] => 0
  | x :: l => l.foldl max x

/-- The coolest reading of a die. -/
def State.dieMin (s : State) (die : Nat) : Int :=
  match s.dieTemps die with
  | [] => 0
  | x :: l => l.foldl min x

/-- `QD_TEMP_DELTA`: the quoin's hottest sensor less the Forme's hottest (R207, R210); 0 until both have been read. -/
def State.tempDelta (s : State) (q : Nat) : Int :=
  if s.dieTemps (3 + q) = [] ∨ s.dieTemps 0 = [] then 0 else s.dieMax (3 + q) - s.dieMax 0

/-- A temperature difference of R207 is beyond its limit at a quoin: 45 °C to the Forme, or 20 °C within the quoin. -/
def State.tempExcess (s : State) (q : Nat) : Bool := decide (360 < (s.tempDelta q).natAbs) || decide (160 < s.dieMax (3 + q) - s.dieMin (3 + q))

/-! ### Causes (R484) -/

/-- A lane of octet `o` is failed and held (R190). -/
def State.laneHeld (s : State) (o : Nat) : Bool := (upTo 8).any fun i => decide ((s.lane (8 * o + i)).failCause ≠ 0)

/-- The cause of a source is present (R484). A unit out of service has no cause. -/
def State.causePresent (s : State) (src : Nat) : Bool :=
  let cfg := s.srcCfg src
  let counted := (s.source src).trackers.any fun t => decide (cfg.n ≤ (freshStamps s.now cfg.window t).length)
  if src < 128 then (counted || s.laneHeld src) && !(s.octetShed src)
  else if src < 144 then counted
  else if src < 152 then
    counted || decide ((s.link (src - 144)).state = 4) || (s.inService && !(bitOf (s.get Obj.TIM_REPLICA_VALID) (src - 144))) || s.tempExcess (src - 144)
  else if src = 250 then counted || ((upTo 16).any fun i => decide ((s.page i).state = 3))
  else if 253 ≤ src ∧ src < 258 then counted || decide (0 < (listAt {} s.power.rails (src - 253)).fails)
  else if src = 259 then counted || (s.source src).level
  else if 260 ≤ src then counted || (smGet {} s.power.sensors (src - 260)).warn
  else counted

/-- A cause that was present in `s0` and is present no more is noted (CLASS 4 of R489; DEDUCED, notes/assumptions/54). -/
def State.causeEnds (s s0 : State) (src cause : Nat) : State :=
  if s0.causePresent src ∧ ¬ s.causePresent src then s.note src Cls.causeGone cause 0 0 0xFFFF else s

/-- A source is cleared: it is quiet again, and the collector notes it (R488). -/
def State.clearSource (s : State) (src : Nat) : State :=
  (s.modSource src fun x => { x with status := 0, timer := none }).note src Cls.cleared 0 0 0 (s.source src).sevTile

end Sys2Proof.Machine
end

