-- ==== Sys2Proof/Machine/Kce.lean ====
section
/-! DEFINITION. The keyed check engine: pages, ceilings and their rings in the key region, installs, the message queues (06). -/

namespace Sys2Proof.Machine
open Sys2Proof

/-! ### The key region (R157, R158) -/

/-- The key of a ring entry in a copy: page × 64 + kind × 32 + entry. -/
def ringKey (page : Nat) (usage : Bool) (entry : Nat) : Nat := page * 64 + (if usage then 32 else 0) + entry

/-- One more write of a word of the store (R78); the 90,000,000th records a wear fault. -/
def State.wear (s : State) (word : Nat) : State :=
  let n := smGet 0 s.store.wear word + 1
  let s1 := { s with store := { s.store with wear := smSet 0 s.store.wear word n } }
  let s2 := s1.raiseTo Obj.LCY_PS_WEAR n
  if n = 90000000 then (s2.failureOf 251 0x24 0).latch Attn.lifecycle else s2

/-- A record of a page written to both copies (R157). -/
def State.writeKeyRec (s : State) (page : Nat) (r : KeyRec) : State :=
  let put := fun (c : KeyCopy) => { c with recs := smInsert c.recs page r }
  ({ s with store := { s.store with keys0 := put s.store.keys0, keys1 := put s.store.keys1 } }).wear (16 + page)

/-- The next ring entry of a ceiling written to both copies with the page's INSTALLS (R157); the entry's write time is kept, newest first. -/
def State.writeRing (s : State) (page : Nat) (usage : Bool) (value : Nat) : State :=
  let p := s.page page
  let pos := if usage then p.posU else p.posS
  let k := ringKey page usage pos
  let put := fun (c : KeyCopy) => { c with ring := smInsert c.ring k (value, p.installs) }
  let s1 := ({ s with store := { s.store with keys0 := put s.store.keys0, keys1 := put s.store.keys1 } }).wear (64 + k)
  s1.modPage page fun x =>
    if usage then { x with posU := (pos + 1) % 32, timesU := (s.now :: x.timesU).take 32, writtenU := value, raiseU := none }
    else { x with posS := (pos + 1) % 32, timesS := (s.now :: x.timesS).take 32, writtenS := value, raiseS := none }

/-- The next entry of a ring is free: its last write lies 5 s back (R157). -/
def ringFree (now : Nat) (times : List Nat) : Bool :=
  match times[31]? with
  | none => true
  | some t => decide (t + secTicks 5 ≤ now)

/-- A record of a page with the fields that the key region keeps (R149, R157). -/
def KeyPage.record (p : KeyPage) : KeyRec := { key := p.key, use := p.use, cls := p.cls, state := p.state, near := p.near, installs := p.installs }

/-- The largest VALUE of a ring whose INSTALLS matches (R158). -/
def ringMax (c : KeyCopy) (page : Nat) (usage : Bool) (installs : Nat) : Nat :=
  (upTo 32).foldl (fun m e =>
    match (c.ring.find? fun x => decide (x.1 = ringKey page usage e)).map Prod.snd with
    | some (v, i) => if i = installs then max m v else m
    | none => m) 0

/-- The entry after the one that holds a ceiling's largest VALUE: where the ring goes on after a load (R157; DEDUCED, notes/assumptions/51). -/
def ringNext (c : KeyCopy) (page : Nat) (usage : Bool) (installs value : Nat) : Nat :=
  match (upTo 32).find? fun e => decide ((c.ring.find? fun x => decide (x.1 = ringKey page usage e)).map Prod.snd = some (value, installs)) with
  | some e => (e + 1) % 32
  | none => 0

/-- A page's working copy as loaded from a copy of the key region: counts start at their ceilings (R155, R158). -/
def loadPage (c : KeyCopy) (page : Nat) : KeyPage :=
  match (c.recs.find? fun x => decide (x.1 = page)).map Prod.snd with
  | none => {}
  | some r =>
    if r.state = 0 then { installs := r.installs }
    else
      let cs := ringMax c page false r.installs
      let cu := ringMax c page true r.installs
      let ctr := if r.use = 1 then 0 else cs
      { key := r.key, use := r.use, cls := r.cls, state := if r.state = 3 then 1 else r.state, counter := ctr, used := cu, near := r.near,
        installs := r.installs, ceilS := cs, ceilU := cu, writtenS := cs, writtenU := cu,
        posS := ringNext c page false r.installs cs, posU := ringNext c page true r.installs cu }

/-! ### Ceilings (R155, R156) -/

/-- A page is past a KEY threshold (R154). -/
def KeyPage.pastNear (p : KeyPage) : Bool :=
  decide (p.state = 1 ∨ p.state = 2) && (decide (2 ^ 48 - p.used ≤ p.near) || (decide (p.use = 0) && decide (2 ^ 63 < p.counter)))

/-- KEY comes to hold for a page (R116, R118): latched in its own session and in every Custodian session. -/
def State.keyOnset (s old : State) (page : Nat) : State :=
  if (s.page page).pastNear && !(old.page page).pastNear then
    let set_ := fun (i : Nat) (x : Session) =>
      if x.isOpen && (decide (i = page) || decide ((s.page i).cls = 3)) then { x with latches := x.latches ||| (1 <<< Attn.key) } else x
    { s with wonel := { s.wonel with sessions := s.wonel.sessions.mapIdx set_ } }
  else s

/-- Accepting a SEQ: the counter takes it, and its ceiling is raised when it comes within 2³⁹ (R155). -/
def State.acceptSeq (s : State) (page seq : Nat) : State :=
  (s.modPage page fun x =>
    let x1 := { x with counter := seq }
    if x.ceilS < seq + 2 ^ 39 then
      let v := min (seq + 2 ^ 40) (2 ^ 64 - 1)
      { x1 with ceilS := v, raiseS := some v }
    else x1).keyOnset s page

/-- A page locks (R153); the lock is recorded in the key region. -/
def State.lockPage (s : State) (page : Nat) : State :=
  let s1 := s.modPage page fun x => { x with state := 2 }
  s1.writeKeyRec page (s1.page page).record

/-- A page with no room for what its use needs next (R153): two messages on a management page, one on a PTP page. -/
def KeyPage.spent (p : KeyPage) : Bool := decide (2 ^ 48 < p.used + (if p.use = 0 then 2 else 1))

/-- Counting messages against a page's usage limit (R153, R155): the page locks when its room is spent. -/
def State.countUse (s : State) (page n : Nat) : State :=
  let s1 := (s.modPage page fun x =>
    let u := x.used + n
    if x.ceilU < u + 2 ^ 23 then
      let v := min (u + 2 ^ 24) (2 ^ 48)
      { x with used := u, ceilU := v, raiseU := some v }
    else { x with used := u }).keyOnset s page
  if (s1.page page).spent ∧ (s1.page page).state = 1 then s1.lockPage page else s1

/-- A page holds a key that serves messages of a use (R150, R153). -/
def KeyPage.serves (p : KeyPage) (use : Nat) : Bool := decide (p.state = 1) && decide (p.use = use)

/-- A session closes (R98, R99): latches, queue, bulk transfer and counter selection go. -/
def State.closeSession (s : State) (i : Nat) : State :=
  s.modSession i fun x => { x with isOpen := false, idle := 0, deadline := 0, latches := 0, queue := [], bulk := none, pmcSel := 0 }

/-- Requests held for a raise are released by the values written (R156): the need is met when the written ceiling reaches it. -/
def Request.held (r : Request) (p : KeyPage) : Bool :=
  (match r.need with | some v => decide (p.writtenS < v) | none => false) ||
  (match r.needU with | some v => decide (p.writtenU < v) | none => false)

/-- CEILING_RAISE_WRITTEN (R156): the raise in waiting takes the next ring entry, if one is free. -/
def execCeilingRaiseWritten (page : Nat) (usage : Bool) (s : State) : Host.Outcome State Fault Refusal :=
  let p := s.page page
  .next (match (if usage then p.raiseU else p.raiseS) with
    | some v => if ringFree s.now (if usage then p.timesU else p.timesS) then s.writeRing page usage v else s
    | none => s)

/-- KEY_RING_ENTRY_FREE (R157): 5 s have passed since the entry's last write; a raise that waits for it is written. -/
def execKeyRingEntryFree (page : Nat) (usage : Bool) (s : State) : Host.Outcome State Fault Refusal :=
  let p := s.page page
  let times := if usage then p.timesU else p.timesS
  .next (match times[31]?, (if usage then p.raiseU else p.raiseS) with
    | some t, some v => if t + secTicks 5 ≤ s.now then s.writeRing page usage v else s
    | _, _ => s)

/-! ### Install and empty (R159–R162) -/

/-- `KCE_PAGE_HOLD` in ms. -/
def State.pageHold (s : State) (p : Nat) : Nat := ((s.page p).holdUntil - s.now + 799999) / 800000

/-- The staged key of a page, its first KEYLEN bytes. -/
def State.stagedKey (s : State) (p len : Nat) : Bytes := (beBytes 32 (s.get (Obj.KCE_NEW_KEY p))).take len

/-- The DETAIL of the first check of R159 that fails, or 0. -/
def State.installDetail (s : State) (p : Nat) : Nat :=
  let len := s.get (Obj.KCE_NEW_KEYLEN p)
  let cls := s.get (Obj.KCE_NEW_CLASS p)
  let use := s.get (Obj.KCE_NEW_USE p)
  if len ≠ 16 ∧ len ≠ 32 then 1
  else if 3 < cls then 2
  else if 1 < use then 3
  else if 2 ^ 48 ≤ s.get (Obj.KCE_NEW_NEAR p) then 4
  else if (s.page p).key = s.stagedKey p len then 5
  else if p = 0 ∧ ¬ (use = 0 ∧ cls = 3) then 6
  else 0

/-- After an install or empty: grant zero, session closed, cached reply gone, hold of 5 s (R146, R160, R162). -/
def State.afterRekey (s : State) (p : Nat) : State :=
  ((s.put (Obj.SES_GRANT p) 0).closeSession p).modSession p fun x => { x with cache := none }

/-- The effects of an install (R160), in its order. -/
def State.installPage (s : State) (p : Nat) : State :=
  let len := s.get (Obj.KCE_NEW_KEYLEN p)
  let np : KeyPage :=
    { key := s.stagedKey p len, use := s.get (Obj.KCE_NEW_USE p), cls := s.get (Obj.KCE_NEW_CLASS p), state := 1, near := s.get (Obj.KCE_NEW_NEAR p),
      installs := ((s.page p).installs + 1) % 2 ^ 32, ceilS := 2 ^ 40, ceilU := 2 ^ 24, holdUntil := s.now + secTicks 5 }
  let s1 := (s.modPage p fun _ => np).writeKeyRec p np.record
  let s2 := (s1.writeRing p false (2 ^ 40)).writeRing p true (2 ^ 24)
  ((s2.afterRekey p).put (Obj.KCE_NEW_KEY p) 0).put (Obj.KCE_NEW_KEYLEN p) 0

/-- A START on `KCE_INSTALL` of a page (R159, R160). -/
def startKceInstall (s : State) (p : Nat) : Nat × State :=
  let lcy := s.get Obj.LCY_STATE
  if (lcy = 0 ∨ lcy = 3) ∧ p ≠ 0 then (Res.badState, s)
  else if 0 < s.pageHold p then (Res.busy, s)
  else
    let d := s.installDetail p
    if d ≠ 0 then (Res.ok, s.runOnce (Obj.KCE_INSTALL p) Res.badValue d)
    else (Res.ok, (s.installPage p).runOnce (Obj.KCE_INSTALL p) Res.ok 0)

/-- A START on `KCE_EMPTY` of a page (R161). -/
def startKceEmpty (s : State) (p : Nat) : Nat × State :=
  let lcy := s.get Obj.LCY_STATE
  if (lcy = 0 ∨ lcy = 3) ∧ p ≠ 0 then (Res.badState, s)
  else if 0 < s.pageHold p then (Res.busy, s)
  else if p = 0 then (Res.ok, s.runOnce (Obj.KCE_EMPTY p) Res.badValue 6)
  else
    let np : KeyPage := { installs := ((s.page p).installs + 1) % 2 ^ 32, holdUntil := s.now + secTicks 5 }
    let s1 := ((s.modPage p fun _ => np).writeKeyRec p np.record).afterRekey p
    (Res.ok, s1.runOnce (Obj.KCE_EMPTY p) Res.ok 0)

/-- KCE_PAGE_HOLD_EXPIRY (R162): the 5,000 ms of a page have run out, so it may be installed or emptied again. -/
def execKcePageHoldExpiry (page : Nat) (s : State) : Host.Outcome State Fault Refusal :=
  .next (if (s.page page).holdUntil ≤ s.now then s.modPage page fun x => { x with holdUntil := 0 } else s)

/-! ### Messages (R163–R166) -/

/-- The use that a level's messages need: levels 0–2 are PTP (R164). -/
def levelUse (level : Nat) : Nat := if level < 3 then 1 else 0

/-- Blocks of a message (R148). -/
def kceBlocks (data : Bytes) : Nat := max 1 ((data.length + 15) / 16)

/-- A message is refused on an empty, locked or failed page (R153, R169): its customer's verdict is a failure with no tag. -/
def State.kceRefuse (s : State) (m : KceMsg) : State :=
  let s1 := s.bump Obj.KCE_REFUSED
  { s1 with kce := { s1.kce with results := s1.kce.results ++ [(m.handle, [], false)] } }

/-- The next message begins: the oldest of the highest level that waits, under the page's key at this clock (R163, R164); a suspended
message goes before every message of its level or below (R165). A message whose page serves it no more is refused. -/
def State.kceNext (s : State) : State :=
  let slot := s.kce.slots.foldl (fun (b : Option KceMsg) m => match b with | some x => if m.level < x.level then some m else b | none => some m) none
  let head := s.kce.queues.foldl (fun (b : Option KceMsg) m => match b with | some x => if m.level < x.level then some m else b | none => some m) none
  let resume := fun (m : KceMsg) => { s with kce := { s.kce with running := some m, slots := s.kce.slots.erase m } }
  let begin_ := fun (m : KceMsg) =>
    let s1 := { s with kce := { s.kce with queues := s.kce.queues.erase m, running := none } }
    let p := s.page m.page
    if p.serves (levelUse m.level) then
      let s2 := { s1 with kce := { s1.kce with running := some { m with key := p.key } } }
      if m.level = 0 then s2.raiseTo Obj.KCE_L0_WAIT_MAX (s.now - m.arrived) else s2
    else s1.kceRefuse m
  match slot, head with
  | none, none => { s with kce := { s.kce with running := none } }
  | some m, none => resume m
  | none, some m => begin_ m
  | some x, some m => if m.level < x.level then begin_ m else resume x

/-- Hand a message to its level's queue; a full queue of 16 makes the customer wait, so nothing changes (R164). -/
def State.kcePut (s : State) (level page handle : Nat) (data : Bytes) (expect : Option Bytes) : State :=
  let m : KceMsg := { level := level, page := page, handle := handle, data := data, expect := expect, key := [], done := 0, arrived := s.now }
  if 16 ≤ (s.kce.queues.filter fun x => decide (x.level = level)).length then s
  else
    let s1 := { s with kce := { s.kce with queues := s.kce.queues ++ [m] } }
    if s.kce.running.isNone then s1.kceNext else s1

/-- KCE_MESSAGE (R164). -/
def execKceMessage (level page handle : Nat) (data : Bytes) (expect : Option Bytes) (s : State) : Host.Outcome State Fault Refusal :=
  .next (if level < 5 ∧ page < 16 then s.kcePut level page handle data expect else s)

/-- KCE_SUSPEND (R165): at a block boundary a waiting message of strictly higher level takes over; the running context goes to a slot. -/
def execKceSuspend (blocks : Nat) (s : State) : Host.Outcome State Fault Refusal :=
  .next (match s.kce.running with
    | some m =>
      if (s.kce.queues.any fun x => decide (x.level < m.level)) ∧ m.done + blocks < kceBlocks m.data then
        let s1 := { s with kce := { s.kce with running := none, slots := s.kce.slots ++ [{ m with done := m.done + blocks }] } }
        s1.kceNext
      else s
    | none => s)

/-- The tag that a page's use carries: 64 bits for PTP (R147). -/
def usedTag (level : Nat) (tag : Bytes) : Bytes := if level < 3 then tag.take 8 else tag

/-- KCE_MESSAGE_DONE (R166): the tag is delivered or compared, PTP messages are counted (R153), and the next message runs. -/
def execKceMessageDone (s : State) : Host.Outcome State Fault Refusal :=
  .next (match s.kce.running with
    | none => s
    | some m =>
      let tag := usedTag m.level (cmac m.key m.data)
      let pass := match m.expect with
        | some e => decide (e = tag)
        | none => true
      let s1 := (s.bumpBy Obj.KCE_BLOCKS (kceBlocks m.data)).bump Obj.KCE_MESSAGES
      let counted := decide (m.level < 3) && pass
      let s2 := if counted then s1.countUse m.page 1 else s1
      let out := if m.expect.isSome then [] else tag
      { s2 with kce := { s2.kce with running := none, results := s2.kce.results ++ [(m.handle, out, pass)] } }.kceNext)

/-- A message computed for the device's own customers at once: the counters of the engine move as for any message (R169). -/
def State.kceTag (s : State) (page : Nat) (data : Bytes) : Bytes × State :=
  (cmac (s.page page).key data, (s.bumpBy Obj.KCE_BLOCKS (kceBlocks data)).bump Obj.KCE_MESSAGES)

/-- KCE_UNCORRECTABLE (R167): a working copy stops every message of its page, marks it failed, raises a fault and reloads the page from the
active bank's copy of the key region; a context stops its message alone. -/
def execKceUncorrectable (page : Nat) (slot : Option Nat) (s : State) : Host.Outcome State Fault Refusal :=
  let refuseAll := fun (a : State) (l : List KceMsg) => l.foldl (fun b m => b.kceRefuse m) a
  .next (match slot with
    | some i =>
      match s.kce.slots[i]? with
      | some m => (({ s with kce := { s.kce with slots := s.kce.slots.erase m } }).kceRefuse m).failureOf 250 12 0
      | none => s
    | none =>
      let mine := fun (m : KceMsg) => decide (m.page = page)
      let gone := (s.kce.running.toList ++ s.kce.slots ++ s.kce.queues).filter mine
      let run := match s.kce.running with
        | some m => if m.page = page then none else some m
        | none => none
      let s1 := { s with kce := { s.kce with running := run, slots := s.kce.slots.filter fun m => !mine m, queues := s.kce.queues.filter fun m => !mine m } }
      let s2 := (refuseAll s1 gone).modPage page fun x => { x with state := 3 }
      let s3 := s2.report { src := 250, cls := Cls.failure, cause := 12, tile := page }
      let c := if s.store.active = 0 then s.store.keys0 else s.store.keys1
      let s4 := s3.modPage page fun x => { loadPage c page with posS := x.posS, posU := x.posU, timesS := x.timesS, timesU := x.timesU, holdUntil := x.holdUntil }
      if s4.kce.running.isNone then s4.kceNext else s4)

end Sys2Proof.Machine
end

