-- ==== Sys2Proof/Machine/Power.lean ====
section
/-! DEFINITION. Power and thermal management: rails, regulator bus, core voltage, sensors, trip (19). Rail 0 VCORE, 1 VGAL, 2 VQ,
3 VLANE_A, 4 VLANE_H (R510). -/

namespace Sys2Proof.Machine
open Sys2Proof

/-- Nominal voltages in mV; VCORE as during start-up (R497). -/
def railNominal (r : Nat) : Nat := listAt 0 [800, 750, 750, 900, 1200] r

/-- Rails in their up order (R497). -/
def upOrder : List Nat := [1, 2, 3, 4, 0]

/-- A rail. -/
def State.rail (s : State) (r : Nat) : Rail := listAt {} s.power.rails r

/-- Change a rail. -/
def State.modRail (s : State) (r : Nat) (f : Rail → Rail) : State :=
  { s with power := { s.power with rails := listMod s.power.rails r f } }

/-- The bank in use (R76). -/
def State.bank (s : State) : Bank := if s.store.active = 0 then s.store.bankA else s.store.bankB

/-- The trim of a rail from the calibration, 0 where the calibration is erased (R81, R497). -/
def State.trim (s : State) (r : Nat) : Int := if s.bank.calib.factory then (Config.railTrim r % 51 : Nat) - 25 else 0

/-- The set point of a rail during start-up (R497): a PMBus rail's with its trim, VCORE 0.80 V until phase 10. -/
def State.startSet (s : State) (r : Nat) : Nat := if r = 0 then railNominal 0 else ((railNominal r : Int) + s.trim r).toNat

/-- A failure event, held by the always-on domain while the collector does not run (R67, R71; DEDUCED, notes/assumptions/30). -/
def State.railEvent (s : State) (src cause : Nat) : State :=
  if s.flt.running then s.failureOf src cause 0
  else { s with boot := { s.boot with heldFaults := s.boot.heldFaults ++ [(src, cause)] } }

/-- The bus is driven: RESET_N is high, no trip, not shut down (R51, R500, R508). -/
def State.busOn (s : State) : Bool := s.boot.resetN && !s.power.thermtrip && decide (s.boot.phase ≠ .shutDown) && s.boot.vio && s.boot.vstby

/-- A PMBus command to a rail's regulator. -/
def State.pmb (s : State) (r cmd data : Nat) : State := s.emit (.pmbus r cmd data)

/-- OPERATION off (R498). -/
def State.railOff (s : State) (r : Nat) : State := (s.pmb r 0x01 0).modRail r fun x => { x with state := 0, onSent := false }

/-- Voltage and OPERATION on (R498 step 2): the 50 ms begin. -/
def State.railOn (s : State) (r : Nat) : State :=
  let v := s.startSet r
  let s1 := if r = 0 then s.emit (.avs v) else s.pmb r 0x21 v
  (s1.pmb r 0x01 0x80).modRail r fun x => { x with state := 1, set := v, onSent := true, deadline := s.now + msTicks 50 }

/-- The first step of raising a rail begins with its next poll (R498 step 1). -/
def State.railBegin (s : State) (r : Nat) : State :=
  s.modRail r fun x => { x with state := 1, set := s.startSet r, onSent := false, deadline := 0 }

/-- Phase 3 begins (R498). -/
def State.railsBegin (s : State) : State :=
  (({ s with boot := { s.boot with phase := .rails, railIx := 0, restartAt := none }, power := { s.power with rails := s.power.rails.map fun _ => {} } }).put
    Obj.PWR_STATE 1).railBegin 1

/-- The collector starts in phase 3 with the faults held for it, stamped with the FRC at that moment (R67, R71). -/
def State.collectorStart (s : State) : State :=
  let s1 := { s with flt := { running := true }, boot := { s.boot with heldFaults := [] } }
  s.boot.heldFaults.foldl (fun a e => a.failureOf e.1 e.2 0) s1

/-- The next rail of the order, or the end of phase 3: the Forme's rails are valid, so the FRC and the collector start (R68, R384). -/
def State.nextRail (s : State) : State :=
  let ix := s.boot.railIx + 1
  let s1 := { s with boot := { s.boot with railIx := ix } }
  match upOrder[ix]? with
  | some r => s1.railBegin r
  | none =>
    let s2 := { s1 with boot := { s1.boot with phase := .store }, tim := { s1.tim with running := true, start := s.now } }
    s2.collectorStart.put Obj.PWR_STATE 2

/-- Within ±5% of the set point with POWER_GOOD# clear (R498 step 3). -/
def railValid (set vout : Nat) (status : BitVec 16) : Bool :=
  decide (20 * (max set vout - min set vout) ≤ set) && !status.getLsbD 11

/-- RAIL_POLL (R498). -/
def execRailPoll (rail vout : Nat) (status : BitVec 16) (s : State) : Host.Outcome State Fault Refusal :=
  .next (if ¬ s.busOn ∨ s.boot.phase ≠ .rails then s
    else match s.boot.restartAt with
    | some t => if t ≤ s.now then s.railsBegin else s
    | none =>
      if upOrder[s.boot.railIx]? ≠ some rail then s
      else
        let s1 := (s.modRail rail fun x => { x with vout := vout }).put (Obj.PWR_R_STATUS rail) status.toNat
        let x := s1.rail rail
        if x.onSent then
          if railValid x.set vout status then (s1.modRail rail fun y => { y with state := 2 }).nextRail else s1
        else if railNominal rail < 10 * vout ∧ (x.deadline = 0 ∨ s.now < x.deadline) then
          if x.deadline = 0 then (s1.pmb rail 0x01 0).modRail rail fun y => { y with deadline := s.now + msTicks 10 } else s1
        else s1.railOn rail)

/-- Lower the rails that are up, in down order (R497, R499, R500). -/
def State.lowerRails (s : State) : State :=
  upOrder.reverse.foldl (fun a r => if (a.rail r).state = 0 then a else a.railOff r) s

/-- RAIL_DEADLINE (R499). -/
def execRailDeadline (rail : Nat) (s : State) : Host.Outcome State Fault Refusal :=
  let x := s.rail rail
  .next (if ¬ s.busOn ∨ s.boot.phase ≠ .rails ∨ upOrder[s.boot.railIx]? ≠ some rail ∨ ¬ x.onSent ∨ s.now < x.deadline then s
    else
      let s1 := s.railOff rail
      if x.tries = 0 then (s1.modRail rail fun y => { y with tries := 1 }).railBegin rail
      else
        let s2 := (s1.railEvent (253 + rail) 0x21).modRail rail fun y => { y with state := 3 }
        if rail = 0 ∨ rail = 3 then
          let s3 := s2.lowerRails
          { s3 with boot := { s3.boot with restartAt := some (s.now + secTicks 1) } }
        else ({ s2 with boot := { s2.boot with railFault := some (253 + rail) } }).nextRail)

/-- VOUT, IOUT, INPUT, POWER_GOOD# and TEMPERATURE of STATUS_WORD (R501; bit places of PMBus 1.3, PRESUMED, notes/assumptions/31). -/
def statusBad (st : BitVec 16) : Bool := decide (st &&& 0xE804#16 ≠ 0#16)

/-- A status word read outside phase 3 (R501). -/
def State.statusRead (s : State) (rail : Nat) (st : BitVec 16) (clear : Bool) : State :=
  let s1 := s.put (Obj.PWR_R_STATUS rail) st.toNat
  if statusBad st then
    let s2 := s1.failureOf (253 + rail) 0x21 st.toNat
    let s3 := if clear then s2.pmb rail 0x03 0 else s2
    s3.modRail rail fun x => { x with rereadAt := some (s.now + msTicks 1) }
  else s1.modRail rail fun x => { x with rereadAt := none }

/-- The regulators are polled: phase 3 is over. -/
def State.polled (s : State) : Bool := s.busOn && decide (s.get Obj.PWR_STATE = 2)

/-- REGULATOR_POLL (R501). -/
def execRegulatorPoll (rail vout iout : Nat) (status : BitVec 16) (s : State) : Host.Outcome State Fault Refusal :=
  .next (if s.polled ∧ rail < 5 then
    let s1 := s.modRail rail fun x => { x with vout := vout, iout := iout }
    if (s.rail rail).rereadAt.isSome then s1.put (Obj.PWR_R_STATUS rail) status.toNat else s1.statusRead rail status true
  else s)

/-- REGULATOR_FAULT_REREAD (R501). -/
def execRegulatorFaultReread (rail : Nat) (status : BitVec 16) (s : State) : Host.Outcome State Fault Refusal :=
  .next (match (s.rail rail).rereadAt with
    | some t => if s.polled ∧ t ≤ s.now then s.statusRead rail status false else s
    | none => s)

/-- PMB_ALERT (R501). -/
def execPmbAlert (status : List (BitVec 16)) (s : State) : Host.Outcome State Fault Refusal :=
  .next (if s.polled then
    (upTo 5).foldl (fun a r => match status[r]? with
      | some st => if (a.rail r).rereadAt.isSome then a.put (Obj.PWR_R_STATUS r) st.toNat else a.statusRead r st true
      | none => a) (s.bump Obj.PWR_ALERTS)
  else s)

/-- PMBUS_TRANSACTION_FAILURE (R52): abandoned, reported, and retried after 1 ms. -/
def execPmbusTransactionFailure (rail : Nat) (s : State) : Host.Outcome State Fault Refusal :=
  .next (if s.busOn ∧ rail < 5 then
    (s.railEvent (253 + rail) 0x21).modRail rail fun x => { x with fails := 1, retryAt := some (s.now + msTicks 1) }
  else s)

/-- PMBUS_RETRY (R52). -/
def execPmbusRetry (rail : Nat) (ok : Bool) (s : State) : Host.Outcome State Fault Refusal :=
  .next (match (s.rail rail).retryAt with
    | some t =>
      if ¬ s.busOn ∨ s.now < t then s
      else if ok then (s.modRail rail fun x => { x with fails := 0, retryAt := none }).causeEnds s (253 + rail) 0x21
      else (s.railEvent (253 + rail) 0x21).modRail rail fun x => { x with fails := x.fails + 1, retryAt := some (s.now + msTicks 1) }
    | none => s)

/-- A move of VCORE: the order goes out, and every sensor knows that the core voltage has moved (R503, R507). -/
def State.moveVcore (s : State) (mv : Nat) : State :=
  let s1 := (s.emit (.avs mv)).modRail 0 fun x => { x with set := mv }
  { s1 with power := { s1.power with sensors := s1.power.sensors.map fun e => (e.1, { e.2 with vcoreMoved := true }) } }

/-- RAIL_DROOP (R502). -/
def execRailDroop (rail ns : Nat) (s : State) : Host.Outcome State Fault Refusal :=
  .next (if ns < 1000 ∨ (s.rail rail).state ≠ 2 ∨ ¬ s.flt.running then s
    else
      let s1 := (s.bump (Obj.PWR_R_DROOPS rail)).failureOf (253 + rail) 0x22 0
      if rail = 0 ∧ (s.rail 0).set < 850 ∧ s.busOn then s1.moveVcore (min 850 ((s.rail 0).set + 10)) else s1)

/-- AVS_LOOP (R503). -/
def execAvsLoop (margin : Int) (s : State) : Host.Outcome State Fault Refusal :=
  .next (if ¬ s.polled ∨ ¬ s.inService then s
    else
      let s1 := s.put Obj.PWR_AVS_MARGIN (ofSigned 32 margin)
      let s2 := { s1 with power := { s1.power with margin := margin, marginRun := if 25 < margin then s1.power.marginRun + 1 else 0 } }
      let s3 := if margin < 0 then s2.failureOf 253 0x22 0 else s2
      let v := (s3.rail 0).set
      if s3.get Obj.PWR_AVS_MODE = 1 then
        let f := s3.get Obj.PWR_AVS_FIXED
        if v = f then s3 else s3.moveVcore f
      else if margin < 10 then (if v < 850 then s3.moveVcore (min 850 (v + 5)) else s3)
      else if 100 ≤ s3.power.marginRun then
        let s4 := { s3 with power := { s3.power with marginRun := 0 } }
        if 650 < v then s4.moveVcore (max 650 (v - 5)) else s4
      else s3)

/-! ### Sensors and the trip (R507, R508) -/

/-- SENSOR_READ (R507, R208). -/
def execSensorRead (sensor : Nat) (temp : Int) (s : State) : Host.Outcome State Fault Refusal :=
  .next (if 64 ≤ sensor ∨ ¬ s.flt.running ∨ ¬ s.boot.resetN then s
    else
      let x := s.sensor sensor
      let same := decide (temp = x.own)
      let changed := if same then x.changed else s.now
      let moved := same && x.vcoreMoved
      let bad := decide (temp < -480 ∨ 1600 < temp) || (moved && decide (changed + secTicks 1 ≤ s.now))
      let s1 := s.modSensor sensor fun y => { y with own := temp, changed := changed, vcoreMoved := moved, failed := y.failed || bad }
      let s2 := if bad ∧ ¬ x.failed then s1.failureOf (260 + sensor) 0x23 0 else s1
      let t := if (s2.sensor sensor).failed then s2.nearestTemp sensor else temp
      let lim := toSigned 32 (s2.get (Obj.PWR_S_WARN sensor))
      let warn := if x.warn then decide (lim - 40 < t) else decide (lim < t)
      let excess := fun (a : State) => (upTo 8).map a.tempExcess
      let was := excess s2
      let s3 := (s2.modSensor sensor fun y => { y with temp := t, warn := warn, seen := true }).causeEnds s2 (260 + sensor) 0x23
      let s4 := if toSigned 32 (s3.get (Obj.PWR_S_MAX sensor)) < t then s3.put (Obj.PWR_S_MAX sensor) (ofSigned 32 t) else s3
      let s5 := if warn ∧ ¬ x.warn then
          (s4.report { src := 260 + sensor, cls := Cls.info, cause := 0x23 }).latch Attn.thermal
        else s4
      (upTo 8).foldl (fun a q => if a.tempExcess q ∧ ¬ listAt false was q then a.failureOf (144 + q) 0x18 0 else a.causeEnds s2 (144 + q) 0x18) s5)

/-- THERMAL_TRIP (R50, R508): in hardware, at any time with VSTBY present. A running commit stops (R79). -/
def execThermalTrip (sensor : Nat) (s : State) : Host.Outcome State Fault Refusal :=
  .next (if ¬ s.boot.vstby ∨ 64 ≤ sensor then s
    else
      let s1 := { s with power := { s.power with thermtrip := true, tripSensor := sensor }, store := s.store.stopCommit }
      let s2 := s1.emit (.pin "THERMTRIP_N" false)
      if s.boot.resetN then s2.enterSafe (260 + sensor) else s2)

/-- A START on `PWR_SHUTDOWN` is answered first (R500). -/
def startPwrShutdown (s : State) : Nat × State := (Res.ok, s.runOnce Obj.PWR_SHUTDOWN Res.ok 0)

/-- After the reply: the safe state, then the rails in down order; Wonel is lost with VCORE (R500). -/
def afterPwrShutdown (s : State) : State :=
  let s1 := ((s.enterSafe 0xFFFE).lowerRails).put Obj.PWR_STATE 3
  { s1 with boot := { s1.boot with phase := .shutDown }, wonel := { s1.wonel with mg0 := {}, mg1 := {} } }

end Sys2Proof.Machine
end

