-- ==== Sys2Proof/Machine/Boot.lean ====
section
/-! DEFINITION. Resets, references and the phases of start-up that load the key region and wipe (02, 03). -/

namespace Sys2Proof.Machine
open Sys2Proof

/-! ### Resets (R51, R54, R65, R79) -/

/-- What every reset keeps: time, the store with its commit stopped, what has left the device, and the commands that wait. -/
def State.fresh0 (s : State) : State :=
  { State.reset with now := s.now, store := s.store.stopCommit, out := s.out, fresh := s.fresh, pending := s.pending }

/-- What a reset other than a lifecycle reset keeps of the die-links while both supplies stay valid: the lanes retired and the octets disabled
(R201, R206; DEDUCED, notes/assumptions/36). -/
def State.keepLinks (s old : State) : State :=
  let s1 := { s with links := old.links.map fun l => ({ lanes := (l.lanes.filter fun (e : Nat × DLane) => decide (e.2.state = 3)).map fun e => (e.1, ({ state := 3, logical := none } : DLane)) } : Link) }
  (upTo 8).foldl (fun a q => a.put (Obj.QD_OCTETS_SHED q) (old.get (Obj.QD_OCTETS_SHED q))) s1

/-- External reset: the start-up begins at phase 1; the trip record stays with VSTBY (R51, R508). The references stay as they are at the balls. -/
def State.externalReset (s : State) : State :=
  let s1 := if s.boot.vstby ∧ s.boot.vio then s.fresh0.keepLinks s else s.fresh0
  { s1 with
    boot := { vstby := s.boot.vstby, vio := s.boot.vio, resetN := s.boot.resetN, ref0 := { present := s.boot.ref0.present, since := s.boot.ref0.since },
              ref1 := { present := s.boot.ref1.present, since := s.boot.ref1.since } }
    power := { tripSensor := if s.boot.vstby then s.power.tripSensor else 0xFF } }

/-- The pins while RESET_N is low (R48, R50): TPO low, THERMTRIP_N released. -/
def State.resetPins (s : State) : State :=
  (upTo 16).foldl (fun a t => a.emit (.tpo t false a.now 0)) (s.emit (.pin "THERMTRIP_N" true))

/-- RESET_N_ASSERTED (R51): a low level of 100 ns or more resets; a shorter one is filtered out. -/
def execResetNAsserted (ns : Nat) (s : State) : Host.Outcome State Fault Refusal :=
  .next (if ns < 100 then s
    else
      let s1 := s.externalReset
      { s1 with boot := { s1.boot with resetN := false } }.resetPins)

/-- SUPPLY_LOSS (R54): as a reset held for as long as the supply is absent. -/
def execSupplyLoss (vio : Bool) (s : State) : Host.Outcome State Fault Refusal :=
  let s1 := { s with boot := { s.boot with vio := s.boot.vio && !vio, vstby := s.boot.vstby && vio } }
  .next s1.externalReset.resetPins

/-- A soft or lifecycle reset (R65): phase 4 begins; rails, PLL, straps, references and the THERMTRIP_N latch stay; the FRC restarts (R384)
and the collector is wiped (R71). A soft reset keeps the failure records of lanes (R191). -/
def State.innerReset (s : State) (cause : Nat) : State :=
  let s1 := if cause = 2 then s.fresh0.keepLinks s else s.fresh0
  { s1 with
    boot := { s.boot with phase := .store, cause := cause, clock0 := s.now, softPending := false, selfTestFail := none, badCal := [] }
    power := { s.power with sensors := [], margin := 0, marginRun := 0 }
    tim := { running := true, start := s.now }
    lanes := if cause = 2 then (s.lanes.filter fun (e : Nat × Lane) => decide (e.2.failCause ≠ 0)).map fun (e : Nat × Lane) => (e.1, ({ failCause := e.2.failCause } : Lane)) else []
    flt := { running := true } }.put Obj.PWR_STATE 2

/-- SOFT_RESET (R65): the requested reset begins unless a commit runs; a transition in its steps 2 to 6 ignores it (R84). -/
def execSoftReset (s : State) : Host.Outcome State Fault Refusal :=
  .next (if ¬ s.boot.softPending then s
    else if s.store.transition.isSome then { s with boot := { s.boot with softPending := false } }
    else if s.store.stage = .running then s
    else s.innerReset 2)

/-- A START on `LCY_SOFT_RESET` is answered first (R65). -/
def startLcySoftReset (s : State) : Nat × State := (Res.ok, { s with boot := { s.boot with softPending := true } })

/-! ### Release and reference choice (R60, R66, R67) -/

/-- The strap value that three samples give: agreement, else 0b10 (R67). -/
def strapOf (s0 s1 s2 : BitVec 2) : Nat × Bool := if s0 = s1 ∧ s1 = s2 then (s0.toNat, false) else (2, true)

/-- Reference `r`. -/
def Boot.ref (b : Boot) (r : Nat) : RefIn := if r = 0 then b.ref0 else b.ref1

/-- Change reference `r`. -/
def Boot.setRef (b : Boot) (r : Nat) (x : RefIn) : Boot := if r = 0 then { b with ref0 := x } else { b with ref1 := x }

/-- An activity detector's finding: edges begin now, or none come. -/
def RefIn.seen (x : RefIn) (now : Nat) (act : Bool) : RefIn :=
  if act then (if x.present then x else { present := true, since := now }) else {}

/-- The release of an external reset (R66): straps latched, reference chosen; with neither toggling the device waits (R60). -/
def State.release (s : State) (s0 s1 s2 : BitVec 2) (act0 act1 : Bool) : State :=
  let st := strapOf s0 s1 s2
  let b := { s.boot with
    resetN := true, bootSel := st.1, clock0 := s.now, cause := 1
    heldFaults := if st.2 then [(251, 0x1F)] else []
    ref0 := s.boot.ref0.seen s.now act0, ref1 := s.boot.ref1.seen s.now act1
    activeRef := if act0 then 0 else 1
    phase := if act0 ∨ act1 then .pll else .awaitReference }
  { s with boot := b }

/-- RESET_N_RELEASE (R66). If a supply is absent, the device does not start (R54). -/
def execResetNRelease (s0 s1 s2 : BitVec 2) (act0 act1 : Bool) (s : State) : Host.Outcome State Fault Refusal :=
  .next (if s.boot.phase ≠ .inReset ∨ s.boot.resetN then s
    else if ¬ (s.boot.vio ∧ s.boot.vstby) then { s with boot := { s.boot with resetN := true } }
    else s.release s0 s1 s2 act0 act1)

/-- SUPPLY_VALID (R54, R68): with RESET_N high, the later supply's validity counts as its rise. -/
def execSupplyValid (resetHigh : Bool) (s0 s1 s2 : BitVec 2) (act0 act1 : Bool) (s : State) : Host.Outcome State Fault Refusal :=
  .next (if s.boot.vio ∧ s.boot.vstby then s
    else
      let s1' := { s with boot := { s.boot with vio := true, vstby := true, resetN := resetHigh } }
      if resetHigh then s1'.release s0 s1 s2 act0 act1 else s1')

/-- The PLL leaves holdover for a reference, or switches to it (R62): recorded, and FAULT raised. -/
def State.switchRef (s : State) (r : Nat) : State :=
  let s1 := { s with boot := { s.boot with activeRef := r, pllState := 1 } }.bump Obj.CLK_REF_SWITCHES
  if s1.flt.running then s1.report { src := 252, cls := Cls.info, cause := 0x20 } else s1

/-- The active reference has lost its qualification (R62, R63). -/
def State.refLost (s : State) : State :=
  let other := 1 - s.boot.activeRef
  if (s.boot.ref other).qualified then s.switchRef other
  else
    let s1 := { s with boot := { s.boot with pllState := 2 } }
    if s1.flt.running then s1.report { src := 252, cls := Cls.info, cause := 0x20 } else s1

/-- REFERENCE_APPEARS (R60, R61). -/
def execReferenceAppears (r : Nat) (s : State) : Host.Outcome State Fault Refusal :=
  .next (if 2 ≤ r ∨ (s.boot.ref r).present then s
    else
      let b := s.boot.setRef r { present := true, since := s.now }
      if s.boot.phase = .awaitReference then { s with boot := { b with activeRef := r, phase := .pll } } else { s with boot := b })

/-- ROOT_PLL_LOCK (R57, R59): phase 3 begins with the rails. -/
def execRootPllLock (s : State) : Host.Outcome State Fault Refusal :=
  .next (if s.boot.phase = .pll then { s with boot := { s.boot with pllState := 1 } }.railsBegin else s)

/-- REFERENCE_ABSENT (R61, R62). -/
def execReferenceAbsent (r : Nat) (s : State) : Host.Outcome State Fault Refusal :=
  .next (if 2 ≤ r ∨ s.boot.pllState = 0 ∨ ¬ (s.boot.ref r).present then s
    else
      let s1 := { s with boot := s.boot.setRef r {} }
      if r = s.boot.activeRef ∧ s.boot.pllState = 1 then s1.refLost else s1)

/-- REFERENCE_MONITOR_WINDOW (R61–R63): offset in 0.001 ppm. -/
def execReferenceMonitorWindow (r : Nat) (ppm : Int) (s : State) : Host.Outcome State Fault Refusal :=
  let x := s.boot.ref r
  .next (if 2 ≤ r ∨ s.boot.pllState = 0 ∨ ¬ x.present then s
    else
      let inBand := decide (ppm.natAbs ≤ 100000)
      let q := inBand && decide (x.since + msTicks 10 ≤ s.now)
      let y := { x with ppm := ppm, qualified := q, qualSince := if q ∧ ¬ x.qualified then s.now else x.qualSince }
      let s1 := { s with boot := s.boot.setRef r y }
      if s.boot.pllState = 2 then (if q then s1.switchRef r else s1)
      else if r = s.boot.activeRef ∧ x.qualified ∧ ¬ q then s1.refLost
      else s1)

/-- REVERTIVE_SWITCH (R64). -/
def execRevertiveSwitch (s : State) : Host.Outcome State Fault Refusal :=
  let p := s.get Obj.CLK_REF_PREFER
  let x := s.boot.ref p
  .next (if s.get Obj.CLK_REF_REVERT = 1 ∧ s.boot.pllState = 1 ∧ s.boot.activeRef ≠ p ∧ x.qualified ∧ x.qualSince + secTicks 60 ≤ s.now
    then s.switchRef p else s)

/-! ### Phase 4 (R76, R81, R158) -/

/-- The key of page 00 that a bank header carries: as shipped, the factory key (R80, R168). -/
def Bank.pageKey (b : Bank) : Bytes :=
  if b.lifecycle = 0 then (upTo (if Config.factoryKeyLong then 32 else 16)).map Config.factoryKeyByte else b.carriedKey

/-- The bank that R76 chooses: 0 A, 1 B. -/
def Store.choose (st : Store) : Option Nat :=
  if st.bankA.valid ∧ st.bankB.valid then (if st.bankB.generation ≤ st.bankA.generation then some 0 else some 1)
  else if st.bankA.valid then some 0
  else if st.bankB.valid then some 1
  else none

/-- Page 00 installed from a header (R76, R158): counts at zero, and both copies written afresh. -/
def State.installPage0 (s : State) (b : Bank) : State :=
  let np : KeyPage := { key := b.pageKey, use := 0, cls := 3, state := 1, ceilS := 2 ^ 40, ceilU := 2 ^ 24, writtenS := 2 ^ 40, writtenU := 2 ^ 24,
                        posS := 1, posU := 1, timesS := [s.now], timesU := [s.now] }
  let recs := (0, np.record) :: (upTo 15).map fun i => (i + 1, ({} : KeyRec))
  let c : KeyCopy := { tag := some b.generation, recs := recs, ring := [(ringKey 0 false 0, (2 ^ 40, 0)), (ringKey 0 true 0, (2 ^ 24, 0))] }
  let s1 := { s with store := { s.store with keys0 := c, keys1 := c }, kce := { s.kce with pages := listSet (s.kce.pages.map fun _ => {}) 0 np } }
  ([2, 3, 64, 96] ++ (upTo 16).map (· + 16)).foldl (fun a w => a.wear w) s1

/-- Pages loaded from the key region, or page 00 from the header (R76, R158). -/
def State.loadKeys (s : State) (b : Bank) : State :=
  let keep := fun (c : KeyCopy) => if c.tag = some b.generation then c else {}
  let k0 := keep s.store.keys0
  let k1 := keep s.store.keys1
  let s1 := { s with store := { s.store with keys0 := k0, keys1 := k1 } }
  if k0.tag.isSome then { s1 with kce := { s1.kce with pages := s1.kce.pages.mapIdx fun i _ => loadPage k0 i } }
  else if k1.tag.isSome then { s1 with kce := { s1.kce with pages := s1.kce.pages.mapIdx fun i _ => loadPage k1 i } }
  else s1.installPage0 b

/-- Bytes of the identity record (R74). -/
def identity (off n : Nat) : Nat := beNat ((upTo n).map fun i => Config.identityByte (off + i))

/-- The read-only objects that come from the header and the calibration (R74, R81, R132). -/
def State.putHeader (s : State) (bank : Nat) (b : Bank) : State :=
  let l : List (Nat × Nat) :=
    [(Obj.LCY_STATE, b.lifecycle), (Obj.LCY_TRANSITIONS, b.transitions), (Obj.LCY_PS_BANK, bank), (Obj.LCY_PS_GENERATION, b.generation),
     (Obj.LCY_RESET_CAUSE, s.boot.cause), (Obj.ID_BOOT_SEL, s.boot.bootSel), (Obj.ID_SERIAL, identity 0 16), (Obj.ID_DIE_FORME, identity 16 8),
     (Obj.SES_MAC_ADDR, identity 104 6), (Obj.TIM_CLOCK_ID, identity 110 8), (Obj.PWR_TRIP_LAST, s.power.tripSensor),
     (Obj.LCY_PS_WEAR, s.store.wear.foldl (fun m e => max m e.2) 0)]
  let s1 := l.foldl (fun a e => a.put e.1 e.2) s
  let s2 := (upTo 2).foldl (fun a g => a.put (Obj.ID_DIE_G_Gn g) (identity (24 + 8 * g) 8)) s1
  let s3 := (upTo 8).foldl (fun a q => a.put (Obj.ID_DIE_Q_Qn q) (identity (40 + 8 * q) 8)) s2
  (upTo 5).foldl (fun a r => a.put (Obj.PWR_R_TRIM r) (ofSigned 32 (if b.calib.factory then (Config.railTrim r % 51 : Nat) - 25 else 0))) s3

/-- STORE_READ (R76): bank choice, an unfinished RETURN erasure, lifecycle, keys, calibration check (R412). -/
def execStoreRead (badLanes : List Nat) (s : State) : Host.Outcome State Fault Refusal :=
  .next (if s.boot.phase ≠ .store then s
    else match s.store.choose with
    | none => { s with boot := { s.boot with phase := .noImage } }
    | some k =>
      let s0 := { s with store := { s.store with active := k }, kce := { pages := s.kce.pages.map fun _ => {} } }
      let b := s0.bank
      let s1 := if b.lifecycle = 3 then
          (if k = 0 then { s0 with store := { s0.store with bankB := {} } } else { s0 with store := { s0.store with bankA := {} } }) else s0
      let s2 := (s1.loadKeys b).putHeader k b
      let bad := if b.calib.factory then badLanes.filter (· < 1024) else upTo 1024
      let s3 := { s2 with boot := { s2.boot with badCal := bad, phase := .links } }
      if b.calib.factory then bad.foldl (fun a n => a.failureOf 251 0x1E (0x80000000 + n)) s3 else s3.failureOf 251 0x1E 0x8000FFFF)

/-! ### Phase 7 (R71, R72) -/

/-- WIPE: every volatile memory outside phases 4 and 5 is at its value after wipe since the reset; decay found before is gone with it. -/
def execWipe (ns : Nat) (s : State) : Host.Outcome State Fault Refusal :=
  .next (if s.boot.phase ≠ .wipe then s
    else
      let keep := s.mem.flips.filter fun e => decide (e.1 / 2 ^ 64 = 12) || decide (e.1 / 2 ^ 32 = 11 * 2 ^ 32)
      let s0 := ((s.progBegin 0 13).progDone 0 13).progEnd 0 Res.ok 0
      let s1 := { s0 with boot := { s0.boot with phase := .patch }, telem := { s0.telem with wiped := s0.now }, mem := { s0.mem with flips := keep, backs := [], log := [] } }
      -- the learning tables are wiped, so the stored seed becomes active (R292)
      let s2 := ((s1.put Obj.LCY_WIPE_STATE 2).put Obj.LCY_WIPE_TIME ns).put Obj.TBL_HASH_SEED_ACTIVE (smGet 0 s.bank.dictImage Obj.TBL_HASH_SEED)
      (upTo 64).foldl (fun a k => a.put (Obj.PWR_S_MAX k) (ofSigned 32 (a.sensor k).temp)) s2)

end Sys2Proof.Machine
end

