-- ==== Sys2Proof/Machine/Collector.lean ====
section
/-! DEFINITION. The fault collector's commands and its START objects (18). -/

namespace Sys2Proof.Machine
open Sys2Proof

/-- CLASS of a checker's report of a source without a memory: ppm crossings, reference switches, switchovers and thermal warnings are
informational (R483); `failure` false is a corrected memory event. -/
def reportClass (cause : Nat) (failure : Bool) : Nat :=
  if cause = 0x11 ∨ cause = 0x20 ∨ cause = 0x23 then Cls.info else if failure then Cls.failure else Cls.corrected

/-- Whether a report is immediate (R482): a die-link call by margin, lock or consecutive failures, an uncorrectable galley read, a rung not
begun. -/
def reportImmediate (src cause : Nat) (failure : Bool) : Bool :=
  (decide (128 ≤ src ∧ src < 144) && decide (cause = 0x13 ∨ cause = 0x14 ∨ cause = 0x15)) ||
  (decide (152 ≤ src ∧ src < 184) && failure) || decide (cause = 0x25)

/-- FAULT_EVENT (R485). Events of a source that never reports are none (R480). The supply-island monitor's value (R208) is beyond its limit from an
event of source 259 to one with `failure` false, which says that it is back (R484; DESIGN CHOICE, notes/assumptions/55). -/
def execFaultEvent (source cause tile detail : Nat) (failure : Bool) (s : State) : Host.Outcome State Fault Refusal :=
  .next (if source = 259 ∧ ¬ failure then (s.modSource 259 fun x => { x with level := false }).causeEnds s 259 0x19
  else if source < 324 then
    let s1 := if source = 259 then s.modSource 259 fun x => { x with level := true } else s
    s1.report { src := source, cls := reportClass cause failure, cause := cause, tile := tile, detail := detail,
                word := if cause < 14 then some detail else none, immediate := reportImmediate source cause failure }
  else s)

/-- REACTION_TIMER_EXPIRY (R486): the timer of a severe source has run out, so it takes its lowest rung. -/
def execReactionTimerExpiry (source : Nat) (s : State) : Host.Outcome State Fault Refusal :=
  let x := s.source source
  .next (match x.timer with
    | some t => if source < 324 ∧ x.status = 2 ∧ t ≤ s.now then s.takeRung source else s
    | none => s)

/-- RUNG_NOT_BEGUN (R486): context 0 has not begun the source's rung within 1 ms; source 249 is severe at once and its rung 3 is hardware's. -/
def execRungNotBegun (source : Nat) (s : State) : Host.Outcome State Fault Refusal :=
  let late := s.flt.repairs.any fun r => decide (r.source = some source) && !r.begun && decide (r.stack = 0) && decide (r.dueAt + 800000 ≤ s.now)
  .next (if late ∧ ¬ s.repairRuns 0 then
    let s1 := s.report { src := 249, cls := Cls.failure, cause := 0x25, tile := 0, immediate := true }
    if (s1.source 249).status = 2 then s1.rung3 249 else s1
  else s)

/-- Every source that `FLT_CLEAR` with 0xFFFF clears is cleared (R488). -/
def State.clearSources (s : State) : State :=
  (upTo 324).foldl (fun (a : State) src =>
    if ((a.source src).status = 1 ∨ (a.source src).status = 2) ∧ ¬ a.causePresent src then a.clearSource src else a) s

/-- How many sources are not quiet. -/
def State.sourcesLeft (s : State) : Nat := (s.flt.sources.filter fun e => decide (e.2.status ≠ 0)).length

/-- A START on `FLT_CLEAR` (R488): result, and the state after the run. -/
def startFltClear (s : State) : Nat × State :=
  let n := s.get Obj.FLT_CLEAR_SRC
  if n = 0xFFFF then (Res.ok, s.clearSources.runOnce Obj.FLT_CLEAR Res.ok s.clearSources.sourcesLeft)
  else if 323 < n then (Res.ok, s.runOnce Obj.FLT_CLEAR Res.badValue 1)
  else if 3 ≤ (s.source n).status then (Res.ok, s.runOnce Obj.FLT_CLEAR Res.badState 2)
  else if s.causePresent n then (Res.ok, s.runOnce Obj.FLT_CLEAR Res.causePresent 0)
  else (Res.ok, (if (s.source n).status = 0 then s else s.clearSource n).runOnce Obj.FLT_CLEAR Res.ok 0)

/-- A START on `FLT_SAFE_ENTER` (R492). -/
def startFltSafeEnter (s : State) : Nat × State := (Res.ok, (s.enterSafe 0xFFFE).runOnce Obj.FLT_SAFE_ENTER Res.ok 0)

/-- Check bits of a kind's code that an injection may name (R490). -/
def injBits (kind : Nat) : Nat := if kind = 0 then 20 else if kind = 11 then 9 else if kind = 5 ∨ kind = 13 then 20 else 8

/-- Whether the table of R490 refuses a kind and type. -/
def injRefused (kind type : Nat) : Bool :=
  if kind = 0 then false else if kind = 5 ∨ kind = 13 then decide (type ≠ 3) else decide (type = 2)

/-- A START on `FLT_INJ_ARM` (R490). -/
def startFltInjArm (s : State) : Nat × State :=
  let lcy := s.get Obj.LCY_STATE
  let kind := s.get Obj.FLT_INJ_KIND
  let type := s.get Obj.FLT_INJ_TYPE
  let path := s.get Obj.FLT_INJ_PATH
  if s.flt.inj.isSome then (Res.busy, s)
  else if lcy = 0 ∨ lcy = 3 then (Res.badState, s)
  else if path = 1 ∧ lcy ≠ 1 then (Res.badState, s)
  else if injRefused kind type then (Res.ok, s.runOnce Obj.FLT_INJ_ARM Res.badValue 1)
  else if path = 0 ∧ (kind = 12 ∨ kind = 13) then (Res.ok, s.runOnce Obj.FLT_INJ_ARM Res.badValue 2)
  else if injBits kind ≤ s.get Obj.FLT_INJ_BIT then (Res.ok, s.runOnce Obj.FLT_INJ_ARM Res.badValue 3)
  else
    let n := s.get Obj.FLT_INJ_COUNT
    let s1 := (s.put Obj.FLT_INJ_LEFT n).runBegin Obj.FLT_INJ_ARM
    (Res.ok, { s1 with flt := { s1.flt with inj := some { kind := kind, inst := s.get Obj.FLT_INJ_INSTANCE, type := type, bit := s.get Obj.FLT_INJ_BIT, path := path, left := n, escalate := decide (s.get Obj.FLT_INJ_ESCALATE = 1) } } })

/-- ABORT on `FLT_INJ_ARM` disarms the run (R490). -/
def abortFltInjArm (s : State) : State :=
  { (s.put Obj.FLT_INJ_LEFT 0).runEnd Obj.FLT_INJ_ARM Res.aborted 0 with flt := { s.flt with inj := none } }

/-- The state entry of a source in window `FLT_SRC_STATE` (R496). -/
def State.srcStateBytes (s : State) (src : Nat) : Bytes :=
  if 324 ≤ src then zeros 32
  else
    let x := s.source src
    let cfg := s.srcCfg src
    let fill := fun (t : Tracker) => (freshStamps s.now cfg.window t).length
    let best := x.trackers.foldl (fun (b : Nat × Nat) t => if b.2 < fill t then (t.tile, fill t) else b) (0xFFFF, 0)
    let left := match x.timer with
      | some t => (t - s.now) / 800000
      | none => 0xFFFFFFFF
    [u8 x.status, u8 x.rung, u8 (b2n (s.causePresent src)), 0] ++ beBytes 4 left ++ beBytes 8 x.count ++ beBytes 2 best.1 ++
      beBytes 2 best.2 ++ zeros 4 ++ beBytes 8 x.last

/-- The configuration entry of a source in window `FLT_SRC_CFG` (R496). -/
def srcCfgBytes (c : SrcCfg) : Bytes :=
  beBytes 2 c.n ++ [u8 c.flags, 0] ++ beBytes 4 c.window ++ beBytes 4 c.react ++ zeros 4

/-- A configuration entry as written: none where it is outside its ranges (R496); reserved bits are taken as zero (R363). -/
def srcCfgParse (src : Nat) (e : Bytes) : Option SrcCfg :=
  let c : SrcCfg := { n := u e 0 2, flags := u e 2 1 % 2, window := u e 4 4, react := u e 8 4 }
  if 323 < src then none
  else if 1 ≤ c.n ∧ c.n ≤ 64 ∧ 1 ≤ c.window ∧ c.window ≤ 3600000 ∧
      (c.react ≤ 3600000 ∨ c.react = 0xFFFFFFFF) then some c else none

end Sys2Proof.Machine
end

