-- ==== Sys2Proof/Machine/PortBase.lean ====
section
/-! DEFINITION. What the chapters on frames share about ports: types and lanes, held-down conditions, flow control sent (08). -/

namespace Sys2Proof.Machine
open Sys2Proof

/-! ### Types (R212) -/

/-- Lanes of a port type; 0 above 16. -/
def ptLanes (t : Nat) : Nat := listAt 0 [0, 1, 1, 4, 1, 4, 2, 1, 4, 2, 1, 8, 4, 2, 8, 4, 8] t

/-- Lane mode of a port type. -/
def ptMode (t : Nat) : Nat := listAt 0 [0, 1, 2, 1, 3, 2, 3, 4, 3, 4, 5, 3, 4, 5, 4, 5, 5] t

/-- Port rate in Gb/s. -/
def ptRate (t : Nat) : Nat := listAt 0 [0, 10, 25, 40, 50, 100, 100, 100, 200, 200, 200, 400, 400, 400, 800, 800, 1600] t

/-- FEC codes allowed, the default first. -/
def ptFecs (t : Nat) : List Nat :=
  if t = 1 ∨ t = 3 then [0, 1] else if t = 2 then [2, 1, 0] else if t = 5 then [2, 0] else if t = 0 ∨ 16 < t then [] else [3]

/-- The type of the port at an index. -/
def State.ptType (s : State) (p : Nat) : Nat := s.get (Obj.PT_TYPE p)

/-- The lanes of the port at an index. -/
def State.ptLaneList (s : State) (p : Nat) : List Nat := (upTo (ptLanes (s.ptType p))).map (p + ·)

/-- The port that a lane belongs to (R6: a port starts at a multiple of its lanes). -/
def State.portOfLane (s : State) (n : Nat) : Option Nat :=
  [n, n - n % 2, n - n % 4, n - n % 8].find? fun p => decide (n < p + ptLanes (s.ptType p))

/-- The FEC in use (R214). -/
def State.ptFec (s : State) (p : Nat) : Nat :=
  let f := s.get (Obj.PT_FEC p)
  if f = 0xFF then listAt 0 (ptFecs (s.ptType p)) 0 else f

/-- `PT_SPEED` (R235). -/
def State.ptSpeed (s : State) (p : Nat) : Nat := ptRate (s.ptType p)

/-! ### Held down (R29, R69, R80, R184, R186, R190, R206, R215, R492) -/

/-- A lane keeps its port held down: a test pattern, a failure, or its transmitter disabled. -/
def State.laneHolds (s : State) (n : Nat) : Bool :=
  decide (s.get (Obj.LN_PRBS_TX n) ≠ 0) || decide (s.get (Obj.LN_PRBS_RX n) ≠ 0) || decide ((s.lane n).failCause ≠ 0) ||
    decide (s.get (Obj.LN_TX_DISABLE n) = 1) || decide (s.get (Obj.LN_LOOPBACK n) = 3)

/-- The lanes of a port carry different loopback codes (R186). -/
def State.loopsDiffer (s : State) (p : Nat) : Bool :=
  (s.ptLaneList p).any fun n => decide (s.get (Obj.LN_LOOPBACK n) ≠ s.get (Obj.LN_LOOPBACK p))

/-- The port is held down, apart from `PT_ENABLE` (R215). -/
def State.portHeld (s : State) (p : Nat) : Bool :=
  let lcy := s.get Obj.LCY_STATE
  decide (lcy = 0) || decide (lcy = 3) || !s.inService || s.flt.safe || s.power.thermtrip || s.octetShed (p / 8) || s.octetGated (p / 8) ||
    s.pipeGated (p / 32) || decide ((s.link (p / 128)).state ≠ 2) || s.loopsDiffer p || (s.ptLaneList p).any s.laneHolds

/-- The link conditions of R215 hold on every lane; under near-end parallel loopback the CDR is idle (R186). -/
def State.linkOk (s : State) (p : Nat) : Bool :=
  decide (s.ptType p ≠ 0) && decide ((s.port p).fault = 0) &&
    (s.ptLaneList p).all fun n => (s.lane n).pcs && ((s.lane n).cdr || decide (s.get (Obj.LN_LOOPBACK n) = 2))

/-- Note when the link conditions begin to hold or to fail. -/
def State.linkEval (s : State) (p : Nat) : State :=
  if s.linkOk p then s.modPort p fun x => { x with okSince := some (x.okSince.getD s.now), badSince := none }
  else s.modPort p fun x => { x with okSince := none, badSince := some (x.badSince.getD s.now) }

/-- `PT_STATE` (R235). -/
def State.ptState (s : State) (p : Nat) : Nat :=
  if s.ptType p = 0 then 0
  else if s.get (Obj.PT_ENABLE p) = 0 then 1
  else if (s.port p).up then (if s.get (Obj.LN_LOOPBACK p) = 0 then 4 else 5)
  else if s.portHeld p then 2
  else 3

/-- A port is up and formed. -/
def State.portUp (s : State) (p : Nat) : Bool := decide (s.ptType p ≠ 0) && (s.port p).up

/-! ### Flow control sent (R225, R227) -/

/-- A port is drop-privileged. -/
def State.dropPriv (s : State) (p : Nat) : Bool := decide (s.get (Obj.PT_DROP_PRIV p) = 1)

/-- A priority of a port is lossless (R225). -/
def State.lossless (s : State) (p prio : Nat) : Bool :=
  let mode := s.get (Obj.PT_FC_MODE p)
  !s.dropPriv p && (decide (mode = 1) || (decide (mode = 2) && bitOf (s.get (Obj.PT_PFC_ENABLE p)) prio))

/-- Bytes in a receive FIFO. -/
def Port.fifoBytes (x : Port) : Nat := (x.fifo.map fun (f : RxFrame) => f.bytes.length).foldl (· + ·) 0

/-- The size of a receive FIFO, k × 32 KiB (R220). -/
def State.fifoSize (s : State) (p : Nat) : Nat := ptLanes (s.ptType p) * 32768

/-- XOFF and XON marks of a priority (R227). -/
def State.xoffMark (s : State) (p i : Nat) : Nat := octField 64 (s.get (Obj.PT_PAUSE_MARKS p)) (4 * i) 4
def State.xonMark (s : State) (p i : Nat) : Nat := octField 64 (s.get (Obj.PT_PAUSE_MARKS p)) (32 + 4 * i) 4

/-- The bytes that a mark is compared with: a priority's, or the whole port's in link-pause mode (R227). -/
def State.heldBytes (s : State) (p i : Nat) : Nat :=
  if s.get (Obj.PT_FC_MODE p) = 1 then ((s.port p).bytes.map Prod.snd).foldl (· + ·) 0 else smGet 0 (s.port p).bytes i

/-- The 60 bytes of a pause frame before its FCS: `on` priorities in XOFF, `off` those that have just left it (R225, R227). -/
def State.pauseBytes (s : State) (p mode on off : Nat) : Bytes :=
  let q := s.get (Obj.PT_PAUSE_QUANTA p)
  let time := fun (i : Nat) => if bitOf on i then q else 0
  let body := if mode = 1 then beBytes 2 1 ++ beBytes 2 (time 0)
    else beBytes 2 0x0101 ++ beBytes 2 (on ||| off) ++ (upTo 8).flatMap fun i => beBytes 2 (time i)
  padTo 60 (beBytes 6 0x0180C2000001 ++ beBytes 6 (s.get Obj.SES_MAC_ADDR) ++ beBytes 2 0x8808 ++ body)

/-- A near-end loopback runs: the lanes carry code 1, or code 2 (R185). -/
def State.nearLoop (s : State) (p : Nat) : Bool := decide (s.get (Obj.LN_LOOPBACK p) = 1 ∨ s.get (Obj.LN_LOOPBACK p) = 2)

/-- A far-end loopback runs on every lane: the balls carry the partner's data back (R185). -/
def State.farLoop (s : State) (p : Nat) : Bool :=
  decide (s.ptType p ≠ 0) && (s.ptLaneList p).all fun n => decide (s.get (Obj.LN_LOOPBACK n) = 3) && (s.lane n).cdr

/-- A frame leaves the MAC: to the transmit balls, or under near-end loopback to the port's own receive MAC (R185). -/
def State.toWire (s : State) (p : Nat) (o : Out) (wire : Bytes) : State :=
  if s.nearLoop p then s.modPort p fun x => { x with loop := x.loop ++ [wire] } else s.emit o

/-- A pause frame goes out (R227). -/
def State.sendPause (s : State) (p mode on off : Nat) : State :=
  let b := s.pauseBytes p mode on off
  let s1 := ((s.bump (Obj.CTR_TX_PAUSE p)).bump (Obj.CTR_TX_FRAMES p)).bumpBy (Obj.CTR_TX_OCTETS p) 64
  (s1.toWire p (.pauseFrame p (b ++ fcsBytes b)) (b ++ fcsBytes b)).modPort p fun x => { x with lastPause := s.now, pauseDue := none, idleSince := s.now }

/-- A pause frame is due: after the frame in transmission, and after the wake of a sleeping transmitter (R227, R230). -/
def State.pauseNow (s : State) (p left : Nat) : State :=
  let x := s.port p
  if ¬ s.portUp p then s
  else if x.sending.isSome ∨ x.waking.isSome then s.modPort p fun y => { y with pauseDue := some (y.pauseDue.getD 0 ||| left) }
  else if x.txLpi then
    -- a pause frame that becomes ready wakes the transmitter; the wake ends with LPI_WAKE_COMPLETE (R230)
    (s.emit (.lpi p false)).modPort p fun y => { y with txLpi := false, waking := some s.now, pauseDue := some (y.pauseDue.getD 0 ||| left) }
  else s.sendPause p (s.get (Obj.PT_FC_MODE p)) x.xoff (left ||| x.pauseDue.getD 0)

/-- XOFF of every lossless priority judged again (R227); a priority held by a refusal stays (R327). -/
def State.xoffEval (s : State) (p : Nat) : State :=
  if s.get (Obj.PT_FC_MODE p) = 0 ∨ s.dropPriv p then s
  else
    let x := s.port p
    let fifo := x.fifoBytes
    let size := s.fifoSize p
    let prios := if s.get (Obj.PT_FC_MODE p) = 1 then [0] else (upTo 8).filter (s.lossless p)
    let new := prios.foldl (fun m i =>
      let n := s.heldBytes p i
      let refused := x.refused.any fun (e : Nat × Nat) => decide (e.1 = i)
      if bitOf m i then
        setBit m i (!(decide (n ≤ s.xonMark p i) && decide (4 * fifo ≤ size) && !refused))
      else setBit m i (decide (s.xoffMark p i < n) || decide (size < 2 * fifo))) x.xoff
    if new = x.xoff then s
    else (s.modPort p fun y => { y with xoff := new }).pauseNow p (x.xoff &&& (255 ^^^ new))

/-- Bytes of buffers charged for a priority's frames move by `d` (R325). -/
def State.chargeBytes (s : State) (p prio : Nat) (add : Bool) (n : Nat) : State :=
  (s.modPort p fun x =>
    let v := smGet 0 x.bytes prio
    { x with bytes := smSet 0 x.bytes prio (if add then v + n else v - n) }).xoffEval p

end Sys2Proof.Machine
end

