-- ==== Sys2Proof/Machine/Time.lean ====
section
/-! DEFINITION. Time: the domains, the servo, the output time and its splice, pulse outputs and capture inputs (14). -/

namespace Sys2Proof.Machine
open Sys2Proof

/-! ### Domains (R386–R389) -/

/-- A domain. -/
def State.domain (s : State) (d : Nat) : Domain := listAt {} s.tim.domains d

/-- Change a domain. -/
def State.modDomain (s : State) (d : Nat) (f : Domain → Domain) : State :=
  { s with tim := { s.tim with domains := listMod s.tim.domains d f } }

/-- The rate term of a segment. -/
def rateTerm (rate : Int) (f anc : Int) : Int := (rate * (f - anc)).fdiv (2 ^ 56)

/-- D_d(F), by the segment in force at F (R386, R389). -/
def Domain.time (d : Domain) (f : Nat) : Int :=
  if d.anc ≤ f then f + d.off + rateTerm d.rate f d.anc else f + d.pOff + rateTerm d.pRate f d.pAnc

/-- A domain value lies in the range of R386. -/
def domainValid (v : Int) : Bool := decide (0 ≤ v) && decide (v < 2 ^ 48 * 1000000000 * 65536)

/-- A new segment begins: the present one is kept for conversions (R389). -/
def Domain.segment (d : Domain) (now : Nat) (off rate : Int) (anc : Nat) : Domain :=
  { d with off := off, rate := rate, anc := anc, pOff := d.off, pRate := d.rate, pAnc := d.anc, segAt := some now }

/-- Less than 1 ms has passed since the last segment change (R387). -/
def Domain.segBusy (d : Domain) (now : Nat) : Bool := match d.segAt with | some t => decide (now < t + msTicks 1) | none => false

/-- A rate change at F1 re-bases the domain (R387). -/
def Domain.setRate (d : Domain) (now f1 : Nat) (rate : Int) : Domain := d.segment now (d.off + rateTerm d.rate f1 d.anc) rate f1

/-- An adjust: a re-base at the present rate and the amount added (R388). -/
def Domain.adjust (d : Domain) (now f1 : Nat) (a : Int) : Domain := d.segment now (d.off + rateTerm d.rate f1 d.anc + a) d.rate f1

/-! ### Output time and events (R393–R396, R403) -/

/-- Which domain drives the outputs. -/
def State.sel (s : State) : Nat := s.get Obj.TIM_SELECT

/-- The output time is engaged. -/
def State.engaged (s : State) : Bool := decide (s.get Obj.TIM_OUT_ENGAGE = 1)

/-- RES(F) (R394). -/
def State.residual (s : State) (f : Nat) : Int :=
  let gone := ((f - s.tim.fs) * s.tim.slope) / 10 ^ 12
  let left := s.tim.res0.natAbs - gone
  if s.tim.res0 < 0 then -(left : Int) else left

/-- O(F) (R393, R394). -/
def State.outputTime (s : State) (f : Nat) : Int :=
  (s.domain s.sel).time f - (if s.engaged then s.residual f else 0)

/-- Units of 2⁻¹⁶ ns as a saturating I32 in ns (R403). -/
def nsValue (v : Int) : Nat :=
  let n := v.fdiv 65536
  ofSigned 32 (max (-(2 ^ 31)) (min (2 ^ 31 - 1) n))

/-- The 48 bytes of a time event record (R403). -/
def State.timeRecord (s : State) (kind arg flags seq f valueNs : Nat) : Bytes :=
  [u8 kind, u8 arg] ++ beBytes 2 flags ++ beBytes 4 seq ++ beBytes 12 f ++ beBytes 12 (t96OfUnits ((s.domain 0).time f)) ++
    beBytes 12 (t96OfUnits ((s.domain 1).time f)) ++ beBytes 4 valueNs

/-- Queue a time event and raise TIME (R403). -/
def State.timeEvent (s : State) (kind arg flags f valueNs : Nat) : State :=
  if s.tim.events.length < 1024 then
    let q := (s.tim.seq + 1) % 2 ^ 32
    let r := s.timeRecord kind arg flags q f valueNs
    ({ s with tim := { s.tim with seq := q, events := s.tim.events ++ [r] } }).latch Attn.time
  else (((s.bump Obj.TIM_EVENT_LOST).latchLost Attn.time)).latch Attn.time

/-- The running splice's end is recorded: `flags` 8 when it is carried into the next (R395). -/
def State.spliceEnded (s : State) (f flags : Nat) (value : Int) : State :=
  let s1 := s.timeEvent 3 s.tim.spliceTo (flags + b2n s.tim.large + (if s.tim.auto then 4 else 0)) f (nsValue value)
  ({ s1 with tim := { s1.tim with splicing := false, res0 := 0 } }).put Obj.TIM_SPLICE_STATE 0

/-- A splice begins so that O stays where `oldO` has it (R394, R395). -/
def State.spliceBegin (s : State) (f : Nat) (oldO oldRes : Int) (auto : Bool) : State :=
  let s0 := if s.tim.splicing then s.spliceEnded f 8 oldRes else s
  let res0 := (s0.domain s0.sel).time f - oldO
  let large := decide (psUnits (s0.get Obj.TIM_SPLICE_WINDOW) < res0.natAbs)
  let s1 := { s0 with tim := { s0.tim with res0 := res0, fs := f, slope := s0.get Obj.TIM_SPLICE_SLOPE, large := large, auto := auto, splicing := true, spliceTo := s0.sel } }
  let s2 := ((s1.bump Obj.TIM_SPLICES).put Obj.TIM_SPLICE_STATE (if large then 2 else 1)).timeEvent 2 s1.sel (b2n large + (if auto then 4 else 0)) f (nsValue res0)
  if res0 = 0 then s2.spliceEnded f 0 0 else s2

/-! ### Pulse outputs (R397–R400) -/

/-- An output. -/
def State.tpo (s : State) (t : Nat) : Tpo := listAt {} s.tim.tpo t

/-- Change an output. -/
def State.modTpo (s : State) (t : Nat) (f : Tpo → Tpo) : State := { s with tim := { s.tim with tpo := listMod s.tim.tpo t f } }

/-- The target of the next rising edge of an armed output, in units of output time. -/
def Tpo.target (t : Tpo) : Int := (t.start : Int) + (t.nextK : Int) * (t.period : Int)

/-- The least FRC value at or after `f0` at which O has reached `target`, found by steps of the remaining difference; `fuel` steps. -/
def State.solveFE (s : State) (target : Int) (f0 : Int) (fuel : Nat) : Nat :=
  match fuel with
  | 0 => f0.toNat
  | n + 1 => s.solveFE target (f0 + (target - s.outputTime f0.toNat)) n

/-- FE of an edge: where O reaches the target less COMP (R398). -/
def State.edgeFE (s : State) (target comp : Int) : Nat := s.solveFE (target - psUnits comp) s.frc 12

/-- After a jump of O (R399): forward, the passed edges of each armed output are skipped; backward, no k fires again. -/
def State.tpoJump (s : State) (f : Nat) : State :=
  (upTo 16).foldl (fun a i =>
    let t := a.tpo i
    let o := a.outputTime f
    if t.mode = 0 then a
    else if t.mode = 1 then
      if t.nextK = 0 ∧ t.target - psUnits t.comp < o then
        ((a.bump (Obj.TIM_TPO_SKIPPED i)).modTpo i fun x => { x with mode := 0 }).put (Obj.TIM_TPO_MODE i) 0 |>.put (Obj.TIM_TPO_STATE i) 0
      else a
    else
      let behind := o - (t.target - psUnits t.comp)
      if 0 < behind ∧ 0 < t.period then
        let n := ((behind + t.period - 1) / t.period).toNat
        (a.bumpBy (Obj.TIM_TPO_SKIPPED i) n).modTpo i fun x => { x with nextK := x.nextK + n }
      else a) s

/-- The judgement of a mode write (R397): a result code, and the state with the output armed. -/
def State.armTpo (s : State) (t mode : Nat) : Nat × State :=
  let start := unitsOfT96 (s.get (Obj.TIM_TPO_START t))
  let period := unitsOfT96 (s.get (Obj.TIM_TPO_PERIOD t))
  let widthNs := s.get (Obj.TIM_TPO_WIDTH t)
  let width := widthNs * 65536
  let comp := toSigned 32 (s.get (Obj.TIM_TPO_COMP t))
  let ahead := s.outputTime s.frc + 10000 * 65536
  if mode = 0 then
    (Res.ok, ((s.put (Obj.TIM_TPO_MODE t) 0).put (Obj.TIM_TPO_STATE t) 0).modTpo t fun x => { x with mode := 0 })
  else if mode = 2 ∧ (period < 1000 * 65536 ∨ 2 ^ 32 * 1000000000 * 65536 < period) then (Res.badValue, s)
  else if widthNs < 10 ∨ (mode = 2 ∧ period < width + 10 * 65536) then (Res.badValue, s)
  else if mode = 1 ∧ (start : Int) < ahead then (Res.badValue, s)
  else
    let k := if mode = 2 ∧ (start : Int) < ahead then ((ahead - start + period - 1) / period).toNat else 0
    let s1 := (s.put (Obj.TIM_TPO_MODE t) mode).put (Obj.TIM_TPO_STATE t) 1
    (Res.ok, s1.modTpo t fun x => { x with mode := mode, start := start, period := if mode = 2 then period else 0, width := width, comp := comp, nextK := k })

/-- Drive an edge: the tick FE names, delayed by the fine step; a step of 64 is the next clock (R398). -/
def State.driveTpo (s : State) (t : Nat) (level : Bool) (fe : Nat) : State :=
  let step := (fe % 81920 + 640) / 1280
  s.emit (.tpo t level (s.tim.start + fe / 81920 + step / 64) (step % 64))

/-- TPO pins are driven low: in reset, after a thermal trip, before phase 10 is over, in the safe state (R400). -/
def State.tpoHeldLow (s : State) : Bool := !s.boot.resetN || s.power.thermtrip || !s.inService || s.flt.safe

/-- TPO_RISING_EDGE (R398): the next edge of an armed output is driven when its FE lies in the present clock or before it. -/
def execTpoRisingEdge (pin : Nat) (s : State) : Host.Outcome State Fault Refusal :=
  let t := s.tpo pin
  let fe := s.edgeFE t.target t.comp
  .next (if s.tpoHeldLow ∨ t.mode = 0 ∨ (t.mode = 1 ∧ t.nextK ≠ 0) ∨ s.frc + 81919 < fe then s
    else if t.fall.isSome ∨ fe < t.lastFall + 10 * 65536 then
      -- a rising edge that falls before the end of the pulse that is high, and 10 ns, is not fired (R397)
      if t.mode = 2 then (s.bump (Obj.TIM_TPO_SKIPPED pin)).modTpo pin fun x => { x with nextK := x.nextK + 1 }
      else ((s.bump (Obj.TIM_TPO_SKIPPED pin)).modTpo pin fun x => { x with mode := 0 }).put (Obj.TIM_TPO_MODE pin) 0 |>.put (Obj.TIM_TPO_STATE pin) 0
    else
      let fall := s.edgeFE (t.target + t.width) t.comp
      ((s.driveTpo pin true fe).bump (Obj.TIM_TPO_EDGES pin)).put (Obj.TIM_TPO_STATE pin) 2 |>.modTpo pin fun x =>
        { x with fall := some fall, nextK := x.nextK + 1 })

/-- TPO_FALLING_EDGE (R399): the pulse that is high ends at the FE computed for it; a one-pulse output returns to mode 0. -/
def execTpoFallingEdge (pin : Nat) (s : State) : Host.Outcome State Fault Refusal :=
  let t := s.tpo pin
  .next (match t.fall with
    | some fe =>
      if s.frc + 81919 < fe then s
      else
        let s1 := (s.driveTpo pin false fe).modTpo pin fun x => { x with fall := none, lastFall := fe }
        if t.mode = 1 ∧ 0 < t.nextK then
          ((s1.modTpo pin fun x => { x with mode := 0, nextK := 0 }).put (Obj.TIM_TPO_MODE pin) 0).put (Obj.TIM_TPO_STATE pin) 3
        else s1
    | none => s)

/-! ### Steps, selection, engagement (R388, R393, R394) -/

/-- A step of a domain: a splice when the selected domain steps while the output time is engaged, a jump of O when it is not. -/
def State.stepDomain (s : State) (d : Nat) (f : Domain → Domain) : State :=
  let fr := s.frc
  let oldO := s.outputTime fr
  let oldRes := s.residual fr
  let s1 := s.modDomain d f
  if d = s.sel then (if s.engaged then s1.spliceBegin fr oldO oldRes false else s1.tpoJump fr) else s1

/-- Select a domain for the outputs (R394). -/
def State.selectDomain (s : State) (d : Nat) (auto : Bool) : State :=
  if d = s.sel then s
  else
    let fr := s.frc
    let oldO := s.outputTime fr
    let oldRes := s.residual fr
    let s1 := s.put Obj.TIM_SELECT d
    if s.engaged then s1.spliceBegin fr oldO oldRes auto else s1.tpoJump fr

/-- The state of a domain (R390). -/
def State.dstate (s : State) (d : Nat) : Nat := s.get (Obj.TIM_D_STATE d)

/-- Automatic switchover (R396): recorded at scope 0. -/
def State.autoSwitch (s : State) : State :=
  let d := s.sel
  if s.get Obj.TIM_AUTO_SWITCH = 1 ∧ s.dstate d = 3 ∧ s.dstate (1 - d) = 2 then
    (s.selectDomain (1 - d) true).note 258 Cls.switchover 0 0 0 0xFFFF
  else s

/-- The selected domain enters locked: the output time becomes engaged (R393). -/
def State.enterLocked (s : State) (d : Nat) : State :=
  let s1 := s.put (Obj.TIM_D_STATE d) 2
  (if d = s1.sel ∧ ¬ s1.engaged then s1.put Obj.TIM_OUT_ENGAGE 1 else s1).autoSwitch

/-- A write of `TIM_OUT_ENGAGE` (R393). -/
def State.writeEngage (s : State) (v : Nat) : State :=
  if v = 1 then s.put Obj.TIM_OUT_ENGAGE 1
  else
    let fr := s.frc
    let s1 := if s.tim.splicing then s.spliceEnded fr 0 (s.residual fr) else s
    let jumped := s.engaged && decide (s.residual fr ≠ 0)
    let s2 := s1.put Obj.TIM_OUT_ENGAGE 0
    if jumped then s2.tpoJump fr else s2

/-- SPLICE_END (R395): the residue has run out. -/
def execSpliceEnd (s : State) : Host.Outcome State Fault Refusal :=
  .next (if s.tim.splicing ∧ s.residual s.frc = 0 then s.spliceEnded s.frc 0 0 else s)

/-! ### Servo (R390–R392) -/

/-- π in units of 10⁻⁶⁰ (PRESUMED, notes/assumptions/26). -/
def piScaled : Int := 3141592653589793238462643383279502884197169399375105820974944

/-- −I × 2⁵⁶, rounded: the integrator is `r0` less the BW² τ θ terms with w = 2π BW (R391). τ is in 1/128 s. -/
def Domain.freq (d : Domain) : Int :=
  let den : Int := 10 ^ 120 * 10 ^ 15 * 128
  let num : Int := d.r0 * den - piScaled * piScaled * 4 * 2 ^ 40 * d.acc
  (2 * num + den).fdiv (2 * den)

/-- round(−(kp θ 10⁻⁹ + I) × 2⁵⁶) (R391). -/
def Domain.rateFor (d : Domain) (bw : Nat) (theta : Int) : Int :=
  let den : Int := 10 ^ 120 * 10 ^ 15 * 128
  let i : Int := d.r0 * den - piScaled * piScaled * 4 * 2 ^ 40 * d.acc
  let p : Int := 2828 * piScaled * 2 ^ 40 * (bw : Int) * theta * 10 ^ 60 * 128
  (2 * (i - p) + den).fdiv (2 * den)

/-- Clamp to RATE's range (R386). -/
def clampRate (r : Int) : Int := max (-(2 ^ 47)) (min (2 ^ 47 - 1) r)

/-- The interval τ of a domain's measurements in 1/128 s (R402, R423). -/
def State.tau128 (s : State) (d : Nat) : Int :=
  if s.get (Obj.TIM_D_SOURCE d) = 2 then 128
  else 2 ^ (7 + toSigned 32 (s.get (Obj.TIM_P_SYNC_LOG d))).toNat

/-- A saturating I64 (R406). -/
def sat64 (v : Int) : Nat := ofSigned 64 (max (-(2 ^ 63)) (min (2 ^ 63 - 1) v))

/-- The servo handles a measurement θ, in units of 2⁻¹⁶ ns (R391). -/
def State.servo (s0 : State) (d : Nat) (theta : Int) : State :=
  -- the first measurement after a loss ends the holdover (R392)
  let s1 := if s0.dstate d = 3 then
      ((s0.put (Obj.TIM_D_STATE d) 1).modDomain d fun x => { x with holdSince := none, good := 0, bad := 0 }).timeEvent 5 d 0 s0.frc 0
    else s0
  let s2 := s1.put (Obj.TIM_D_LAST_OFFSET d) (sat64 theta)
  let x := s2.domain d
  let f := s2.frc
  if s2.get (Obj.TIM_D_STEP_THRESH d) * 65536 < theta.natAbs then
    let locked := decide (s2.dstate d = 2)
    let s3 := if locked then (s2.bump (Obj.TIM_D_OUTLIERS d)).modDomain d fun y => { y with bad := y.bad + 1 } else s2
    if locked ∧ x.bad + 1 < 3 then s3
    else
      let s4 := if locked then s3.put (Obj.TIM_D_STATE d) 1 else s3
      let y := s4.domain d
      if ¬ domainValid (y.time f - theta) then s4.bump (Obj.TIM_D_OUTLIERS d)
      else
        let s5 := s4.stepDomain d fun z => z.adjust s4.now f (-theta)
        (s5.bump (Obj.TIM_D_STEPS d)).modDomain d fun z => { z with bad := 0, good := 0 }
  else
    let bw := s2.get (Obj.TIM_D_BW d)
    let x1 := { x with bad := 0, acc := x.acc + (bw : Int) * bw * s2.tau128 d * theta }
    let n := if theta.natAbs < s2.get (Obj.TIM_D_LOCK_THRESH d) * 65536 then x.good + 1 else 0
    let x2 := (x1.setRate s2.now f (clampRate (x1.rateFor bw theta)))
    let s3 := (s2.modDomain d fun _ => { x2 with good := n }).put (Obj.TIM_D_FREQ d) (ofSigned 64 x1.freq)
    if s3.dstate d = 1 ∧ 16 ≤ n then s3.enterLocked d else s3

/-- A domain enters holdover, and its rate is written (R392; DEDUCED, notes/assumptions/70). -/
def State.holdover (s : State) (d : Nat) : State :=
  let x := s.domain d
  let s1 := s.modDomain d fun y => { y.setRate s.now s.frc (clampRate x.freq) with holdSince := some s.now, bad := 0, good := 0 }
  (((s1.put (Obj.TIM_D_STATE d) 3).bump (Obj.TIM_D_HOLDOVERS d)).timeEvent 4 d 0 s1.frc 0).autoSwitch

/-- A measurement waits for the servo: a word in its context's queue (R434). -/
def State.queueMeasure (s : State) (d : Nat) (m : Int) : State :=
  { s with ptp := { s.ptp with insts := listMod s.ptp.insts d fun i => { i with measured := i.measured ++ [m] } } }.cmpPush (2 + d)

/-- SERVO_MEASUREMENT (R391): the measurement that has waited longest for the domain's servo, or the one given (DESIGN CHOICE, notes/assumptions/27);
it waits until the domain's segment is 1 ms old (R387). -/
def execServoMeasurement (domain : Nat) (offset : Int) (s : State) : Host.Outcome State Fault Refusal :=
  let run := fun (a : State) (m : Int) => (((a.progBegin (4 + domain) 1).servo domain m).progDone (4 + domain) 1).progEnd (4 + domain) Res.ok 0
  .next (if s.get (Obj.TIM_D_SOURCE domain) = 0 ∨ 2 ≤ domain then s
    else if s.halted then s.queueMeasure domain offset
    else if (s.domain domain).segBusy s.now then (if (listAt {} s.ptp.insts domain).measured = [] then s.queueMeasure domain offset else s)
    else match (listAt {} s.ptp.insts domain).measured with
      | m :: rest =>
        let s1 := { s with ptp := { s.ptp with insts := listMod s.ptp.insts domain fun i => { i with measured := rest } } }
        run (s1.cmpTake (2 + domain)) m
      | [] => run s offset)

/-- TCI_SOURCE_TIMEOUT (R392): 1.5 s without a capture of a pulse source. -/
def execTciSourceTimeout (domain : Nat) (s : State) : Host.Outcome State Fault Refusal :=
  let since := (s.domain domain).lastPps.getD 0
  .next (if s.get (Obj.TIM_D_SOURCE domain) = 2 ∧ (s.dstate domain = 1 ∨ s.dstate domain = 2) ∧ since + msTicks 1500 ≤ s.now ∧ domain < 2
    then s.holdover domain else s)

/-- A write of `TIM_D_SOURCE` (R390): at once; the integrator takes the present rate. -/
def State.writeSource (s : State) (d v : Nat) : State :=
  let s1 := (s.put (Obj.TIM_D_SOURCE d) v).put (Obj.TIM_D_STATE d) (if v = 0 then 0 else 1)
  let s2 := s1.modDomain d fun x => { x with r0 := x.rate, acc := 0, bad := 0, good := 0, holdSince := none, lastPps := some s.now }
  s2.put (Obj.TIM_D_FREQ d) (ofSigned 64 (s.domain d).rate)

/-- A write of `TIM_D_RATE` (R387, R388). -/
def State.writeRate (s : State) (d v : Nat) : Nat × State :=
  let r := toSigned 64 v
  if r < -(2 ^ 47) ∨ 2 ^ 47 ≤ r then (Res.badValue, s)
  else if s.get (Obj.TIM_D_SOURCE d) ≠ 0 then (Res.badState, s)
  else if (s.domain d).segBusy s.now then (Res.busy, s)
  else (Res.ok, s.modDomain d fun x => x.setRate s.now s.frc r)

/-- A write of `TIM_D_SET` (R388). -/
def State.writeSet (s : State) (d v : Nat) : Nat × State :=
  let f := s.frc
  if s.get (Obj.TIM_D_SOURCE d) = 1 then (Res.badState, s)
  else if (s.domain d).segBusy s.now then (Res.busy, s)
  else (Res.ok, (s.stepDomain d fun x => x.segment s.now ((unitsOfT96 v : Int) - f) x.rate f).put (Obj.TIM_D_SET d) v)

/-- A write of `TIM_D_ADJUST` (R388). -/
def State.writeAdjust (s : State) (d v : Nat) : Nat × State :=
  let f := s.frc
  let a := toSigned 64 v
  if ¬ domainValid ((s.domain d).time f + a) then (Res.badValue, s)
  else if s.get (Obj.TIM_D_SOURCE d) = 1 then (Res.badState, s)
  else if (s.domain d).segBusy s.now then (Res.busy, s)
  else (Res.ok, (s.stepDomain d fun x => x.adjust s.now f a).put (Obj.TIM_D_ADJUST d) v)

/-! ### Capture inputs (R401, R402) -/

/-- TCI_EDGE: an edge at an input. -/
def execTciEdge (pin : Nat) (rising : Bool) (fine : Nat) (s : State) : Host.Outcome State Fault Refusal :=
  let x := listAt {} s.tim.tci pin
  let edge := s.get (Obj.TIM_TCI_EDGE pin)
  let selected := if rising then bitOf edge 0 else bitOf edge 1
  let at_ := s.frc + fine
  let set_ := fun (a : State) (y : Tci) => { a with tim := { a.tim with tci := listSet a.tim.tci pin y } }
  .next (if ¬ s.boot.resetN ∨ s.power.thermtrip ∨ ¬ s.tim.running ∨ 16 ≤ pin then s
    else
      let close := match x.last with
        | some l => decide (at_ < l + 100 * 65536)
        | none => false
      let s1 := set_ s { x with last := some at_ }
      if ¬ selected then s1
      else if close then s1.bump (Obj.TIM_TCI_OVERRUN pin)
      else
        let seen := x.seen + 1
        if (seen - 1) % s.get (Obj.TIM_TCI_DIVIDE pin) ≠ 0 then set_ s { x with last := some at_, seen := seen }
        else
          let s2 := set_ s { x with last := some at_, seen := seen }
          let cap := ((s.frc : Int) + ((fine / 1280) * 1280 : Nat) - psUnits (toSigned 32 (s.get (Obj.TIM_TCI_COMP pin)))).toNat
          let flags := if rising then 0 else 2
          let s3 := (s2.bump (Obj.TIM_TCI_COUNT pin))
          let queue := decide (s3.get (Obj.TIM_TCI_QUEUE pin) = 1)
          let s4 := if queue then s3.timeEvent 1 pin flags cap 0 else s3
          let s5 := s4.put (Obj.TIM_TCI_LAST pin) (beNat (s4.timeRecord 1 pin flags (if queue then s4.tim.seq else 0) cap 0))
          (upTo 2).foldl (fun a d =>
            if a.get (Obj.TIM_D_SOURCE d) = 2 ∧ a.get (Obj.TIM_D_TCI d) = pin then
              let t := (a.domain d).time cap
              let sec : Int := 1000000000 * 65536
              let near := ((t + sec / 2).fdiv sec) * sec
              (a.queueMeasure d (t - near)).modDomain d fun y => { y with lastPps := some a.now }
            else a) s5)

end Sys2Proof.Machine
end

