-- ==== Sys2Proof/Machine/Stamps.lean ====
section
/-! DEFINITION. Timestamps and their calibration (R409–R412), PTP messages on the wire: recognition, checksums, corrections, and the
AUTHENTICATION TLV (R416–R420, R426). -/

namespace Sys2Proof.Machine
open Sys2Proof

/-! ### Lane temperature (R207) -/

/-- `LN_TEMP`: interpolated by octet position between the quoin's four sensors; the octets outside take the nearest sensor. -/
def State.laneTemp (s : State) (n : Nat) : Int :=
  let q := n / 128
  let pos := 2 * (n / 8 % 16)
  let t := fun (i : Nat) => (s.sensor (32 + 4 * q + i)).temp
  if pos ≤ 3 then t 0
  else if 27 ≤ pos then t 3
  else
    let i := (pos - 3) / 8
    let f : Int := ((pos - 3) % 8 : Nat)
    (t i * (8 - f) + t (i + 1) * f).fdiv 8

/-! ### The two timestamps (R409–R411) -/

/-- The symbol time of a lane mode (R172) in ns, as numerator and denominator. -/
def uiNs (mode : Nat) : Nat × Nat :=
  if mode = 1 then (16, 165) else if mode = 2 then (32, 825) else if mode = 3 then (16, 425) else if mode = 4 then (8, 425) else (4, 425)

/-- The calibration combination of a mode and FEC (R412). -/
def calCombo (mode fec : Nat) : Nat :=
  if mode = 1 then (if fec = 0 then 0 else 1)
  else if mode = 2 then (if fec = 0 then 2 else if fec = 1 then 3 else 4)
  else mode + 2

/-- The calibration record of a lane as the store holds it (R412). -/
def State.calRecord (s : State) (n : Nat) : Nat :=
  let c := if s.store.active = 0 then s.store.bankA.calib else s.store.bankB.calib
  if c.factory then Config.laneCalibration n % 2 ^ 640 else 0

/-- A signed field of a calibration record. -/
def State.calField (s : State) (n off len : Nat) : Int := toSigned (8 * len) (octField 80 (s.calRecord n) off len)

/-- A quotient rounded to the nearest, halves up. -/
def roundDiv (a b : Int) : Int := (2 * a + b).fdiv (2 * b)

/-- Byte field of a port's PTP entry (R432). -/
def State.ptpField (s : State) (p off len : Nat) : Nat := octField 32 (smGet 0 s.ptp.ports p) off len

/-- The temperature term, in units of 2⁻²⁴ ns. -/
def State.tempTerm (s : State) (n off : Nat) : Int := roundDiv (s.calField n off 2 * (s.laneTemp n - s.calField n 68 2) * 256) 8

/-- A compensation of a port in ps, in units of 2⁻²⁴ ns. -/
def State.compTerm (s : State) (p off : Nat) : Int := roundDiv (toSigned 16 (s.ptpField p off 2) * 2 ^ 24) 1000

/-- E_q (R410). -/
def State.replicaPhase (s : State) (p : Nat) : Int := smGet 0 s.tim.phase (p / 128)

/-- Symbols in units of 2⁻²⁴ ns, as s ÷ den of a symbol time. -/
def symUnits (mode : Nat) (sym : Int) (den : Int) : Int := roundDiv (sym * 2 ^ 24 * (uiNs mode).1) ((uiNs mode).2 * den)

/-- A sum of 2⁻²⁴ ns terms as an FRC value. -/
def frcOf (v : Int) : Nat := (roundDiv v 256 % 2 ^ 96).toNat

/-- T_RX of a frame of port p (R410). -/
def State.tRx (s : State) (p : Nat) (r : RxStamp) : Nat :=
  let mode := ptMode (s.ptType p)
  frcOf ((r.lock : Int) * 256 + symUnits mode r.sym 1 - symUnits mode r.acc 128
    - s.calField r.lane (4 * calCombo mode (s.ptFec p)) 4 * 256 - s.tempTerm r.lane 64 - s.compTerm p 8 + s.replicaPhase p * 256)

/-- T_TX of a frame of port p (R410). -/
def State.tTx (s : State) (p : Nat) (r : TxStamp) : Nat :=
  let mode := ptMode (s.ptType p)
  frcOf ((r.start : Int) * 256 + symUnits mode r.sym 1
    + s.calField r.lane (32 + 4 * calCombo mode (s.ptFec p)) 4 * 256 + s.tempTerm r.lane 66 + s.compTerm p 10 + s.replicaPhase p * 256)

/-- A lane's timestamps are valid as far as calibration and its quoin's replica go (R411, R412). -/
def State.stampsOk (s : State) (n : Nat) : Bool := !(s.boot.badCal.contains n) && bitOf (s.get Obj.TIM_REPLICA_VALID) (n / 128)

/-- T_RX is valid (R411). -/
def State.rxValid (s : State) (p : Nat) (r : RxStamp) : Bool :=
  s.stampsOk r.lane && (s.lane r.lane).cdr && decide (s.get (Obj.LN_LOOPBACK p) ≠ 2) && decide (s.now ≥ (s.port p).wakeTs)

/-- T_TX is valid (R411). -/
def State.txValid (s : State) (p : Nat) (r : TxStamp) : Bool :=
  s.stampsOk r.lane && (s.lane r.lane).cdr && decide (s.get (Obj.LN_LOOPBACK p) ≠ 2)

/-! ### Recognition (R416) -/

/-- A recognised PTP message: the offset of its header, of its UDP checksum, and whether it came as EtherType, IPv4 or IPv6. -/
structure PtpAt where
  hdr : Nat
  csum : Option Nat
  kind : Nat
deriving DecidableEq, Repr

/-- The offset of the EtherType after at most one outer tag (R221). -/
def etherOff (stag : Nat) (w : Bytes) : Nat := if u w 12 2 = 0x8100 ∨ u w 12 2 = stag then 16 else 12

/-- The PTP header is one the device recognises: versionPTP 2 and majorSdoId 0. -/
def ptpHeaderOk (w : Bytes) (o : Nat) : Bool := decide (o + 34 ≤ w.length) && decide (u w o 1 / 16 = 0) && decide (u w (o + 1) 1 % 16 = 2)

/-- Recognise a PTP message in a frame (R416). -/
def ptpFind (stag : Nat) (w : Bytes) : Option PtpAt :=
  let e := etherOff stag w
  let o := e + 2
  let t := u w e 2
  let port := fun (at_ : Nat) => decide (u w at_ 2 = 319) || decide (u w at_ 2 = 320)
  let cand : Option PtpAt :=
    if t = 0x88F7 then some ⟨o, none, 0⟩
    else if t = 0x0800 ∧ u w o 1 = 0x45 ∧ u w (o + 6) 2 % 0x4000 = 0 ∧ u w (o + 9) 1 = 17 ∧ port (o + 22) then some ⟨o + 28, some (o + 26), 1⟩
    else if t = 0x86DD ∧ u w o 1 / 16 = 6 ∧ u w (o + 6) 1 = 17 ∧ port (o + 42) then some ⟨o + 48, some (o + 46), 2⟩
    else none
  match cand with
  | some x => if ptpHeaderOk w x.hdr then some x else none
  | none => none

/-- messageType and domainNumber of a message. -/
def ptpType (w : Bytes) (x : PtpAt) : Nat := u w x.hdr 1 % 16
def ptpDomain (w : Bytes) (x : PtpAt) : Nat := u w (x.hdr + 4) 1

/-- An event message. -/
def ptpEvent (t : Nat) : Bool := decide (t < 4)

/-- A message of a type the device corrects in transit: Sync and Delay_Req. -/
def ptpCorrected (t : Nat) : Bool := decide (t < 2)

/-! ### Changing a message in flight (R418, R419) -/

/-- RFC 1624 over the 16-bit words of a changed field. -/
def csumWords (hc : Nat) (old new : Bytes) : Nat → Nat
  | 0 => hc
  | n + 1 => csumWords (rfc1624 hc (u old 0 2) (u new 0 2)) (old.drop 2) (new.drop 2) n

/-- Replace bytes of a message and update its UDP checksum if it is not zero. -/
def ptpPatch (w : Bytes) (x : PtpAt) (off : Nat) (new : Bytes) : Bytes :=
  let old := slice w (x.hdr + off) new.length
  let w1 := patchBytes w (x.hdr + off) new
  match x.csum with
  | some c => if u w c 2 = 0 then w1 else patchBytes w1 c (beBytes 2 (csumWords (u w c 2) old new ((new.length + 1) / 2)))
  | none => w1

/-- Add to correctionField, modulo 2⁶⁴. -/
def addCorrection (w : Bytes) (x : PtpAt) (d : Int) : Bytes :=
  ptpPatch w x 8 (beBytes 8 (((u w (x.hdr + 8) 8 : Int) + d) % 2 ^ 64).toNat)

/-- The domain whose rate scales a transit message: the enabled instance of its domainNumber, or that of `TIM_SELECT` (R419). -/
def State.ptpDomainOf (s : State) (dom : Nat) : Nat :=
  match [0, 1].find? fun d => decide (s.get (Obj.TIM_P_DOMAIN d) = dom) with
  | some d => d
  | none => s.sel

/-- The residence term of R419. -/
def State.residence (s : State) (d tTx rxNs : Nat) : Int :=
  let r : Int := (tTx : Int) - rxNs * 65536
  roundDiv (r * (2 ^ 56 + (s.domain d).rate)) (2 ^ 56)

/-! ### Authentication (R426, R427) -/

/-- The AUTHENTICATION TLV that ends a message: where its ICV begins, SPP and keyID. -/
def authTlv (w : Bytes) (x : PtpAt) : Option (Nat × Nat × Nat) :=
  let len := u w (x.hdr + 2) 2
  let t := x.hdr + len - 18
  if 52 ≤ len ∧ x.hdr + len ≤ w.length ∧ u w t 2 = 0x8009 ∧ u w (t + 2) 2 = 14 ∧ u w (t + 5) 1 = 0 then some (t + 10, u w (t + 4) 1, u w (t + 6) 4) else none

/-- The entry of `TIM_AUTH_KEY` (1–8) and page of an SPP and keyID. -/
def State.authEntry (s : State) (spp keyId : Nat) : Option (Nat × Nat) :=
  (upTo 8).findSome? fun k =>
    let e := s.get (Obj.TIM_AUTH_KEY k)
    if octByte 8 e 1 ≠ 0xFF ∧ octByte 8 e 0 = spp ∧ octField 8 e 4 4 = keyId then some (k + 1, octByte 8 e 1) else none

/-- Check a message's ICV on its page (R427): whether it passes. Each check that passes counts against the page's usage limit (R153). -/
def State.authCheck (s : State) (page : Nat) (w : Bytes) (x : PtpAt) (icv : Nat) : Bool × State :=
  if ¬ (s.page page).serves 1 then (false, s.bump Obj.KCE_REFUSED)
  else
    let r := s.kceTag page (slice w x.hdr (icv - x.hdr))
    let pass := decide (r.1.take 8 = slice w icv 8)
    (pass, if pass then r.2.countUse page 1 else r.2)

end Sys2Proof.Machine
end

