-- ==== Sys2Proof/Machine/MemInt.lean ====
section
/-! DEFINITION. Memory integrity: codes, reports, and the reading of a word whose stored bits may be in error (R458–R465, R491). A stored
error is a pattern of flipped code bits beside the memory's content: `Mem.flips`. -/

namespace Sys2Proof.Machine
open Sys2Proof

/-! ### Codes (R459–R461) -/

/-- The columns of H by code bit: 56 of weight 3, eight of weight 5, eight single bits (R460). -/
def hsiaoCols : List Nat :=
  ((upTo 256).filter fun v => decide (popCount 8 v = 3)) ++ [0x1F, 0x2F, 0x37, 0x3B, 0x3D, 0x3E, 0x4F, 0x57] ++ [1, 2, 4, 8, 16, 32, 64, 128]

/-- The XOR of the columns of the bits set in a pattern, low bit first. -/
def colSum (cols : List Nat) (pat : Nat) : Nat :=
  match cols with
  | [] => 0
  | c :: t => (if pat % 2 = 1 then c else 0) ^^^ colSum t (pat / 2)

/-- The syndrome of an error pattern of a 72-bit code word. -/
def syndrome72 (pat : Nat) : Nat := colSum hsiaoCols pat

/-- The check bits of 64 data bits as stored: inverted (R459, R460). -/
def check72 (data : Nat) : Nat := 0xFF ^^^ colSum hsiaoCols (data % 2 ^ 64)

/-- What a decoder makes of a pattern: clean, one or two bits named, or uncorrectable, with the syndrome. -/
inductive Decoded where
  | clean
  | fix (p1 : Nat) (p2 : Option Nat) (syn : Nat)
  | bad (syn : Nat)
deriving DecidableEq, Repr

/-- SEC-DED 72/64 (R460). -/
def decode72 (pat : Nat) : Decoded :=
  if pat = 0 then .clean
  else
    let s := syndrome72 pat
    if s = 0 then .clean
    else match hsiaoCols.findIdx? (· = s) with
      | some i => .fix i none s
      | none => .bad s

/-- Multiplication by α in GF(2¹⁰) with x¹⁰ + x³ + 1 (R461). -/
def gfStep (v : Nat) : Nat := let w := 2 * v; if 1024 ≤ w then (w % 1024) ^^^ 9 else w

/-- Powers of α from a start: the list of `n`. -/
def gfPowers (step : Nat → Nat) (n v : Nat) : List Nat :=
  match n with
  | 0 => []
  | k + 1 => v :: gfPowers step k (step v)

/-- α^i and α^3i for the 277 positions of a galley code word. -/
def alpha1 : List Nat := gfPowers gfStep 277 1
def alpha3 : List Nat := gfPowers (fun v => gfStep (gfStep (gfStep v))) 277 1

/-- The galley code (R461): S1 and S3 of a pattern name no bit, one bit, two bits, or nothing. -/
def decodeBch (pat : Nat) : Decoded :=
  if pat = 0 then .clean
  else
    let s1 := colSum alpha1 pat
    let s3 := colSum alpha3 pat
    let syn := s1 + s3 * 1024
    if s1 = 0 ∧ s3 = 0 then .clean
    else
      let pairs := alpha1.zip alpha3
      match (if s1 = 0 then none else pairs.findIdx? fun e => decide (e = (s1, s3))) with
      | some i => .fix i none syn
      | none =>
        match pairs.findIdx? (fun e => pairs.any fun f => decide (e.1 ≠ f.1) && decide (e.1 ^^^ f.1 = s1) && decide (e.2 ^^^ f.2 = s3)) with
        | some i =>
          let e := listAt (0, 0) pairs i
          match pairs.findIdx? (fun f => decide (e.1 ≠ f.1) && decide (e.1 ^^^ f.1 = s1) && decide (e.2 ^^^ f.2 = s3)) with
          | some j => .fix i (some j) syn
          | none => .bad syn
        | none => .bad syn

/-- A control-store line with nine check bits (R447): one flipped bit is corrected, more are not. The matrix is not given, so the syndrome is
left at zero (DESIGN CHOICE, notes/assumptions/24). -/
def decodeLine (pat : Nat) : Decoded :=
  if pat = 0 then .clean
  else match (upTo 153).filter fun i => bitOf pat i with
    | [i] => .fix i none 0
    | _ => .bad 0

/-- Odd parity of an LPM slot word (R458): bits 0–39 with 80, 40–79 with 81, 82–113 with 114; a group with an odd number of flips fails. -/
def decodeParity5 (pat : Nat) : Decoded :=
  let odd := fun (lo hi p : Nat) => decide ((popCount (hi + 1 - lo) (pat / 2 ^ lo) + b2n (bitOf pat p)) % 2 = 1)
  let f := b2n (odd 0 39 80) + 2 * b2n (odd 40 79 81)
  if f = 0 ∧ ¬ odd 82 113 114 then .clean else .bad f

/-- Odd parity over a 32-bit word, its parity at bit 32 (R458, kind 13). -/
def decodeParity13 (pat : Nat) : Decoded := if popCount 33 pat % 2 = 1 then .bad 1 else .clean

/-- The decoder of a memory kind. -/
def decodeKind (kind pat : Nat) : Decoded :=
  if kind = 0 then decodeBch pat
  else if kind = 5 then decodeParity5 pat
  else if kind = 11 then decodeLine pat
  else if kind = 13 then decodeParity13 pat
  else decode72 pat

/-- The data bits of a pattern: a galley word's lie above its 20 check bits (R461), every other kind's lie lowest. -/
def dataBits (kind pat : Nat) : Nat :=
  if kind = 0 then pat / 2 ^ 20
  else if kind = 5 then (pat % 2 ^ 80) * 2 ^ 32 + (pat / 2 ^ 82) % 2 ^ 32
  else if kind = 11 then pat % 2 ^ 144
  else if kind = 13 then pat % 2 ^ 32
  else pat % 2 ^ 64

/-! ### Words and reports (R462) -/

/-- The key of a code word. -/
def memKey (kind inst addr : Nat) : Nat := (kind * 2 ^ 32 + inst) * 2 ^ 32 + addr

/-- The flipped bits of a stored code word. -/
def State.flipsAt (s : State) (kind inst addr : Nat) : Nat := smGet 0 s.mem.flips (memKey kind inst addr)

/-- Set the flipped bits of a stored code word. -/
def State.setFlips (s : State) (kind inst addr pat : Nat) : State :=
  { s with mem := { s.mem with flips := smSet 0 s.mem.flips (memKey kind inst addr) pat } }

/-- A write of a whole code word: no bit is in error, a pending write-back is cancelled, and the word leaves the diagnostic log. -/
def State.memWritten (s : State) (kind inst addr : Nat) : State :=
  let k := memKey kind inst addr
  if s.mem.flips = [] ∧ s.mem.backs = [] ∧ s.mem.log = [] then s
  else
    let m := { s.mem with flips := smErase s.mem.flips k, backs := s.mem.backs.filter (fun b => decide (b.key ≠ k)), log := s.mem.log.filter (· ≠ k) }
    ({ s with mem := m }).put Obj.FLT_DIAG_LOGGED m.log.length

/-- The fault source and tile of a memory event (R480, R481). -/
def memSource (kind inst addr : Nat) : Nat × Nat :=
  let hi := inst / 2 ^ 24
  if kind = 0 then (152 + 16 * hi + (inst / 2 ^ 16) % 256, inst % 2 ^ 16)
  else if kind = 1 then (241, addr / 4096)
  else if kind = 2 then (240, addr / 65536)
  else if kind = 3 then (192 + hi, 1)
  else if kind = 4 then (192 + hi, 2)
  else if kind = 5 ∨ kind = 6 then (184 + hi, addr / 2048)
  else if kind = 7 then (200 + hi, 0)
  else if kind = 8 then (200 + hi, inst % 64)
  else if kind = 9 then (232 + hi, 0)
  else if kind = 10 then (246, 0)
  else if kind = 11 then (if hi = 0 then 247 else 248, addr / 16)
  else if kind = 12 then (250, hi)
  else (hi, inst % 2 ^ 16)

/-- What a read of a word yields for its reader: the data bits that differ from the content, or none when uncorrectable. -/
structure ReadOut where
  diff : Option Nat
  state : State

/-- A flag above the record's FLAGS byte: the word in error is one on which an injection falls (R491). -/
abbrev coincident : Nat := 256

/-- RESULT codes, SOURCE codes: an event of a memory (R462): counters, last-error record, and the collector's event. -/
def State.memEvent (s : State) (kind inst addr result source flags syn p1 p2 : Nat) : State :=
  let unc := decide (result = 3 ∨ result = 4)
  -- a parity failure that the shadow repairs counts with the corrections (R478)
  let s1 := if unc ∧ kind ≠ 5 then s.bump (Obj.FLT_MI_UE kind) else s.bump (Obj.FLT_MI_CE kind)
  let rec_ := [u8 kind, u8 result, u8 source, u8 flags] ++ beBytes 4 inst ++ beBytes 4 addr ++ beBytes 4 syn ++ beBytes 2 p1 ++ beBytes 2 p2 ++
    zeros 4 ++ beBytes 8 s.uptime
  let s2 := s1.put (Obj.FLT_MI_LAST kind) (beNat rec_)
  let c := inst / 2 ^ 24
  let s3 :=
    if kind = 3 then s2.bump (if unc then Obj.CHS_LABEL_UE c else Obj.CHS_LABEL_CE c)
    else if kind = 4 then s2.bump (if unc then Obj.CHS_NH_UE c else Obj.CHS_NH_CE c)
    else if kind = 5 ∧ result = 5 then s2.bump (Obj.CHS_LPM_MISMATCH c)
    else if kind = 5 then s2.bump (Obj.CHS_LPM_PARITY c)
    else if kind = 7 ∧ unc then s2.bump (Obj.TBL_LRN_UNCORR c)
    else if kind = 11 then s2.bump (if unc then Obj.CMP_FETCH_UE else Obj.CMP_FETCH_CE)
    else s2
  let st := memSource kind inst addr
  let diag := bitOf flags 0
  let inj := bitOf flags 1
  let esc := match s.flt.inj with | some j => j.escalate | none => false
  let real := !inj || decide (coincident ≤ flags)
  let fflags := b2n inj + (if inj && real then 2 else 0) + (if diag then 4 else 0)
  s3.report { src := st.1, cls := if unc then Cls.failure else Cls.corrected, cause := kind, tile := st.2, detail := addr, flags := fflags,
              word := some addr, immediate := unc && decide (kind = 0) && real, stamp := !diag && (real || esc) }

/-- The pattern that the armed injection adds to a check (R490), and whether it forces the decoder's overflow input. -/
def injPattern (j : Injection) : Nat × Bool :=
  if j.kind = 0 then
    if j.type = 1 then (2 ^ j.bit, false) else if j.type = 2 then (2 ^ j.bit + 2 ^ ((j.bit + 1) % 20), false) else (3, true)
  else if j.kind = 5 then (2 ^ 81, false)
  else if j.kind = 13 then (2 ^ 32, false)
  else if j.kind = 11 then (if j.type = 1 then 2 ^ (144 + j.bit) else 2 ^ (144 + j.bit) + 2 ^ (144 + (j.bit + 1) % 9), false)
  else (if j.type = 1 then 2 ^ (64 + j.bit) else 2 ^ (64 + j.bit) + 2 ^ (64 + (j.bit + 1) % 8), false)

/-- One injection is used; the last completes the run (R490). -/
def State.useInjection (s : State) (j : Injection) : State :=
  let s1 := (s.bump Obj.FLT_INJ_DONE).put Obj.FLT_INJ_LEFT (j.left - 1)
  if j.left ≤ 1 then { s1.runEnd Obj.FLT_INJ_ARM Res.ok 0 with flt := { s1.flt with inj := none } }
  else { s1 with flt := { s1.flt with inj := some { j with left := j.left - 1 } } }

/-- Schedule a write-back (R463, R465). -/
def State.schedBack (s : State) (key : Nat) (poison : Bool) : State :=
  if s.mem.backs.any fun b => decide (b.key = key) then s
  else { s with mem := { s.mem with backs := s.mem.backs ++ [⟨key, poison, s.now⟩] } }

/-- Whether an uncorrectable word of a kind is written back as read (the galley, poisoned) or from a restoration (R458, R463, R465). -/
def restorable (kind : Nat) : Bool := decide (kind = 0 ∨ kind = 8 ∨ kind = 6 ∨ kind = 9)

/-- The RESULT of an uncorrectable word: 4 for the kinds whose check is parity (R462). -/
def lostResult (kind : Nat) : Nat := if kind = 5 ∨ kind = 13 then 4 else 3

/-- A sound word read under the armed injection: the check bits of the read alone are changed (R490). -/
def State.readInjected (s : State) (kind inst addr source diag pat : Nat) (j : Injection) : ReadOut :=
  match (if (injPattern j).2 then Decoded.bad 0 else decodeKind kind (injPattern j).1) with
  | .clean => ⟨some (dataBits kind pat), s.useInjection j⟩
  | .fix p1 p2 syn =>
    ⟨some (dataBits kind pat), (s.memEvent kind inst addr (if p2.isSome then 2 else 1) source (2 + diag) syn p1 (p2.getD 0xFFFF)).useInjection j⟩
  | .bad syn =>
    ⟨if source = 3 then some (dataBits kind pat) else none,
      (s.memEvent kind inst addr (lostResult kind) source (2 + diag) syn 0xFFFF 0xFFFF).useInjection j⟩

/-- A word read with bits that its code corrects: reported, and written back (R463). -/
def State.readFixed (s : State) (kind inst addr source diag pat p1 : Nat) (p2 : Option Nat) (syn : Nat) : ReadOut :=
  let fixed := (pat ^^^ 2 ^ p1) ^^^ (match p2 with | some p => 2 ^ p | none => 0)
  let s1 := s.memEvent kind inst addr (if p2.isSome then 2 else 1) source (4 + diag) syn p1 (p2.getD 0xFFFF)
  ⟨some (dataBits kind fixed), if kind = 11 ∧ inst = 0 then s1 else s1.schedBack (memKey kind inst addr) false⟩

/-- A word read that its code does not correct: reported, and written back where it can be restored (R463, R465). -/
def State.readLost (s : State) (kind inst addr source diag syn : Nat) : ReadOut :=
  let s1 := s.memEvent kind inst addr (lostResult kind) source ((if restorable kind then 4 else 0) + diag) syn 0xFFFF 0xFFFF
  ⟨none, if restorable kind then s1.schedBack (memKey kind inst addr) (decide (kind = 0)) else s1⟩

/-- A word in error on which an injection falls: a real uncorrectable read, reported as coincident (R491). -/
def State.readCoincident (s : State) (kind inst addr source diag syn : Nat) (j : Injection) : ReadOut :=
  let flags := coincident + 2 + (if restorable kind then 4 else 0) + diag
  let s1 := ((s.memEvent kind inst addr (lostResult kind) source flags syn 0xFFFF 0xFFFF).bump Obj.FLT_INJ_COINCIDENT).useInjection j
  ⟨none, if restorable kind then s1.schedBack (memKey kind inst addr) (decide (kind = 0)) else s1⟩

/-- The armed injection that a read of a word by `source` meets (R490): on its kind and instance, and on the path it names. -/
def State.armedFor (s : State) (kind inst source : Nat) : Option Injection :=
  match s.flt.inj with
  | some j => if j.kind = kind ∧ j.inst = inst ∧ (j.path = 1 ∨ source = 3) then some j else none
  | none => none

/-- A read of a code word by `source` (1 traffic, 2 read-modify-write, 3 scrub, 4 self-test, 5 wipe verify, 6 reference) (R462–R465, R491). -/
def State.readWord (s : State) (kind inst addr source : Nat) : ReadOut :=
  let pat := s.flipsAt kind inst addr
  let diag := b2n (s.mem.log.contains (memKey kind inst addr))
  match decodeKind kind pat, s.armedFor kind inst source with
  | .clean, none => ⟨some (dataBits kind pat), s⟩
  | .clean, some j => s.readInjected kind inst addr source diag pat j
  | .fix p1 p2 syn, none => s.readFixed kind inst addr source diag pat p1 p2 syn
  | .bad syn, none => s.readLost kind inst addr source diag syn
  | .fix _ _ syn, some j => s.readCoincident kind inst addr source diag syn j
  | .bad syn, some j => s.readCoincident kind inst addr source diag syn j

/-- A galley word: its logical word number is stripe × 8 + word. Its physical place (R312): instance, address. -/
def galleyPlace (groups : Nat) (remap : List (Nat × Nat)) (word : Nat) : Nat × Nat :=
  let st := word / 8
  let lb := st % (64 * groups)
  let row := st / (64 * groups)
  let die := lb % 2
  let grp := (lb / 2) % (groups / 2)
  let bank := lb / groups
  let e := smGet 0 remap (die * 1024 + grp * 64 + bank)
  let phys := if e = 0 then bank else e - 1
  (die * 2 ^ 24 + grp * 2 ^ 16 + phys, 8 * row + word % 8)

end Sys2Proof.Machine
end

