-- ==== Sys2Proof/Machine/Galley.lean ====
section
/-! DEFINITION. The galley and the buffer pool manager: words, valid map, hanks, quotas, descriptors, references (11). -/

namespace Sys2Proof.Machine
open Sys2Proof

/-! ### Cases and carving (R312, R314) -/

/-- Stripes per buffer of a case. -/
def caseStripes (c : Nat) : Nat := listAt 40 [1, 8, 16, 40] c

/-- Buffer size of a case in bytes. -/
def caseSize (c : Nat) : Nat := 256 * caseStripes c

/-- Buffers of a case in the active carving. -/
def Galley.count (g : Galley) (c : Nat) : Nat := listAt 0 g.counts c

/-- The base stripe of a case. -/
def Galley.base (g : Galley) (c : Nat) : Nat := ((upTo c).map fun i => g.count i * caseStripes i).foldl (· + ·) 0

/-- `ok(c, p)` (R320). -/
def Galley.ptrOk (g : Galley) (c p : Nat) : Bool :=
  decide (g.base c ≤ p) && decide (p < g.base c + g.count c * caseStripes c) && decide ((p - g.base c) % caseStripes c = 0)

/-- `home(c, p)` (R320). -/
def Galley.home (g : Galley) (c p : Nat) : Nat := ((p - g.base c) / caseStripes c) % 64

/-! ### Words (R311–R313, R463) -/

/-- A link word as a 256-bit word, bytes 0 to 7 first (R319). -/
def linkWord (c h : Nat) (nextV : Bool) (next : Nat) : Nat :=
  (0xA5 * 2 ^ 56 + c * 2 ^ 54 + h * 2 ^ 48 + b2n nextV * 2 ^ 47 + next) * 2 ^ 192

/-- What the wipe wrote into a word: the link of a free buffer in the first word of each buffer, zero elsewhere (R71, R319). -/
def Galley.wiped (g : Galley) (w : Nat) : Nat :=
  if w % 8 ≠ 0 then 0
  else
    match (upTo 4).find? (fun c => g.ptrOk c (w / 8)) with
    | some c =>
      let i := (w / 8 - g.base c) / caseStripes c
      let more := decide (i + 64 < g.count c)
      linkWord c (i % 64) more (if more then w / 8 + 64 * caseStripes c else 0)
    | none => 0

/-- The content of a logical word. -/
def Galley.word (g : Galley) (w : Nat) : Nat := smGet (g.wiped w) g.words w

/-- Change the galley. -/
def State.modGalley (s : State) (f : Galley → Galley) : State := { s with galley := f s.galley }

/-- The stripe valid map's bit of a stripe (R313). -/
def Galley.stripeValid (g : Galley) (st : Nat) : Bool := bitOf (smGet 0 g.valid (st / 64)) (st % 64)

/-- A galley read: data with POISON at bit 256. -/
structure GalRead where
  data : Nat
  poison : Bool
  state : State

/-- Read a logical word through its code (R463), `source` as in R462, whatever the valid map says. -/
def State.galleyRaw (s : State) (w source : Nat) : GalRead :=
  let pl := galleyPlace s.galley.groups s.galley.remap w
  let r := s.readWord 0 pl.1 pl.2 source
  let v := s.galley.word w
  match r.diff with
  | some d => let x := v ^^^ d; ⟨x % 2 ^ 256, bitOf x 256, r.state⟩
  | none => ⟨(v ^^^ dataBits 0 (s.flipsAt 0 pl.1 pl.2)) % 2 ^ 256, true, r.state⟩

/-- A traffic read of a word: a clear stripe reads zero with POISON (R313). The valid map's own word is read with it. -/
def State.galleyReadOf (s : State) (w : Nat) : GalRead :=
  let m := s.readWord 1 0 (w / 512) 1
  let s1 := if m.diff.isNone then m.state.modGalley fun g => { g with valid := smErase g.valid (w / 512) } else m.state
  if m.diff.isSome ∧ s1.galley.stripeValid (w / 8) then s1.galleyRaw w 1
  else ⟨0, true, s1.bump Obj.GAL_INVALID_READS⟩

/-- A traffic read for a requester, counted (R376). -/
def State.galleyRead (s : State) (w : Nat) (req : Option Nat := none) : GalRead :=
  let pl := galleyPlace s.galley.groups s.galley.remap w
  let r := s.galleyReadOf w
  let s1 := r.state.pmc 1200 5 1 { req := req, addr := some (w / 8) }
  let s2 := if s.flipsAt 0 pl.1 pl.2 ≠ 0 ∧ ¬ r.poison then s1.pmc 1200 6 1 { addr := some (w / 8) } else s1
  ⟨r.data, r.poison, if r.poison then s2.pmc 1200 7 1 { addr := some (w / 8) } else s2⟩

/-- Write a whole word: no error is left in it, and its stripe is valid (R313, R468). -/
def State.galleyWrite (s : State) (w v : Nat) (req : Option Nat := none) : State :=
  let pl := galleyPlace s.galley.groups s.galley.remap w
  ((s.pmc 1200 4 1 { req := req, addr := some (w / 8) }).memWritten 0 pl.1 pl.2).modGalley fun g =>
    { g with words := smSet (g.wiped w) g.words w v,
             valid := smSet 0 g.valid (w / 512) (setBit (smGet 0 g.valid (w / 512)) (w / 8 % 64) true) }

/-- A link word written; the stripe's valid bit is not traffic's. -/
def State.linkWrite (s : State) (p v : Nat) : State :=
  let pl := galleyPlace s.galley.groups s.galley.remap (8 * p)
  ((s.pmc 1200 4 1 { addr := some p }).memWritten 0 pl.1 pl.2).modGalley fun g => { g with words := smSet (g.wiped (8 * p)) g.words (8 * p) v }

/-- Clear the valid bits of a buffer's stripes (R313). -/
def State.clearValid (s : State) (c p : Nat) : State :=
  s.modGalley fun g => (upTo (caseStripes c)).foldl (fun a i =>
    { a with valid := smSet 0 a.valid ((p + i) / 64) (setBit (smGet 0 a.valid ((p + i) / 64)) ((p + i) % 64) false) }) g

/-! ### Hanks (R319–R321) -/

/-- A hank as the wipe leaves it (R319). -/
def Galley.hank0 (g : Galley) (c h : Nat) : Hank :=
  { head := g.base c + h * caseStripes c, headV := decide (h < g.count c), len := g.count c / 64, pf := [] }

/-- A hank. -/
def Galley.hank (g : Galley) (c h : Nat) : Hank := smGet (g.hank0 c h) g.hanks (c * 64 + h)

/-- Change a hank; canonical. -/
def Galley.setHank (g : Galley) (c h : Nat) (x : Hank) : Galley := { g with hanks := smSet (g.hank0 c h) g.hanks (c * 64 + h) x }

/-- Free buffers of a case (R324). -/
def Galley.freeOf (g : Galley) (c : Nat) : Nat := listAt 0 g.free c

/-- Change the free count of a case. -/
def Galley.modFree (g : Galley) (c : Nat) (f : Nat → Nat) : Galley := { g with free := listMod g.free c f }

/-- A pointer fault (R321): `lost` buffers are lost, `quar` quarantined. -/
def State.ptrFault (s : State) (cause c h p quar lost : Nat) : State :=
  let rec_ := beNat ([u8 cause, u8 c, u8 h, 0] ++ beBytes 4 p)
  let s1 := ((s.bump Obj.GAL_PTR_FAULTS).put Obj.GAL_QUAR_LAST rec_).bumpBy Obj.GAL_QUARANTINED quar
  (s1.bumpBy Obj.GAL_LOST lost).report { src := 242 + c, cls := Cls.failure, cause := 0x1A, tile := h, detail := cause }

/-- `refill(c, h)` once (R320). -/
def State.refill (s : State) (c h : Nat) : State :=
  let k := s.galley.hank c h
  if ¬ k.headV ∨ 16 ≤ k.pf.length then s
  else
    let r := s.galleyRaw (8 * k.head) 1
    let s1 := r.state
    let w := r.data / 2 ^ 192
    let next := w % 2 ^ 22
    let nextV := bitOf w 47
    if r.poison ∨ field w 63 56 ≠ 0xA5 ∨ field w 55 54 ≠ c ∨ field w 53 48 ≠ h ∨ (nextV ∧ ¬ s1.galley.ptrOk c next) then
      (s1.modGalley fun g => (g.setHank c h { k with headV := false, len := 0 }).modFree c (· - k.len)).ptrFault 2 c h k.head 1 (k.len - 1)
    else s1.modGalley fun g => g.setHank c h { head := if nextV then next else 0, headV := nextV, len := k.len - 1, pf := k.pf ++ [k.head] }

/-- The hank's prefetch filled as far as it goes; `n` steps. -/
def State.fillHank (s : State) (c h : Nat) : Nat → State
  | 0 => s
  | n + 1 => (s.refill c h).fillHank c h n

/-- `pop` at one hank: its first buffer, if it has one whose pointer is sound (R320). -/
def State.popHank (s : State) (c h : Nat) : Option Nat × State :=
  let s1 := s.fillHank c h 16
  let k := s1.galley.hank c h
  match k.pf with
  | [] => (none, s1)
  | p :: rest =>
    let s2 := s1.modGalley fun g => { (g.setHank c h { k with pf := rest }).modFree c (· - 1) with rot := listMod g.rot c fun _ => (h + 1) % 64 }
    if s2.galley.ptrOk c p then (some p, s2.clearValid c p) else (none, s2.ptrFault 1 c h p 0 1)

/-- `pop`: the hanks of a case in rotation from the next one, skipping empty ones; `n` hanks are tried (R320). -/
def State.popFrom (s : State) (c h : Nat) : Nat → Option Nat × State
  | 0 => (none, s)
  | n + 1 =>
    let r := s.popHank c h
    if r.1.isSome then r else r.2.popFrom c ((h + 1) % 64) n

/-- Take one buffer of a case. -/
def State.pop (s : State) (c : Nat) : Option Nat × State := s.popFrom c (listAt 0 s.galley.rot c) 64

/-- `push(c, p)` (R320). -/
def State.pushBuf (s : State) (c p : Nat) : State :=
  if ¬ s.galley.ptrOk c p then s.ptrFault 3 c 0 p 0 1
  else
    let h := s.galley.home c p
    let s1 := s.fillHank c h 16
    let k := s1.galley.hank c h
    if k.pf.length < 16 then s1.modGalley fun g => (g.setHank c h { k with pf := k.pf ++ [p] }).modFree c (· + 1)
    else (s1.linkWrite p (linkWord c h k.headV (if k.headV then k.head else 0))).modGalley fun g =>
      (g.setHank c h { head := p, headV := true, len := k.len + 1, pf := k.pf }).modFree c (· + 1)

/-- A buffer of a requester returns to its hank (R320, R376). -/
def State.push (s : State) (c p : Nat) (req : Option Nat := none) : State := (s.pushBuf c p).pmc 1200 3 1 { req := req, addr := some p }

/-- HANK_REFILL (R320): one link read of a hank whose prefetch has room. -/
def execHankRefill (case hank : Nat) (s : State) : Host.Outcome State Fault Refusal :=
  .next (if case < 4 ∧ hank < 64 ∧ s.boot.phase = .service then s.refill case hank else s)

/-! ### Quotas (R322–R327) -/

/-- The quota profile of a requester (R323). -/
def State.profileOf (s : State) (r : Nat) : Nat :=
  if r < 1024 then (octByte 512 (s.get Obj.GAL_PORT_PROFILE) (r / 2) / (if r % 2 = 0 then 16 else 1)) % 16
  else if r = 1024 then s.get Obj.GAL_CMP_PROFILE else s.get Obj.GAL_REP_PROFILE

/-- MIN of a profile and case. -/
def State.profMin (s : State) (k c : Nat) : Nat := octField 16 (s.get (Obj.GAL_QP_MIN k)) (4 * c) 4

/-- The α code of a profile and case. -/
def State.profAlpha (s : State) (k c : Nat) : Nat := (s.get (Obj.GAL_QP_ALPHA k) / 16 ^ (3 - c)) % 16

/-- Requesters per profile. -/
def State.profUsers (s : State) (k : Nat) : Nat :=
  let v := s.get Obj.GAL_PORT_PROFILE
  let ports := if v = 0 then (if k = 0 then 1024 else 0) else ((upTo 1024).filter fun p => decide (s.profileOf p = k)).length
  ports + b2n (decide (s.get Obj.GAL_CMP_PROFILE = k)) + b2n (decide (s.get Obj.GAL_REP_PROFILE = k))

/-- Σ MIN of a case over all requesters (R324). -/
def State.sumMin (s : State) (c : Nat) : Nat := ((upTo 16).map fun k => s.profUsers k * s.profMin k c).foldl (· + ·) 0

/-- Buffers of a case that a requester holds. -/
def State.heldOf (s : State) (r c : Nat) : Nat := smGet 0 s.galley.held (r * 4 + c)

/-- U: the unused guarantees of a case (R324). -/
def State.unusedMin (s : State) (c : Nat) : Nat :=
  s.sumMin c - ((s.galley.held.filter fun e => decide (e.1 % 4 = c)).map fun e => min e.2 (s.profMin (s.profileOf (e.1 / 4)) c)).foldl (· + ·) 0

/-- A request of a requester for one buffer of a case is admitted (R324). -/
def State.admits (s : State) (r c : Nat) : Bool :=
  let k := s.profileOf r
  let free := s.galley.freeOf c
  let held := s.heldOf r c
  let mn := s.profMin k c
  let a := s.profAlpha k c
  let f := free - s.unusedMin c
  let t := if 6 ≤ a then f <<< (a - 6) else f >>> (6 - a)
  decide (0 < free) && (decide (held < mn) || decide (held - mn < t))

/-- Charge or uncharge a buffer of a case to a requester. -/
def State.chargeBuf (s : State) (r c : Nat) (add : Bool) : State :=
  s.modGalley fun g => { g with held := smSet 0 g.held (r * 4 + c) (if add then smGet 0 g.held (r * 4 + c) + 1 else smGet 0 g.held (r * 4 + c) - 1) }

/-- One request with its fallbacks (R324, R327): the buffer granted, or the case tried last. -/
def State.request (s : State) (r c : Nat) : Nat → (Option (Nat × Nat) × Nat) × State
  | 0 => ((none, c), s)
  | n + 1 =>
    if s.admits r c then
      match s.pop c with
      | (some p, s1) =>
        let s2 := (s1.chargeBuf r c true).bump (Obj.GAL_C_GRANTS c)
        let f := s2.galley.freeOf c
        let low := s2.get (Obj.GAL_C_FREE_MIN c)
        ((some (c, p), c), if f < low then s2.put (Obj.GAL_C_FREE_MIN c) f else s2)
      | (none, s1) => ((none, c), s1.bump (Obj.GAL_C_REFUSED c))
    else if c < 3 ∧ bitOf (s.get (Obj.GAL_QP_FALLBACK (s.profileOf r))) c then (s.bump (Obj.GAL_C_FALLBACKS c)).request r (c + 1) n
    else ((none, c), s.bump (Obj.GAL_C_REFUSED c))

/-- A requested buffer while a carving is applied or a slice is wiped is refused (R72, R315). -/
def State.ask (s : State) (r c : Nat) (prio : Option Nat := none) : (Option (Nat × Nat) × Nat) × State :=
  let x := if s.wiping then ((none, c), s.bump (Obj.GAL_C_REFUSED c)) else s.request r c 4
  match x.1.1 with
  | some b => (x.1, x.2.pmc 1200 1 1 { req := some r, tc := prio, addr := some b.2 })
  | none => (x.1, x.2.pmc 1200 2 1 { req := some r, tc := prio })

/-! ### Chains (R317, R328) -/

/-- Bytes a chain holds. -/
def chainCap (bufs : List (Nat × Nat)) : Nat := (bufs.map fun b => caseSize b.1).foldl (· + ·) 0

/-- The logical word that holds the `i`-th 32 bytes of a chain. -/
def chainWord (bufs : List (Nat × Nat)) (i : Nat) : Option Nat :=
  match bufs with
  | [] => none
  | b :: t => if i < 8 * caseStripes b.1 then some (8 * b.2 + i) else chainWord t (i - 8 * caseStripes b.1)

/-- Write bytes at a multiple of 32 of a chain, whole words, zero past the end (R468); `poison` marks every word. -/
def State.storeAt (s : State) (req : Option Nat) (bufs : List (Nat × Nat)) (poison : Bool) (i : Nat) (l : Bytes) : Nat → State
  | 0 => s
  | n + 1 =>
    if l.isEmpty then s
    else
      match chainWord bufs i with
      | some w => (s.galleyWrite w (beNat (padTo 32 l) + (if poison then 2 ^ 256 else 0)) req).storeAt req bufs poison (i + 1) (l.drop 32) n
      | none => s

/-- Store bytes at byte offset `off`, a multiple of 32. -/
def State.store32 (s : State) (req : Option Nat) (bufs : List (Nat × Nat)) (off : Nat) (l : Bytes) : State := s.storeAt req bufs false (off / 32) l (l.length / 32 + 1)

/-- Read `n` words of a chain from word `i`: the bytes, whether any was poisoned, and how many. -/
def State.readWords (s : State) (req : Option Nat) (bufs : List (Nat × Nat)) (i : Nat) : Nat → (Bytes × Nat) × State
  | 0 => (([], 0), s)
  | n + 1 =>
    match chainWord bufs i with
    | none => (([], 0), s)
    | some w =>
      let r := s.galleyRead w req
      let t := r.state.readWords req bufs (i + 1) n
      ((beBytes 32 r.data ++ t.1.1, t.1.2 + b2n r.poison), t.2)

/-- The first case of a frame by its IP length (R317). -/
def firstCase (iplen : Option (Nat × Nat)) : Nat :=
  match iplen with
  | none => 0
  | some (off, len) =>
    let r := off + len + 64
    if r ≤ 256 then 0 else if r ≤ 2048 then 1 else if r ≤ 4096 then 2 else 3

/-- The next case of a chain (R317). -/
def nextCase (iplen : Option (Nat × Nat)) (bufs : List (Nat × Nat)) : Nat :=
  let cap := chainCap bufs
  let grow := match bufs.getLast? with | some b => min 3 (b.1 + 1) | none => 0
  match iplen with
  | some (off, len) =>
    let r := off + len + 64
    if cap < r then (let d := r - cap; if d ≤ 256 then 0 else if d ≤ 2048 then 1 else if d ≤ 4096 then 2 else 3) else grow
  | none => grow

/-! ### Descriptors and references (R328–R331) -/

/-- Descriptor `d`. -/
def State.descr (s : State) (d : Nat) : Option Descr := smGet none s.galley.descs d

/-- Write a descriptor word by word (kind 2). -/
def State.setDescr (s : State) (d : Nat) (x : Option Descr) : State :=
  let s1 := ((s.memWritten 2 0 (3 * d)).memWritten 2 0 (3 * d + 1)).memWritten 2 0 (3 * d + 2)
  s1.modGalley fun g => { g with descs := smSet none g.descs d x }

/-- Change a descriptor; narrow updates of word 0 leave words 1 and 2 (R468). -/
def State.modDescr (s : State) (d : Nat) (f : Descr → Descr) : State :=
  match s.descr d with
  | some x => s.modGalley fun g => { g with descs := smSet none g.descs d (some (f x)) }
  | none => s

/-- The lowest free descriptor not in quarantine (R466). -/
def lowestFree (descs : List (Nat × Option Descr)) (quar : List Nat) (d : Nat) : Nat → Nat
  | 0 => d
  | n + 1 => if (smGet none descs d).isSome ∨ quar.contains d then lowestFree descs quar (d + 1) n else d

/-- A new descriptor. -/
def State.newDescr (s : State) (x : Descr) : Nat × State :=
  let d := lowestFree s.galley.descs s.mem.quarantine 0 (s.galley.descs.length + s.mem.quarantine.length + 1)
  (d, s.setDescr d (some x))

/-- Copy descriptors in use, and their limit (R329). -/
def State.copiesUsed (s : State) : Nat :=
  (s.galley.descs.filter fun e => match e.2 with | some (.copy ..) => true | _ => false).length
def State.copyLimit (s : State) : Nat := 2097152 - (s.galley.counts.foldl (· + ·) 0)

/-- Return a frame's buffers, uncharged from its requester, and free its descriptor (R331). A descriptor word that reads uncorrectable
loses the buffers it names (R466). -/
def State.freeFrame (s : State) (d : Nat) : State :=
  match s.descr d with
  | some (.frame _ src prio _ _ _ _ _ bufs _ _) =>
    let bad := fun (w : Nat) => match decodeKind 2 (s.flipsAt 2 0 (3 * d + w)) with | .bad _ => true | _ => false
    let one := fun (a : State) (e : Nat × (Nat × Nat)) =>
      let b := e.2
      let a1 := if bad (1 + e.1 / 2) then a.bump Obj.GAL_LOST else a.push b.1 b.2 (some src)
      let a2 := a1.chargeBuf src b.1 false
      if src < 1024 then a2.chargeBytes src prio false (caseSize b.1) else a2
    ((((upTo bufs.length).zip bufs).foldl one s).setDescr d none)
  | _ => s

/-- Release one reference of a frame descriptor (R331). -/
def State.releaseFrame (s : State) (d : Nat) : State :=
  match s.descr d with
  | some (.frame st src prio ll ct po stored refs bufs ip cle) =>
    if refs ≤ 1 then
      -- a frame still receiving keeps its descriptor until its tail is written
      if st = 0 then s.modDescr d fun _ => .frame st src prio ll ct po stored 0 bufs ip cle else s.freeFrame d
    else s.modDescr d fun _ => .frame st src prio ll ct po stored (refs - 1) bufs ip cle
  | _ => s

/-- Release a queue entry's reference: a frame's own, or a copy's (R331). -/
def State.releaseDesc (s : State) (d : Nat) : State :=
  match s.descr d with
  | some (.copy orig _ _) => (s.setDescr d none).releaseFrame orig
  | some (.frame ..) => s.releaseFrame d
  | none => s

/-- The frame descriptor behind an entry. -/
def State.origOf (s : State) (d : Nat) : Nat := match s.descr d with | some (.copy o _ _) => o | _ => d

/-- STORED of the frame behind an entry. -/
def State.storedOf (s : State) (d : Nat) : Nat := match s.descr (s.origOf d) with | some (.frame _ _ _ _ _ _ n _ _ _ _) => n | _ => 0

/-- STATE of the frame behind an entry: 0 receiving, 1 complete, 2 bad. -/
def State.dstateOf (s : State) (d : Nat) : Nat := match s.descr (s.origOf d) with | some (.frame st _ _ _ _ _ _ _ _ _ _) => st | _ => 1

/-- The requester that a frame's buffers are charged to. -/
def State.srcOf (s : State) (d : Nat) : Option Nat := match s.descr (s.origOf d) with | some (.frame _ src _ _ _ _ _ _ _ _ _) => some src | _ => none

/-- What the scheduler's events carry of an entry: ingress port, priority, queue (R375). -/
def State.attrOf (s : State) (d p q : Nat) : PmcAttr :=
  match s.descr (s.origOf d) with
  | some (.frame _ _ prio _ _ _ _ _ _ ip _) => { req := some ip, tc := some prio, addr := some (16 * p + q) }
  | _ => { addr := some (16 * p + q) }

/-- The chain of the frame behind an entry. -/
def State.chainOf (s : State) (d : Nat) : List (Nat × Nat) := match s.descr (s.origOf d) with | some (.frame _ _ _ _ _ _ _ _ b _ _) => b | _ => []

/-! ### Poison (R334) -/

/-- `n` words of a frame have been read poisoned: counted, and POISON set in the descriptor. -/
def State.poisonRead (s : State) (d n : Nat) : State :=
  if n = 0 then s
  else
    let s1 := (s.bumpBy Obj.GAL_POISON_READS n)
    match s1.descr d with
    | some (.frame st src prio ll ct po stored refs bufs ip cle) =>
      let s2 := if po then s1 else s1.bump Obj.GAL_POISON_FRAMES
      s2.modDescr d fun _ => .frame st src prio ll ct true stored refs bufs ip cle
    | _ => s1

/-- The words of a chain that a descriptor word names in error read as poisoned (R466): whether any of words 1 and 2 is uncorrectable. -/
def State.chainLost (s : State) (d : Nat) : Bool :=
  [1, 2].any fun w => match decodeKind 2 (s.flipsAt 2 0 (3 * d + w)) with | .bad _ => true | _ => false

/-! ### Bank remap (R335, R336) -/

/-- The spare banks of a group that are free, in all groups (R337). -/
def State.sparesFree (s : State) : Nat :=
  ((upTo 32).map fun k => (s.bankSpares (k / 16) (k % 16)).length).foldl (· + ·) 0

/-- The last-remap record (R337). -/
def lastRemap (reason die group lb from_ dest : Nat) : Nat :=
  beNat [u8 reason, u8 die, u8 group, u8 lb, u8 from_, u8 dest, 0, 0]

/-- Move a bank's stored errors to the physical bank that takes its place: corrected words are clean; uncorrectable ones are written
with POISON (R335). -/
def State.copyErrors (s : State) (b : BankRemap) : State :=
  let inst := b.die * 2 ^ 24 + b.group * 2 ^ 16 + b.fromBank
  let base := memKey 0 inst 0
  let mine := s.mem.flips.filter fun e => decide (base ≤ e.1) && decide (e.1 < base + 2 ^ 32)
  let n := s.galley.groups
  let logicalOf := fun (addr : Nat) =>
    let lb := (b.logical * (n / 2) + b.group) * 2 + b.die
    8 * ((addr / 8) * (64 * n) + lb) + addr % 8
  let one := fun (a : State) (e : Nat × Nat) =>
    let addr := e.1 - base
    let w := logicalOf addr
    match decodeBch e.2 with
    | .bad _ =>
      let v := (a.galley.word w ^^^ dataBits 0 e.2) % 2 ^ 256 + 2 ^ 256
      (a.memEvent 0 inst addr 3 2 4 0 0xFFFF 0xFFFF).modGalley fun g => { g with words := smSet (g.wiped w) g.words w v }
    | .fix p1 p2 syn => a.memEvent 0 inst addr (if p2.isSome then 2 else 1) 2 4 syn p1 (p2.getD 0xFFFF)
    | .clean => a
  let s1 := mine.foldl one s
  { s1 with mem := { s1.mem with flips := smClearRange s1.mem.flips base (base + 2 ^ 32),
                                 backs := s1.mem.backs.filter fun k => !(decide (base ≤ k.key) && decide (k.key < base + 2 ^ 32)) } }

/-- BANK_REMAP_SWITCH (R335 steps 3 and 4). -/
def execBankRemapSwitch (s : State) : Host.Outcome State Fault Refusal :=
  .next (match s.galley.copying with
    | none => s
    | some b =>
      let run := s.flt.repairs.find? fun r => decide (r.stack = 0) && r.begun
      let src := 152 + 16 * b.die + b.group
      let s1 := (s.copyErrors b).modGalley fun g =>
        { g with copying := none
                 remap := smSet 0 g.remap (b.die * 1024 + b.group * 64 + b.logical) (if b.toBank = b.logical then 0 else b.toBank + 1)
                 retired := setInsert g.retired ((b.die * 16 + b.group) * 66 + b.fromBank) }
      let s2 := (s1.put Obj.GAL_LAST_REMAP (lastRemap b.reason b.die b.group b.logical b.fromBank b.toBank)).bump Obj.GAL_REMAPS
      let s3 := s2.repairDone (run.bind (·.source)) src b.fromBank b.toBank 0
      if s3.isBusy Obj.GAL_REMAP ∧ b.reason = 2 then s3.runEnd Obj.GAL_REMAP Res.ok 0 else s3)

/-- A START on `GAL_REMAP` (R335, R336). -/
def startGalRemap (s : State) : Nat × State :=
  let v := s.get Obj.GAL_REMAP_BANK
  let die := v / 2 ^ 15
  let group := (v / 2 ^ 11) % 16
  let bank := v % 128
  if s.flt.repairs.any fun (r : Repair) => decide (r.stack = 0) then (Res.busy, s)
  else if 65 < bank then (Res.ok, s.runOnce Obj.GAL_REMAP Res.badValue 1)
  else if s.galley.groups / 2 ≤ group then (Res.ok, s.runOnce Obj.GAL_REMAP Res.badState 0)
  else if s.galley.retired.contains ((die * 16 + group) * 66 + bank) then (Res.ok, s.runOnce Obj.GAL_REMAP Res.badValue 2)
  else
    match s.bankLogical die group bank with
    | none =>
      -- a free spare is retired
      let s1 := s.modGalley fun g => { g with retired := setInsert g.retired ((die * 16 + group) * 66 + bank) }
      (Res.ok, ((s1.put Obj.GAL_LAST_REMAP (lastRemap 2 die group 0 bank 0xFF)).note (152 + 16 * die + group) Cls.commanded 0 0 0 bank).runOnce
        Obj.GAL_REMAP Res.ok 0)
    | some _ =>
      if s.bankSpares die group = [] then (Res.ok, s.runOnce Obj.GAL_REMAP Res.badValue 3)
      else
        let s1 := s.runBegin Obj.GAL_REMAP
        let r : Repair := { stack := 0, source := none, kind := .bank die group bank, reason := 2, dueAt := s.now, begun := false }
        (Res.ok, { s1 with flt := { s1.flt with repairs := s1.flt.repairs ++ [r] } }.dispatchForme)

/-! ### Carving (R315, R316) -/

/-- The staged carving: groups and the four counts. -/
def State.stagedCarve (s : State) : Nat × List Nat :=
  (s.get Obj.GAL_CARVE_GROUPS, [s.get Obj.GAL_CARVE_AGATE, s.get Obj.GAL_CARVE_BREVIER, s.get Obj.GAL_CARVE_PICA, s.get Obj.GAL_CARVE_CANON])

/-- The OUTCOME and DETAIL of the first check of R315 that fails. -/
def State.carveCheck (s : State) : Option (Nat × Nat) :=
  let c := s.stagedCarve
  let total := (c.2.foldl (· + ·) 0)
  let bytes := ((upTo 4).map fun i => listAt 0 c.2 i * caseSize i).foldl (· + ·) 0
  if s.galley.held ≠ [] ∨ s.galley.descs ≠ [] then some (Res.badState, 1)
  else if c.2.any fun n => decide (n % 64 ≠ 0) || decide (n < 64) then some (Res.badValue, 2)
  else if c.1 * 33554432 < bytes then some (Res.badValue, 3)
  else if 1835008 < total then some (Res.badValue, 4)
  else if (upTo 4).any fun i => decide (listAt 0 c.2 i < s.sumMin i) then some (Res.badValue, 5)
  else none

/-- The carving in force changes (R315): the galley is wiped, hanks threaded, groups outside it gated; remaps survive. -/
def State.carve (s : State) (n : Nat) (counts : List Nat) : State :=
  let old := s.galley
  let g : Galley := { groups := n, counts := counts, free := counts, remap := old.remap, retired := old.retired, copying := old.copying }
  let gated := (upTo 32).foldl (fun m i => if n / 2 ≤ i % 16 then m + 2 ^ i else m) 0
  let s1 := { s with galley := g, mem := { s.mem with flips := s.mem.flips.filter (fun (e : Nat × Nat) => decide (e.1 / 2 ^ 64 ≠ 0)),
                                                       backs := s.mem.backs.filter (fun (b : WriteBack) => decide (b.key / 2 ^ 64 ≠ 0)), quarantine := [] } }
  let l : List (Nat × Nat) := [(Obj.GAL_GROUPS_ACTIVE, n), (Obj.GAL_CAPACITY, 32 * n), (Obj.GAL_QUARANTINED, 0), (Obj.GAL_LOST, 0),
    (Obj.GAL_DESC_COPY_LIMIT, 2097152 - (counts.foldl (· + ·) 0)), (Obj.PWR_GATED_GROUPS, gated)]
  (upTo 4).foldl (fun a i => a.put (Obj.GAL_C_FREE_MIN i) (listAt 0 counts i)) (l.foldl (fun a e => a.put e.1 e.2) s1)

/-- A START on `GAL_CARVE_APPLY` (R315). -/
def startGalCarveApply (s : State) : Nat × State :=
  match s.carveCheck with
  | some (o, d) => (Res.ok, s.runOnce Obj.GAL_CARVE_APPLY o d)
  | none => (Res.ok, (s.carve s.stagedCarve.1 s.stagedCarve.2).runOnce Obj.GAL_CARVE_APPLY Res.ok 0)

/-! ### Self-test (R471, R472) -/

/-- The stored remaps applied in phase 6 (R312, R471). A remap's old bank, and a bank stored as retired, is out of service. -/
def State.applyStoredRemap (s : State) : State :=
  let stored := s.store.bankA.calib.bankMap
  let stored := if s.store.active = 0 then stored else s.store.bankB.calib.bankMap
  s.modGalley fun g => { g with
    remap := stored.filter fun (e : Nat × Nat) => decide (e.1 < 2048)
    retired := (stored.filter fun (e : Nat × Nat) => decide (2048 ≤ e.1)).map fun (e : Nat × Nat) => e.1 - 2048 }

/-- One bank that the self-test finds bad (R472): remapped without a copy, or a bad spare retired; none left calls for the safe state. -/
def State.selfTestBank (s : State) (b : Nat) : State :=
  let die := b / 66 / 16
  let group := b / 66 % 16
  let bank := b % 66
  let retire := fun (a : State) => a.modGalley fun g => { g with retired := setInsert g.retired b }
  match s.bankLogical die group bank with
  | none => (retire s).bump Obj.FLT_BIST_REMAPPED
  | some lb =>
    match s.bankSpares die group with
    | sp :: _ =>
      let s1 := (retire s).modGalley fun g => { g with remap := smSet 0 g.remap (die * 1024 + group * 64 + lb) (if sp = lb then 0 else sp + 1) }
      (s1.put Obj.GAL_LAST_REMAP (lastRemap 1 die group lb bank sp)).bump Obj.FLT_BIST_REMAPPED
    | [] => { s with boot := { s.boot with selfTestFail := some (152 + 16 * die + group) } }

/-- Descriptor code words, which a self-test report numbers behind the galley's (R458, R471). -/
abbrev descWords : Nat := 6291456

/-- The record of the first bad word (R462, R472). -/
def State.firstBad (s : State) (bad : List Nat) : Nat :=
  let limit := 2112 * 16384
  match bad with
  | [] => 0
  | w :: _ =>
    let b := w / 16384
    let kind := if w < limit then 0 else if w < limit + descWords then 2 else 1
    let inst := if w < limit then (b / 66 / 16) * 2 ^ 24 + (b / 66 % 16) * 2 ^ 16 + b % 66 else 0
    let addr := if w < limit then w % 16384 else if w < limit + descWords then w - limit else w - limit - descWords
    beNat ([u8 kind, 3, 4, 0] ++ beBytes 4 inst ++ beBytes 4 addr ++ beBytes 4 0 ++ beBytes 2 0xFFFF ++ beBytes 2 0xFFFF ++ zeros 4 ++ beBytes 8 s.uptime)

/-- GALLEY_SELF_TEST (R471, R472): a bank with a bad word, or with more than 16 weak words, is bad. A number past the last galley word names a
word of the descriptor memory, then of the valid map, which have no spares. Which array's checker has failed is a free value. -/
def execGalleySelfTest (weak bad : List Nat) (checker : Bool) (us : Nat) (s : State) : Host.Outcome State Fault Refusal :=
  .next (if s.boot.phase ≠ .selfTest then s
    else
      let limit := 2112 * 16384
      let bankBad := fun (b : Nat) => bad.any (fun w => decide (w / 16384 = b)) || decide (16 < (weak.filter fun w => decide (w / 16384 = b)).length)
      let touched := (bad ++ weak).foldl (fun l w => if w < limit then setInsert l (w / 16384) else l) []
      let s1 := (touched.filter bankBad).foldl (fun a b => a.selfTestBank b) s.applyStoredRemap
      let noSpare := (bad.find? fun w => decide (limit ≤ w)).map fun w => if w < limit + descWords then 240 else 241
      let fail := s1.boot.selfTestFail <|> noSpare <|> (if checker then none else some (s1.freeVal 16))
      let r := if fail.isSome then 3 else if 0 < s1.get Obj.FLT_BIST_REMAPPED then 2 else 1
      let s2 := (((s1.put Obj.FLT_BIST_RESULT r).put Obj.FLT_BIST_WEAK weak.length).put Obj.FLT_BIST_TIME us).put Obj.FLT_BIST_FIRST_FAIL (s1.firstBad bad)
      { (if checker then s2 else s2.useFree) with boot := { s2.boot with phase := .wipe, selfTestFail := fail } })

end Sys2Proof.Machine
end

