-- ==== Sys2Proof/Machine/Sched.lean ====
section
/-! DEFINITION. Queues, the scheduler's choice, shapers, policers, flush and the replication engine (12). -/

namespace Sys2Proof.Machine
open Sys2Proof

/-! ### Queues (R339–R342) -/

/-- Queue q of port p. -/
def State.queue (s : State) (p q : Nat) : Queue := smGet {} s.sched.queues (16 * p + q)

/-- Change a queue; canonical. -/
def State.modQueue (s : State) (p q : Nat) (f : Queue → Queue) : State :=
  { s with sched := { s.sched with queues := smSet {} s.sched.queues (16 * p + q) (f (s.queue p q)) } }

/-- Charged length of a stored length (R340). -/
def chargedLen (stored : Nat) : Nat := max 84 (stored - 8)

/-- Depth of a queue: STORED − 32 B over its entries (R341). -/
def State.depth (s : State) (p q : Nat) : Nat := ((s.queue p q).entries.map fun (e : QEntry) => s.storedOf e.desc - 32).foldl (· + ·) 0

/-- The charge of an entry: CL_e while its frame is still being received (R340). -/
def State.chargeOf (s : State) (e : QEntry) : Nat := if s.dstateOf e.desc = 0 then e.cl else chargedLen (s.storedOf e.desc)

/-- The 48-bit relation of R345. -/
def tagGe (a b : Nat) : Bool := decide ((a + 2 ^ 48 - b % 2 ^ 48) % 2 ^ 48 < 2 ^ 47)

/-- The later of two tags. -/
def tagMax (a b : Nat) : Nat := if tagGe a b then a else b

/-- D(L, w) (R345). -/
def tagInc (l w : Nat) : Nat := (l * 4096) / w

/-- V − C(q) (R345). -/
def State.vLessBurst (s : State) (p q : Nat) : Nat :=
  let c := (s.get (Obj.Q_BURST p q) * 4096) / s.get (Obj.Q_WEIGHT p q)
  (smGet 0 s.sched.vtime p + 2 ^ 48 - c % 2 ^ 48) % 2 ^ 48

/-- A queue is in the weighted-fair tier. -/
def State.wfq (s : State) (p q : Nat) : Bool := decide (s.get (Obj.Q_TIER p q) = 0)

/-- A weighted-fair queue becomes eligible again while not empty (R345, R346). -/
def State.retag (s : State) (p q : Nat) : State :=
  match (s.queue p q).entries with
  | e :: _ =>
    if s.wfq p q then
      s.modQueue p q fun x => { x with fHead := tagMax x.fHead ((s.vLessBurst p q + tagInc (s.chargeOf e) (s.get (Obj.Q_WEIGHT p q))) % 2 ^ 48) }
    else s
  | [] => s

/-- The bit map of the queues that pause timers hold (R226). -/
def State.pausedMap (s : State) (p : Nat) : Nat :=
  (s.port p).timers.foldl (fun m (e : Nat × Nat) => if e.1 = 8 then m ||| 0xFFFF else m ||| octField 16 (s.get (Obj.PT_PFC_QMAP p)) (2 * e.1) 2) 0

/-- The transmitter wakes when a frame becomes ready (R230). -/
def State.wake (s : State) (p : Nat) : State :=
  let x := s.port p
  if x.txLpi then (s.emit (.lpi p false)).modPort p fun y => { y with txLpi := false, waking := some s.now } else s

/-- Microseconds in low-power idle are counted at its end (R236). -/
def State.wakeTx (s : State) (p : Nat) : State :=
  let x := s.port p
  if x.txLpi then (s.bumpBy (Obj.CTR_LPI_TX_US p) ((s.now - x.txLpiSince) / 800)).wake p else s

/-- Place an entry in a queue (R342, R345). -/
def State.enqueueEntry (s : State) (p q desc cl : Nat) : State :=
  let seq := s.sched.enqSeq + 1
  let e : QEntry := { desc := desc, cl := cl, seq := seq, time := s.uptime }
  let old := s.queue p q
  let s1 := { s with sched := { s.sched with enqSeq := seq } }
  let head := tagMax old.fLast (s.vLessBurst p q)
  let s2 := s1.modQueue p q fun x =>
    { x with entries := x.entries ++ [e]
             fHead := if x.entries.isEmpty ∧ s.wfq p q then (head + tagInc (s1.chargeOf e) (s.get (Obj.Q_WEIGHT p q))) % 2 ^ 48 else x.fHead }
  (((s2.bump (Obj.Q_ENQ p q)).pmc (1192 + p / 128) 1 1 (s.attrOf desc p q)).modPort p fun x => { x with idleSince := s.now }).wakeTx p

/-- `Q_MAX_DEPTH` would be exceeded (R342). -/
def State.queueFull (s : State) (p q stored : Nat) : Bool :=
  let m := s.get (Obj.Q_MAX_DEPTH p q)
  decide (m ≠ 0) && decide (m < s.depth p q + (stored - 32))

/-- Enqueue a frame: discarded at a down port (R217) or at the depth limit (R342). -/
def State.enqueue (s : State) (p q desc cl : Nat) : State :=
  if ¬ s.portUp p then (s.bump (Obj.CTR_TX_FLUSHED p)).releaseDesc desc
  else if s.queueFull p q (s.storedOf desc) then ((s.bump (Obj.Q_TAIL_DROPS p q)).pmc (1192 + p / 128) 4 1 (s.attrOf desc p q)).releaseDesc desc
  else s.enqueueEntry p q desc cl

/-! ### Selection (R343–R345) -/

/-- The dequeue window (R343). -/
def State.window (s : State) (p : Nat) : Nat := 10304 + 15 * s.ptSpeed p

/-- In-flight bytes of a port. -/
def State.inflight (s : State) (p : Nat) : Nat := smGet 0 s.sched.inflight p

/-- Add to the in-flight bytes of a port. -/
def State.flyAdd (s : State) (p n : Nat) : State := { s with sched := { s.sched with inflight := smSet 0 s.sched.inflight p (s.inflight p + n) } }

/-- Take from the in-flight bytes of a port. -/
def State.flySub (s : State) (p n : Nat) : State := { s with sched := { s.sched with inflight := smSet 0 s.sched.inflight p (s.inflight p - n) } }

/-- Credit and shaping of a port's shaper. -/
def State.portCredit (s : State) (p : Nat) : Int := smGet 0 s.sched.portCredit p
def State.portShaped (s : State) (p : Nat) : Bool := decide (smGet 0 s.sched.portShaped p = 1)

/-- The port may dequeue (R343). -/
def State.portEligible (s : State) (p : Nat) : Bool :=
  s.portUp p && !(s.port p).flushing && (!s.portShaped p || decide (0 ≤ s.portCredit p)) && decide (s.inflight p < s.window p)

/-- The queue may dequeue, its port aside (R343). -/
def State.queueEligible (s : State) (p q : Nat) : Bool :=
  let x := s.queue p q
  (!x.entries.isEmpty) && !(bitOf (s.pausedMap p) q) && (!x.shaped || decide (0 ≤ x.credit))

/-- The queue of the strict tier that is served: the highest eligible (R344). -/
def State.strictPick (s : State) (p : Nat) : Option Nat :=
  (upTo 16).reverse.find? fun q => !s.wfq p q && s.queueEligible p q

/-- The queue of the weighted-fair tier that is served: the smallest F_head, the lowest number on a tie (R345). -/
def State.wfqPick (s : State) (p : Nat) : Option Nat :=
  ((upTo 16).filter fun q => s.wfq p q && s.queueEligible p q).foldl (fun b q =>
    match b with
    | none => some q
    | some x => if tagGe (s.queue p q).fHead (s.queue p x).fHead then some x else some q) none

/-- The queue that a port's dequeue serves. -/
def State.pick (s : State) (p : Nat) : Option Nat := (s.strictPick p).orElse fun _ => s.wfqPick p

/-- What a selection hands to egress: the entry, its queue, its charge, CE_PEND and the depth (R347, R354). -/
structure Picked where
  entry : QEntry
  queue : Nat
  cl : Nat
  ce : Bool
  depth : Nat

/-- The queue after its head entry has been dequeued: what remains, its credit and its tags (R345, R347, R349). -/
def State.afterHead (s : State) (p q : Nat) (e : QEntry) (rest : List QEntry) : Queue :=
  let x := s.queue p q
  let nextHead := match rest with
    | n :: _ => (x.fHead + tagInc (s.chargeOf n) (s.get (Obj.Q_WEIGHT p q))) % 2 ^ 48
    | [] => x.fHead
  { x with entries := rest
           credit := if x.shaped then x.credit - 8000 * s.chargeOf e else x.credit
           fLast := if s.wfq p q then x.fHead else x.fLast
           fHead := if s.wfq p q then nextHead else x.fHead }

/-- The virtual time of a port after a queue in the weighted set is served (R347). -/
def State.afterVtime (s : State) (p q : Nat) : Sched :=
  if s.wfq p q then { s.sched with vtime := smSet 0 s.sched.vtime p (tagMax (smGet 0 s.sched.vtime p) (s.queue p q).fHead) } else s.sched

/-- The port's credit after a dequeue (R349). -/
def State.portSpend (s : State) (p cl : Nat) : State :=
  if s.portShaped p then { s with sched := { s.sched with portCredit := smSet 0 s.sched.portCredit p (s.portCredit p - 8000 * cl) } } else s

/-- Whether the entry is marked CE_PEND: the depth, before the dequeue, is above the threshold (R354). -/
def State.ecnMarks (s : State) (p q : Nat) : Bool :=
  decide (s.get (Obj.Q_ECN_THRESH p q) ≠ 0) && decide (s.get (Obj.Q_ECN_THRESH p q) < s.depth p q)

/-- Dequeue the head entry of a queue (R345, R347, R349, R354). -/
def State.dequeueHead (s : State) (p q : Nat) (e : QEntry) (rest : List QEntry) : State :=
  let cl := s.chargeOf e
  let at_ := s.attrOf e.desc p q
  let s1 := ({ s with sched := s.afterVtime p q }).modQueue p q fun _ => s.afterHead p q e rest
  let s2 := (((s1.portSpend p cl).flyAdd p cl).bump (Obj.Q_DEQ p q)).pmc (1192 + p / 128) 2 1 at_
  let s3 := s2.pmc (1192 + p / 128) 3 cl at_
  if s.ecnMarks p q then (s3.bump (Obj.Q_ECN_MARKS p q)).pmc (1192 + p / 128) 5 1 at_ else s3

/-- Select and dequeue for a port (R345, R347, R349, R354). -/
def State.select (s : State) (p : Nat) : Option (Picked × State) :=
  if ¬ s.portEligible p then none
  else
    match s.pick p with
    | none => none
    | some q =>
      match (s.queue p q).entries with
      | [] => none
      | e :: rest =>
        some ({ entry := e, queue := q, cl := s.chargeOf e, ce := s.ecnMarks p q, depth := s.depth p q }, s.dequeueHead p q e rest)

/-! ### Shapers and policers (R348–R353) -/

/-- A shaper at a refill, before any charge of that clock (R349, R350). -/
def refillShaper (param : Nat) (shaped : Bool) (credit : Int) : Bool × Int :=
  let rate : Nat := param / 2 ^ 32
  let full : Nat := param % 2 ^ 32 * 8000
  if rate = 0 then (false, 0)
  else if shaped then (true, min (credit + (rate : Int)) (full : Int))
  else (true, (full : Int))

/-- A policer at a refill (R352, R353). -/
def Policer.refill (x : Policer) : Policer :=
  if x.pending then
    let fresh := decide (x.pbs = 0) && decide (0 < x.nPbs)
    { x with cir := x.nCir, pir := x.nPir, cbs := x.nCbs, pbs := x.nPbs, pending := false,
             tc := if fresh then x.nCbs * 8000 else min (x.tc + x.nCir) (x.nCbs * 8000)
             tp := if fresh then x.nPbs * 8000 else min (x.tp + x.nPir) (x.nPbs * 8000) }
  else { x with tc := min (x.tc + x.cir) (x.cbs * 8000), tp := min (x.tp + x.pir) (x.pbs * 8000) }

/-- The configuration entry of a policer as written, a 128-bit number CIR, PIR, CBS, PBS (R363). -/
def Policer.entry (x : Policer) : Nat :=
  if x.pending then ((x.nCir * 2 ^ 32 + x.nPir) * 2 ^ 32 + x.nCbs) * 2 ^ 32 + x.nPbs else ((x.cir * 2 ^ 32 + x.pir) * 2 ^ 32 + x.cbs) * 2 ^ 32 + x.pbs

/-- A policer entry within the checks of R351. -/
def policerOk (cir pir cbs pbs : Nat) : Bool :=
  decide (cir ≤ 1600000000) && decide (pir ≤ 1600000000) && decide (cbs ≤ 16777216) && decide (pbs ≤ 16777216) && (decide (pbs = 0) || decide (cir ≤ pir))

/-- Write a policer's configuration: used from the next refill (R353). -/
def State.writePolicer (s : State) (k cir pir cbs pbs : Nat) : State :=
  let x := smGet {} s.sched.policers k
  { s with sched := { s.sched with policers := smSet {} s.sched.policers k { x with pending := true, nCir := cir, nPir := pir, nCbs := cbs, nPbs := pbs } } }

/-- The counter of a policer that matches a result is raised (R352). -/
def Policer.counted (x : Policer) (c : Nat) : Policer :=
  if c = 0 then { x with green := (x.green + 1) % 2 ^ 64 }
  else if c = 1 then { x with yellow := (x.yellow + 1) % 2 ^ 64 }
  else if c = 2 then { x with red := (x.red + 1) % 2 ^ 64 }
  else x

/-- The colour of a packet of B millibits (R352): 0 green, 1 yellow, 2 red, with the policer after it. -/
def Policer.colour (x : Policer) (aware : Bool) (inp b : Nat) : Nat × Policer :=
  if x.pbs = 0 then ((if aware then inp else 0), x.counted (if aware then inp else 0))
  else if aware ∧ inp = 2 then (2, x.counted 2)
  else if x.tp < b then (2, x.counted 2)
  else if (aware ∧ inp = 1) ∨ x.tc < b then (1, { x with tp := x.tp - b }.counted 1)
  else (0, { x with tp := x.tp - b, tc := x.tc - b }.counted 0)

/-- The clock of the chase domain since the FRC started (R534). -/
def State.clock16 (s : State) : Nat := 2 * (s.now - s.tim.start)

/-- The queues that a refill visits: those listed and those whose selection is not profile 0, as 16p + q. -/
def State.shapedQueues (s : State) : List Nat :=
  let sel := (s.dict.filter fun (e : Nat × Nat) => decide (0x180000 ≤ e.1 ∧ e.1 < 0x1C0000 ∧ 0x10 ≤ e.1 % 256 ∧ (e.1 % 256 - 0x10) % 13 = 3)).map
    fun (e : Nat × Nat) => 16 * ((e.1 - 0x180000) / 256) + (e.1 % 256 - 0x10) / 13
  ((s.sched.queues.filter fun (e : Nat × Queue) => e.2.shaped || decide (e.2.shaper ≠ 0)).map Prod.fst).foldl setInsert (sel.foldl setInsert [])

/-- The ports whose shaper a refill visits. -/
def State.shapedPorts (s : State) : List Nat :=
  let sel := (s.dict.filter fun (e : Nat × Nat) => decide (0x180000 ≤ e.1 ∧ e.1 < 0x1C0000 ∧ e.1 % 256 = 1)).map fun (e : Nat × Nat) => (e.1 - 0x180000) / 256
  (s.sched.portShaped.map Prod.fst).foldl setInsert (sel.foldl setInsert [])

/-- The state word of a shaper read and written back at a refill: a word that reads uncorrectable restarts its credit at zero (R467). `queue`
16 is the port's own. -/
def State.shaperWord (s : State) (p queue : Nat) (credit : Int) : Int × State :=
  let inst := (p / 128) * 2 ^ 24
  let a := if queue < 16 then 0x20000 + 16 * (p % 128) + queue else 0x28000 + p % 128
  let r := s.readWord 9 inst a 1
  (if r.diff.isSome then credit else 0, r.state.memWritten 9 inst a)

/-- One refill of every shaper and policer (R349, R350, R352). -/
def State.refillAll (s : State) : State :=
  let prof := ((upTo 128).filterMap fun k => if s.get (Obj.SCH_SP_PARAM k) = dictDefault (Obj.SCH_SP_PARAM k) then none else some (k, s.get (Obj.SCH_SP_PARAM k)))
  let param := fun (k : Nat) => smGet 0 prof k
  let s1 := (upTo 128).foldl (fun a k => a.put (Obj.SCH_SP_PENDING k) 0) { s with sched := { s.sched with profiles := prof, lastRefill := s.sched.lastRefill + 1 } }
  let s2 := s1.shapedQueues.foldl (fun a k =>
    let p := k / 16
    let q := k % 16
    let x := a.queue p q
    let sel := a.get (Obj.Q_SHAPER p q)
    let w := a.shaperWord p q x.credit
    let r := refillShaper (param sel) x.shaped w.1
    let a1 := w.2.modQueue p q fun y => { y with shaper := sel, shaped := r.1, credit := r.2 }
    if x.shaped ∧ x.credit < 0 ∧ 0 ≤ r.2 then a1.retag p q else a1) s1
  let s3 := s2.shapedPorts.foldl (fun a p =>
    let sel := a.get (Obj.Q_PORT_SHAPER p)
    let w := a.shaperWord p 16 (a.portCredit p)
    let r := refillShaper (param sel) (a.portShaped p) w.1
    { w.2 with sched := { w.2.sched with portShaper := smSet 0 w.2.sched.portShaper p sel, portShaped := smSet 0 w.2.sched.portShaped p (b2n r.1),
                                         portCredit := smSet 0 w.2.sched.portCredit p r.2 } }) s2
  { s3 with sched := { s3.sched with policers := (s3.sched.policers.map fun (e : Nat × Policer) => (e.1, e.2.refill)).filter fun e => decide (e.2 ≠ {}) } }

/-- SHAPER_REFILL (R349): in each chase clock with t mod 1,600 = 0. -/
def execShaperRefill (s : State) : Host.Outcome State Fault Refusal :=
  .next (if s.tim.running ∧ (s.sched.lastRefill + 1) * 1600 ≤ s.clock16 then s.refillAll else s)

/-- A queue's credit after a correction; a queue that it makes eligible again takes its tag (R345, R349). -/
def State.creditBack (s : State) (p q : Nat) (d : Int) : State :=
  let a := s.modQueue p q fun x => { x with credit := x.credit + d }
  if (s.queue p q).credit < 0 ∧ 0 ≤ (s.queue p q).credit + d then a.retag p q else a

/-- The correction of a cut-through frame's charge at its tail (R349). -/
def State.correctCharge (s : State) (p q cle cl : Nat) (shapedQ shapedP : Bool) : State :=
  let d : Int := ((cle : Int) - cl) * 8000
  let s1 := if shapedQ ∧ (s.queue p q).shaped then s.creditBack p q d else s
  if shapedP ∧ s1.portShaped p then { s1 with sched := { s1.sched with portCredit := smSet 0 s1.sched.portCredit p (s1.portCredit p + d) } } else s1

/-! ### Flush (R357, R358) -/

/-- Every entry of a queue removed and counted (R357). -/
def State.flushQueue (s : State) (p q : Nat) : State :=
  let es := (s.queue p q).entries
  let s1 := s.modQueue p q fun x => { x with entries := [], fHead := 0, fLast := 0 }
  es.foldl (fun a (e : QEntry) => (a.bump (Obj.CTR_TX_FLUSHED p)).releaseDesc e.desc) s1

/-- The flush of a port's queues, 15 first (R357). -/
def State.flushPort (s : State) (p : Nat) : State :=
  let s1 := (upTo 16).reverse.foldl (fun a q => a.flushQueue p q) s
  { s1 with sched := { s1.sched with vtime := smErase s1.sched.vtime p } }

/-- The link behind the head of a queue is lost (R467): the head is flushed while the port stays up; the entries that cannot be reached, and the
buffers of their frames, are lost. -/
def State.linkLost (s : State) (p q : Nat) : State :=
  let gone := (s.queue p q).entries.drop 1
  let s1 := (s.modQueue p q fun x => { x with entries := x.entries.take 1 }).flushQueue p q
  let frames := gone.foldl (fun (l : List Nat) (e : QEntry) => setInsert l (s.origOf e.desc)) []
  (s1.bumpBy (Obj.FLT_MI_DISCARDS 9) gone.length).bumpBy Obj.GAL_LOST ((frames.map fun d => (s.chainOf d).length).foldl (· + ·) 0)

/-! ### Multicast (R359, R360) -/

/-- A multicast frame joins the replication engine's queue (R359). -/
def State.mcPut (s : State) (desc group queue inPort : Nat) : State :=
  if 4096 ≤ s.sched.mcQueue.length then (s.bump Obj.SCH_MC_ENGINE_DROPS).releaseFrame desc
  else { s with sched := { s.sched with mcQueue := s.sched.mcQueue ++ [(desc, group, queue, inPort)] } }

/-- One member port (R360): its copy, or why there is none; `made` counts copies. -/
def State.mcMember (s : State) (desc queue p : Nat) : Bool × State :=
  if ¬ s.portUp p then (false, (s.bump (Obj.Q_MC_DOWN p)).bump (Obj.CTR_TX_FLUSHED p))
  else if s.copyLimit ≤ s.copiesUsed then (false, (s.bump (Obj.Q_MC_NODESC p)).bump Obj.GAL_DESC_COPY_REFUSED)
  else if s.queueFull p queue (s.storedOf desc) then (false, s.bump (Obj.Q_MC_FULL p))
  else
    let c := s.newDescr (.copy desc p queue)
    let s1 := c.2.modDescr desc fun x => match x with
      | .frame st src prio ll ct po stored refs bufs ip cle => .frame st src prio ll ct po stored (refs + 1) bufs ip cle
      | y => y
    (true, ((s1.bump (Obj.Q_MC_COPIES p)).bump Obj.SCH_MC_COPIES).enqueueEntry p queue c.1 (chargedLen (s.storedOf desc)))

/-- MULTICAST_REPLICATION (R360): the oldest frame of the engine, to every member; an uncorrectable group entry makes no copy (R467). -/
def execMulticastReplication (s : State) : Host.Outcome State Fault Refusal :=
  .next (match s.sched.mcQueue with
    | [] => s
    | (desc, group, queue, inPort) :: rest =>
      if s.flt.safe then s
      else
        let s1 := { s with sched := { s.sched with mcQueue := rest } }.bump Obj.SCH_MC_FRAMES
        let r := s1.readWord 9 0 (0x30000 + group) 1
        let g := smGet 0 s1.sched.groups group
        let excl := bitOf (g / 2 ^ (8 * 131)) 0
        let members := if r.diff.isNone then [] else (upTo 1024).filter fun p => octBit 128 (g % 2 ^ 1024) p && !(excl && decide (p = inPort))
        let out := members.foldl (fun (a : Nat × State) p => let m := a.2.mcMember desc queue p; (a.1 + b2n m.1, m.2)) (0, r.state)
        (if out.1 = 0 then out.2.bump Obj.SCH_MC_NONE else out.2).releaseFrame desc)

end Sys2Proof.Machine
end

