-- ==== Sys2Proof/Machine/Tables.lean ====
section
/-! DEFINITION. The forwarding tables, the LPM memory and its route operations, learning, the learn ring, ageing and restoration (10). -/

namespace Sys2Proof.Machine
open Sys2Proof

/-- Change the tables. -/
def State.modTables (s : State) (f : Tables → Tables) : State := { s with tables := f s.tables }

/-- The chase of a pipeline (R24). -/
def chaseOf (pipe : Nat) : Nat := pipe / 4

/-! ### Direct tables (R276–R279) -/

/-- A 128-bit entry of two code words read through its code: none when either is uncorrectable. -/
def State.readPair (s : State) (kind inst addr source v : Nat) : Option Nat × State :=
  let hi := s.readWord kind inst addr source
  let lo := hi.state.readWord kind inst (addr + 1) source
  match hi.diff, lo.diff with
  | some a, some b => (some (v ^^^ (a * 2 ^ 64 + b)), lo.state)
  | _, _ => (none, lo.state)

/-- A label entry of a chase (R277); code words 2e and 2e + 1. -/
def State.labelRead (s : State) (c e source : Nat) : Option Nat × State := s.readPair 3 (c * 2 ^ 24) (2 * e) source (smGet 0 s.tables.label e)

/-- A next-hop entry of a chase (R278). -/
def State.nhRead (s : State) (c e source : Nat) : Option Nat × State := s.readPair 4 (c * 2 ^ 24) (2 * e) source (smGet 0 s.tables.nextHop e)

/-- Both code words of an entry have been written in every chase. -/
def State.pairWritten (s : State) (kind e : Nat) : State :=
  (upTo 8).foldl (fun a c => (a.memWritten kind (c * 2 ^ 24) (2 * e)).memWritten kind (c * 2 ^ 24) (2 * e + 1)) s

/-- A label entry written to all eight chases, reserved bits zero (R275, R279). -/
def State.writeLabel (s : State) (e v : Nat) : State :=
  (s.pairWritten 3 e).modTables fun t => { t with label := smSet 0 t.label e (v - (field v 78 72 <<< 72)) }

/-- A next-hop entry written to all eight chases, reserved bits zero. -/
def State.writeNh (s : State) (e v : Nat) : State :=
  (s.pairWritten 4 e).modTables fun t => { t with nextHop := smSet 0 t.nextHop e (v - (field v 126 124 <<< 124) - (field v 102 96 <<< 96)) }

/-! ### Routes (R280, R281) -/

/-- A route. -/
structure Route where
  v6 : Bool
  vrf : Nat
  plen : Nat
  addr : Nat
  result : Nat
deriving DecidableEq, Repr

/-- Address width of a family. -/
def famWidth (v6 : Bool) : Nat := if v6 then 128 else 32

/-- Entries of a block by family. -/
def blockCap (v6 : Bool) : Nat := if v6 then 1024 else 2048

/-- The slots of a route as slot × 2³² + result word: one for IPv4, even and odd for IPv6. -/
def Route.slots (r : Route) : List Nat :=
  if r.v6 then
    [(2 ^ 79 + 2 ^ 77 + r.plen * 2 ^ 69 + r.vrf * 2 ^ 53 + r.addr / 2 ^ 75) * 2 ^ 32 + r.result,
     (2 ^ 79 + 2 * 2 ^ 77 + r.addr % 2 ^ 75) * 2 ^ 32]
  else [(2 ^ 79 + r.plen * 2 ^ 69 + r.vrf * 2 ^ 32 + r.addr) * 2 ^ 32 + r.result]

/-- The route of an IPv4 slot, if valid. -/
def route4 (w : Nat) : Option Route :=
  let x := w / 2 ^ 32
  if bitOf x 79 ∧ field x 78 77 = 0 then some ⟨false, field x 47 32, field x 76 69, field x 31 0, w % 2 ^ 32⟩ else none

/-- The route of an IPv6 pair, if both slots are valid. -/
def route6 (e o : Nat) : Option Route :=
  let x := e / 2 ^ 32
  let y := o / 2 ^ 32
  if bitOf x 79 ∧ field x 78 77 = 1 ∧ bitOf y 79 ∧ field y 78 77 = 2 then
    some ⟨true, field x 68 53, field x 76 69, field x 52 0 * 2 ^ 75 + field y 74 0, e % 2 ^ 32⟩
  else none

/-- The route covers an address. -/
def Route.covers (r : Route) (a : Nat) : Bool :=
  let sh := famWidth r.v6 - r.plen
  decide (a / 2 ^ sh = r.addr / 2 ^ sh)

/-- The routes are equal in FAM, VRF, PLEN and ADDR. -/
def Route.same (r q : Route) : Bool := decide (r.v6 = q.v6) && decide (r.vrf = q.vrf) && decide (r.plen = q.plen) && decide (r.addr = q.addr)

/-- The directory indexes that a route covers (R286). -/
def Route.indexes (r : Route) : List Nat :=
  let first := r.addr / 2 ^ (famWidth r.v6 - 12)
  if 12 ≤ r.plen then [first] else (upTo (2 ^ (12 - r.plen))).map (first + ·)

/-- A slot of the shared content. -/
def Tables.slot (t : Tables) (b i : Nat) : Nat := smGet 0 t.slots (b * 2048 + i)

/-- The routes of a block in position order; valid entries fill the first positions (R286). -/
def Tables.blockRoutes (t : Tables) (v6 : Bool) (b i : Nat) : Nat → List Route
  | 0 => []
  | n + 1 =>
    match (if v6 then route6 (t.slot b (2 * i)) (t.slot b (2 * i + 1)) else route4 (t.slot b i)) with
    | some r => r :: t.blockRoutes v6 b (i + 1) n
    | none => []

/-- The routes of a block of a family. -/
def Tables.routes (t : Tables) (v6 : Bool) (b : Nat) : List Route := t.blockRoutes v6 b 0 (blockCap v6)

/-- A block's slots rewritten to hold a list of routes. -/
def Tables.setRoutes (t : Tables) (b : Nat) (l : List Route) : Tables :=
  let keep := smClearRange t.slots (b * 2048) (b * 2048 + 2048)
  let words := l.flatMap Route.slots
  { t with slots := ((upTo words.length).zip words).foldl (fun m (e : Nat × Nat) => smSet 0 m (b * 2048 + e.1) e.2) keep }

/-- The directory of a family. -/
def Tables.dir (t : Tables) (v6 : Bool) : List (Nat × Nat) := if v6 then t.dir6 else t.dir4

/-- Write a directory entry: VALID and BLOCK, or 0. -/
def Tables.setDir (t : Tables) (v6 : Bool) (i v : Nat) : Tables :=
  if v6 then { t with dir6 := smSet 0 t.dir6 i v } else { t with dir4 := smSet 0 t.dir4 i v }

/-- The block an index points at. -/
def Tables.blockOf (t : Tables) (v6 : Bool) (i : Nat) : Option Nat :=
  let e := smGet 0 (t.dir v6) i
  if bitOf e 7 then some (e % 64) else none

/-- The valid indexes of a block, rising. -/
def Tables.indexesOf (t : Tables) (v6 : Bool) (b : Nat) : List Nat :=
  ((t.dir v6).filter fun (e : Nat × Nat) => decide (e.2 = 128 + b)).map Prod.fst

/-- The blocks of a family in use, rising. -/
def Tables.blocks (t : Tables) (v6 : Bool) : List Nat := (t.dir v6).foldl (fun l (e : Nat × Nat) => setInsert l (e.2 % 64)) []

/-- The lowest free logical block. -/
def Tables.freeBlock (t : Tables) : Option Nat :=
  (upTo 64).find? fun b => !((t.blocks false).contains b) && !((t.blocks true).contains b)

/-! ### Insertion and deletion (R287, R288) -/

/-- The groups of the shorter routes after the hole moves up through them: each group's first entry goes to its end (R287). -/
def rotateUp (l : List Route) : Nat → List Route
  | 0 => l
  | n + 1 =>
    match l with
    | [] => []
    | r :: t =>
      let g := t.takeWhile fun x => decide (x.plen = r.plen)
      g ++ [r] ++ rotateUp (t.drop g.length) n

/-- The groups of the shorter routes after the hole moves down through them: each group's last entry goes to its front (R287). -/
def rotateDown (l : List Route) : Nat → List Route
  | 0 => l
  | n + 1 =>
    match l with
    | [] => []
    | r :: t =>
      let g := r :: t.takeWhile fun x => decide (x.plen = r.plen)
      let rest := rotateDown (l.drop g.length) n
      match g.getLast? with
      | some z => z :: g.dropLast ++ rest
      | none => rest

/-- A route placed in a list that has room (R287). -/
def placeRoute (l : List Route) (r : Route) : List Route :=
  let long := l.takeWhile fun x => decide (r.plen ≤ x.plen)
  long ++ [r] ++ rotateUp (l.drop long.length) 129

/-- A route removed from a list (R287): the last of its length takes its place, and the shorter groups follow. -/
def removeRoute (l : List Route) (r : Route) : List Route :=
  match l.findIdx? (·.same r) with
  | none => l
  | some h =>
    let before := l.take h
    let rest := l.drop (h + 1)
    let g := rest.takeWhile fun x => decide (x.plen = r.plen)
    let shorter := rotateDown (rest.drop g.length) 129
    match g.getLast? with
    | some z => before ++ z :: g.dropLast ++ shorter
    | none => before ++ shorter

/-- The result word of an equal route replaced. -/
def replaceRoute (l : List Route) (r : Route) : List Route := l.map fun x => if x.same r then r else x

/-- A split of block `b` (R288): the upper half of its indexes move to the lowest free block, with the routes that cover one of them. -/
def Tables.split (t : Tables) (v6 : Bool) (b : Nat) : Except Nat Tables :=
  let ix := t.indexesOf v6 b
  if ix.length < 2 then .error 6
  else
    match t.freeBlock with
    | none => .error 7
    | some n =>
      let low := ix.take (ix.length - ix.length / 2)
      let high := ix.drop (ix.length - ix.length / 2)
      let l := t.routes v6 b
      let within := fun (r : Route) (s : List Nat) => s.any fun i => r.indexes.contains i
      let t1 := t.setRoutes n ((l.filter fun r => within r high).foldl placeRoute [])
      let t2 := high.foldl (fun a i => a.setDir v6 i (128 + n)) t1
      .ok (t2.setRoutes b ((l.filter fun r => !(within r low)).foldl removeRoute l))

/-- Insert a route in a block, splitting it while it is full (R287). `n` bounds the splits: each lowers the block's indexes. -/
def Tables.insertIn (t : Tables) (b : Nat) (r : Route) : Nat → Except Nat Tables
  | 0 => .error 6
  | n + 1 =>
    let l := t.routes r.v6 b
    if l.any (·.same r) then .ok (t.setRoutes b (replaceRoute l r))
    else if l.length < blockCap r.v6 then .ok (t.setRoutes b (placeRoute l r))
    else
      match t.split r.v6 b with
      | .error e => .error e
      | .ok t1 => t1.insertIn b r n

/-- The block that an invalid index is attached to (R288): a neighbour's, the lower index first, else the least-filled of the family, else a free one. -/
def Tables.attachBlock (t : Tables) (v6 : Bool) (i : Nat) : Option Nat :=
  let below := if i = 0 then none else t.blockOf v6 (i - 1)
  let above := t.blockOf v6 (i + 1)
  let least := (t.blocks v6).foldl (fun (b : Option Nat) x =>
    match b with
    | none => some x
    | some y => if (t.routes v6 x).length < (t.routes v6 y).length then some x else some y) none
  below.orElse fun _ => above.orElse fun _ => least.orElse fun _ => t.freeBlock

/-- Every route of PLEN below 12 of a family that covers an index, each once, in block and position order. -/
def Tables.shortOver (t : Tables) (v6 : Bool) (i : Nat) : List Route :=
  (t.blocks v6).foldl (fun l b =>
    ((t.routes v6 b).filter fun r => decide (r.plen < 12) && r.indexes.contains i).foldl (fun m r => if m.any (·.same r) then m else m ++ [r]) l) []

/-- Make the index valid if it is not, and hold the route in its block. -/
def Tables.cover (t : Tables) (r : Route) (i : Nat) : Except Nat Tables :=
  match t.blockOf r.v6 i with
  | some b => t.insertIn b r 4097
  | none =>
    match t.attachBlock r.v6 i with
    | none => .error 7
    | some b =>
      let go := fun (a : Except Nat Tables) (x : Route) => a.bind fun (u : Tables) => u.insertIn b x 4097
      ((((t.shortOver r.v6 i).filter fun x => !(x.same r)) ++ [r]).foldl go (.ok t)).bind fun (u : Tables) => .ok (u.setDir r.v6 i (128 + b))

/-- A route is installed. -/
def Tables.holds (t : Tables) (r : Route) : Bool :=
  match r.indexes with
  | i :: _ => match t.blockOf r.v6 i with
    | some b => (t.routes r.v6 b).any (·.same r)
    | none => false
  | [] => false

/-- Add a route, or replace the result of an equal one, in every block that must hold it (R286). -/
def Tables.addRoute (t : Tables) (r : Route) : Except Nat Tables :=
  r.indexes.foldl (fun (a : Except Nat Tables) i => a.bind fun (u : Tables) => u.cover r i) (.ok t)

/-- Delete a route from every block that holds it; an index that no route covers becomes invalid, and a block to which none points is
wiped (R286, R288). -/
def Tables.deleteRoute (t : Tables) (r : Route) : Tables :=
  let held := (t.blocks r.v6).filter fun b => (t.routes r.v6 b).any (·.same r)
  let t1 := held.foldl (fun a b => a.setRoutes b (removeRoute (a.routes r.v6 b) r)) t
  let t2 := r.indexes.foldl (fun a i =>
    match a.blockOf r.v6 i with
    | some b => if (a.routes r.v6 b).any (fun x => x.indexes.contains i) then a else a.setDir r.v6 i 0
    | none => a) t1
  held.foldl (fun a b => if (a.indexesOf r.v6 b).isEmpty then a.setRoutes b [] else a) t2

/-! ### LPM lookup (R282, R283, R303) -/

/-- The physical block of a logical one in a chase (R282, R305). -/
def State.physBlock (s : State) (c l : Nat) : Nat := if s.get (Obj.CHS_LPM_SPARE c) = l then 64 else l

/-- The slot of a chase as stored: the content with its flipped bits (kind 5). -/
def State.slotStored (s : State) (c l i : Nat) : Nat := s.tables.slot l i ^^^ dataBits 5 (s.flipsAt 5 (c * 2 ^ 24) (s.physBlock c l * 2048 + i))

/-- The first entry of a block that matches, by position (R283); `ps` are the positions to try. -/
def State.firstMatch (s : State) (c : Nat) (v6 : Bool) (l vrf addr : Nat) : List Nat → Option (Nat × Route)
  | [] => none
  | i :: t =>
    match (if v6 then route6 (s.slotStored c l i) (s.slotStored c l (i + 1)) else route4 (s.slotStored c l i)) with
    | some r => if r.vrf = vrf ∧ r.covers addr then some (i, r) else s.firstMatch c v6 l vrf addr t
    | none => s.firstMatch c v6 l vrf addr t

/-- The positions of a block that can hold something: those listed and those with flipped bits; even ones for IPv6. -/
def State.lpmPositions (s : State) (c : Nat) (v6 : Bool) (l : Nat) : List Nat :=
  let listed := (s.tables.slots.filter fun (e : Nat × Nat) => decide (e.1 / 2048 = l)).map fun (e : Nat × Nat) => e.1 % 2048
  let base := memKey 5 (c * 2 ^ 24) (s.physBlock c l * 2048)
  let bad := (s.mem.flips.filter fun (e : Nat × Nat) => decide (base ≤ e.1 ∧ e.1 < base + 2048)).map fun (e : Nat × Nat) => e.1 - base
  let all := bad.foldl setInsert listed
  if v6 then (all.map fun i => i - i % 2).foldl setInsert [] else all

/-- An LPM lookup: the match result of R281, or none. A lookup whose directory or remap entry is uncorrectable, or whose first match fails its
parity, misses; the slot is rewritten from the shadow by LPM_SHADOW_REWRITE. -/
def State.lpm (s : State) (c : Nat) (v6 : Bool) (vrf addr : Nat) : Option Nat × State :=
  let i := addr / 2 ^ (famWidth v6 - 12)
  let d := s.readWord 6 (c * 2 ^ 24) (0x80000 + (if v6 then 512 else 0) + i / 8) 1
  let s1 := d.state
  match d.diff with
  | none => (none, s1)
  | some x =>
    let e := smGet 0 (s1.tables.dir v6) i ^^^ ((x >>> (8 * (7 - i % 8))) % 256)
    if ¬ bitOf e 7 then (none, s1)
    else
      let l := e % 64
      let m := s1.readWord 6 (c * 2 ^ 24) (0x80400 + l / 8) 1
      let s2 := m.state
      if m.diff.isNone then (none, s2)
      else
        match s2.firstMatch c v6 l vrf addr (s2.lpmPositions c v6 l) with
        | none => (none, s2)
        | some (p, r) =>
          let ph := s2.physBlock c l * 2048 + p
          let a := s2.readWord 5 (c * 2 ^ 24) ph 1
          let b := if v6 then a.state.readWord 5 (c * 2 ^ 24) (ph + 1) 1 else ⟨some 0, a.state⟩
          if a.diff.isNone ∨ b.diff.isNone then (none, b.state)
          else (some (r.plen * 2 ^ 56 + (l * 2048 + p) * 2 ^ 32 + r.result), b.state)

/-! ### Route operations (R289, R290) -/

/-- Record `k` of the route window. -/
def State.routeRecord (s : State) (k : Nat) : Bytes := (upTo 32).map fun i => u8 (smGet 0 s.tables.ops (32 * k + i))

/-- Check a record (R290): its operation and route, or OUTCOME and DETAIL. -/
def parseRoute (b : Bytes) : Except (Nat × Nat) (Nat × Route) :=
  let op := u b 0 1
  let fam := u b 1 1
  let plen := u b 2 1
  let w := if fam = 1 then 128 else 32
  -- the bytes above an IPv4 address are reserved (R11)
  let addr := u b 8 16 % 2 ^ w
  if ¬ (op = 1 ∨ op = 2) ∨ 1 < fam then .error (Res.badValue, 2)
  else if w < plen then .error (Res.badValue, 3)
  else if addr % 2 ^ (w - plen) ≠ 0 then .error (Res.badValue, 4)
  else .ok (op, ⟨decide (fam = 1), u b 4 2, plen, addr, u b 24 4⟩)

/-- The slots that a change of tables rewrote hold no stored error in any chase. -/
def State.slotsWritten (s : State) (old : List (Nat × Nat)) : State :=
  if s.mem.flips = [] then s
  else
    let changed := fun (k : Nat) => decide (smGet 0 old k ≠ smGet 0 s.tables.slots k)
    let keep := s.mem.flips.filter fun (e : Nat × Nat) =>
      let kind := e.1 / 2 ^ 64
      let c := (e.1 / 2 ^ 56) % 256
      let a := e.1 % 2 ^ 32
      !(decide (kind = 5) && (upTo 64).any fun l => decide (s.physBlock c l = a / 2048) && changed (l * 2048 + a % 2048)) &&
      !(decide (kind = 6) && decide (a < 0x80000) && changed a)
    { s with mem := { s.mem with flips := keep } }

/-- Apply one route operation: the new tables and the change of the installed count, or OUTCOME and DETAIL (R290). -/
def Tables.applyRoute (t : Tables) (op : Nat) (r : Route) : Except (Nat × Nat) (Tables × Int) :=
  if op = 2 then (if t.holds r then .ok (t.deleteRoute r, -1) else .error (Res.badValue, 5))
  else
    match t.addRoute r with
    | .ok t1 => .ok (t1, if t.holds r then 0 else 1)
    | .error d => .error (Res.badLength, d)

/-- A START on `TBL_LPM_APPLY` (R290). -/
def startTblLpmApply (s : State) : Nat × State :=
  match s.tables.opsTotal with
  | none => (Res.ok, (s.put Obj.TBL_LPM_DONE 0).runOnce Obj.TBL_LPM_APPLY Res.badState 1)
  | some n => (Res.ok, (((s.put Obj.TBL_LPM_DONE 0).progBegin 3 (n / 32)).modTables fun t => { t with apply := some (0, n / 32, false) }).runBegin Obj.TBL_LPM_APPLY)

/-- LPM_RECORD_COMPLETE (R290): the next record is applied whole, or the run ends. -/
def execLpmRecordComplete (s : State) : Host.Outcome State Fault Refusal :=
  let done := fun (a : State) (o d r : Nat) => ((a.modTables fun t => { t with apply := none }).runEnd Obj.TBL_LPM_APPLY o d).progEnd 3 o r
  .next (if s.halted then s
    else match s.tables.apply with
    | none => s
    | some (k, n, abort) =>
      match (parseRoute (s.routeRecord k)).bind fun p => (s.tables.applyRoute p.1 p.2).map fun q => (p.2.v6, q) with
      | .error e => done s e.1 e.2 k
      | .ok (v6, t1, d) =>
        let s1 := ({ s with tables := t1 }.slotsWritten s.tables.slots).put Obj.TBL_LPM_DONE (k + 1)
        let cnt := if v6 then Obj.TBL_LPM_V6 else Obj.TBL_LPM_V4
        let s2 := (s1.put cnt ((s1.get cnt : Int) + d).toNat).put Obj.TBL_LPM_BLOCKS ((t1.blocks false).length + (t1.blocks true).length)
        let s3 := s2.progDone 3 1
        if n ≤ k + 1 then done s3 Res.ok 0 0
        else if abort then done s3 Res.aborted 0 (k + 1)
        else s3.modTables fun t => { t with apply := some (k + 1, n, false) })

/-! ### Restoration and sparing (R302, R303, R305) -/

/-- ENTRY_RESTORATION (R302): a label (0) or next-hop (1) entry that reads uncorrectable in a chase, from the first other chase whose copy
reads clean. -/
def execEntryRestoration (chase table entry : Nat) (s : State) : Host.Outcome State Fault Refusal :=
  let kind := 3 + table
  let bad := fun (a : State) (c w : Nat) => match decodeKind kind (a.flipsAt kind (c * 2 ^ 24) (2 * entry + w)) with | .bad _ => true | _ => false
  .next (if 7 < chase ∨ 1 < table ∨ (bad s chase 0 || bad s chase 1) = false then s
    else
      let others := (upTo 8).filter fun c => decide (c ≠ chase) && !(s.chaseGated c)
      let go := others.foldl (fun (a : Bool × State) c =>
        if a.1 then a
        else
          let r := a.2.readPair kind (c * 2 ^ 24) (2 * entry) 6 0
          match r.1 with
          | some d =>
            -- the entry takes the value read; what a miscorrection left in that copy is written with it
            let w := fun (b : State) (i v : Nat) => (b.memWritten kind (chase * 2 ^ 24) (2 * entry + i)).setFlips kind (chase * 2 ^ 24) (2 * entry + i) v
            (true, w (w r.2 0 (d / 2 ^ 64)) 1 (d % 2 ^ 64))
          | none => (false, r.2)) (false, s)
      if go.1 then (go.2.bump (Obj.CHS_RESTORED chase)).note (192 + chase) Cls.restoration kind 0 0 (1 + table)
      else go.2.bump (Obj.CHS_UNRESTORED chase))

/-- LPM_SHADOW_REWRITE (R303): a slot, by logical block × 2,048 + slot, from the chase's shadow. -/
def execLpmShadowRewrite (chase slot : Nat) (s : State) : Host.Outcome State Fault Refusal :=
  .next (if 7 < chase ∨ 131072 ≤ slot then s
    else
      let ph := s.physBlock chase (slot / 2048) * 2048 + slot % 2048
      if s.flipsAt 5 (chase * 2 ^ 24) ph = 0 then s
      else
        let r := s.readWord 6 (chase * 2 ^ 24) slot 6
        if r.diff.isSome then r.state.memWritten 5 (chase * 2 ^ 24) ph else r.state)

/-- A START on `CHS_LPM_SPARE_IN` of a chase (R305). -/
def startChsLpmSpareIn (s : State) (c : Nat) : Nat × State :=
  if s.get (Obj.CHS_LPM_SPARE c) ≠ 0xFF then (Res.ok, s.runOnce (Obj.CHS_LPM_SPARE_IN c) Res.badState 1)
  else if s.flt.repairs.any fun (r : Repair) => decide (r.stack = 0) then (Res.busy, s)
  else
    let s1 := s.runBegin (Obj.CHS_LPM_SPARE_IN c)
    let r : Repair := { stack := 0, source := none, kind := .lpmBlock c (s.get (Obj.CHS_LPM_SPARE_LBLOCK c)), reason := 2, dueAt := s.now, begun := false }
    (Res.ok, { s1 with flt := { s1.flt with repairs := s1.flt.repairs ++ [r] } }.dispatchForme)

/-- LPM_SPARE_SWITCH (R305 steps 3 and 4): the spare was wiped and filled from the shadow, so it holds no stored error. -/
def execLpmSpareSwitch (chase : Nat) (s : State) : Host.Outcome State Fault Refusal :=
  .next (match smGet none (s.tables.spares.map fun (e : Nat × LpmSpare) => (e.1, some e.2)) chase with
    | none => s
    | some x =>
      let base := memKey 5 (chase * 2 ^ 24) (64 * 2048)
      let s1 := { s with mem := { s.mem with flips := smClearRange s.mem.flips base (base + 2048) } }
      let s2 := (s1.modTables fun t => { t with spares := smErase t.spares chase }).put (Obj.CHS_LPM_SPARE chase) x.logical
      let s3 := s2.repairDone x.source (184 + chase) x.old 64 0
      if s3.isBusy (Obj.CHS_LPM_SPARE_IN chase) then s3.runEnd (Obj.CHS_LPM_SPARE_IN chase) Res.ok 0 else s3)

/-! ### Learning tables (R291–R296) -/

namespace Lrn
/-- Fields of an entry (R291). -/
def valid (e : Nat) : Bool := bitOf e 127
def static (e : Nat) : Bool := bitOf e 126
def act (e : Nat) : Bool := bitOf e 125
def old (e : Nat) : Bool := bitOf e 124
def vid (e : Nat) : Nat := field e 123 112
def mac (e : Nat) : Nat := field e 111 64
def port (e : Nat) : Nat := field e 63 54
def stamp (e : Nat) : Nat := field e 53 0
/-- An entry from its fields. -/
def entry (st act_ old_ : Bool) (v m p t : Nat) : Nat :=
  2 ^ 127 + b2n st * 2 ^ 126 + b2n act_ * 2 ^ 125 + b2n old_ * 2 ^ 124 + v * 2 ^ 112 + m * 2 ^ 64 + p * 2 ^ 54 + t % 2 ^ 54
end Lrn

/-- The bucket of a key (R292). -/
def State.bucket (s : State) (vid mac : Nat) : Nat := crc32c (s.get Obj.TBL_HASH_SEED_ACTIVE) (beBytes 8 (vid * 2 ^ 48 + mac)) % 16384

/-- The content of a way, by pipeline and 4 × bucket + way. -/
def State.lrn (s : State) (k slot : Nat) : Nat := smGet 0 s.tables.learn (k * 65536 + slot)

/-- Write a way whole. -/
def State.lrnWrite (s : State) (k slot v : Nat) : State :=
  ((s.memWritten 7 (k * 2 ^ 24) (2 * slot)).memWritten 7 (k * 2 ^ 24) (2 * slot + 1)).modTables fun t =>
    { t with learn := smSet 0 t.learn (k * 65536 + slot) v }

/-- A way read through its code; uncorrectable, it is invalidated and reads as empty (R304). -/
def State.lrnRead (s : State) (k slot source : Nat) : Nat × State :=
  let r := s.readPair 7 (k * 2 ^ 24) (2 * slot) source (s.lrn k slot)
  match r.1 with
  | some v => (v, r.2)
  | none => (0, r.2.lrnWrite k slot 0)

/-- The four ways of a bucket read. -/
def State.lrnBucket (s : State) (k b source : Nat) : List (Nat × Nat) × State :=
  (upTo 4).foldl (fun (a : List (Nat × Nat) × State) w => let r := a.2.lrnRead k (4 * b + w) source; (a.1 ++ [(4 * b + w, r.1)], r.2)) ([], s)

/-- The way of a bucket that holds a key. -/
def lrnFind (ways : List (Nat × Nat)) (vid mac : Nat) : Option (Nat × Nat) :=
  ways.find? fun (e : Nat × Nat) => Lrn.valid e.2 && decide (Lrn.vid e.2 = vid) && decide (Lrn.mac e.2 = mac)

/-- A learner. -/
def State.learner (s : State) (k : Nat) : Learner := smGet {} s.tables.learners k

/-- Change a learner; canonical. -/
def State.modLearner (s : State) (k : Nat) (f : Learner → Learner) : State :=
  s.modTables fun t => { t with learners := smSet {} t.learners k (f (s.learner k)) }

/-- Queue an event record (R301). -/
def State.learnRecord (s : State) (kind pipe port oldPort vid mac stamp : Nat) : State :=
  let r := [u8 kind, u8 pipe] ++ beBytes 2 port ++ beBytes 2 oldPort ++ beBytes 2 vid ++ beBytes 6 mac ++ [0, 0] ++ beBytes 8 stamp
  if s.tables.events.length < 4096 then
    let s1 := (s.modTables fun t => { t with events := t.events ++ [r] }).cmpPush 9
    if s.tables.events.length = s.get Obj.TBL_EVENT_THRESH then s1.latch Attn.learn else s1
  else (s.bump Obj.TBL_EVENT_LOST).latchLost Attn.learn

/-- wins(m, e) (R296). -/
def lrnWins (m : LMsg) (e : Nat) : Bool :=
  let d := (m.stamp % 2 ^ 54 + 2 ^ 54 - Lrn.stamp e) % 2 ^ 54
  decide (1 ≤ d ∧ d < 2 ^ 53) || (decide (d = 0) && decide (m.port < Lrn.port e))

/-- What an install did: nothing, a new entry, or a change from a port; or the bucket was full. -/
inductive Installed where
  | nothing | created | changed (oldPort : Nat) | full
deriving DecidableEq, Repr

/-- install(m) in pipeline k (R296). -/
def State.install (s : State) (k : Nat) (m : LMsg) : Installed × State :=
  let r := s.lrnBucket k (s.bucket m.vid m.mac) 1
  let s1 := r.2
  let write := fun (a : State) (slot : Nat) =>
    (a.lrnWrite k slot (Lrn.entry m.static true false m.vid m.mac m.port m.stamp)).bump (Obj.TBL_LRN_INSTALLS k)
  match lrnFind r.1 m.vid m.mac with
  | none =>
    match r.1.find? (fun (e : Nat × Nat) => !(Lrn.valid e.2)) with
    | some (slot, _) => (.created, write s1 slot)
    | none => (.full, (s1.bump (Obj.TBL_LRN_FULL k)).learnRecord (if m.origin = k then 4 else 5) k m.port 0xFFFF m.vid m.mac m.stamp)
  | some (slot, e) =>
    if Lrn.static e ∧ ¬ m.static then (.nothing, s1)
    else if m.static ∨ Lrn.old e ∨ lrnWins m e then (.changed (Lrn.port e), write s1 slot)
    else if m.port = Lrn.port e ∧ m.stamp % 2 ^ 54 = Lrn.stamp e then (.nothing, s1.lrnWrite k slot (setBit e 125 true))
    else (.nothing, s1)

/-- A REMOVE applied in pipeline k (R296). -/
def State.lrnRemove (s : State) (k : Nat) (m : LMsg) : State :=
  let r := s.lrnBucket k (s.bucket m.vid m.mac) 1
  match lrnFind r.1 m.vid m.mac with
  | none => r.2
  | some (slot, e) =>
    if m.force ∨ (¬ Lrn.static e ∧ Lrn.port e = m.port ∧ Lrn.stamp e = m.stamp % 2 ^ 54) then (r.2.lrnWrite k slot 0).bump (Obj.TBL_LRN_INSTALLS k)
    else r.2

/-- The lag of a LEARN's install (R297). -/
def State.lrnLag (s : State) (k : Nat) (m : LMsg) : State :=
  if m.kind = 1 then s.raiseTo (Obj.TBL_LRN_LAG_MAX k) (min (2 ^ 32 - 1) ((s.uptime + 2 ^ 64 - m.stamp) % 2 ^ 64)) else s

/-- A message that must not be lost waits for a place in the injection queue (R298, R300). -/
def State.injectHeld (s : State) (k : Nat) (m : LMsg) : State :=
  s.modLearner k fun x => if x.inj.length < 32 ∧ x.waiting.isEmpty then { x with inj := x.inj ++ [m] } else { x with waiting := x.waiting ++ [m] }

/-- A learn event of pipeline k: filter, origin install, injection (R294). -/
def State.learnEvent (s : State) (k : Nat) (m : LMsg) : State :=
  let key := m.vid * 2 ^ 48 + m.mac
  let recent := (s.learner k).filter.filter fun (e : Nat × Nat) => decide (s.now < e.2 + usTicks 2)
  if recent.any fun (e : Nat × Nat) => decide (e.1 = key) then s.bump (Obj.TBL_LRN_SUPPRESSED k)
  else
    let s1 := s.modLearner k fun x => { x with filter := ((key, s.now) :: recent).take 16 }
    let r := s1.install k m
    let put := fun (a : State) =>
      if (a.learner k).inj.length < 32 then a.modLearner k fun x => { x with inj := x.inj ++ [m] } else a.bump (Obj.TBL_LRN_INJ_DROPS k)
    match r.1 with
    | .created => put ((r.2.lrnLag k m).learnRecord 1 k m.port 0xFFFF m.vid m.mac m.stamp)
    | .changed old =>
      put (if old = m.port then r.2.lrnLag k m else (r.2.lrnLag k m).learnRecord 2 k m.port old m.vid m.mac m.stamp)
    | _ => r.2

/-! ### The ring (R295) -/

/-- RING_INJECT (R295). -/
def execRingInject (pipe : Nat) (s : State) : Host.Outcome State Fault Refusal :=
  let x := s.learner pipe
  .next (if 32 ≤ pipe ∨ 32 ≤ s.tables.ring.length then s
    else match x.inj with
    | [] => s
    | m :: rest =>
      let s1 := s.modLearner pipe fun y => { y with inj := rest ++ y.waiting.take 1, waiting := y.waiting.drop 1 }
      let s2 := s1.modTables fun t => { t with ring := t.ring ++ [(m, (pipe + 1) % 32)] }
      if m.kind = 1 then (s2.bump (Obj.TBL_LRN_EVENTS pipe)).pmc (1160 + pipe) 6 1 else s2)

/-- RING_MESSAGE_ARRIVAL (R295, R296). -/
def execRingMessageArrival (pipe : Nat) (damaged : Bool) (s : State) : Host.Outcome State Fault Refusal :=
  .next (match s.tables.ring.find? (fun (e : LMsg × Nat) => decide (e.2 = pipe)) with
    | none => s
    | some e =>
      let gone := s.modTables fun t => { t with ring := t.ring.erase e }
      if damaged then gone.bump (Obj.TBL_LRN_RING_ERR pipe)
      else if e.1.origin = pipe then gone
      else
        let s1 := s.modTables fun t => { t with ring := t.ring.map fun x => if x = e then (e.1, (pipe + 1) % 32) else x }
        if s.pipeGated pipe then s1
        else if e.1.kind = 2 then s1.lrnRemove pipe e.1
        else
          let r := s1.install pipe e.1
          match r.1 with
          | .created => r.2.lrnLag pipe e.1
          | .changed _ => r.2.lrnLag pipe e.1
          | _ => r.2)

/-! ### Ageing (R298) -/

/-- One way at a visit of pipeline k: the owned half of a pass, or the other. `on` tells whether ageing is on. -/
def State.ageWay (s : State) (k slot : Nat) (ownedHalf on : Bool) : State :=
  let r := s.lrnRead k slot 1
  let e := r.1
  if ¬ Lrn.valid e ∨ Lrn.static e ∨ decide (Lrn.port e / 32 = k) ≠ ownedHalf then r.2
  else
    let age := (s.uptime % 2 ^ 54 + 2 ^ 54 - Lrn.stamp e) % 2 ^ 54
    let e1 := if 2 ^ 50 ≤ age then setBit e 124 true else e
    let msg := fun (kind : Nat) => (⟨kind, k, false, false, Lrn.vid e, Lrn.mac e, Lrn.port e, Lrn.stamp e⟩ : LMsg)
    if ¬ on then (if e1 = e then r.2 else r.2.lrnWrite k slot e1)
    else if Lrn.act e then
      let s1 := r.2.lrnWrite k slot (setBit e1 125 false)
      if ownedHalf then s1.injectHeld k (msg 3) else s1
    else
      let s1 := (r.2.lrnWrite k slot 0).bump (Obj.TBL_LRN_AGED k)
      if ownedHalf then (s1.injectHeld k (msg 2)).learnRecord 3 k (Lrn.port e) 0xFFFF (Lrn.vid e) (Lrn.mac e) (Lrn.stamp e) else s1

/-- AGER_VISIT (R298): the next bucket of the pass, when its time has come. -/
def execAgerVisit (pipe : Nat) (s : State) : Host.Outcome State Fault Refusal :=
  let x := s.learner pipe
  let t := if x.ageTime = 0 then 1000000 else x.ageTime
  let due := decide (x.visit * t * 1000000000 ≤ 32768 * (s.uptime - x.passStart)) && decide (x.passStart ≤ s.uptime)
  .next (if 32 ≤ pipe ∨ ¬ s.tim.running ∨ s.pipeGated pipe ∨ ¬ due then s
    else
      let b := x.visit % 16384
      let s1 := (upTo 4).foldl (fun a w => a.ageWay pipe (4 * b + w) (decide (x.visit < 16384)) (decide (x.ageTime ≠ 0))) s
      s1.modLearner pipe fun y =>
        if x.visit = 32767 then { y with visit := 0, passStart := x.passStart + t * 1000000000, ageTime := s.get Obj.TBL_AGE_TIME }
        else { y with visit := x.visit + 1 })

/-! ### Controller operations (R300) -/

/-- The staged key: VID and MAC. -/
def State.tblKey (s : State) : Nat × Nat := (octField 8 (s.get Obj.TBL_KEY) 0 2, octField 8 (s.get Obj.TBL_KEY) 2 6)

/-- A MAC address as a number is a group address. -/
def groupMac (mac : Nat) : Bool := bitOf mac 40

/-- A START on `TBL_STATIC_ADD`. -/
def startTblStaticAdd (s : State) : Nat × State :=
  let key := s.tblKey
  let port := s.get Obj.TBL_KEY_PORT
  if 1023 < port ∨ groupMac key.2 ∨ 4095 < key.1 then (Res.ok, s.runOnce Obj.TBL_STATIC_ADD Res.badValue 1)
  else
    let k := port / 32
    let m : LMsg := ⟨1, k, true, false, key.1, key.2, port, s.uptime⟩
    let r := s.install k m
    let go := fun (a : State) => ((a.lrnLag k m).injectHeld k m).runOnce Obj.TBL_STATIC_ADD Res.ok 0
    match r.1 with
    | .full => (Res.ok, r.2.runOnce Obj.TBL_STATIC_ADD Res.badLength 2)
    | .created => (Res.ok, go (r.2.learnRecord 1 k port 0xFFFF key.1 key.2 m.stamp))
    | .changed old => (Res.ok, go (if old = port then r.2 else r.2.learnRecord 2 k port old key.1 key.2 m.stamp))
    | .nothing => (Res.ok, go r.2)

/-- The pipeline and entry of the first table that holds a key. -/
def State.findKey (s : State) (vid mac : Nat) : Option Nat :=
  (s.tables.learn.find? fun (e : Nat × Nat) => Lrn.valid e.2 && decide (Lrn.vid e.2 = vid) && decide (Lrn.mac e.2 = mac)).map Prod.snd

/-- A START on `TBL_DELETE`. -/
def startTblDelete (s : State) : Nat × State :=
  let key := s.tblKey
  match s.findKey key.1 key.2 with
  | none => (Res.ok, s.runOnce Obj.TBL_DELETE Res.badValue 3)
  | some e =>
    let k := Lrn.port e / 32
    let m : LMsg := ⟨2, k, false, true, key.1, key.2, Lrn.port e, Lrn.stamp e⟩
    (Res.ok, ((s.lrnRemove k m).injectHeld k m).runOnce Obj.TBL_DELETE Res.ok 0)

/-- Each owner removes its dynamic entries that match a port and a VID, 0xFFFF matching any. -/
def State.tblFlush (s : State) (port vid : Nat) : State :=
  let hit := s.tables.learn.filter fun (e : Nat × Nat) =>
    Lrn.valid e.2 && !(Lrn.static e.2) && decide (Lrn.port e.2 / 32 = e.1 / 65536) &&
      (decide (port = 0xFFFF) || decide (Lrn.port e.2 = port)) && (decide (vid = 0xFFFF) || decide (Lrn.vid e.2 = vid))
  hit.foldl (fun a (e : Nat × Nat) =>
    let k := e.1 / 65536
    let m : LMsg := ⟨2, k, false, false, Lrn.vid e.2, Lrn.mac e.2, Lrn.port e.2, Lrn.stamp e.2⟩
    ((a.lrnWrite k (e.1 % 65536) 0).bump (Obj.TBL_LRN_INSTALLS k)).injectHeld k m) s

/-- A START on `TBL_FLUSH`. -/
def startTblFlush (s : State) : Nat × State :=
  (Res.ok, (s.tblFlush (s.get Obj.TBL_FLUSH_PORT) (s.get Obj.TBL_FLUSH_VID)).runOnce Obj.TBL_FLUSH Res.ok 0)

/-! ### Lookups of a pipeline (R252, R253, R293) -/

/-- A lookup's slot: its value and hit condition. -/
abbrev Slot := Nat × Bool

/-- TABLE 1 and 2: VALID decides the hit. -/
def directSlot (validBit : Nat) (r : Option Nat × State) : Slot × State :=
  match r.1 with
  | some v => (if bitOf v validBit then (v, true) else (0, false), r.2)
  | none => ((0, false), r.2)

/-- TABLE 3 and 4. -/
def lpmSlot (r : Option Nat × State) : Slot × State := (match r.1 with | some v => (v, true) | none => (0, false), r.2)

/-- TABLE 5 (R292). -/
def State.lookupDst (s : State) (k vid mac : Nat) : Slot × State :=
  let r := s.lrnBucket k (s.bucket vid mac) 1
  match lrnFind r.1 vid mac with
  | some (_, e) => ((e, true), r.2)
  | none => ((0, false), r.2)

/-- TABLE 6 (R293). -/
def State.lookupSrc (s : State) (k vid mac inPort stamp : Nat) (noLearn : Bool) : Slot × State :=
  let r := s.lrnBucket k (s.bucket vid mac) 1
  let may := !noLearn && octBit 128 (s.get Obj.TBL_LEARN_PORTS) inPort && !(groupMac mac)
  let event := fun (a : State) => if may then a.learnEvent k ⟨1, k, false, false, vid, mac, inPort, stamp⟩ else a
  match lrnFind r.1 vid mac with
  | none => ((0, false), event r.2)
  | some (slot, e) =>
    if Lrn.port e = inPort then
      if Lrn.old e ∧ ¬ Lrn.static e then ((e, true), event r.2) else ((e, true), r.2.lrnWrite k slot (setBit e 125 true))
    else if Lrn.static e then ((e, true), r.2.bump (Obj.TBL_LRN_STATIC_MOVES k))
    else ((e, true), event r.2)

/-- TABLE 7 (R352, R467): the colour of the packet, and COLOR. An uncorrectable configuration word acts as disabled; an uncorrectable
state word restarts the buckets full and the counters at zero. -/
def State.lookupPolicer (s : State) (pipe k : Nat) (aware : Bool) (inp millibits : Nat) : Nat × State :=
  let c := s.readWord 9 (chaseOf pipe * 2 ^ 24) (2 * (8192 * (pipe % 4) + k)) 1
  let st := c.state.readWord 9 (chaseOf pipe * 2 ^ 24) (2 * (8192 * (pipe % 4) + k) + 1) 1
  let idx := pipe * 8192 + k
  let x := smGet {} st.state.sched.policers idx
  let x1 := if st.diff.isSome then x else { x with tc := x.cbs * 8000, tp := x.pbs * 8000, green := 0, yellow := 0, red := 0 }
  let r := if c.diff.isSome then x1.colour aware inp millibits else ((if aware then inp else 0), x1.counted (if aware then inp else 0))
  (r.1, { st.state with sched := { st.state.sched with policers := smSet {} st.state.sched.policers idx r.2 } })

end Sys2Proof.Machine
end

