-- ==== Sys2Proof/Machine/Frames.lean ====
section
/-! DEFINITION. Frames in the galley: building a chain, reading a frame back, frames the Compositor sends and receives, frames that turn
bad (R22, R23, R27, R234, R242, R317, R318, R327). -/

namespace Sys2Proof.Machine
open Sys2Proof

/-! ### Building and reading chains -/

/-- Return buffers that a requester took and did not use. -/
def State.giveBack (s : State) (src : Nat) (bufs : List (Nat × Nat)) : State :=
  bufs.foldl (fun a (b : Nat × Nat) => (a.push b.1 b.2 (some src)).chargeBuf src b.1 false) s

/-- Take the buffers of a frame of `total` stored bytes (R317, R318): a next one while more than the chain less 32 B is to be written. -/
def State.takeChain (s : State) (src : Nat) (prio : Option Nat) (iplen : Option (Nat × Nat)) (total : Nat) (bufs : List (Nat × Nat)) : Nat → Option (List (Nat × Nat)) × State
  | 0 => (some bufs, s)
  | n + 1 =>
    if bufs ≠ [] ∧ total ≤ chainCap bufs - 32 then (some bufs, s)
    else
      let r := s.ask src (if bufs = [] then firstCase iplen else nextCase iplen bufs) prio
      match r.1.1 with
      | some b => r.2.takeChain src prio iplen total (bufs ++ [b]) n
      | none => (none, r.2.giveBack src bufs)

/-- The IP length of a frame the device builds: the offset of its IP header and its length. -/
def ipLenOf (w : Bytes) : Option (Nat × Nat) :=
  let e := etherOff 0x88A8 w
  if u w e 2 = 0x0800 then some (e + 2, u w (e + 4) 2) else if u w e 2 = 0x86DD then some (e + 2, u w (e + 6) 2 + 40) else none

/-- Words M0 to M7 of a frame that the Compositor sources (R247): IN_PORT 0, its length, its destination, FROM_CMP. -/
def cmpPrefix (port queue len : Nat) : Bytes :=
  beBytes 4 0 ++ beBytes 4 (len * 2 ^ 18) ++ beBytes 4 (2 ^ 30 + port * 2 ^ 16 + queue * 2 ^ 12 + 2 ^ 10) ++ beBytes 4 (0xFF * 2 ^ 16) ++ zeros 16

/-- One frame of the Compositor built in the galley and enqueued (R22 step 7, R240); none while its buffers are refused. -/
def State.cmpBuild (s : State) (x : CmpSend) : Option State :=
  let body := cmpPrefix x.port x.queue x.frame.length ++ x.frame
  let r := s.takeChain 1024 none (ipLenOf x.frame) body.length [] 4
  match r.1 with
  | none => none
  | some bufs =>
    let s1 := r.2.store32 (some 1024) bufs 0 body
    let d := s1.newDescr (.frame 1 1024 0 false false false body.length 1 bufs 0 0)
    let s2 := if x.lso then d.2.bump (Obj.CTR_TX_LSO_SEGMENTS x.port) else d.2
    some (s2.enqueue x.port x.queue d.1 (chargedLen body.length))

/-- Counters of a refused request stay: the refusal alone of a build that is held. -/
def State.cmpRefused (s : State) (x : CmpSend) : State :=
  (s.takeChain 1024 none (ipLenOf x.frame) (32 + x.frame.length) [] 4).2

/-- The frames that wait for the galley are built in order; the first refused one holds the rest (R234). -/
def State.drainSends (s : State) (l : List CmpSend) : State :=
  match l with
  | [] => { s with cmp := { s.cmp with sends := [] } }
  | x :: t =>
    match s.cmpBuild x with
    | some s1 => s1.drainSends t
    | none =>
      let s1 := s.cmpRefused x
      { s1 with cmp := { s1.cmp with sends := x :: t } }

/-- The Compositor sends a frame from a port's queue. -/
def State.cmpSend (s : State) (port queue : Nat) (frame : Bytes) (lso : Bool := false) : State :=
  s.drainSends (s.cmp.sends ++ [{ port := port, queue := queue, frame := frame, lso := lso }])

/-- A frame read back whole from the galley, without its prefix: its bytes, and whether it carries poison (R334). -/
def State.readFrame (s : State) (d : Nat) : (Bytes × Bool) × State :=
  let n := s.storedOf d
  let r := s.readWords (s.srcOf d) (s.chainOf d) 1 ((n - 32 + 31) / 32)
  let bad := r.1.2 + b2n (s.chainLost (s.origOf d))
  ((r.1.1.take (n - 32), decide (0 < bad)), r.2.poisonRead (s.origOf d) bad)

/-! ### The Compositor's receive queue (R248, R331, R333, R334) -/

/-- A frame's reference goes to the Compositor's receive queue. -/
def State.cmpDeliver (s0 : State) (d : Nat) : State :=
  let s := s0.pmc 1201 5 1 { tc := (s0.attrOf d 0 0).tc }
  { s with cmp := { s.cmp with rx := s.cmp.rx ++ [d] } }

/-- The Compositor takes the oldest frame of its receive queue that is complete or bad, and lets its reference go. -/
def State.cmpConsume (s : State) : State :=
  match s.cmp.rx.find? (fun d => decide (s.dstateOf d ≠ 0)) with
  | none => s
  | some d =>
    let s1 := { s with cmp := { s.cmp with rx := s.cmp.rx.erase d } }
    (if s.dstateOf d = 2 then s1 else (s1.readFrame d).2).releaseDesc d

/-! ### Frames that turn bad (R27, R318) -/

/-- A frame's reading has begun: some port holds it dequeued. -/
def State.beingRead (s : State) (d : Nat) : Bool :=
  s.ports.any fun (e : Nat × Port) =>
    e.2.tx.any (fun (f : TxFrame) => decide (f.desc = d)) || (match e.2.sending with | some f => decide (f.desc = d) | none => false)

/-- Take a frame's entries out of the queues. -/
def State.unqueue (s : State) (d : Nat) : State :=
  { s with sched := { s.sched with queues := (s.sched.queues.map fun (e : Nat × Queue) =>
      (e.1, { e.2 with entries := e.2.entries.filter fun (x : QEntry) => decide (x.desc ≠ d) })).filter fun (e : Nat × Queue) => decide (e.2 ≠ {}) } }

/-- A queue entry names a frame itself. -/
def State.inQueue (s : State) (d : Nat) : Bool :=
  s.sched.queues.any fun (e : Nat × Queue) => e.2.entries.any fun (x : QEntry) => decide (x.desc = d)

/-- REFS of a frame. -/
def State.refsOf (s : State) (d : Nat) : Nat := match s.descr d with | some (.frame _ _ _ _ _ _ _ refs _ _ _) => refs | _ => 0

/-- A frame that was being received has turned bad (R318, R333): its head has left, and it will end stomped, or its own reference is let go.
`held`: the writer still holds that reference, no queue. Proofs and the Compositor keep theirs until they have seen it. -/
def State.turnBad (s : State) (d : Nat) (held : Bool) : State :=
  match s.descr d with
  | some (.frame _ src prio ll ct po stored refs bufs ip cle) =>
    let s1 := s.modDescr d fun _ => .frame 2 src prio ll ct po stored refs bufs ip cle
    if s.beingRead d then s1.bump Obj.GAL_CT_BAD
    else if held ∨ s.inQueue d then (s1.unqueue d).releaseFrame d
    else if refs = 0 then s1.freeFrame d
    else s1
  | _ => s

end Sys2Proof.Machine
end

