-- ==== Sys2Proof/Machine/Ports.lean ====
section
/-! DEFINITION. Ports: forming, link up and down, reception, flow control received, low-power idle, LLDP, large sends, statistics (08). -/

namespace Sys2Proof.Machine
open Sys2Proof

/-! ### Pause timers (R226) -/

/-- Ticks of a number of quanta of 512 bit times, rounded up. -/
def quantaTicks (rate n : Nat) : Nat := if rate = 0 then 0 else (n * 2048 + 5 * rate - 1) / (5 * rate)

/-- The weighted-fair queues that a change of pause timers frees become eligible again (R226, R345). -/
def State.unpaused (s : State) (p old : Nat) : State :=
  let new := s.pausedMap p
  (upTo 16).foldl (fun a q => if bitOf old q ∧ ¬ bitOf new q then a.retag p q else a) s

/-- Load or stop a timer: 8 is the link timer. -/
def State.setTimer (s : State) (p k : Nat) (endAt : Option Nat) : State :=
  s.modPort p fun x => { x with timers := match endAt with | some t => smInsert x.timers k t | none => smErase x.timers k }

/-- PAUSE_FRAME_RX (R226): the oldest accepted pause frame takes effect 10 ns after its last byte. -/
def execPauseFrameRx (port : Nat) (s : State) : Host.Outcome State Fault Refusal :=
  .next (match (s.port port).loads with
    | l :: rest =>
      if s.now < l.at_ then s
      else
        let old := s.pausedMap port
        let s1 := s.modPort port fun x => { x with loads := rest }
        let rate := s.ptSpeed port
        let load := fun (a : State) (k t : Nat) => a.setTimer port k (if t = 0 then none else some (l.at_ + quantaTicks rate t))
        let s2 := if l.link then load s1 8 (listAt 0 l.times 0)
          else (upTo 8).foldl (fun a i => if bitOf l.mask i ∧ bitOf (s.get (Obj.PT_PFC_ENABLE port)) i then load a i (listAt 0 l.times i) else a) s1
        s2.unpaused port old
    | [] => s)

/-- PAUSE_TIMER_EXPIRY (R226): a timer that reaches 0 frees its queues. -/
def execPauseTimerExpiry (port timer : Nat) (s : State) : Host.Outcome State Fault Refusal :=
  .next (match (s.port port).timers.find? (fun (e : Nat × Nat) => decide (e.1 = timer)) with
    | some e => if e.2 ≤ s.now then (s.setTimer port timer none).unpaused port (s.pausedMap port) else s
    | none => s)

/-- PAUSE_REFRESH (R227). -/
def execPauseRefresh (port : Nat) (s : State) : Host.Outcome State Fault Refusal :=
  let x := s.port port
  let due := x.lastPause + quantaTicks (s.ptSpeed port) (s.get (Obj.PT_PAUSE_QUANTA port)) / 2
  .next (if s.portUp port ∧ x.xoff ≠ 0 ∧ s.get (Obj.PT_FC_MODE port) ≠ 0 ∧ due ≤ s.now then s.pauseNow port 0 else s)

/-- LOSSLESS_REFUSAL_CHECK (R327). -/
def execLosslessRefusalCheck (port : Nat) (s : State) : Host.Outcome State Fault Refusal :=
  let x := s.port port
  let free := fun (e : Nat × Nat) =>
    decide (s.heldBytes port e.1 ≤ s.xonMark port e.1) && decide (4 * x.fifoBytes ≤ s.fifoSize port) && s.admits port e.2
  .next (if x.refused.any free then (s.modPort port fun y => { y with refused := y.refused.filter fun e => !(free e) }).xoffEval port else s)

/-- A lossless refusal holds its priority in XOFF (R327). -/
def State.holdRefused (s : State) (p prio case_ : Nat) : State :=
  let mode := s.get (Obj.PT_FC_MODE p)
  let i := if mode = 1 then 0 else prio
  let s1 := s.modPort p fun x => { x with refused := smInsert x.refused i case_, xoff := setBit x.xoff i true }
  if bitOf (s.port p).xoff i then s1 else s1.pauseNow p 0

/-- A frame refused its buffers is counted by its priority (R220, R327). -/
def State.countRefused (s : State) (p prio case_ : Nat) (ll : Bool) : State :=
  if ll then (s.bump (Obj.CTR_RX_LOSSLESS_DROP p)).holdRefused p prio case_ else s.bump (Obj.CTR_RX_OVERFLOW_DROP p)

/-! ### Link down and up (R215, R217) -/

/-- Release a frame that the transmitter holds; its in-flight bytes go with it. -/
def State.dropTx (s : State) (p : Nat) (f : TxFrame) : State := (s.flySub p f.cl).releaseDesc f.desc

/-- PTP instances learn that a port went down or came up (R421, R423). -/
def State.ptpPort (s : State) (p : Nat) (up : Bool) : State :=
  let one := fun (d : Nat) (x : PtpInst) =>
    if bitOf (s.ptpField p 0 1) d ∧ s.get (Obj.TIM_P_ENABLE d) = 1 then
      { x with states := smInsert x.states p (if up then 4 else 5)
               foreign := if up then x.foreign else x.foreign.filter fun (f : Foreign) => decide (f.port ≠ p)
               parent := match x.parent with
                 | some f => if ¬ up ∧ f.port = p then none else some f
                 | none => none }
    else x
  { s with ptp := { s.ptp with insts := s.ptp.insts.mapIdx one } }

/-- A link down and up is counted on every lane of a port: `LN_FLAPS` and the record of R190. -/
def State.countFlap (s : State) (p mark : Nat) : State :=
  (s.ptLaneList p).foldl (fun a n =>
    (a.bump (Obj.LN_FLAPS n)).modLane n fun l => { l with flap := mark, flaps := (a.now :: l.flaps).take 8 }) s

/-- Step 1 of R217: reception. The frame being written is aborted. -/
def State.downRx (s : State) (p : Nat) : State :=
  match (s.port p).writing with
  | none => s
  | some w =>
    let a := (s.modPort p fun y => { y with writing := none }).bump (Obj.CTR_RX_ABORTED p)
    if w.failed then a else a.turnBad w.desc (!w.enqueued && decide (w.dtype ≠ 0))

/-- Step 2 of R217: the frame being sent is aborted. -/
def State.downSending (s : State) (p : Nat) : State :=
  match (s.port p).sending with
  | some f => (s.dropTx p f).bump (Obj.CTR_TX_ABORTED p)
  | none => s

/-- A frame held for its authentication is aborted with the transmission (R417). -/
def State.downAuth (s : State) (p : Nat) : State :=
  match smGet none (s.ptp.auth.map fun (e : Nat × AuthTx) => (e.1, some e.2)) p with
  | some h => ({ s with ptp := { s.ptp with auth := smErase s.ptp.auth p } }.dropTx p h.frame).bump (Obj.CTR_TX_ABORTED p)
  | none => s

/-- Step 2 of R217, whole: frames dequeued and not begun are flushed (R357). -/
def State.downTx (s : State) (p : Nat) : State :=
  ((s.port p).tx.foldl (fun a (f : TxFrame) => (a.dropTx p f).bump (Obj.CTR_TX_FLUSHED p)) (s.downSending p)).downAuth p

/-- Steps 3 and 4 of R217: the times of low-power idle are counted. -/
def State.downLpi (s : State) (p : Nat) : State :=
  let x := s.port p
  let s1 := if x.txLpi then s.bumpBy (Obj.CTR_LPI_TX_US p) ((s.now - x.txLpiSince) / 800) else s
  if x.rxLpi then s1.bumpBy (Obj.CTR_LPI_RX_US p) ((s.now - x.rxLpiSince) / 800) else s1

/-- What steps 2 to 4 of R217 leave of a port. -/
def Port.quiet (y : Port) : Port :=
  { y with sending := none, tx := [], timers := [], loads := [], xoff := 0, refused := [], pauseDue := none, txLpi := false, waking := none,
           rxLpi := false, loop := [] }

/-- Step 5 of R217: the flush begins; then the flush of learning tables (R300). -/
def State.downFlush (s : State) (p : Nat) : State :=
  let s1 := (s.put (Obj.Q_FLUSH_STATE p) 1).ptpPort p false
  let s2 := (s.ptLaneList p).foldl (fun a n => a.modLane n fun l => { l with flap := if l.flap = 2 then 2 else 1 }) s1
  if s.get Obj.TBL_FLUSH_ON_DOWN = 1 then s2.tblFlush p 0xFFFF else s2

/-- The sequence of R217, for a port that is up. -/
def State.linkDown (s : State) (p : Nat) : State :=
  if ¬ (s.port p).up then s
  else
    let s1 := ((s.modPort p fun y => { y with up := false, flushing := true }).latch Attn.link).bump (Obj.PT_LINK_CHANGES p)
    ((((s1.downRx p).downTx p).downLpi p).modPort p Port.quiet).downFlush p

/-- The port comes up; its link has gone down and up when it was up before (R190). -/
def State.linkUp (s0 : State) (p : Nat) : State :=
  let s := if (s0.lane p).flap = 1 then s0.countFlap p 0 else (s0.ptLaneList p).foldl (fun a n => a.modLane n fun l => { l with flap := 0 }) s0
  (((s.modPort p fun x => { x with up := true, idleSince := s.now, lldpSent := none, lldpHeard := s.now }).latch Attn.link).bump
    (Obj.PT_LINK_CHANGES p)).ptpPort p true

/-- The conditions of R215 have held for `PT_UP_HOLD`, nothing holds the port down, and no flush runs. -/
def State.mayComeUp (s : State) (p : Nat) : Bool :=
  let x := s.port p
  decide (s.ptType p ≠ 0) && !x.up && decide (s.get (Obj.PT_ENABLE p) = 1) && !(s.portHeld p) && !x.flushing &&
    (match x.okSince with | some t => decide (t + msTicks (s.get (Obj.PT_UP_HOLD p)) ≤ s.now) | none => false)

/-- PORT_UP (R215). -/
def execPortUp (port : Nat) (s : State) : Host.Outcome State Fault Refusal := .next (if s.mayComeUp port then s.linkUp port else s)

/-- PORT_DOWN (R215, R217): a condition has failed for `PT_DOWN_HOLD`, or the port is held down or disabled. -/
def execPortDown (port : Nat) (s : State) : Host.Outcome State Fault Refusal :=
  let failed : Bool := match (s.port port).badSince with
    | some t => decide (t + msTicks (s.get (Obj.PT_DOWN_HOLD port)) ≤ s.now)
    | none => false
  .next (if failed ∨ s.portHeld port ∨ s.get (Obj.PT_ENABLE port) = 0 then s.linkDown port else s)

/-- FLUSH_COMPLETE (R215, R357): the queues are empty; a port that waited for the flush comes up. -/
def execFlushComplete (port : Nat) (s : State) : Host.Outcome State Fault Refusal :=
  .next (if ¬ (s.port port).flushing then s
    else
      let s1 := ((s.flushPort port).modPort port fun x => { x with flushing := false }).put (Obj.Q_FLUSH_STATE port) 0
      if s1.mayComeUp port then s1.linkUp port else s1)

/-- A port that is up and is now held down goes down at once. -/
def State.holdCheck (s : State) (p : Nat) : State :=
  if s.portUp p ∧ (s.portHeld p ∨ s.get (Obj.PT_ENABLE p) = 0) then s.linkDown p else s

/-- Every port that is up judged against what holds ports down. -/
def State.holdCheckAll (s : State) : State :=
  (s.ports.filter fun (e : Nat × Port) => e.2.up).foldl (fun a (e : Nat × Port) => a.holdCheck e.1) s

/-- LINK_FAULT_RX (R215): local (1) or remote (2) fault received, or neither. -/
def execLinkFaultRx (port fault : Nat) (s : State) : Host.Outcome State Fault Refusal :=
  .next (if s.ptType port = 0 ∨ 2 < fault then s else (s.modPort port fun x => { x with fault := fault }).linkEval port)

/-! ### Forming a port (R213, R214, R229) -/

/-- The combinations of R229. -/
def lpiAllowed (type media : Nat) : Bool :=
  (decide (type = 1) && decide (media = 2)) || ([2, 3, 4, 5, 6, 8].contains type && (decide (media = 1) || decide (media = 2)))

/-- Deep sleep rather than fast wake (R229). -/
def lpiDeep (type : Nat) : Bool := decide (type = 1 ∨ type = 3)

/-- A combination outside R229 switches LPI off. -/
def State.lpiCheck (s : State) (p : Nat) : State :=
  if lpiAllowed (s.ptType p) (s.get (Obj.PT_MEDIA p)) then s else s.put (Obj.PT_LPI_ENABLE p) 0

/-- A lane taken down to start afresh in its mode (R173): its signal stays, its failure record stays. -/
def Lane.restart (l : Lane) : Lane :=
  { l with cdr := false, pcs := false, adapted := false, trainDone := false, retryAt := none, over200 := false, eye := none }

/-- A lane stops: a running eye scan ends with BAD_STATE and DETAIL 1, its result zero (R189); a run of `LN_ADAPT` on a lane that has no
mode ends. -/
def State.stopLane (s : State) (n : Nat) : State :=
  let s1 := if (s.lane n).eye.isSome then ((s.put (Obj.LN_EYE_RESULT n) 0).runEnd (Obj.LN_EYE_RUN n) Res.badState 1) else s
  let s2 := if s.isBusy (Obj.LN_ADAPT n) ∧ (s.portOfLane n).isNone then s1.runEnd (Obj.LN_ADAPT n) Res.badState 0 else s1
  s2.modLane n Lane.restart

/-- The checks of a `PT_TYPE` write (R213): a result code other than 0 refuses it. -/
def State.formCheck (s : State) (p t : Nat) : Nat :=
  let k := ptLanes t
  if 16 < t then Res.badValue
  else if t = 0 then Res.ok
  else if p % k ≠ 0 then Res.badValue
  else if (upTo k).any fun i =>
      (match s.portOfLane (p + i) with | some r => decide (r ≠ p) | none => false) || s.octetShed ((p + i) / 8) ||
        decide ((s.lane (p + i)).failCause ≠ 0) then Res.badState
  else Res.ok

/-- Form, re-form or dissolve a port (R213). -/
def State.formPort (s : State) (p t : Nat) : State :=
  let old := s.ptLaneList p
  let s1 := s.linkDown p
  let s2 := s1.put (Obj.PT_TYPE p) t
  let s3 := if t ≠ 0 ∧ s2.get (Obj.PT_FEC p) ≠ 0xFF ∧ ¬ (ptFecs t).contains (s2.get (Obj.PT_FEC p)) then s2.put (Obj.PT_FEC p) 0xFF else s2
  let s4 := if t = 0 then s3 else s3.clearKeys (Obj.CTR_RX_FRAMES p) (Obj.CTR_CLEAR p)
  let s5 := ((s4.ptLaneList p).foldl setInsert old).foldl (fun a n => (a.stopLane n).modLane n fun l => { l with flap := 0 }) s4
  let s6 := s5.modPort p fun x => { x with okSince := none, badSince := none, fault := 0, fifo := [] }
  (s6.lpiCheck p).linkEval p

/-- A change of FEC takes the port down and up again (R214). -/
def State.reFec (s : State) (p v : Nat) : State :=
  let old := s.ptFec p
  let s1 := s.put (Obj.PT_FEC p) v
  if s1.ptFec p = old then s1
  else
    let s2 := s1.linkDown p
    ((s2.ptLaneList p).foldl (fun a n => a.stopLane n) s2).linkEval p

/-- A change of `PT_FC_MODE` (R225): XOFF is released in the old mode, timers are cleared, the new mode applies. -/
def State.writeFcMode (s : State) (p v : Nat) : State :=
  let old := s.get (Obj.PT_FC_MODE p)
  if old = v then s
  else
    let x := s.port p
    let map := s.pausedMap p
    let s1 := if x.xoff ≠ 0 ∧ s.portUp p then (s.modPort p fun y => { y with xoff := 0 }).sendPause p old 0 x.xoff else s
    ((s1.modPort p fun y => { y with xoff := 0, refused := [], timers := [], loads := [], pauseDue := none }).put (Obj.PT_FC_MODE p) v).unpaused p map

/-! ### Reception (R218–R222, R417, R418, R427) -/

/-- The FCS of a received frame is correct. -/
def fcsGood (frame : Bytes) : Bool := decide (frame.drop (frame.length - 4) = fcsBytes (frame.take (frame.length - 4)))

/-- The row of R218 that a frame falls under: 0 for good, else its order. -/
def rxOrder (len maxLen : Nat) (pcsErr cut good : Bool) : Nat :=
  if pcsErr then 1
  else if cut then 2
  else if len < 64 then (if good then 3 else 4)
  else if maxLen < len then (if good then 5 else 6)
  else if good then 0
  else 7

/-- The counter of each order. -/
def rxCounter (p order : Nat) : Nat :=
  match order with
  | 1 => Obj.CTR_RX_PCS_ERR p | 2 => Obj.CTR_RX_JABBER p | 3 => Obj.CTR_RX_UNDERSIZE p | 4 => Obj.CTR_RX_FRAGMENT p
  | 5 => Obj.CTR_RX_OVERSIZE p | 6 => Obj.CTR_RX_JABBER p | 7 => Obj.CTR_RX_FCS_ERR p | _ => Obj.CTR_RX_FRAMES p

/-- The tag metadata of R221: VID, priority, whether an outer tag was recognised, and the tag's own VID. -/
def State.tagOf (s : State) (p : Nat) (w : Bytes) : Nat × Nat × Bool × Nat :=
  let tpid := u w 12 2
  if tpid = 0x8100 ∨ tpid = s.get (Obj.PT_STAG_TPID p) then
    let tci := u w 14 2
    let v := tci % 4096
    (if v = 0 then s.get (Obj.PT_PVID p) else v, (s.get (Obj.PT_PCP_MAP p) >>> (3 * (tci / 8192))) % 8, true, v)
  else (s.get (Obj.PT_PVID p), s.get (Obj.PT_DEFAULT_PRIO p), false, 0)

/-- `PT_ACCEPT` refuses the frame. -/
def State.tagRefused (s : State) (p : Nat) (tagged : Bool) (vid : Nat) : Bool :=
  let a := s.get (Obj.PT_ACCEPT p)
  (decide (a = 1) && !(tagged && decide (vid ≠ 0))) || (decide (a = 2) && tagged && decide (vid ≠ 0))

/-- A received MAC Control frame (R226): a load for the timers, or a discard. -/
def State.macControl (s : State) (p : Nat) (w : Bytes) : State :=
  let mode := s.get (Obj.PT_FC_MODE p)
  let da := u w 0 6
  let op := u w 14 2
  if ¬ s.dropPriv p ∧ (da = 0x0180C2000001 ∨ da = s.get Obj.SES_MAC_ADDR) ∧ ((mode = 1 ∧ op = 1) ∨ (mode = 2 ∧ op = 0x0101)) then
    let l : PauseLoad :=
      if mode = 1 then { at_ := s.now + 8, link := true, mask := 0, times := [u w 16 2] }
      else { at_ := s.now + 8, link := false, mask := u w 17 1, times := (upTo 8).map fun i => u w (18 + 2 * i) 2 }
    ((s.bump (Obj.CTR_RX_PAUSE p)).pmc (1024 + p / 8) 4 1).modPort p fun x => { x with loads := x.loads ++ [l] }
  else s.bump (Obj.CTR_RX_CTRL_DISCARD p)

/-- A frame for the management engine (R86, R88, R222). -/
def State.forManagement (s : State) (w : Bytes) : Bool :=
  let e := if u w 12 2 = 0x8100 then 16 else 12
  let t := u w e 2
  let ip := s.get Obj.SES_IPV4_ADDR
  let o := e + 2
  let ihl := 4 * (u w o 1 % 16)
  decide (t = 0x88B5) || (decide (t = 0x0806) && decide (u w (o + 24) 4 = ip) && decide (ip ≠ 0)) ||
    (decide (t = 0x0800) && decide (ip ≠ 0) && decide (u w (o + 16) 4 = ip) && decide (u w (o + 9) 1 = 17) && decide (u w (o + 6) 2 % 0x4000 = 0) &&
      decide (u w (o + ihl + 2) 2 = s.get Obj.SES_UDP_PORT))

/-- The instance that terminates a message of a port (R417). -/
def State.ptpTerminates (s : State) (p : Nat) (w : Bytes) (x : PtpAt) : Option Nat :=
  [0, 1].find? fun d =>
    let fits := if s.get (Obj.TIM_P_PROFILE d) = 0 then decide (x.kind = 0) && (decide (u w 0 6 = 0x011B19000000) || decide (u w 0 6 = 0x0180C200000E))
      else decide (x.kind = 1) && decide (u w (x.hdr - 12) 4 = s.get Obj.SES_IPV4_ADDR)
    decide (s.get (Obj.TIM_P_ENABLE d) = 1) && bitOf (s.ptpField p 0 1) d && decide (ptpDomain w x = s.get (Obj.TIM_P_DOMAIN d)) && fits

/-- What the receive MAC makes of a good PTP message (R411, R417, R418, R426, R427): none where it is discarded; else the frame's bytes, whether it
is bad, its destination. `base` is where it goes without PTP. -/
def State.ptpReceive (s : State) (p : Nat) (w : Bytes) (x : PtpAt) (base : RxDest) (tRx : Nat) (valid : Bool) : Option (Bytes × Bool × RxDest) × State :=
  let t := ptpType w x
  let toCmp := decide (base = .compositor)
  if ptpEvent t ∧ ¬ valid then (none, s.bump Obj.TIM_TS_INVALID)
  else if t = 2 ∨ t = 3 ∨ t = 0xA then (none, s.bump Obj.TIM_PTP_DROPPED)
  else
    let auth := authTlv w x
    match s.ptpTerminates p w x with
    | some d =>
      if t = 0xD then (none, s.bump Obj.TIM_PTP_DROPPED)
      else if ¬ [0, 1, 8, 9, 0xB, 0xC].contains t then (some (w, false, .ptp 2), s)
      else
        let need := s.get (Obj.TIM_P_AUTH d)
        match auth with
        | none => (some (w, false, .ptp (if need = 0 then d else 2)), s)
        | some (icv, spp, keyId) =>
          match s.authEntry spp keyId with
          | none => (none, s.bump Obj.TIM_AUTH_UNKNOWN)
          | some (k, page) =>
            let r := s.authCheck page w x icv
            let s1 := if r.1 then r.2 else r.2.bump Obj.TIM_AUTH_FAIL
            (some (w, false, .ptp (if r.1 ∧ (need = 0 ∨ need = k) then d else 2)), s1)
    | none =>
      if toCmp then (some (w, false, .ptp 2), s)
      else if u w 0 6 = 0x0180C200000E then (none, s.bump Obj.TIM_PTP_DROPPED)
      else if s.get Obj.TIM_TC_ENABLE = 0 then (some (w, false, base), s)
      else
        let fixed := if ptpCorrected t then addCorrection w x (-((tRx % 65536 : Nat) : Int)) else w
        match auth with
        | none => (some (fixed, false, base), s)
        | some (icv, spp, keyId) =>
          match s.authEntry spp keyId with
          | none => (none, s.bump Obj.TIM_AUTH_UNKNOWN)
          | some (_, page) =>
            let r := s.authCheck page w x icv
            (some (fixed, !r.1, base), if r.1 then r.2 else r.2.bump Obj.TIM_AUTH_FAIL)

/-- A frame enters a receive FIFO, or is refused a place (R220, R227). -/
def State.fifoPut (s : State) (p : Nat) (f : RxFrame) : State :=
  if s.fifoSize p < (s.port p).fifoBytes + s.get (Obj.PT_MAXLEN p) then
    if f.bad then s else s.bump (if f.lossless then Obj.CTR_RX_LOSSLESS_DROP p else Obj.CTR_RX_OVERFLOW_DROP p)
  else (s.modPort p fun x => { x with fifo := x.fifo ++ [f] }).xoffEval p

/-- The counters of a good frame (R218). -/
def State.countGood (s : State) (p : Nat) (frame : Bytes) : State :=
  let da := u frame 0 6
  let cast := if da = 0xFFFFFFFFFFFF then Obj.CTR_RX_BCAST p else if groupMac da then Obj.CTR_RX_MCAST p else Obj.CTR_RX_UCAST p
  (((s.bump (Obj.CTR_RX_FRAMES p)).bumpBy (Obj.CTR_RX_OCTETS p) frame.length).bump cast).pmc (1024 + p / 8) 1 1

/-- A frame at the receive MAC (R218–R222). -/
def State.macReceive (s : State) (port : Nat) (frame : Bytes) (pcsErr : Bool) (ts : RxStamp) : State :=
  let got := frame.take 10240
  let order := rxOrder got.length (s.get (Obj.PT_MAXLEN port)) pcsErr (decide (10240 < frame.length)) (fcsGood frame)
  let w := got.take (got.length - 4)
  let s1 := if order = 0 then s.countGood port frame else s.bump (rxCounter port order)
  if got.length < 64 then s1
  else if u w 12 2 = 0x8808 then (if order = 0 then s1.macControl port w else s1)
  else
    let tag := s.tagOf port w
    if s.tagRefused port tag.2.2.1 tag.2.2.2 then (if order = 0 then s1.bump (Obj.CTR_RX_TAG_DISCARD port) else s1)
    else
      let tRx := s.tRx port ts
      let ll := s.lossless port tag.2.1
      let put := fun (a : State) (b : Bytes) (bad : Bool) (dest : RxDest) =>
        a.fifoPut port { bytes := b, bad := bad, prio := tag.2.1, vid := tag.1, tagged := tag.2.2.1, lossless := ll, dest := dest, ts := tRx }
      let mac := decide (u w 0 6 = s.get Obj.SES_MAC_ADDR)
      if u w 12 2 = 0x88CC ∧ u w 0 6 = 0x0180C200000E ∧ s.get (Obj.PT_LLDP port) = 1 then
        put (if order = 0 then s1.bump (Obj.CTR_RX_LLDP port) else s1) w (decide (order ≠ 0)) .lldp
      else if mac ∧ s.forManagement w then put s1 w (decide (order ≠ 0)) .management
      else
        let base : RxDest := if mac then .compositor else .pipeline
        if order ≠ 0 then put s1 w true base
        else
          match ptpFind (s.get (Obj.PT_STAG_TPID port)) w with
          | none => put s1 w false base
          | some x =>
            let r := s1.ptpReceive port w x base tRx (s.rxValid port ts)
            match r.1 with
            | none => r.2
            | some (b, bad, dest) => put r.2 b bad dest

/-- FRAME_RX (R185, R218–R222). Under near-end loopback the receive balls are ignored and the oldest frame on the loop arrives; under far-end
loopback the balls carry the frame back. -/
def execFrameRx (port : Nat) (frame : Bytes) (pcsErr : Bool) (ts : RxStamp) (s : State) : Host.Outcome State Fault Refusal :=
  .next (if ¬ s.portUp port then (if s.farLoop port then s.emit (.frame port frame false) else s)
    else if s.nearLoop port then
      match (s.port port).loop with
      | f :: rest => (s.modPort port fun x => { x with loop := rest }).macReceive port f pcsErr ts
      | [] => s
    else s.macReceive port frame pcsErr ts)

/-! ### Low-power idle (R230) and LLDP (R231) -/

/-- `PT_LPI_TW_OWN`: what Clause 78 gives for the PHY type (Config.lpiTw). -/
def State.lpiTwOwn (s : State) (p : Nat) : Nat := Config.lpiTw (s.ptType p) % 65536

/-- `PT_LPI_TW`: the partner's larger value, or the own one. -/
def State.lpiTw (s : State) (p : Nat) : Nat := max (s.lpiTwOwn p) (s.get (Obj.PT_LPI_TW p))

/-- LPI_ENTRY (R230). -/
def execLpiEntry (port : Nat) (s : State) : Host.Outcome State Fault Refusal :=
  let x := s.port port
  let idle := x.sending.isNone && x.tx.isEmpty && x.pauseDue.isNone && x.waking.isNone && !x.txLpi && (upTo 16).all fun q => (s.queue port q).entries.isEmpty
  .next (if s.portUp port ∧ s.get (Obj.PT_LPI_ENABLE port) = 1 ∧ idle ∧ x.idleSince + nsTicks (s.get (Obj.PT_LPI_IDLE port)) ≤ s.now then
      ((s.bump (Obj.CTR_LPI_TX_ENTRIES port)).emit (.lpi port true)).modPort port fun y => { y with txLpi := true, txLpiSince := s.now }
    else s)

/-- LPI_WAKE_COMPLETE (R230): the wake time has passed; a pause frame that waited goes out. -/
def execLpiWakeComplete (port : Nat) (s : State) : Host.Outcome State Fault Refusal :=
  .next (match (s.port port).waking with
    | some t =>
      if s.now < t + usTicks (s.lpiTw port) then s
      else
        let s1 := s.modPort port fun y => { y with waking := none, idleSince := s.now }
        match (s.port port).pauseDue with
        | some left => s1.sendPause port (s.get (Obj.PT_FC_MODE port)) (s.port port).xoff left
        | none => s1
    | none => s)

/-- LPI_RX_CHANGE (R230): receive LPI is counted; after a deep-sleep wake the timestamps of the first 1 µs are invalid. -/
def execLpiRxChange (port : Nat) (lpi : Bool) (s : State) : Host.Outcome State Fault Refusal :=
  let x := s.port port
  .next (if ¬ s.portUp port ∨ x.rxLpi = lpi then s
    else if lpi then s.modPort port fun y => { y with rxLpi := true, rxLpiSince := s.now }
    else
      (s.bumpBy (Obj.CTR_LPI_RX_US port) ((s.now - x.rxLpiSince) / 800)).modPort port fun y =>
        { y with rxLpi := false, wakeTs := if lpiDeep (s.ptType port) then s.now + usTicks 1 else y.wakeTs })

/-- A TLV of IEEE 802.1AB: its type and content. -/
def lldpTlv (t : Nat) (b : Bytes) : Bytes := beBytes 2 (t * 512 + b.length) ++ b

/-- The frame that the agent sends (R231): chassis, port, time to live, the EEE TLV where LPI is enabled, and the end (PRESUMED, notes/assumptions/34). -/
def State.lldpFrame (s : State) (p : Nat) : Bytes :=
  let tw := s.lpiTw p
  let own := s.lpiTwOwn p
  let eee := if s.get (Obj.PT_LPI_ENABLE p) = 1 then
      lldpTlv 127 ([0x00, 0x12, 0x0F, 0x05] ++ beBytes 2 tw ++ beBytes 2 own ++ beBytes 2 own ++ zeros 4) else []
  beBytes 6 0x0180C200000E ++ beBytes 6 (s.get Obj.SES_MAC_ADDR) ++ beBytes 2 0x88CC ++ lldpTlv 1 (u8 4 :: beBytes 6 (s.get Obj.SES_MAC_ADDR)) ++
    lldpTlv 2 (u8 7 :: beBytes 2 p) ++ lldpTlv 3 (beBytes 2 120) ++ eee ++ lldpTlv 0 []

/-- LLDP_SEND (R231). -/
def execLldpSend (port : Nat) (s : State) : Host.Outcome State Fault Refusal :=
  let due : Bool := match (s.port port).lldpSent with | some t => decide (t + secTicks 30 ≤ s.now) | none => true
  .next (if s.portUp port ∧ s.get (Obj.PT_LLDP port) = 1 ∧ due then
      (s.modPort port fun x => { x with lldpSent := some s.now }).cmpSend port 15 (s.lldpFrame port)
    else s)

/-- The partner's receive Tw in the EEE TLV of a frame's TLVs; `n` bounds the walk. -/
def lldpEee (l : Bytes) : Nat → Option Nat
  | 0 => none
  | n + 1 =>
    let h := u l 0 2
    let len := h % 512
    if h / 512 = 0 ∨ l.length < 2 then none
    else if h / 512 = 127 ∧ 8 ≤ len ∧ u l 2 4 = 0x00120F05 then some (u l 8 2)
    else lldpEee (l.drop (2 + len)) n

/-- LLDP_RX (R231). -/
def execLldpRx (port : Nat) (s : State) : Host.Outcome State Fault Refusal :=
  .next (match (s.port port).lldpRx with
    | [] => s
    | f :: rest =>
      let s1 := s.modPort port fun x => { x with lldpRx := rest }
      match lldpEee (f.drop 14) f.length with
      | some tw => (s1.put (Obj.PT_LPI_TW port) tw).modPort port fun x => { x with lldpHeard := s.now }
      | none => s1)

/-- LLDP_TIMEOUT (R231). -/
def execLldpTimeout (port : Nat) (s : State) : Host.Outcome State Fault Refusal :=
  .next (if s.portUp port ∧ (s.port port).lldpHeard + secTicks 90 ≤ s.now then s.put (Obj.PT_LPI_TW port) 0 else s)

/-! ### Large sends (R232–R234) -/

/-- A large send's record (R232), 64 bits. -/
structure LargeRec where
  port : Nat
  queue : Nat
  l3 : Nat
  csum : Bool
  hdrLen : Nat
  l3Off : Nat
  seg : Nat
  total : Nat

/-- Parse the record. -/
def parseLarge (b : Bytes) : LargeRec :=
  let v := u b 0 8
  ⟨field v 63 54, field v 53 50, field v 49 48, bitOf v 47, field v 46 39, field v 38 31, field v 30 17, field v 16 0⟩

/-- A send the engine refuses (R234). -/
def State.largeRefused (s : State) (r : LargeRec) (t : Bytes) : Bool :=
  let o := r.l3Off
  decide (s.ptType r.port = 0) || decide (10240 < r.hdrLen + r.seg + 4) || decide (s.get (Obj.PT_MAXLEN r.port) < r.hdrLen + r.seg + 4) ||
    (decide (r.l3 = 1) && (decide (u t o 1 / 16 ≠ 4) || decide (u t (o + 6) 2 % 0x4000 ≠ 0) || decide (u t (o + 9) 1 ≠ 17) ||
      decide (r.hdrLen ≠ o + 4 * (u t o 1 % 16) + 8))) ||
    (decide (r.l3 = 2) && (decide (u t o 1 / 16 ≠ 6) || decide (u t (o + 6) 1 ≠ 17) || decide (r.hdrLen ≠ o + 48)))

/-- The checksum of a UDP datagram with its pseudo-header; a computed 0 is sent as 0xFFFF. -/
def udpChecksum (pseudo dgram : Bytes) : Nat :=
  let c := inetChecksum (pseudo ++ dgram)
  if c = 0 then 0xFFFF else c

/-- Segment i of a send (R233). -/
def segment (r : LargeRec) (t : Bytes) (i : Nat) (pay : Bytes) : Bytes :=
  let o := r.l3Off
  let ulen := 8 + pay.length
  let udp := r.hdrLen - 8
  if r.l3 = 1 then
    let ihl := 4 * (u t o 1 % 16)
    let t1 := patchBytes (patchBytes (patchBytes t (o + 2) (beBytes 2 (ihl + ulen))) (o + 4) (beBytes 2 ((u t (o + 4) 2 + i) % 65536))) (o + 10) [0, 0]
    let t2 := patchBytes t1 (o + 10) (beBytes 2 (inetChecksum (slice t1 o ihl)))
    let t3 := patchBytes (patchBytes t2 (udp + 4) (beBytes 2 ulen)) (udp + 6) [0, 0]
    let pseudo := slice t3 (o + 12) 8 ++ [0, 17] ++ beBytes 2 ulen
    let c := if r.csum then udpChecksum pseudo (t3.drop udp ++ pay) else 0
    patchBytes t3 (udp + 6) (beBytes 2 c) ++ pay
  else if r.l3 = 2 then
    let t1 := patchBytes t (o + 4) (beBytes 2 ulen)
    let t3 := patchBytes (patchBytes t1 (udp + 4) (beBytes 2 ulen)) (udp + 6) [0, 0]
    let pseudo := slice t3 (o + 8) 32 ++ beBytes 4 ulen ++ [0, 0, 0, 17]
    patchBytes t3 (udp + 6) (beBytes 2 (udpChecksum pseudo (t3.drop udp ++ pay))) ++ pay
  else t ++ pay

/-- The segments of a send from segment i on; `n` bounds their number. -/
def segmentsFrom (r : LargeRec) (t : Bytes) (i : Nat) (pay : Bytes) : Nat → List Bytes
  | 0 => []
  | n + 1 => if pay.isEmpty then [] else segment r t i (pay.take r.seg) :: segmentsFrom r t (i + 1) (pay.drop r.seg) n

/-- A large send, accepted or refused: its segments are placed in order, each when the galley admits it. -/
def State.largeSend (s : State) (r : LargeRec) (template payload : Bytes) : State :=
  let t := padTo r.hdrLen template
  let pay := padTo r.total payload
  if s.largeRefused r t then s.bump (Obj.CTR_TX_LSO_REFUSED r.port)
  else (segmentsFrom r t 0 pay pay.length).foldl (fun a f => a.cmpSend r.port r.queue f true) s

/-- LARGE_SEND (R232). A record outside its fields' ranges, or a send beyond 64 KiB, is no large send. -/
def execLargeSend (record template payload : Bytes) (s : State) : Host.Outcome State Fault Refusal :=
  let r := parseLarge record
  .next (if r.hdrLen < 14 ∨ 128 < r.hdrLen ∨ r.seg = 0 ∨ r.total = 0 ∨ 65536 < 8 + r.hdrLen + r.total ∨ 2 < r.l3 then s else s.largeSend r template payload)

/-! ### Statistics (R237) -/

/-- A START on `CTR_CLEAR` of a port. -/
def startCtrClear (s : State) (p : Nat) : Nat × State :=
  (Res.ok, (s.clearKeys (Obj.CTR_RX_FRAMES p) (Obj.CTR_CLEAR p)).runOnce (Obj.CTR_CLEAR p) Res.ok 0)

end Sys2Proof.Machine
end

