-- ==== Sys2Proof/Machine/Lanes.lean ====
section
/-! DEFINITION. Front lanes: adaptation, CDR, training, alignment, test patterns, eye scans, failure and release (07). -/

namespace Sys2Proof.Machine
open Sys2Proof

/-- `LN_MODE` (R173): the mode of the port that contains the lane; 0 in no port. -/
def State.lnMode (s : State) (n : Nat) : Nat := match s.portOfLane n with | some p => ptMode (s.ptType p) | none => 0

/-- `LN_FEC` (R173). -/
def State.lnFec (s : State) (n : Nat) : Nat := match s.portOfLane n with | some p => s.ptFec p | none => 0

/-- A PAM4 mode (R172). -/
def pam4 (mode : Nat) : Bool := decide (3 ≤ mode)

/-- The lane runs: it has a mode, its octet is in service, and it is not failed and held (R21, R69, R173, R190, R206). -/
def State.laneOn (s : State) (n : Nat) : Bool :=
  decide (n < 1024) && decide (s.lnMode n ≠ 0) && s.inService && !(s.octetGated (n / 8)) && !(s.octetShed (n / 8)) && decide ((s.lane n).failCause = 0)

/-- The receiver has something to receive: signal at its balls, or the serialiser of its own macro under loopback 1 (R185). -/
def State.rxOn (s : State) (n : Nat) : Bool := (s.lane n).signal || decide (s.get (Obj.LN_LOOPBACK n) = 1)

/-- Judge the link of the port that contains a lane. -/
def State.laneEval (s : State) (n : Nat) : State := match s.portOfLane n with | some p => s.linkEval p | none => s

/-- The lane goes back to the start of adaptation (R173, R178, R186). -/
def State.readapt (s : State) (n : Nat) : State := (s.stopLane n).laneEval n

/-- SIGNAL_DETECT (R178): initial adaptation starts. -/
def execSignalDetect (lane : Nat) (s : State) : Host.Outcome State Fault Refusal :=
  .next (if 1024 ≤ lane ∨ (s.lane lane).signal then s
    else
      let s1 := s.modLane lane fun l => { l with signal := true }
      if s.get (Obj.LN_LOOPBACK lane) = 1 ∨ s.get (Obj.LN_LOOPBACK lane) = 2 then s1 else s1.readapt lane)

/-- SIGNAL_LOSS (R178): the lane is down and adaptation restarts with the next signal. Loopbacks 1 and 2 ignore the balls (R185). -/
def execSignalLoss (lane : Nat) (s : State) : Host.Outcome State Fault Refusal :=
  .next (if 1024 ≤ lane then s
    else
      let s1 := s.modLane lane fun l => { l with signal := false }
      if s.get (Obj.LN_LOOPBACK lane) = 1 ∨ s.get (Obj.LN_LOOPBACK lane) = 2 then s1 else s1.readapt lane)

/-- ADAPTATION_COMPLETE (R178). -/
def execAdaptationComplete (lane ctle snr : Nat) (s : State) : Host.Outcome State Fault Refusal :=
  .next (if ¬ s.laneOn lane ∨ ¬ s.rxOn lane ∨ (s.lane lane).adapted then s
    else
      let s1 := ((s.modLane lane fun l => { l with adapted := true, adaptedAt := s.now }).put (Obj.LN_RX_CTLE lane) (min 48 ctle)).put (Obj.LN_RX_SNR lane) (snr % 65536)
      if s1.isBusy (Obj.LN_ADAPT lane) then s1.runEnd (Obj.LN_ADAPT lane) Res.ok 0 else s1)

/-- CONTINUOUS_ADAPTATION (R178): while the lane is locked, no more often than each 100 µs, no step above 0.2 ps. -/
def execContinuousAdaptation (lane ctle snr stepFs : Nat) (s : State) : Host.Outcome State Fault Refusal :=
  .next (if ¬ s.laneOn lane ∨ ¬ (s.lane lane).cdr ∨ ¬ (s.lane lane).adapted ∨ s.now < (s.lane lane).adaptedAt + usTicks 100 ∨ 200 < stepFs then s
    else (((s.pmc (1024 + lane / 8) 5 1).modLane lane fun l => { l with adaptedAt := s.now }).put (Obj.LN_RX_CTLE lane) (min 48 ctle)).put (Obj.LN_RX_SNR lane) (snr % 65536))

/-- The limits of R176 on six taps, byte k carrying c(k−3). -/
def ffeOk (taps : Bytes) : Bool :=
  let c := fun (i : Nat) => toSigned 8 (u taps i 1)
  decide (taps.length = 6) && decide (16 ≤ c 3 ∧ c 3 ≤ 64) &&
    ([0, 1, 2, 4, 5].all fun i => decide (-32 ≤ c i ∧ c i ≤ 32)) && decide (((upTo 6).map fun i => (c i).natAbs).foldl (· + ·) 0 ≤ 64)

/-- LINK_TRAINING_END (R177): the taps trained, within the limits of R176; or a failure, retried 1 s later. -/
def execLinkTrainingEnd (lane : Nat) (ok : Bool) (taps : Bytes) (s : State) : Host.Outcome State Fault Refusal :=
  let l := s.lane lane
  .next (if ¬ s.laneOn lane ∨ s.get (Obj.LN_EQ_MODE lane) ≠ 1 ∨ l.trainDone ∨ l.retryAt.isSome then s
    else if ok then
      if ffeOk taps then (s.modLane lane fun x => { x with trainDone := true }).put (Obj.LN_TX_FFE_ACTIVE lane) (beNat taps) else s
    else s.modLane lane fun x => { x with retryAt := some (s.now + secTicks 1) })

/-- LINK_TRAINING_RETRY (R177): 1 s after a failed training it begins again. -/
def execLinkTrainingRetry (lane : Nat) (s : State) : Host.Outcome State Fault Refusal :=
  .next (match (s.lane lane).retryAt with
    | some t => if t ≤ s.now then s.modLane lane fun x => { x with retryAt := none } else s
    | none => s)

/-- `LN_TX_FFE_ACTIVE` (R177). -/
def State.ffeActive (s : State) (n : Nat) : Nat :=
  if s.get (Obj.LN_EQ_MODE n) = 1 ∧ (s.lane n).trainDone then s.get (Obj.LN_TX_FFE_ACTIVE n) else s.get (Obj.LN_TX_FFE n)

/-- CDR_LOCK (R180): the phase accumulator is set to 0. Under loopback 2 the CDR is idle (R186). -/
def execCdrLock (lane : Nat) (s : State) : Host.Outcome State Fault Refusal :=
  .next (if ¬ s.laneOn lane ∨ ¬ s.rxOn lane ∨ ¬ (s.lane lane).adapted ∨ (s.lane lane).cdr ∨ s.get (Obj.LN_LOOPBACK lane) = 2 then s
    else ((s.modLane lane fun l => { l with cdr := true, over200 := false }).put (Obj.LN_CDR_PHASE lane) 0).laneEval lane)

/-- Every lane of a port loses PCS lock. -/
def State.losePcs (s : State) (p : Nat) : State :=
  ((s.ptLaneList p).foldl (fun a n => a.modLane n fun l => { l with pcs := false }) s).linkEval p

/-- The CDR of a lane loses lock (R179, R189): the lane goes down like any link loss; an eye scan ends. -/
def State.loseCdr (s : State) (n : Nat) : State :=
  if ¬ (s.lane n).cdr then s
  else
    let s1 := if (s.lane n).eye.isSome then ((s.put (Obj.LN_EYE_RESULT n) 0).runEnd (Obj.LN_EYE_RUN n) Res.badState 1) else s
    let s2 := s1.modLane n fun l => { l with cdr := false, pcs := false, over200 := false, eye := none }
    match s2.portOfLane n with
    | some p => s2.losePcs p
    | none => s2

/-- CDR_LOCK_LOSS (R179). -/
def execCdrLockLoss (lane : Nat) (s : State) : Host.Outcome State Fault Refusal := .next (s.loseCdr lane)

/-- Where an offset lies: below −200 ppm, between, or above (R179). -/
def ppmRegion (ppm : Int) : Int := if ppm < -20000 then -1 else if 20000 < ppm then 1 else 0

/-- PPM_UPDATE (R179, R180, R208): the offset, the accumulator, each crossing of ±200 ppm, and the loss of lock beyond ±250 ppm. -/
def execPpmUpdate (lane : Nat) (ppm : Int) (steps : Nat) (s : State) : Host.Outcome State Fault Refusal :=
  .next (if ¬ s.laneOn lane ∨ ¬ (s.lane lane).cdr then s
    else
      let old := if (s.lane lane).over200 then ppmRegion (toSigned 32 (s.get (Obj.LN_RX_PPM lane))) else 0
      let s1 := (s.put (Obj.LN_RX_PPM lane) (ofSigned 32 ppm)).put (Obj.LN_CDR_PHASE lane) ((s.get (Obj.LN_CDR_PHASE lane) + steps) % 2 ^ 32)
      let s2 := s1.modLane lane fun l => { l with over200 := decide (ppmRegion ppm ≠ 0) }
      let s3 := (upTo (ppmRegion ppm - old).natAbs).foldl (fun a _ =>
        a.report { src := lane / 8, cls := Cls.info, cause := 0x11, tile := lane % 8 }) s2
      if 25000 < ppm.natAbs then s3.loseCdr lane else s3)

/-- PCS_LOCK_ACQUIRED (R181, R215): every lane of a port has block, FEC and alignment lock. -/
def execPcsLockAcquired (port : Nat) (s : State) : Host.Outcome State Fault Refusal :=
  let lanes := s.ptLaneList port
  let ready := fun (n : Nat) => s.laneOn n && ((s.lane n).cdr || decide (s.get (Obj.LN_LOOPBACK n) = 2)) &&
    (decide (s.get (Obj.LN_EQ_MODE n) ≠ 1) || (s.lane n).trainDone || decide (s.get (Obj.LN_LOOPBACK n) ≠ 0))
  .next (if s.ptType port = 0 ∨ ¬ (lanes.all ready) then s
    else
      let s1 := lanes.foldl (fun a n => a.modLane n fun l => { l with pcs := true, flap := if (s.port port).up then 0 else l.flap }) s
      s1.linkEval port)

/-- ALIGNMENT_LOSS (R181): a change of skew above 4 ns loses alignment lock; the loss is counted as a flap. -/
def execAlignmentLoss (port skewPs : Nat) (s : State) : Host.Outcome State Fault Refusal :=
  .next (if ptLanes (s.ptType port) < 2 ∨ skewPs ≤ 4000 ∨ ¬ (s.ptLaneList port).all (fun n => (s.lane n).pcs) then s
    else (s.countFlap port 2).losePcs port)

/-- Codes that a lane's mode allows (R182). -/
def prbsAllowed (mode code : Nat) : Bool := decide (code ≤ 6) || decide (code = 10) || (decide (code ≤ 9) && pam4 mode)

/-- PRBS_LOCK_CHANGE (R183): lock gained, or lost with what was counted while it held. Code 10 is never checked. -/
def execPrbsLockChange (lane : Nat) (lock : Bool) (bits errors : Nat) (s : State) : Host.Outcome State Fault Refusal :=
  let code := s.get (Obj.LN_PRBS_RX lane)
  .next (if 1024 ≤ lane ∨ code = 0 ∨ code = 10 then s
    else
      let was := s.get (Obj.LN_PRBS_LOCK lane)
      let s1 := if was = 1 then (s.bumpBy (Obj.LN_PRBS_BITS lane) bits).bumpBy (Obj.LN_PRBS_ERRORS lane) (min errors bits) else s
      s1.put (Obj.LN_PRBS_LOCK lane) (b2n lock))

/-! ### Failure and release (R190, R191) -/

/-- A lane is declared failed: held down, LINK, and a failure event of its octet. -/
def State.failLane (s : State) (n cause : Nat) : State :=
  if (s.lane n).failCause ≠ 0 then s
  else
    let s1 := (s.stopLane n).modLane n fun l => { l with failCause := cause }
    let s2 := match s1.portOfLane n with
      | some p => (s1.losePcs p).linkDown p
      | none => s1
    (s2.latch Attn.link).report { src := n / 8, cls := Cls.failure, cause := 0x10, detail := cause, tile := n % 8 }

/-- LANE_FAILURE (R190): a cause on a lane; cause 2 on every lane of the octet on that PLL; cause 4 from the flap record. -/
def execLaneFailure (lane cause : Nat) (s : State) : Host.Outcome State Fault Refusal :=
  let flaps := (s.lane lane).flaps.filter fun t => decide (s.now < t + secTicks 60)
  .next (if 1024 ≤ lane ∨ s.lnMode lane = 0 ∨ cause = 0 ∨ 4 < cause ∨ (cause = 4 ∧ flaps.length < 8) then s
    else if cause = 2 then
      ((upTo 8).map (8 * (lane / 8) + ·)).foldl (fun a n =>
        if a.lnMode n ≠ 0 ∧ pam4 (a.lnMode n) = pam4 (s.lnMode lane) then a.failLane n 2 else a) s
    else s.failLane lane cause)

/-- START on `LN_RELEASE` (R191): the test of the cause; that of cause 4 always passes. -/
def startLnRelease (s : State) (n : Nat) (gone : Bool) : Nat × State :=
  let key := Obj.LN_RELEASE n
  let cause := (s.lane n).failCause
  if cause = 0 then (Res.ok, s.runOnce key Res.ok 0)
  else if ¬ gone ∧ cause ≠ 4 then (Res.ok, s.runOnce key Res.causePresent 0)
  else
    let src := n / 8
    let s1 := ((s.modLane n fun l => { l.restart with failCause := 0, flaps := [] }).laneEval n).causeEnds s src 0x10
    let st := (s1.source src).status
    let s2 := if (st = 1 ∨ st = 2) ∧ ¬ s1.causePresent src then s1.clearSource src else s1
    (Res.ok, s2.runOnce key Res.ok 0)

/-- START on `LN_ADAPT` (R178): the adapted state is discarded and the lane adapts again; a lane of mode 0 has nothing to adapt. -/
def startLnAdapt (s : State) (n : Nat) : Nat × State :=
  let key := Obj.LN_ADAPT n
  if s.lnMode n = 0 then (Res.ok, s.runOnce key Res.badState 0)
  else
    let s1 := (s.runBegin key).readapt n
    (Res.ok, match s1.portOfLane n with | some p => s1.linkDown p | none => s1)

/-! ### Eye scan (R187–R189) -/

/-- START on `LN_EYE_RUN` (R188, R189). -/
def startLnEyeRun (s : State) (n : Nat) : Nat × State :=
  if (upTo 8).any (fun i => (s.lane (8 * (n / 8) + i)).eye.isSome) then (Res.busy, s)
  else if s.lnMode n = 0 ∨ s.get (Obj.LN_LOOPBACK n) = 2 ∨ ¬ (s.lane n).cdr then (Res.badState, s)
  else
    let e : EyeScan := ⟨s.get (Obj.LN_EYE_MODE n), s.get (Obj.LN_EYE_LEN n), s.get (Obj.LN_EYE_BER n), true, 0, 0, 0, false, 0, false⟩
    (Res.ok, (((s.runBegin (Obj.LN_EYE_RUN n)).put (Obj.LN_EYE_RESULT n) 0).put (Obj.LN_EYE_COUNT n) 0).modLane n fun l => { l with eye := some e })

/-- The result word of a sweep (R188). -/
def EyeScan.result (e : EyeScan) : Nat := ofSigned 8 e.low + 2 ^ 8 * ofSigned 8 e.high + 2 ^ 16 * b2n e.centre

/-- A point passes at the threshold (R187). -/
def EyeScan.passes (e : EyeScan) (errors : Nat) : Bool := decide (errors ≤ 2 ^ e.len / 10 ^ e.ber)

/-- The largest offset of a sweep in its present direction (R187): phase −32 to 31, voltage −64 to 63. -/
def EyeScan.limit (e : EyeScan) : Int :=
  let m : Int := if e.mode = 1 then 32 else 64
  if e.dirUp then m - 1 else -m

/-- The sweep after a point: the next point, or none when it is over. -/
def EyeScan.advance (e : EyeScan) (errors : Nat) : EyeScan × Bool :=
  let ok := e.passes errors
  let e1 := { e with count := e.count + 2 ^ e.len }
  if e.offset = 0 ∧ ¬ e.centre then
    if ok then ({ e1 with centre := true, offset := 1, dirUp := true }, false) else (e1, true)
  else
    let e2 := if ok then (if e.dirUp then { e1 with high := e.offset } else { e1 with low := e.offset }) else e1
    if ok ∧ e.offset ≠ e.limit then ({ e2 with offset := if e.dirUp then e.offset + 1 else e.offset - 1 }, false)
    else if e.dirUp then ({ e2 with dirUp := false, offset := -1 }, false)
    else (e2, true)

/-- EYE_SCAN_POINT_COMPLETE (R188, R189). -/
def execEyeScanPointComplete (lane errors : Nat) (s : State) : Host.Outcome State Fault Refusal :=
  .next (match (s.lane lane).eye with
    | none => s
    | some e =>
      let errs := min errors (2 ^ e.len)
      let finish := fun (x : EyeScan) (result : Nat) =>
        (((s.put (Obj.LN_EYE_RESULT lane) result).put (Obj.LN_EYE_COUNT lane) x.count).modLane lane fun l => { l with eye := none }).runEnd
          (Obj.LN_EYE_RUN lane) (if x.abort then Res.aborted else Res.ok) 0
      if e.mode = 0 then finish { e with count := 2 ^ e.len } (errs % 2 ^ 40)
      else
        let r := e.advance errs
        if r.2 ∨ e.abort then finish r.1 r.1.result
        else (s.put (Obj.LN_EYE_COUNT lane) r.1.count).modLane lane fun l => { l with eye := some r.1 })

end Sys2Proof.Machine
end

