-- ==== Sys2Proof/Machine/DieLinks.lean ====
section
/-! DEFINITION. The die-links: slot format, markers and replicas, control cells, start-up training, margin, repair (07, R404). -/

namespace Sys2Proof.Machine
open Sys2Proof

/-! ### Slot format (R193–R195) -/

/-- The bits of a byte string in the order sent: most significant first. -/
def wireBits (l : Bytes) : List Bool := l.flatMap fun b => (bitsLsb b).reverse

/-- Bits, first most significant, as a number. -/
def bitsNat (l : List Bool) : Nat := l.foldl (fun a b => 2 * a + b2n b) 0

/-- Remove the stuffed bits (R195): the first `need` slot bits, or none on a stuffing violation. `run` identical bits end in `last`. -/
def destuff (last : Bool) (run need : Nat) : List Bool → Option (List Bool)
  | [] => if need = 0 then some [] else none
  | b :: t =>
    if need = 0 then some []
    else if run = 63 then (if b = last then none else destuff last 0 need t)
    else
      let run' := if run ≠ 0 ∧ b = last then run + 1 else 1
      (destuff b run' (need - 1) t).map fun r => b :: r

/-- The generator x³¹ + x²⁸ + 1 advanced by one bit: the bit, and the register (R194; DEDUCED, notes/assumptions/35). -/
def scrBit (r : Nat) : Bool × Nat :=
  let b := xor (r.testBit 30) (r.testBit 27)
  (b, (2 * r + b2n b) % 2 ^ 31)

/-- The generator advanced by `n` bits. -/
def scrSkip (r : Nat) : Nat → Nat
  | 0 => r
  | n + 1 => scrSkip (scrBit r).2 n

/-- Scrambling added to or removed from bits. -/
def scramble (r : Nat) : List Bool → List Bool × Nat
  | [] => ([], r)
  | b :: t =>
    let x := scrBit r
    let rest := scramble x.2 t
    ((xor b x.1) :: rest.1, rest.2)

/-- CRC-8 of the slot header: x⁸ + x² + x + 1, initial value 0, most significant bit first (R193). -/
def crc8 (reg : Nat) : List Bool → Nat
  | [] => reg
  | b :: t => crc8 ((2 * reg) % 256 ^^^ (7 * ((reg / 128 + b2n b) % 2))) t

/-- A slot as the receive end reads it. -/
structure LinkSlot where
  syncOk : Bool
  marker : Bool
  ok : Bool
  mkBit : Bool
  body : Nat
  scr : Nat

/-- Receive a slot on a physical lane whose generator stands at `scr` (R193–R195). -/
def readSlot (lane scr : Nat) (wire : Bytes) : LinkSlot :=
  let bits := wireBits wire
  let sync := bits.take 2
  let marker := decide (sync = [false, true])
  let syncOk := marker || decide (sync = [true, false])
  match destuff false 0 1016 bits with
  | none =>
    let r1 := scrSkip scr 14
    ⟨syncOk, marker, false, false, 0, scrSkip (if marker then lane + 1 else r1) 1000⟩
  | some sb =>
    let h := scramble scr ((sb.drop 2).take 14)
    let b := scramble (if marker then lane + 1 else h.2) (sb.drop 16)
    let want := crc8 0 (h.1.take 6 ++ b.1)
    ⟨syncOk, marker, decide (bitsNat (h.1.drop 6) = want), (h.1.drop 4).head?.getD false, bitsNat b.1, b.2⟩

/-! ### Maps (R192, R201, R204) -/

/-- Distance of two physical lanes. -/
def laneDist (a b : Nat) : Nat := (a - b) + (b - a)

/-- The spare for a lane (R204): its own group's, else the nearest free one, the lower on a tie. -/
def State.spareFor (s : State) (q dir p : Nat) : Option Nat :=
  let free := s.freeSpares q dir
  let own := 27 * (p / 27) + 26
  if free.contains own then some own
  else free.foldl (fun b x => match b with
    | some y => if laneDist x p < laneDist y p then some x else some y
    | none => some x) none

/-- The physical lane that carries a logical lane. -/
def State.carrier (s : State) (q dir l : Nat) : Option Nat :=
  (upTo 432).find? fun p => decide ((s.dlane q dir p).logical = some l) && decide ((s.dlane q dir p).state = 0)

/-- The logical lanes of an octet that are mapped in a direction. -/
def State.mappedLanes (s : State) (q dir o : Nat) : Nat :=
  ((upTo 432).filter fun p => match (s.dlane q dir p).logical with | some l => decide (l / 26 = o) && decide ((s.dlane q dir p).state = 0) | none => false).length

/-- An octet switched on with fewer than 26 mapped logical lanes is disabled (R206). -/
def State.octetOn (s : State) (o : Nat) : State :=
  if s.mappedLanes (o / 16) 0 (o % 16) < 26 ∨ s.mappedLanes (o / 16) 1 (o % 16) < 26 then s.shedOctet (o / 16) (o % 16) else s

/-- `QD_LAST_REPAIR` and its time (R210). -/
def State.lastRepair (s : State) (q reason dir logical p dest : Nat) : State :=
  (s.put (Obj.QD_LAST_REPAIR q) ((reason * 2 ^ 56) + dir * 2 ^ 48 + logical * 2 ^ 32 + p * 2 ^ 16 + dest)).put (Obj.QD_LAST_REPAIR_TIME q) s.uptime

/-- A lane leaves service for good (R201). -/
def State.retireLane (s : State) (q dir p : Nat) : State := s.modDlane q dir p fun d => { d with state := 3, logical := none }

/-- A spare is retired (R203, R210). -/
def State.retireSpare (s : State) (q dir p reason : Nat) : State :=
  let src := 128 + 2 * q + dir
  ((s.retireLane q dir p).modSource src fun x => { x with trackers := x.trackers.filter fun (t : Tracker) => decide (t.tile ≠ dir * 32768 + p) }).lastRepair q
    reason dir 0xFFFF p 0xFFFF

/-! ### Start-up training (R200, R201) -/

/-- The stored map entry of a lane: state × 512 + logical + 1. -/
def homeCode (lane : Nat) : Nat := if lane % 27 < 26 then 26 * (lane / 27) + lane % 27 + 1 else 512

/-- A lane as the stored map leaves it. -/
def dlaneOfCode (c : Nat) : DLane := { state := c / 512, logical := if c % 512 = 0 then none else some (c % 512 - 1) }

/-- Steps 2 and 4 for one direction of a quoin: the stored map, the lanes that fail the test, and the logical lanes placed. -/
def State.mapDirection (s : State) (q dir : Nat) (stored : List (Nat × Nat)) (bad : List Nat) : State :=
  let base := q * 864 + dir * 432
  let gated := fun (o : Nat) => octBit 16 (smGet 0 (if s.store.active = 0 then s.store.bankA.dictImage else s.store.bankB.dictImage) Obj.PWR_GATE_OCTETS) (16 * q + o)
  -- the stored map; a lane retired before the reset stays retired
  let s1 := (upTo 432).foldl (fun (a : State) p =>
    let c := smGet (homeCode p) stored (base + p)
    let d := a.dlane q dir p
    if d.state = 3 ∨ c = homeCode p then a else a.modDlane q dir p fun _ => dlaneOfCode c) s
  -- an octet with no lane in the stored map was disabled (R206)
  let empty := (upTo 16).filter fun o => decide (stored ≠ []) && decide (((upTo 432).filter fun p => decide (26 * o + 1 ≤ smGet (homeCode p) stored (base + p) % 512) && decide (smGet (homeCode p) stored (base + p) % 512 ≤ 26 * o + 26)).length = 0)
  let s2 := empty.foldl (fun a o => a.shedOctet q o) s1
  let s3 := (bad.filter fun k => decide (base ≤ k) && decide (k < base + 432)).foldl (fun (a : State) k => a.retireLane q dir (k - base)) s2
  -- logical lanes without a carrier, in rising order
  (upTo 416).foldl (fun (a : State) l =>
    let o := l / 26
    if bitOf (a.get (Obj.QD_OCTETS_SHED q)) o ∨ (a.carrier q dir l).isSome then a
    else
      let home := 27 * o + l % 26
      match a.spareFor q dir home with
      | some x => ((a.modDlane q dir x fun d => { d with state := 0, logical := some l }).lastRepair q 5 dir l home x).bump (Obj.QD_REPAIRS q)
      | none => if gated o then a else a.shedOctet q o) s3

/-- DIE_LINK_TRAINING (R200): phase 5 of start-up. -/
def execDieLinkTraining (bad closed skew : List Nat) (s : State) : Host.Outcome State Fault Refusal :=
  .next (if s.boot.phase ≠ .links then s
    else
      let stored := if s.store.active = 0 then s.store.bankA.calib.linkMap else s.store.bankB.calib.linkMap
      let one := fun (a : State) (q : Nat) =>
        let keep := fun (m : List (Nat × Nat)) => m.filter fun (e : Nat × Nat) => decide (e.1 / 864 = q)
        let a1 := (a.mapDirection q 0 (keep stored) bad).mapDirection q 1 (keep stored) bad
        let a2 := a1.put (Obj.QD_SKEW_MAX q) (min 65535 (listAt 0 skew q))
        if closed.contains q then (a2.modLink q fun l => { l with state := 4 }).failureOf (144 + q) 0x16 0
        else (a2.modLink q fun l => { l with state := 2 }).putBit Obj.TIM_REPLICA_VALID q true
      let s1 := (upTo 8).foldl one s
      { s1 with boot := { s1.boot with phase := .selfTest } })

/-! ### Calls for repair (R203, R205) -/

/-- The running repair goes back to step 2 (R205): its spare leaves service. -/
def State.restartRepair (s : State) (q : Nat) (r : LinkRepair) (reason : Nat) : State :=
  let s1 := (s.retireSpare q r.dir r.s reason).modLink q fun l => { l with repair := none }
  { s1 with flt := { s1.flt with repairs := s1.flt.repairs.map fun x => if x.stack = 3 + q then { x with begun := false } else x } }

/-- A lane's tracker would make its source severe. -/
def State.laneFull (s : State) (src tile : Nat) : Bool :=
  let cfg := s.srcCfg src
  (addStamp s.now cfg.window (s.source src).trackers tile none false).any fun (t : Tracker) =>
    decide (t.tile = tile) && decide (cfg.n ≤ (freshStamps s.now cfg.window t).length)

/-- An event of a die-link lane (R202, R203): a CRC failure, or a call for repair, which is immediate. -/
def State.linkEvent (s : State) (q dir p cause : Nat) (immediate : Bool) : State :=
  let src := 128 + 2 * q + dir
  let tile := dir * 32768 + p
  let d := s.dlane q dir p
  let rep : Report := { src := src, cls := Cls.failure, cause := cause, tile := tile, immediate := immediate }
  let reason := linkReason cause
  if d.state = 1 then
    -- an idle spare is retired, without a rung
    if immediate ∨ s.laneFull src tile then (s.report { rep with stamp := false, immediate := false }).retireSpare q dir p reason else s.report rep
  else if d.state = 2 then
    match (s.link q).repair with
    | some r => (s.report { rep with stamp := false, immediate := false }).restartRepair q r reason
    | none => s
  else if d.state = 0 ∧ d.logical.isSome then
    let was := (s.source src).status
    let calls := immediate || s.laneFull src tile
    let s1 := s.report rep
    -- a lane that calls while its source reacts to another waits for its stack (R39, R205)
    if was = 3 ∧ calls ∧ ¬ (s1.flt.repairs.any fun x => decide (x.kind = .dieLink q dir p)) then
      { s1 with flt := { s1.flt with repairs := s1.flt.repairs ++ [Repair.mk (3 + q) (some src) (.dieLink q dir p) reason s.now false] } }
    else s1
  else s

/-- DIE_LINK_LOCK_LOSS (R29, R203, R205): one lane, or the whole die-link of the quoin. -/
def execDieLinkLockLoss (q dir lane : Nat) (whole : Bool) (s : State) : Host.Outcome State Fault Refusal :=
  .next (if (s.link q).state ≠ 2 ∨ 8 ≤ q ∨ 2 ≤ dir ∨ 432 ≤ lane then s
    else if whole then ((s.modLink q fun l => { l with state := 4 }).failureOf (144 + q) 0x16 0).holdCheckAll
    else if ¬ (s.dlane q dir lane).locked ∨ (s.dlane q dir lane).state = 3 then s
    else (s.modDlane q dir lane fun d => { d with locked := false, goodSync := 0, misSync := 0 }).linkEvent q dir lane 0x14 true)

/-- MARGIN_MEASURE (R203): a margin below the threshold for 10 ms calls for repair. -/
def execMarginMeasure (q dir lane margin : Nat) (s : State) : Host.Outcome State Fault Refusal :=
  let d := s.dlane q dir lane
  .next (if (s.link q).state ≠ 2 ∨ 8 ≤ q ∨ 2 ≤ dir ∨ 432 ≤ lane ∨ 3 ≤ d.state then s
    else
      let m := min 255 margin
      if s.get (Obj.QD_MARGIN_THRESH q) ≤ m then s.modDlane q dir lane fun x => { x with margin := some m, lowSince := none }
      else
        let since := d.lowSince.getD s.now
        if s.now < since + msTicks 10 then s.modDlane q dir lane fun x => { x with margin := some m, lowSince := some since }
        else (s.modDlane q dir lane fun x => { x with margin := some m, lowSince := some s.now }).linkEvent q dir lane 0x13 true)

/-- The margin of a lane: measured, or that of the start-up test (R200, R203). -/
def State.laneMargin (s : State) (q dir p : Nat) : Nat := ((s.dlane q dir p).margin).getD (12 + Config.trainMargin (q * 864 + dir * 432 + p) % 244)

/-! ### Markers and replicas (R196, R404) -/

/-- A replica compared with the FRC: `e` turns its count into the FRC's (R30, R404, R410). -/
def State.comparePhase (s : State) (q : Nat) (e : Int) : State :=
  let set_ := fun (a : State) (v : Int) => { a with tim := { a.tim with phase := smSet 0 a.tim.phase q v } }
  if ¬ bitOf (s.get Obj.TIM_REPLICA_VALID) q then
    -- reloaded at this record
    (((set_ s 0).putBit Obj.TIM_REPLICA_VALID q true).timeEvent 7 q 0 s.frc 0).causeEnds s (144 + q) 0x17
  else if 81920 ≤ e.natAbs then
    (((set_ s e).putBit Obj.TIM_REPLICA_VALID q false).timeEvent 6 q 0 s.frc (nsValue (-e))).failureOf (144 + q) 0x17 0
  else set_ s e

/-- A complete marker record of a lane (R196). -/
def State.acceptMarker (s : State) (q dir lane : Nat) : State :=
  let d := s.dlane q dir lane
  let stamp := d.marker % 2 ^ 64
  let s1 := s.modLink q fun l => { l with sfCount := d.marker / 2 ^ 64 % 2 ^ 32, stampUp := if dir = 0 then stamp else l.stampUp, stampDown := if dir = 1 then stamp else l.stampDown }
  let diff := toSigned 64 ((d.own + 2 ^ 64 - stamp) % 2 ^ 64)
  s1.comparePhase q (if dir = 0 then diff else -diff)

/-! ### Slots (R193–R202) -/

/-- The front lane whose body a slot of logical lane `l` carries (R193, R198). -/
def ownerOf (q l slot : Nat) : Nat := 128 * q + 8 * (l / 26) + (26 * (slot % 4) + l % 26) % 8

/-- A body is lost (R202): the frame of the front lane that owns it is in error. -/
def State.bodyLost (s : State) (q dir lane slot : Nat) : State :=
  match (s.dlane q dir lane).logical with
  | none => s
  | some l =>
    let front := ownerOf q l slot
    let s1 := (s.bump (Obj.QD_LOST_SLOTS q)).modLink q fun k =>
      if dir = 0 then { k with resendUp := max 1 k.resendUp } else { k with resendDown := max 1 k.resendDown }
    match s1.portOfLane front with
    | none => s1
    | some p =>
      if dir = 0 then
        match (s1.port p).writing with
        | some w => if w.bad then s1 else (s1.modPort p fun x => { x with writing := some { w with bad := true } }).bump (Obj.CTR_RX_FCS_ERR p)
        | none => s1
      else
        match (s1.port p).sending, (s1.port p).tx with
        | some f, _ => s1.modPort p fun x => { x with sending := some { f with stomp := true } }
        | none, f :: rest => (s1.modPort p fun x => { x with tx := rest }).dropTx p f
        | none, [] => s1

/-- A body carries data while its port has a frame under way in that direction (R198; DEDUCED, notes/assumptions/52). -/
def State.bodyCarries (s : State) (q dir lane slot : Nat) : Bool :=
  match (s.dlane q dir lane).logical with
  | none => false
  | some l =>
    match s.portOfLane (ownerOf q l slot) with
    | none => false
    | some p => if dir = 0 then (s.port p).writing.isSome else (s.port p).sending.isSome || !(s.port p).tx.isEmpty

/-- Bodies that carry data, for the counter set of the quoin: sent up, and received down (ch 13). -/
def State.countBody (s : State) (q dir lane slot : Nat) (ok : Bool) : State :=
  if ¬ s.bodyCarries q dir lane slot then s
  else if dir = 0 then s.pmc (1152 + q) 1 1
  else if ok then s.pmc (1152 + q) 2 1 else s

/-- Without block lock: it returns after 64 consecutive slots with a correct SYNC (R200). -/
def State.slotUnlocked (s : State) (q dir lane slot : Nat) (x : LinkSlot) : State :=
  let d := s.dlane q dir lane
  let good := if x.syncOk then d.goodSync + 1 else 0
  let s1 := s.modDlane q dir lane fun y =>
    { y with scr := x.scr, slot := slot, goodSync := if good = 64 then 0 else good, locked := decide (good = 64), markerOk := false }
  if d.state = 0 then s1.bodyLost q dir lane slot else s1

/-- What a slot leaves in the lane's record: its place, its counts, its marker bits; `mis` false SYNCs of the window so far (R195, R196, R200). -/
def slotTaken (y : DLane) (x : LinkSlot) (slot own mis : Nat) : DLane :=
  let window := decide (y.goodSync = 63)
  let inRecord := decide (slot < 128)
  { y with
    scr := x.scr, slot := slot, badSlot := !x.ok
    crcErrors := if x.ok then y.crcErrors else (y.crcErrors + 1) % 2 ^ 32
    own := if slot = 0 then own else y.own
    marker := if inRecord then (if slot = 0 then b2n x.mkBit else 2 * y.marker + b2n x.mkBit) % 2 ^ 128 else y.marker
    markerOk := if slot = 0 then x.ok else if inRecord then y.markerOk && x.ok else y.markerOk
    misSync := if window then 0 else mis, goodSync := if window then 0 else y.goodSync + 1
    locked := decide (mis < 4) }

/-- The repair that mirrors a lane now (R204). -/
def State.mirrorOf (s : State) (q dir lane : Nat) : Option LinkRepair :=
  match (s.link q).repair with
  | some r => if r.stage = .mirroring ∧ r.dir = dir ∧ (lane = r.p ∨ lane = r.s) then some r else none
  | none => none

/-- A body of a mirror that passed its CRC, against the other lane's body of the same slot: the bodies wait for each other by slot, and two that
differ are a mirror mismatch (R204). -/
def LinkRepair.pair (r : LinkRepair) (lane slot body : Nat) : Bool × LinkRepair :=
  match r.held with
  | some (l, k, b) => if l ≠ lane ∧ k = slot then (decide (b ≠ body), { r with held := none }) else (false, { r with held := some (lane, slot, body) })
  | none => (false, { r with held := some (lane, slot, body) })

/-- A slot whose CRC passes: on a lane of a mirror its body is compared, and on the spare it is counted (R204). -/
def State.slotGood (s : State) (q dir lane slot body : Nat) : State :=
  match s.mirrorOf q dir lane with
  | some r =>
    let m := r.pair lane slot body
    s.modLink q fun l => { l with repair := some { m.2 with clean := r.clean + b2n (decide (lane = r.s)) }, mismatches := l.mismatches + b2n m.1 }
  | none => s

/-- Whether a slot whose CRC fails loses its body: with both lanes of a mirror failed in one slot, or on a data lane that is not mirrored (R202, R204). -/
def State.slotLoses (s : State) (q dir lane slot : Nat) : Bool :=
  match s.mirrorOf q dir lane with
  | some r =>
    let o := s.dlane q dir (if lane = r.p then r.s else r.p)
    decide (o.badSlot) && decide (o.slot = slot)
  | none => decide ((s.dlane q dir lane).state = 0)

/-- A slot whose CRC fails (R202): counted, its body lost, and a second one in a row an error that calls for repair; `again` says that it is one. -/
def State.slotBad (s : State) (q dir lane slot : Nat) (again : Bool) : State :=
  let s1 := (s.bump (if dir = 0 then Obj.QD_CRC_UP q else Obj.QD_CRC_DOWN q)).pmc (1152 + q) 3 1
  let s2 := if s1.slotLoses q dir lane slot then s1.bodyLost q dir lane slot else s1
  if again then s2.linkEvent q dir lane 0x15 true else s2.linkEvent q dir lane 0x12 false

/-- A slot on a lane that is in service: its lock, its marker bits, its CRC, the mirror of a running repair. -/
def State.takeSlot (s : State) (q dir lane own : Nat) (wire : Bytes) : State :=
  let d := s.dlane q dir lane
  let x := readSlot lane d.scr wire
  let slot := if x.marker then 0 else d.slot + 1
  if ¬ d.locked then s.slotUnlocked q dir lane slot x
  else
    let mis := d.misSync + b2n (!x.syncOk)
    let s1 := (s.modDlane q dir lane fun y => slotTaken y x slot own mis).countBody q dir lane slot x.ok
    let s2 := if x.ok then s1.slotGood q dir lane slot x.body else s1.slotBad q dir lane slot d.badSlot
    let s3 := if mis < 4 then s2 else s2.linkEvent q dir lane 0x14 true
    if x.ok ∧ slot = 127 ∧ (s1.dlane q dir lane).markerOk then s3.acceptMarker q dir lane else s3

/-- DIE_LINK_SLOT_RX (R202). A retired lane is in electrical idle and brings nothing. -/
def execDieLinkSlotRx (q dir lane own : Nat) (slot : Bytes) (s : State) : Host.Outcome State Fault Refusal :=
  .next (if (s.link q).state ≠ 2 ∨ 8 ≤ q ∨ 2 ≤ dir ∨ 432 ≤ lane ∨ (s.dlane q dir lane).state = 3 then s
    else s.takeSlot q dir lane own slot)

/-- CONTROL_CELL_RESEND (R199): a cell that arrives is delivered in order; one that fails again is resent, up to four times
(DESIGN CHOICE, notes/assumptions/37 for the fifth failure). -/
def execControlCellResend (q dir : Nat) (cell : Bytes) (ok : Bool) (s : State) : Host.Outcome State Fault Refusal :=
  let n := if dir = 0 then (s.link q).resendUp else (s.link q).resendDown
  let next := if ok ∨ 4 ≤ n ∨ cell.length ≠ 16 then 0 else n + 1
  .next (if n = 0 ∨ 2 ≤ dir then s else (s.pmc (1152 + q) 4 1).modLink q fun l => if dir = 0 then { l with resendUp := next } else { l with resendDown := next })

/-! ### Repair (R204–R206, R210) -/

/-- A repair of the quoin ends without a spare: the next rung, or the commanded run's DETAIL 3. -/
def State.repairFails (s : State) (q : Nat) (r : Repair) (tile : Nat) : State :=
  let s1 := { s with flt := { s.flt with repairs := s.flt.repairs.erase r } }
  match r.source with
  | some src => (s1.modSource src fun x => { x with sevTile := tile }).rungAfter1 src
  | none => s1.runEnd (Obj.QD_REPAIR q) Res.badValue 3

/-- A repair whose lane has left service meanwhile needs nothing more. -/
def State.repairVoid (s : State) (q : Nat) (r : Repair) : State :=
  let s1 := { s with flt := { s.flt with repairs := s.flt.repairs.erase r } }
  match r.source with
  | some src => if s1.flt.repairs.any fun x => decide (x.source = some src) then s1 else s1.modSource src fun x => { x with status := 0, timer := none }
  | none => s1.runEnd (Obj.QD_REPAIR q) Res.ok 0

/-- REPAIR_SPARE_CHOICE (R204 step 2, R206): the manager of the quoin takes up the repair that has waited longest. -/
def execRepairSpareChoice (q : Nat) (s : State) : Host.Outcome State Fault Refusal :=
  .next (if (s.link q).repair.isSome ∨ 8 ≤ q then s
    else match s.flt.repairs.find? (fun r => decide (r.stack = 3 + q)) with
    | none => s
    | some r =>
      match r.kind with
      | .dieLink _ dir p =>
        match (s.dlane q dir p).logical with
        | none => s.repairVoid q r
        | some l =>
          let begin_ := fun (a : State) (x : Nat) =>
            let a1 := (a.modDlane q dir x fun d => { d with state := 2, logical := none }).modLink q fun k =>
              { k with repair := some ⟨dir, l, p, x, r.reason, .chosen, r.source.isNone, r.source, 0, none⟩ }
            { a1 with flt := { a1.flt with repairs := a1.flt.repairs.map fun y => if y = r then { y with begun := true } else y } }
          match s.spareFor q dir p with
          | some x => begin_ s x
          | none =>
            match s.gatedLane q dir with
            | some x => if x = p then s.repairFails q r (dir * 32768 + p) else begin_ s x
            | none => s.repairFails q r (dir * 32768 + p)
      | _ => s)

/-- MIRROR_START (R204 step 3): from slot n both lanes carry the logical lane. -/
def execMirrorStart (q : Nat) (s : State) : Host.Outcome State Fault Refusal :=
  .next (match (s.link q).repair with
    | some r =>
      if r.stage = .chosen then
        (s.modDlane q r.dir r.s fun d => { d with logical := some r.logical }).modLink q fun l => { l with repair := some { r with stage := .mirroring, clean := 0, held := none } }
      else s
    | none => s)

/-- MIRROR_SWITCH (R204 step 4, R205): after 4,096 clean mirrored slots, or when p has lost lock, the logical lane is taken from s alone. -/
def execMirrorSwitch (q : Nat) (s : State) : Host.Outcome State Fault Refusal :=
  .next (match (s.link q).repair with
    | some r =>
      if r.stage = .mirroring ∧ (4096 ≤ r.clean ∨ ¬ (s.dlane q r.dir r.p).locked) then
        ((s.modDlane q r.dir r.s fun d => { d with state := 0, logical := some r.logical }).modDlane q r.dir r.p fun d => { d with logical := none }).modLink q
          fun l => { l with repair := some { r with stage := .switched } }
      else s
    | none => s)

/-- REPAIR_STOP_SLOT (R204 step 6, R486): p is retired, the repair is complete. -/
def execRepairStopSlot (q : Nat) (s : State) : Host.Outcome State Fault Refusal :=
  .next (match (s.link q).repair with
    | some r =>
      if r.stage = .switched then
        let s1 := (s.retireLane q r.dir r.p).modLink q fun l => { l with repair := none }
        let s2 := (s1.lastRepair q r.reason r.dir r.logical r.p r.s).bump (Obj.QD_REPAIRS q)
        let s3 := s2.repairDone r.source (128 + 2 * q + r.dir) (r.dir * 32768 + r.p) r.s (3 + q)
        if r.commanded then s3.runEnd (Obj.QD_REPAIR q) Res.ok 0 else s3
      else s
    | none => s)

/-- `QD_REPAIR_STATE` (R210): 0 idle, 1 waiting, 2 mirroring, 3 retiring. -/
def State.repairState (s : State) (q : Nat) : Nat :=
  match (s.link q).repair with
  | some r => match r.stage with | .chosen => 1 | .mirroring => 2 | .switched => 3
  | none => if s.flt.repairs.any fun r => decide (r.stack = 3 + q) then 1 else 0

/-- A START on `QD_REPAIR` (R210). -/
def startQdRepair (s : State) (q : Nat) : Nat × State :=
  let key := Obj.QD_REPAIR q
  let v := s.get (Obj.QD_REPAIR_LANE q)
  let dir := v / 2 ^ 15
  let p := v % 512
  if s.flt.repairs.any fun (r : Repair) => decide (r.stack = 3 + q) then (Res.busy, s)
  else if 431 < p then (Res.ok, s.runOnce key Res.badValue 1)
  else if (s.dlane q dir p).state = 3 then (Res.ok, s.runOnce key Res.badValue 2)
  else if (s.dlane q dir p).logical.isNone then
    (Res.ok, ((s.retireSpare q dir p 4).note (128 + 2 * q + dir) Cls.commanded 0 0 0 (dir * 32768 + p)).runOnce key Res.ok 0)
  else if (s.spareFor q dir p).isNone ∧ (s.gatedLane q dir).isNone then (Res.ok, s.runOnce key Res.badValue 3)
  else
    let s1 := s.runBegin key
    (Res.ok, { s1 with flt := { s1.flt with repairs := s1.flt.repairs ++ [Repair.mk (3 + q) none (.dieLink q dir p) 4 s.now false] } })

/-- The stored map of every quoin as a commit takes it (R201): a mirroring spare is still a spare. -/
def State.linkMap (s : State) : List (Nat × Nat) :=
  (upTo 8).flatMap fun q => (upTo 2).flatMap fun dir =>
    (s.link q).lanes.filterMap fun (e : Nat × DLane) =>
      if e.1 / 432 ≠ dir then none
      else
        let p := e.1 % 432
        let st := if e.2.state = 2 then 1 else e.2.state
        let c := st * 512 + (if st = 0 then (match e.2.logical with | some l => l + 1 | none => 0) else 0)
        if c = homeCode p then none else some (q * 864 + dir * 432 + p, c)

end Sys2Proof.Machine
end

