-- ==== Sys2Proof/Machine/PipeCheck.lean ====
section
/-! DEFINITION. The check of a stage-program image (R265, R266) with the limits of R243, R247, R249–R256. Words that are not listed are
zero and pass every row, so each row visits the listed words in rising order. -/

namespace Sys2Proof.Machine
open Sys2Proof

/-- A stage word of an image in check order: egress, stage, class, word. -/
structure WordAt where
  egress : Bool
  stage : Nat
  cls : Nat
  w : Nat

/-- The listed stage words of an image in the order of R266. -/
def imageWords (im : Image) : List WordAt :=
  im.filterMap fun e =>
    if e.1 < 258 then none
    else if e.1 < 1794 then some ⟨false, (e.1 - 258) / 64, (e.1 - 258) % 64, e.2⟩
    else if e.1 < 2818 then some ⟨true, (e.1 - 1794) / 64, (e.1 - 1794) % 64, e.2⟩
    else none

/-- The place of a stage word as `PLN_CHECK_WHERE` gives it (R266). -/
def WordAt.place (x : WordAt) : Nat := ((if x.egress then 3 else 2) <<< 24) + (x.stage <<< 16) + (x.cls <<< 8)

/-- The ALU operation reads A (R255). -/
def opReadsA (op : Nat) : Bool :=
  decide (1 ≤ op ∧ op ≤ 0x10 ∧ op ≠ 2) || decide (op = 0x11 ∨ op = 0x12 ∨ (0x14 ≤ op ∧ op ≤ 0x18))

/-- The ALU operation reads B (R255). -/
def opReadsB (op : Nat) : Bool := [0x03, 0x05, 0x08, 0x0A, 0x0C, 0x11, 0x12, 0x14, 0x15, 0x16].contains op

/-- The ALU operation writes W bytes at D (R255). -/
def opWritesD (op : Nat) : Bool := decide (1 ≤ op ∧ op ≤ 0x0F) || decide (0x11 ≤ op ∧ op ≤ 0x14)

/-- The judged key segments of a word: source, offset, length (R266). -/
def judgedSegs (w : Nat) : List (Nat × Nat × Nat) :=
  if field w 246 243 ≠ 0 ∨ field w 168 163 = 0x13 then
    [240, 223, 206, 189].filterMap fun hi =>
      let seg := field w hi (hi - 16)
      if field seg 4 0 = 0 ∨ field seg 16 13 = 15 then none else some (field seg 16 13, field seg 12 5, field seg 4 0)
  else []

/-- The judged ALU operands of a word: source and offset (R266). -/
def judgedOperands (w : Nat) : List (Nat × Nat) :=
  let op := field w 168 163
  (if opReadsA op then [(field w 159 156, field w 155 148)] else []) ++
  (if opReadsB op then [(field w 147 144, field w 143 136)] else [])

/-- The metadata bits (byte × 8 + bit, bit 7 first in a byte's weight) that a stage may not write (R247). -/
def mdForbidden (egress : Bool) (byte bit : Nat) : Bool :=
  decide (byte < 2) || decide (4 ≤ byte ∧ byte < 8) || decide (20 ≤ byte ∧ byte < 28) ||
  decide (byte = 10 ∧ bit ≤ 2) || decide (byte = 11) || decide (byte = 15 ∧ bit ≤ 5) ||
  (egress && decide (32 ≤ byte ∧ byte < 40))

/-- Whole bytes of metadata written: none forbidden (R247). -/
def mdBytesOk (egress : Bool) (off n : Nat) : Bool :=
  (upTo n).all fun i => (upTo 8).all fun b => !mdForbidden egress (off + i) b

/-- Bits [lo, lo + n) of the W bytes at `off`, bit 0 in the last byte: none forbidden (R247). -/
def mdBitsOk (egress : Bool) (off wb lo n : Nat) : Bool :=
  (upTo n).all fun i => !mdForbidden egress (off + wb - 1 - (lo + i) / 8) ((lo + i) % 8)

/-- Row 0x0004: every node field within the range of R243. -/
def nodeOk (nd : Nat) : Bool :=
  let inst := field nd 254 251
  !(decide (12 ≤ inst ∧ inst ≤ 14)) && decide (field nd 250 249 ≠ 3) && decide (field nd 220 219 ≠ 3) &&
  decide (field nd 210 209 ≠ 3) && decide (field nd 208 207 ≠ 3)

/-- Row 0x0005: table codes; no table and no slot source in an egress word. -/
def wordOk5 (x : WordAt) : Bool :=
  let t := field x.w 246 243
  if x.egress then
    decide (t = 0) && (judgedSegs x.w).all (fun s => decide (s.1 ≠ 13)) && (judgedOperands x.w).all (fun s => decide (s.1 ≠ 13))
  else decide (t ≤ 7)

/-- Row 0x0006: key segments. -/
def wordOk6 (x : WordAt) : Bool :=
  let segs := judgedSegs x.w
  segs.all (fun s => decide (s.2.2 ≤ 20) && (decide (s.1 ≠ 14) || decide (s.2.1 + s.2.2 ≤ 4))) &&
  decide ((segs.map (·.2.2)).foldl (· + ·) 0 ≤ 20)

/-- An operand's W bytes lie within its area (R251, R266). -/
def operandOk (wb : Nat) (s : Nat × Nat) : Bool :=
  if s.1 = 12 ∨ s.1 = 13 then decide (s.2 + wb ≤ 64)
  else if s.1 = 14 then decide (s.2 + wb ≤ 4)
  else true

/-- Row 0x0007: the ALU. -/
def wordOk7 (x : WordAt) : Bool :=
  let w := x.w
  let op := field w 168 163
  let wb := field w 162 160 + 1
  let imm := field w 117 86
  let ds := field w 135 132
  let off := field w 131 124
  let n := field imm 5 0 + 1
  decide (op ≤ 0x1C) && (judgedOperands w).all (operandOk wb) &&
  (if opWritesD op then
      decide (ds ≤ 12) && (decide (ds ≠ 12) || (decide (off + wb ≤ 64) && mdBytesOk x.egress off wb)) &&
      (decide (op ≠ 0x13) || decide (wb = 4))
   else if op = 0x10 then
      decide (ds ≤ 12) && decide (field w 123 118 + n ≤ 8 * wb) &&
      (decide (ds ≠ 12) || (decide (off + wb ≤ 64) && mdBitsOk x.egress off wb (field w 123 118) n))
   else if op = 0x18 then decide (ds ≤ 11) && decide (field imm 31 24 ≤ 64)
   else if op = 0x19 ∨ op = 0x1A then decide (ds ≤ 11)
   else if op = 0x1B then
      decide (ds ≤ 12) && (decide (ds ≠ 12) ||
        (decide (off < 64) && mdBytesOk x.egress off 1 &&
          (!bitOf imm 8 || (decide (off + 4 ≤ 64) && mdBytesOk x.egress (off + 2) 2))))
   else true)

/-- The slots a word reads in its key segments, operands and metadata-writer entries (R254). -/
def slotsRead (w : Nat) : List Nat :=
  let wb := field w 162 160 + 1
  ((judgedSegs w).flatMap fun s => if s.1 = 13 then (upTo ((s.2.1 + s.2.2 - 1) / 16 + 1)).filter fun k => decide (s.2.1 / 16 ≤ k) else []) ++
  ((judgedOperands w).filterMap fun s => if s.1 = 13 then some (s.2 / 16) else none) ++
  ((judgedOperands w).filterMap fun s => if s.1 = 13 then some ((s.2 + wb - 1) / 16) else none) ++
  ([field w 85 62, field w 61 38].filterMap fun e => if bitOf e 23 then some (field e 22 21) else none)

/-- The last lookup before a stage, in one class, that writes a slot: its stage and table code. -/
def lastWriter (im : Image) (cls slot : Nat) : Nat → Option (Nat × Nat)
  | 0 => none
  | s + 1 =>
    let w := im.ingress s cls
    if field w 246 243 ≠ 0 ∧ field w 242 241 = slot then some (s, field w 246 243) else lastWriter im cls slot s

/-- Row 0x0008: slot readiness (R254). -/
def wordOk8 (im : Image) (x : WordAt) : Bool :=
  x.egress || (slotsRead x.w).all fun sl =>
    match lastWriter im x.cls sl x.stage with
    | none => true
    | some (s, t) => decide (s + (if t = 3 ∨ t = 4 then 4 else 3) ≤ x.stage)

/-- The table number that placement counts: LPM IPv4 and IPv6 are one (R254). -/
def placeCode (t : Nat) : Nat := if t = 4 then 3 else t

/-- Row 0x0009: each table is issued from one stage number only (R254). -/
def wordOk9 (ws : List WordAt) (x : WordAt) : Bool :=
  let t := placeCode (field x.w 246 243)
  x.egress || decide (t = 0) ||
    ws.all fun y => y.egress || decide (x.stage ≤ y.stage) || decide (placeCode (field y.w 246 243) ≠ t)

/-- Row 0x000A: the colophon fields. -/
def wordOkA (ws : List WordAt) (x : WordAt) : Bool :=
  if x.egress then
    !bitOf x.w 37 || ws.all fun y => !y.egress || decide (y.cls ≠ x.cls) || decide (x.stage ≤ y.stage) || !bitOf y.w 37
  else decide (field x.w 37 36 = 0)

/-- Row 0x000B: metadata-writer ranges (R256). -/
def wordOkB (x : WordAt) : Bool :=
  [field x.w 85 62, field x.w 61 38].all fun e =>
    let width := field e 4 0 + 1
    !bitOf e 23 || (decide (field e 20 14 + width ≤ 128) && decide (field e 9 5 + width ≤ 32) &&
      mdBitsOk x.egress (4 * field e 13 10) 4 (field e 9 5) width)

/-- The first word that fails a row. -/
def firstBad (ws : List WordAt) (ok : WordAt → Bool) (detail : Nat) : Option (Nat × Nat) :=
  (ws.find? fun x => !ok x).map fun x => (detail, x.place)

/-- The bytes of an image from a byte offset on, for its CRC (R265). -/
def imageBytes (im : Image) (words : List Nat) : Bytes := (words.map fun k => beBytes 32 (smGet 0 im k)).flatten

/-- The CRC-32 of an image over bytes 0–59 and 64–90,175 (R265). -/
def imageCrc (im : Image) : Nat :=
  let b := imageBytes im (upTo 2818)
  crc32 (b.take 60 ++ b.drop 64)

/-- The CRC field of an image, bytes 60–63. -/
def imageCrcField (im : Image) : Nat := smGet 0 im 1 % 0x100000000

/-- IMAGE_ID of an image, bytes 12–15. -/
def imageId (im : Image) : Nat := field (smGet 0 im 0) 159 128

/-- The header of R265. -/
def imageHeaderOk (im : Image) : Bool :=
  let h := smGet 0 im 0
  decide (field h 255 224 = 0x4A5A5350) && decide (field h 223 208 = 1) && decide (field h 191 160 = 90176) && decide (imageId im ≠ 0)

/-- The check of R266: the DETAIL and place of the first failure, or none. `total` is TOTAL of the last completed transfer. -/
def imageCheck (im : Image) (total : Nat) : Option (Nat × Nat) :=
  let ws := imageWords im
  if !imageHeaderOk im then some (1, 0)
  else if total ≠ 90176 then some (2, 0)
  else if imageCrc im ≠ imageCrcField im then some (3, 0)
  else
    match im.find? (fun e => decide (2 ≤ e.1 ∧ e.1 < 258) && !nodeOk e.2) with
    | some e => some (4, (1 <<< 24) + (e.1 - 2))
    | none =>
      (firstBad ws wordOk5 5).orElse fun _ => (firstBad ws wordOk6 6).orElse fun _ =>
      (firstBad ws wordOk7 7).orElse fun _ => (firstBad ws (wordOk8 im) 8).orElse fun _ =>
      (firstBad ws (wordOk9 ws) 9).orElse fun _ => (firstBad ws (wordOkA ws) 0xA).orElse fun _ => firstBad ws wordOkB 0xB

/-- A stage or node word with its reserved fields zero (R11, R243, R249). -/
def wordClean (k v : Nat) : Nat :=
  if k < 2 then v
  else if k < 258 then v - (field v 192 168 <<< 168)
  else v - (field v 35 34 <<< 34) - field v 31 0

/-- The staged image in the form the check leaves it: reserved fields zero and the CRC of that form (R266). -/
def imageClean (im : Image) : Image :=
  let h := smGet 0 im 0
  let h := h - (field h 207 192 <<< 192) - field h 127 0
  let im := (im.filter fun e => decide (2 ≤ e.1 ∧ e.1 < 2818)).map fun e => (e.1, wordClean e.1 e.2)
  let im := smSet 0 (im.filter fun e => e.2 ≠ 0) 0 h
  smSet 0 im 1 (imageCrc im)

end Sys2Proof.Machine
end

