-- ==== Sys2Proof/Machine/Stages.lean ====
section
/-! DEFINITION. A packet's run through a pipeline: the stage words and graph nodes read through their code, the parse, the 24 ingress stages
with their lookups, the 16 egress stages with the colophon inserter (R243–R264, kind 8 of R458). -/

namespace Sys2Proof.Machine
open Sys2Proof

/-! ### Banks (R267, R268) -/

/-- Pipeline `k`. -/
def State.pipe (s : State) (k : Nat) : Pipe := smGet {} s.pipes.pipes k

/-- Change a pipeline; canonical. -/
def State.modPipe (s : State) (k : Nat) (f : Pipe → Pipe) : State :=
  { s with pipes := { s.pipes with pipes := smSet {} s.pipes.pipes k (f (s.pipe k)) } }

/-- The image in a bank. -/
def Pipe.bank (x : Pipe) (b : Bool) : Image := if b then x.bank1 else x.bank0

/-- IMAGE_ID of a bank. -/
def Pipe.bankId (x : Pipe) (b : Bool) : Nat := if b then x.id1 else x.id0

/-! ### Words read through their code (kind 8) -/

/-- The first code word of a stage word or node: INSTANCE and address. Arrays 0–23 are the ingress stages, 24–39 the egress stages, 40 the graph. -/
def progPlace (pipe : Nat) (bank : Bool) (arr idx : Nat) : Nat × Nat := (pipe * 2 ^ 24 + b2n bank * 2 ^ 16 + arr, 4 * idx)

/-- The image word of an array's entry (R265). -/
def progIndex (arr idx : Nat) : Nat := if arr = 40 then 2 + idx else 258 + 64 * arr + idx

/-- The bits of a 256-bit word that its decoders would deliver wrong, whatever they report. -/
def State.progDiff (s : State) (pipe : Nat) (bank : Bool) (arr idx : Nat) : Nat :=
  let pl := progPlace pipe bank arr idx
  (upTo 4).foldl (fun a i =>
    let pat := s.flipsAt 8 pl.1 (pl.2 + i)
    let d := match decodeKind 8 pat with
      | .fix p1 _ _ => pat ^^^ 2 ^ p1
      | _ => pat
    a ^^^ (dataBits 8 d * 2 ^ (64 * (3 - i)))) 0

/-- The graph as a parser reads it: nodes with errors in their words, as their decoders deliver them. -/
def State.graphOf (s : State) (pipe : Nat) (bank : Bool) : Image :=
  let base := memKey 8 (progPlace pipe bank 40 0).1 0
  let hit := (s.mem.flips.filter fun (e : Nat × Nat) => decide (base ≤ e.1 ∧ e.1 < base + 1024)).map fun (e : Nat × Nat) => (e.1 - base) / 4
  let im := (s.pipe pipe).bank bank
  (hit.foldl setInsert []).foldl (fun a n => smSet 0 a (2 + n) (smGet 0 a (2 + n) ^^^ s.progDiff pipe bank 40 n)) im

/-- Read a stage word or node (R458): the word, or none when a code word of it is uncorrectable. -/
def State.progRead (s : State) (pipe : Nat) (bank : Bool) (arr idx : Nat) : Option Nat × State :=
  let pl := progPlace pipe bank arr idx
  let v := smGet 0 ((s.pipe pipe).bank bank) (progIndex arr idx)
  (upTo 4).foldl (fun (a : Option Nat × State) i =>
    let r := a.2.readWord 8 pl.1 (pl.2 + i) 1
    (match a.1, r.diff with
      | some w, some d => some (w ^^^ (d * 2 ^ (64 * (3 - i))))
      | _, _ => none, r.state)) (some v, s)

/-- The parse of a window (R244): what it found, whether every node it read was correct, and the state after the reads. -/
def State.parse (s : State) (pipe : Nat) (bank : Bool) (w : Bytes) : Parse × Bool × State :=
  let r := parseWindow (s.graphOf pipe bank) w
  let out := r.nodes.foldl (fun (a : Bool × State) n => let x := a.2.progRead pipe bank 40 n; (a.1 && x.1.isSome, x.2)) (true, s)
  (r, out.1, if r.err then out.2.bump (Obj.PLN_PARSE_ERR pipe) else out.2)

/-! ### Ingress (R246–R258, R263) -/

/-- A packet on its way through the stages: results that are still to land, as (first stage that may read it, slot, value), a policer's colour
with the stage whose commit it precedes and whether red drops, and whether every word read was correct. -/
structure Run where
  p : Pkt
  slots : List (Nat × Nat × Slot)
  colour : List (Nat × Nat × Bool)
  ok : Bool

/-- A parse handed to the stages. -/
def Parse.start (r : Parse) (w md : Bytes) (limit : Int) : Pkt :=
  { win := w, inst := r.inst, md := md, slots := List.replicate 4 (0, false), mark1 := r.mark1, mark2 := r.mark2, mark3 := r.mark3,
    ipoff := r.ipoff, growth := 0, limit := limit, overflow := false }

/-- The lookup of a stage word (R252, R253): the slot's value and the colour a policer gives. -/
def State.lookup (s : State) (pipe : Nat) (p : Pkt) (w : Nat) : (Slot × Option (Nat × Bool)) × State :=
  let key := p.key w
  let c := chaseOf pipe
  match field w 246 243 with
  | 1 => let r := directSlot 79 (s.labelRead c key 1); ((r.1, none), r.2)
  | 2 => let r := directSlot 127 (s.nhRead c key 1); ((r.1, none), r.2)
  | 3 => let r := lpmSlot (s.lpm c false (key / 2 ^ 32) (key % 2 ^ 32)); ((r.1, none), r.2)
  | 4 => let r := lpmSlot (s.lpm c true (key / 2 ^ 128) (key % 2 ^ 128)); ((r.1, none), r.2)
  | 5 => let r := s.lookupDst pipe (key / 2 ^ 48) (key % 2 ^ 48); ((r.1, none), r.2)
  | 6 =>
    let r := s.lookupSrc pipe (key / 2 ^ 48) (key % 2 ^ 48) (field (p.m 0) 31 22) (p.m 5 * 2 ^ 32 + p.m 6) (bitOf (p.m 3) 13)
    ((r.1, none), r.2)
  | 7 =>
    -- L is the frame length with its FCS (R352)
    let r := s.lookupPolicer pipe key (bitOf w 33) (field (p.m 3) 7 6) ((field (p.m 1) 31 18 + 4) * 8000)
    (((r.1, true), some (r.1, bitOf w 32)), r.2)
  | _ => (((0, false), none), s)

/-- A policer's result lands (R249, R252). -/
def Pkt.coloured (p : Pkt) (colour : Nat) (dropRed : Bool) : Pkt :=
  let p1 := p.setMField 3 7 6 colour
  if dropRed ∧ colour = 2 then p1.drop 0 0xFE else p1

/-- One ingress stage (R249, R257, R263): results that have landed are in the slots, the word acts, and a policer's colour lands before the
commit of the second stage after its own. -/
def State.ingressStage (s : State) (pipe : Nat) (bank : Bool) (cls i : Nat) (x : Run) : Run × State :=
  let landed := x.slots.filter fun (e : Nat × Nat × Slot) => decide (e.1 ≤ i)
  let r : Pkt := { x.p with slots := landed.foldl (fun l (e : Nat × Nat × Slot) => listSet l e.2.1 e.2.2) x.p.slots }
  let rd := s.progRead pipe bank i cls
  let w := rd.1.getD 0
  let acts := r.acts w
  let tbl := field w 246 243
  let lk : (Slot × Option (Nat × Bool)) × State := if acts ∧ tbl ≠ 0 then rd.2.lookup pipe r w else (((0, false), none), rd.2)
  let lands := x.colour.filter fun (e : Nat × Nat × Bool) => decide (e.1 = i)
  let p1 := lands.foldl (fun (a : Pkt) (e : Nat × Nat × Bool) => a.coloured e.2.1 e.2.2) r
  let slot' := if acts ∧ tbl ≠ 0 then [(i + (if tbl = 3 ∨ tbl = 4 then 4 else 3), field w 242 241, lk.1.1)] else []
  let col' := match lk.1.2 with
    | some c => [(i + 2, c.1, c.2)]
    | none => []
  ({ p := if acts then p1.commit r w else p1
     slots := (x.slots.filter fun (e : Nat × Nat × Slot) => !decide (e.1 ≤ i)) ++ slot'
     colour := x.colour ++ col'
     ok := x.ok && rd.1.isSome }, lk.2)

/-- The ingress stages from `i` on. -/
def State.ingressStages (s : State) (pipe : Nat) (bank : Bool) (cls i : Nat) (x : Run) : Nat → Run × State
  | 0 => (x, s)
  | n + 1 => let r := s.ingressStage pipe bank cls i x; r.2.ingressStages pipe bank cls (i + 1) r.1 n

/-- The ECN offset and width of a parse as M3 holds them (R247). -/
def Parse.ecnBits (r : Parse) : Nat := match r.ecn with | some (o, v6) => o * 2 ^ 16 + b2n v6 * 2 ^ 15 | none => 0xFF * 2 ^ 16

/-- The metadata with which a packet enters ingress stage 0 (R247); `len` is its length without FCS. -/
def ingressMeta (r : Parse) (port cls len : Nat) (f : RxFrame) : Bytes :=
  beBytes 4 (port * 2 ^ 22 + cls * 2 ^ 16 + f.prio * 2 ^ 13 + b2n f.tagged * 2 ^ 12 + f.vid) ++
  beBytes 4 (len * 2 ^ 18 + b2n r.iplen.isSome * 2 ^ 17 + b2n r.err * 2 ^ 16 + r.iplen.getD 0) ++
  zeros 4 ++ beBytes 4 r.ecnBits ++ zeros 4 ++ beBytes 8 (f.ts / 65536) ++ zeros 36

/-! ### Colophons (R259–R261; the option's layout is that of RFC 9197 and RFC 9486) -/

/-- Bit `i` of a Trace-Type, bit 0 first. -/
def traceBit (tt i : Nat) : Bool := bitOf tt (23 - i)

/-- The node data of this hop, in Trace-Type bit order, with the place of the transit delay in it (R260). -/
def State.nodeData (s : State) (p : Pkt) (dom tt : Nat) : Bytes × Option Nat :=
  let hop : Nat := match p.mark2 with | some o => winByte p.win (o + 7) | none => 0xFF
  let node := s.get Obj.PLN_IOAM_NODE_ID % 2 ^ 24
  let inPort := field (p.m 0) 31 22
  let egPort := field (p.m 8) 31 22
  let egQueue := field (p.m 8) 15 12
  let t := t96OfUnits ((s.domain dom).time ((p.m 5 * 2 ^ 32 + p.m 6) * 65536))
  let one := fun (i : Nat) =>
    if i = 0 then beBytes 4 (hop * 2 ^ 24 + node)
    else if i = 1 then beBytes 2 (if bitOf (p.m 2) 10 then 0xFFFF else inPort) ++ beBytes 2 egPort
    else if i = 2 then beBytes 4 (t / 2 ^ 48 % 2 ^ 32)
    else if i = 3 then beBytes 4 (t / 2 ^ 16 % 2 ^ 32)
    else if i = 4 then beBytes 4 0
    else if i = 5 then beBytes 4 (egPort * 16 + egQueue)
    else if i = 6 then beBytes 4 (p.m 9)
    else if i = 8 then beBytes 8 (hop * 2 ^ 56 + node)
    else if i = 9 then beBytes 8 (inPort * 2 ^ 32 + egPort)
    else if i = 10 then beBytes 8 (2 ^ 64 - 1)
    else beBytes 4 (2 ^ 32 - 1)
  (upTo 12).foldl (fun (a : Bytes × Option Nat) i =>
    if traceBit tt i then (a.1 ++ one i, if i = 4 then some a.1.length else a.2) else a) ([], none)

/-- Write bytes of a window, those that exist. -/
def winPatch (w : Bytes) (off : Nat) (x : Bytes) : Bytes := (patchBytes w off (x.take (w.length - off))).take w.length

/-- The colophon inserter of an egress stage (R259): the packet, and the window offset of the transit delay it leaves to the MAC. -/
def State.colophon (s : State) (pipe : Nat) (p : Pkt) (w : Nat) : (Pkt × Option Nat) × State :=
  match p.mark1 with
  | none => ((p, none), s)
  | some o =>
    let ns := u p.win (o + 4) 2
    let known := (upTo 4).any fun i => bitOf (s.get Obj.PLN_IOAM_NS_EN) i && decide (octField 8 (s.get Obj.PLN_IOAM_NS) (2 * i) 2 = ns)
    if ¬ bitOf w 37 ∨ ¬ bitOf (p.m 3) 12 ∨ p.win.length < o + 12 ∨ winByte p.win o ≠ 0x31 ∨ winByte p.win (o + 3) ≠ 0 ∨ ¬ known then ((p, none), s)
    else
      let h := u p.win (o + 6) 2
      let nl := field h 15 11
      let rl := field h 6 0
      let tt := u p.win (o + 8) 3
      let need := (((upTo 12).filter (traceBit tt)).map fun i => if 8 ≤ i ∧ i ≤ 10 then 2 else 1).foldl (· + ·) 0
      if traceBit tt 22 ∨ need ≠ nl then ((p, none), s.bump (Obj.PLN_COLO_SKIPPED pipe))
      else if rl < nl then (({ p with win := winPatch p.win (o + 6) (beBytes 2 (setBit h 10 true)) }, none), s.bump (Obj.PLN_COLO_SKIPPED pipe))
      else
        let data := s.nodeData p (b2n (bitOf w 36)) tt
        let at_ := o + 12 + 4 * (rl - nl)
        let w1 := winPatch p.win (o + 6) (beBytes 2 (h - nl))
        (({ p with win := winPatch w1 at_ data.1 }, data.2.map (at_ + ·)), s.bump (Obj.PLN_COLO_DONE pipe))

/-! ### Egress -/

/-- One egress stage: no lookups, and the colophon after the other commits (R257). -/
def State.egressStage (s : State) (pipe : Nat) (bank : Bool) (cls j : Nat) (x : Run) (colo : Option Nat) : (Run × Option Nat) × State :=
  let rd := s.progRead pipe bank (24 + j) cls
  let w := rd.1.getD 0
  let ok := x.ok && rd.1.isSome
  if x.p.acts w then
    let r := rd.2.colophon pipe (x.p.commit x.p w) w
    (({ x with p := r.1.1, ok := ok }, r.1.2.orElse fun _ => colo), r.2)
  else (({ x with ok := ok }, colo), rd.2)

/-- The egress stages from `j` on. -/
def State.egressStages (s : State) (pipe : Nat) (bank : Bool) (cls j : Nat) (x : Run) (colo : Option Nat) : Nat → (Run × Option Nat) × State
  | 0 => ((x, colo), s)
  | n + 1 => let r := s.egressStage pipe bank cls j x colo; r.2.egressStages pipe bank cls (j + 1) r.1.1 r.1.2 n

/-- The metadata with which a packet enters egress (R247): the carried prefix with the parse's ECN place, M8 and M9, and zeros. -/
def egressMeta (pre : Bytes) (r : Parse) (port cls queue depth : Nat) (ce mcast : Bool) : Bytes :=
  pre.take 12 ++ beBytes 4 (u pre 12 4 / 2 ^ 24 * 2 ^ 24 + r.ecnBits + u pre 12 4 % 2 ^ 15) ++ slice pre 16 16 ++
  beBytes 4 (port * 2 ^ 22 + cls * 2 ^ 16 + queue * 2 ^ 12 + b2n ce * 2 ^ 11 + b2n mcast * 2 ^ 10) ++ beBytes 4 (depth / 256) ++ zeros 24

end Sys2Proof.Machine
end

