-- ==== Sys2Proof/Machine/Pipeline.lean ====
section
/-! DEFINITION. A received frame from its FIFO to its queue: the ingress pipeline, its buffers and growth, the proof offer, the disposition,
the tail (R238–R248, R264, R317–R318, R327, R330–R332, R364–R365). -/

namespace Sys2Proof.Machine
open Sys2Proof

/-! ### The proof offer (R364, R365) -/

/-- One shift of a sampler's generator, x³² + x²² + x² + x + 1 (DEDUCED, notes/assumptions/38). -/
def samplerBit (g : Nat) : Nat := (2 * g) % 2 ^ 32 + b2n ((bitOf g 31 != bitOf g 21) != (bitOf g 1 != bitOf g 0))

/-- `n` shifts. -/
def samplerRun (g : Nat) : Nat → Nat
  | 0 => g
  | n + 1 => samplerRun (samplerBit g) n

/-- A sampler's choice: whether the offer is selected, and the sampler after it (R365). -/
def Sampler.choose (x : Sampler) (mode n : Nat) : Bool × Sampler :=
  if mode = 0 then (if x.count + 1 = n then (true, { x with count := 0 }) else (false, { x with count := x.count + 1 }))
  else let g := samplerRun x.gen 24; (decide (g % 2 ^ 24 < 2 ^ 24 / n), { x with gen := g })

/-- Add to REFS of a frame (R331). -/
def State.addRef (s : State) (d n : Nat) : State :=
  s.modDescr d fun x => match x with
    | .frame st src prio ll ct po stored refs bufs ip cle => .frame st src prio ll ct po stored (refs + n) bufs ip cle
    | y => y

/-- The offer of a frame at its clock 116 (R364), and its place in the proof queue (R366 step 1). -/
def State.proofOffer (s : State) (p : Pkt) (d : Nat) : State :=
  let m3 := p.m 3
  let k := field m3 10 8
  if ¬ bitOf m3 11 ∨ s.get (Obj.PMC_PS_ENABLE k) = 0 ∨ (p.dtype = 0 ∧ s.get (Obj.PMC_PS_DROPS k) = 0) then s
  else
    let c := (listAt {} s.telem.samplers k).choose (s.get (Obj.PMC_PS_MODE k)) (s.get (Obj.PMC_PS_N k))
    let s1 := { s.bump (Obj.PMC_PS_SEEN k) with telem := { s.telem with samplers := listSet s.telem.samplers k c.2 } }
    if ¬ c.1 then s1
    else
      let s2 := s1.bump (Obj.PMC_PS_SELECTED k)
      if 256 ≤ s2.telem.engine.length then s2.bump (Obj.PMC_PS_MISSED k)
      else
        let x : ProofSel :=
          { sampler := k, desc := d, dropped := decide (p.dtype = 0), inPort := field (p.m 0) 31 22, dest := field (p.m 2) 31 16,
            qp := field (p.m 2) 15 12 * 16 + field (p.m 0) 15 13 * 2, reason := field m3 31 24, length := field (p.m 1) 31 18,
            rxNs := p.m 5 * 2 ^ 32 + p.m 6, user := p.m 4, seq := s2.get (Obj.PMC_PS_SELECTED k) % 2 ^ 32 }
        ({ s2 with telem := { s2.telem with engine := s2.telem.engine ++ [x] } }).addRef d 1

/-! ### The disposition (R248) -/

/-- A unicast destination that is no formed port is handled as a drop (R248). -/
def State.judge (s : State) (p : Pkt) : Pkt :=
  let dval := field (p.m 2) 29 16
  if p.dtype = 1 ∧ (1024 ≤ dval ∨ s.ptType dval = 0) then p.drop 0 0xFC else p

/-- The conditions of R332, REFS and state aside. -/
def State.cutThrough (s : State) (p : Pkt) (inPort : Nat) : Bool :=
  let out := field (p.m 2) 29 16
  decide (p.dtype = 1) && !(bitOf (p.m 2) 11) && octBit 128 (s.get Obj.GAL_CT_PORTS) out && decide (s.ptSpeed out ≤ s.ptSpeed inPort) &&
    (s.queue out (field (p.m 2) 15 12)).entries.isEmpty

/-- The Compositor's reference of a TO_CMP frame: a copy descriptor (R248, R329, R331). -/
def State.toCmp (s : State) (d pipe queue : Nat) : State :=
  if s.copyLimit ≤ s.copiesUsed then s.bump Obj.GAL_DESC_COPY_REFUSED
  else
    let c := s.newDescr (.copy d 0x3FF queue)
    ((c.2.addRef d 1).cmpDeliver c.1).bump (Obj.PLN_TO_CMP pipe)

/-- A good frame whose destination R222 or R417 fixed reaches it when its tail is written: the MAC's LLDP agent, the management engine, a PTP
instance. The frame is read out of the galley and its reference let go. -/
def State.handOver (s : State) (port d : Nat) (w : Writing) : State :=
  let r := s.readFrame d
  let b := r.1.1
  let s1 := if r.1.2 then r.2 else
    match w.dest with
    | .lldp => r.2.modPort port fun x => { x with lldpRx := x.lldpRx ++ [b] }
    | .management => { r.2 with wonel := { r.2.wonel with rx := r.2.wonel.rx ++ [(port, b)] } }
    | .ptp i =>
      match ptpFind (s.get (Obj.PT_STAG_TPID port)) b with
      | some x =>
        let m : PtpRx := { inst := i, port := port, time := w.ts, msg := b.drop x.hdr, mac := slice b 6 6, ip := if x.kind = 1 then u b (x.hdr - 16) 4 else 0 }
        ({ r.2 with ptp := { r.2.ptp with rx := r.2.ptp.rx ++ [m] } }).cmpPush (4 + m.inst)
      | none => r.2
    | _ => r.2
  s1.releaseFrame d

/-- A complete frame goes where its disposition says (R248, R330). -/
def State.dispatch (s : State) (port : Nat) (w : Writing) : State :=
  let pipe := port / 32
  match w.dest with
  | .compositor => s.cmpDeliver w.desc
  | .ptp 2 => s.cmpDeliver w.desc
  | .pipeline =>
    let s1 := if w.toCmp ∧ (w.dtype = 1 ∨ w.dtype = 2) then s.toCmp w.desc pipe w.queue else s
    if w.dtype = 1 then s1.enqueue w.dval w.queue w.desc (chargedLen (s1.storedOf w.desc))
    else if w.dtype = 2 then s1.mcPut w.desc w.dval w.queue port
    else (s1.cmpDeliver w.desc).bump (Obj.PLN_TO_CMP pipe)
  | _ => s.handOver port w.desc w

/-! ### INGRESS_PIPELINE -/

/-- A frame without a pipeline: the 32-byte prefix of a frame that never enters a parser holds the metadata its MAC gives it (R22, R240, R242). -/
def plainMeta (port len : Nat) (f : RxFrame) : Bytes := (ingressMeta Parse.empty port 0 len f).take 32

/-- What the first buffer holds of a frame, and what is left (R318): all of it where the tail lies no further than 32 B before the chain's end. -/
def firstPart (cap : Nat) (body : Bytes) : Bytes × Bytes :=
  if body.length ≤ cap - 32 then (body, []) else (body.take (cap - 32), body.drop (cap - 32))

/-- The frame's prefix, window and first bytes are in the galley: its descriptor and the writer's state (R264 clocks 114–115, R328). -/
def State.beginWrite (s : State) (port : Nat) (buf : Nat × Nat) (f : RxFrame) (body : Bytes) (iplen : Option (Nat × Nat)) (refs : Nat) : Nat × Writing × State :=
  let part := firstPart (caseSize buf.1) body
  let cle := match iplen with | some (o, n) => o + n + 24 | none => s.get (Obj.PT_MAXLEN port) + 20
  let d := s.newDescr (.frame 0 port f.prio f.lossless false false part.1.length refs [buf] port cle)
  let w : Writing := { desc := d.1, rest := part.2, bad := f.bad, dest := f.dest, dtype := 3, dval := 0, queue := 0, toCmp := false, enqueued := false,
                       failed := false, iplen := iplen, cle := cle, ts := f.ts }
  (d.1, w, d.2.store32 (some port) [buf] 0 part.1)

/-- The case a frame's window asks for is requested in clock 17 (R317, R318, R325). -/
def State.askFirst (s : State) (port : Nat) (iplen : Option (Nat × Nat)) (f : RxFrame) : Option (Nat × Nat) × State :=
  let r := s.ask port (firstCase iplen) (some f.prio)
  match r.1.1 with
  | some b => (some b, r.2.chargeBytes port f.prio true (caseSize b.1))
  | none => (none, r.2.countRefused port f.prio r.1.2 f.lossless)

/-- A frame that never enters the ingress parser is stored as it is (R23, R240). -/
def State.ingressPlain (s : State) (port : Nat) (f : RxFrame) : State :=
  let r := s.askFirst port none f
  match r.1 with
  | none => r.2
  | some b =>
    let w := r.2.beginWrite port b f (plainMeta port f.bytes.length f ++ f.bytes) none 1
    w.2.2.modPort port fun x => { x with writing := some w.2.1 }

/-- Clock 116 of a stored frame (R248, R330, R332): offer, drop, cut-through, or the writer's disposition for its tail. -/
def State.dispose (s : State) (port : Nat) (f : RxFrame) (w : Writing) (p0 : Pkt) : State :=
  let pipe := port / 32
  let p := s.judge p0
  let s1 := s.proofOffer p w.desc
  let m2 := p.m 2
  let w1 : Writing := { w with dtype := p.dtype, dval := field m2 29 16, queue := field m2 15 12, toCmp := bitOf (p.m 3) 14 }
  let set_ := fun (a : State) (x : Writing) => a.modPort port fun y => { y with writing := some x }
  match f.dest with
  | .ptp _ => set_ s1 { w with dtype := 3 }
  | _ =>
    if p.dtype = 0 then
      -- the writer's own reference goes; the buffers follow when the tail is written and no proof holds them
      set_ ((((s1.releaseFrame w.desc).bump (Obj.PLN_DROPS pipe)).put (Obj.PLN_LAST_DROP pipe) (field (p.m 3) 31 24)).pmc (1160 + pipe) 7 1) w1
    else if s1.cutThrough p port then
      let s2 := s1.modDescr w.desc fun x => match x with
        | .frame st src prio ll _ po stored refs bufs ip cle => .frame st src prio ll true po stored refs bufs ip cle
        | y => y
      let s3 := if w1.toCmp then s2.toCmp w.desc pipe w1.queue else s2
      set_ ((s3.bump Obj.GAL_CT_FRAMES).enqueue w1.dval w1.queue w.desc w1.cle) { w1 with enqueued := true }
    else set_ s1 w1

/-- A frame through the ingress pipeline (R238–R264). -/
def State.ingressFrame (s : State) (port : Nat) (f : RxFrame) : State :=
  let pipe := port / 32
  let bank := (s.pipe pipe).ingress1
  let s1 := ((s.bump (Obj.PLN_IN_PKTS pipe)).pmc (1160 + pipe) 1 1).pmcPulse (1160 + pipe) 3
  let win := f.bytes.take 256
  let pr := s1.parse pipe bank win
  let r := pr.1
  let cls := r.clsI.getD (s.get (Obj.PLN_DEFAULT_CLASS pipe))
  let iplen := r.iplen.map fun n => (r.ipoff, n)
  -- clock 17: the request; clocks 18 to 113: the stages, which a refused frame completes as well (R327)
  let buf := pr.2.2.askFirst port iplen f
  let run := buf.2.ingressStages pipe bank cls 0
    { p := r.start win (ingressMeta r port cls f.bytes.length f) 32, slots := [], colour := [], ok := pr.2.1 } 24
  let s2 := if run.1.p.overflow then run.2.bump (Obj.PLN_WINDOW_OVF pipe) else run.2
  match buf.1 with
  | none => s2
  | some b =>
    let p := run.1.p
    let w := s2.beginWrite port b f (p.md.take 32 ++ p.win ++ f.bytes.drop 256) iplen 1
    if run.1.ok then w.2.2.dispose port f w.2.1 p
    else
      -- an uncorrectable stage word or node: discarded at clock 116, as R327 discards a refused frame (R458)
      ((w.2.2.releaseFrame w.1).bump (Obj.FLT_MI_DISCARDS 8)).modPort port fun x => { x with writing := some { w.2.1 with dtype := 0 } }

/-- A frame takes the ingress stages: all but those R222 hands elsewhere by their own addresses (R240, R417). -/
def State.entersParser (s : State) (f : RxFrame) : Bool :=
  match f.dest with
  | .pipeline => true
  | .ptp _ => decide (u f.bytes 0 6 ≠ s.get Obj.SES_MAC_ADDR)
  | _ => false

/-- INGRESS_PIPELINE (R264): the oldest frame of a port whose writer is free. -/
def execIngressPipeline (port : Nat) (s : State) : Host.Outcome State Fault Refusal :=
  .next (if 1024 ≤ port ∨ ¬ s.inService ∨ s.flt.safe ∨ s.pipeGated (port / 32) ∨ (s.port port).writing.isSome then s
    else
      match (s.port port).fifo with
      | [] => s
      | f :: rest =>
        let s1 := (s.modPort port fun x => { x with fifo := rest }).xoffEval port
        if s1.entersParser f then s1.ingressFrame port f else s1.ingressPlain port f)

/-! ### GROWTH_REQUEST, FRAME_TAIL_WRITTEN -/

/-- More of a frame is stored: its chain, the bytes written, STORED. -/
def State.storeMore (s : State) (port d : Nat) (bufs : List (Nat × Nat)) (stored : Nat) (part : Bytes) : State :=
  let s1 := s.store32 (some port) bufs stored part
  s1.modDescr d fun x => match x with
    | .frame st src prio ll ct po _ refs _ ip cle => .frame st src prio ll ct po (stored + part.length) refs bufs ip cle
    | y => y

/-- The writer asks for the next buffer of its frame (R317, R318, R327). -/
def State.growth (s : State) (port : Nat) (w : Writing) : State :=
  let bufs := s.chainOf w.desc
  let a := (s.attrOf w.desc port 0).tc
  let prio := a.getD 0
  let ll : Bool := match s.descr w.desc with | some (.frame _ _ _ l _ _ _ _ _ _ _) => l | _ => false
  let r := s.ask port (nextCase w.iplen bufs) a
  match r.1.1 with
  | some b =>
    let bufs' := bufs ++ [b]
    let stored := s.storedOf w.desc
    let part := firstPart (chainCap bufs' - stored) w.rest
    ((r.2.chargeBytes port prio true (caseSize b.1)).storeMore port w.desc bufs' stored part.1).modPort port fun x =>
      { x with writing := some { w with rest := part.2 } }
  | none =>
    let s1 := r.2.countRefused port prio r.1.2 ll
    (s1.turnBad w.desc (!w.enqueued && decide (w.dtype ≠ 0))).modPort port fun x => { x with writing := some { w with failed := true } }

/-- GROWTH_REQUEST (R318). -/
def execGrowthRequest (port : Nat) (s : State) : Host.Outcome State Fault Refusal :=
  .next (match (s.port port).writing with
    | some w => if w.rest.isEmpty ∨ w.failed then s else s.growth port w
    | none => s)

/-- The charge of a cut-through frame that has been dequeued is corrected at its tail (R349). -/
def State.correctTail (s : State) (w : Writing) : State :=
  if ¬ w.enqueued then s
  else
    let x := s.port w.dval
    match (x.sending.toList ++ x.tx).find? (fun (f : TxFrame) => decide (f.desc = w.desc)) with
    | some f => s.correctCharge w.dval f.queue f.cl (chargedLen (s.storedOf w.desc)) f.shapedQ f.shapedP
    | none => s

/-- The tail of the frame a port is writing (R27, R318, R330). -/
def State.tail (s : State) (port : Nat) (w : Writing) : State :=
  let s1 := s.modPort port fun x => { x with writing := none }
  if w.failed then s1
  else if w.bad then (s1.correctTail w).turnBad w.desc (!w.enqueued && decide (w.dtype ≠ 0))
  else
    let s2 := (s1.correctTail w).modDescr w.desc fun x => match x with
      | .frame _ src prio ll ct po stored refs bufs ip cle => .frame 1 src prio ll ct po stored refs bufs ip cle
      | y => y
    if w.enqueued ∨ w.dtype = 0 then (if s2.refsOf w.desc = 0 then s2.freeFrame w.desc else s2)
    else s2.dispatch port w

/-- FRAME_TAIL_WRITTEN (R330). -/
def execFrameTailWritten (port : Nat) (s : State) : Host.Outcome State Fault Refusal :=
  .next (match (s.port port).writing with
    | some w => if w.rest.isEmpty ∨ w.failed then s.tail port w else s
    | none => s)

end Sys2Proof.Machine
end

