-- ==== Sys2Proof/Machine/Transmit.lean ====
section
/-! DEFINITION. A frame from its queue to the wire: dequeue and egress, the transmit MAC with its corrections, authenticated departures
(R223, R261, R262, R264, R333, R343–R347, R411, R416–R422, R428, R466, R533). -/

namespace Sys2Proof.Machine
open Sys2Proof

/-! ### DEQUEUE -/

/-- A descriptor whose word 0 reads uncorrectable is quarantined, and the buffers of its chain are lost (R466). -/
def State.descLost (s : State) (d : Nat) : State :=
  if s.mem.quarantine.contains d then s
  else
    let s1 := s.bumpBy Obj.GAL_LOST (match s.descr d with | some (.frame _ _ _ _ _ _ _ _ b _ _) => b.length | _ => 0)
    { s1 with mem := { s1.mem with quarantine := setInsert s1.mem.quarantine d } }

/-- Word 0 of a queue entry's descriptors read (R466): whether they are correct. -/
def State.entryRead (s : State) (e : Nat) : Bool × State :=
  let one := fun (a : Bool × State) (d : Nat) =>
    let r := a.2.readWord 2 0 (3 * d) 1
    if r.diff.isSome then (a.1, r.state) else (false, r.state.descLost d)
  let o := s.origOf e
  if o = e then one (true, s) e else one (one (true, s) e) o

/-- The bytes egress reads of an entry: its prefix and window, 288 B or the whole stored frame (R241). -/
def State.headWanted (s : State) (d : Nat) : Nat := if s.dstateOf d = 0 then 288 else min 288 (s.storedOf d)

/-- The frame is dropped at the end of egress (R533). -/
def State.egressDrop (s : State) (port cl desc reason : Nat) : State :=
  let pipe := port / 32
  (((s.bump (Obj.PLN_DROPS pipe)).put (Obj.PLN_LAST_DROP pipe) reason).flySub port cl).releaseDesc desc

/-- Egress of a dequeued frame (R247, R257–R262): read, parsed, edited, marked, and handed to the transmit MAC, or discarded. -/
def State.egress (s : State) (port : Nat) (k : Picked) : State :=
  let pipe := port / 32
  let bank := (s.pipe pipe).egress1
  let d := k.entry.desc
  let n := s.headWanted d
  let rd := s.readWords (s.srcOf d) (s.chainOf d) 0 ((n + 31) / 32)
  let bytes := rd.1.1.take n
  let bad := rd.1.2 + b2n (s.chainLost (s.origOf d))
  let s1 := rd.2.poisonRead (s.origOf d) bad
  let win := bytes.drop 32
  let pr := s1.parse pipe bank win
  let r := pr.1
  let cls := r.clsE.getD 0
  let mcast := decide (s.origOf d ≠ d)
  let md := egressMeta (bytes.take 32) r port cls k.queue k.depth k.ce mcast
  let run := pr.2.2.egressStages pipe bank cls 0 { p := r.start win md 64, slots := [], colour := [], ok := pr.2.1 } none 16
  let p := run.1.1.p
  let s2 := if p.overflow then run.2.bump (Obj.PLN_WINDOW_OVF pipe) else run.2
  if p.dtype = 0 then s2.egressDrop port k.cl d (field (p.m 3) 31 24)
  else
    let f : TxFrame :=
      { desc := d, win := p.ceMark.win, restOff := n, cl := k.cl, queue := k.queue
        stomp := decide (0 < bad) || !run.1.1.ok, colo := run.1.2, rxNs := p.m 5 * 2 ^ 32 + p.m 6, ptp := p.mark3
        inPort := field (p.m 0) 31 22, fromCmp := bitOf (p.m 2) 10, shapedQ := (s.queue port k.queue).shaped, shapedP := s.portShaped port }
    ((s2.bump (Obj.PLN_OUT_PKTS pipe)).pmc (1160 + pipe) 2 1).modPort port fun x => { x with tx := x.tx ++ [f] }

/-- The head of the queue a port would serve has its window in the galley: a cut-through frame's may still be on its way (R333). -/
def State.headReady (s : State) (p : Nat) : Bool :=
  match s.pick p with
  | some q =>
    match (s.queue p q).entries with
    | e :: _ => decide (s.headWanted e.desc ≤ s.storedOf e.desc)
    | [] => false
  | none => false

/-- DEQUEUE (R347): the port's selection, and egress. -/
def execDequeue (port : Nat) (s : State) : Host.Outcome State Fault Refusal :=
  .next (if 1024 ≤ port ∨ ¬ s.headReady port then s
    else
      let q := (s.pick port).getD 0
      let link := s.readWord 9 ((port / 128) * 2 ^ 24) (0x40000 + 16 * (port % 128) + q) 1
      if link.diff.isNone then (link.state.linkLost port q).memWritten 9 ((port / 128) * 2 ^ 24) (0x40000 + 16 * (port % 128) + q)
      else
      match link.state.select port with
      | none => link.state
      | some (k, s1) =>
        let r := s1.entryRead k.entry.desc
        if r.1 then r.2.egress port k else (r.2.flySub port k.cl).bump (Obj.FLT_MI_DISCARDS 2))

/-! ### FRAME_TRANSMIT -/

/-- The PTP message of a departing frame: as R416 finds it, or at the MARK 3 instance of the egress parse. -/
def State.txPtp (s : State) (port : Nat) (f : TxFrame) : Option PtpAt :=
  (ptpFind (s.get (Obj.PT_STAG_TPID port)) f.win).orElse fun _ =>
    match f.ptp with
    | some o => if ptpHeaderOk f.win o then some ⟨o, none, 3⟩ else none
    | none => none

/-- The transit delay of a colophon (R261). -/
def TxFrame.colophon (f : TxFrame) (w : Bytes) (tTx : Nat) : Bytes :=
  match f.colo with
  | some o =>
    let d := (tTx / 65536 + 2 ^ 80 - f.rxNs) % 2 ^ 80
    winPatch w o (beBytes 4 (if 2 ^ 31 ≤ d then 2 ^ 32 - 1 else d))
  | none => w

/-- What the device writes into a departing PTP message whose start has the time `tTx`: the residence of a transit message (R419), the origin
timestamp of a one-step Sync of its own (R422). -/
def State.txMessage (s : State) (f : TxFrame) (x : PtpAt) (tTx : Nat) : Bytes :=
  let t := ptpType f.win x
  let d := s.ptpDomainOf (ptpDomain f.win x)
  if ¬ f.fromCmp then (if s.get Obj.TIM_TC_ENABLE = 1 ∧ ptpCorrected t then addCorrection f.win x (s.residence d tTx f.rxNs) else f.win)
  else if t = 0 ∧ ¬ bitOf (u f.win (x.hdr + 6) 1) 1 then
    let v := (s.domain d).time tTx
    let t96 := t96OfUnits v
    ptpPatch (ptpPatch f.win x 34 (beBytes 10 (t96 / 2 ^ 16))) x 8 (beBytes 8 (t96 % 2 ^ 16))
  else f.win

/-- A correction in transit is counted (R419). -/
def State.countCorrected (s : State) (f : TxFrame) (x : PtpAt) : State :=
  if ¬ f.fromCmp ∧ s.get Obj.TIM_TC_ENABLE = 1 ∧ ptpCorrected (ptpType f.win x) then s.bump Obj.TIM_TC_CORRECTED else s

/-- T_TX goes back to the Compositor for a two-step Sync and for a Delay_Req of its own (R422). -/
def State.returnTx (s : State) (port : Nat) (f : TxFrame) (x : PtpAt) (tTx : Nat) : State :=
  let t := ptpType f.win x
  if f.fromCmp ∧ (t = 1 ∨ (t = 0 ∧ bitOf (u f.win (x.hdr + 6) 1) 1)) then
    let e : PtpTx := { inst := s.ptpDomainOf (ptpDomain f.win x), port := port, kind := t, seqId := u f.win (x.hdr + 30) 2, time := tTx }
    let older := s.ptp.tx.filter fun (y : PtpTx) => !(decide (t = 1) && decide (y.inst = e.inst) && decide (y.port = port) && decide (y.kind = 1))
    { s with ptp := { s.ptp with tx := older ++ [e] } }
  else s

/-- A departing message that takes a new ICV (R428): its entry's page, where its ICV begins, and the KCE level. -/
def State.txAuth (s : State) (f : TxFrame) (x : PtpAt) : Option (Nat × Nat × Nat) :=
  let t := ptpType f.win x
  if f.fromCmp ∨ (s.get Obj.TIM_TC_ENABLE = 1 ∧ ptpCorrected t) then
    match authTlv f.win x with
    | some (icv, spp, keyId) => (s.authEntry spp keyId).map fun e => (e.2, icv, if ptpEvent t then 0 else 2)
    | none => none
  else none

/-- The KCE's handle of a port's authenticated departure and attempt. -/
def authHandle (port attempt : Nat) : Nat := 0x10000 + 8 * port + attempt

/-- The transmit MAC ends with a frame: its in-flight bytes and its reference go (R331, R343). -/
def State.txDone (s : State) (port : Nat) (f : TxFrame) : State := s.dropTx port f

/-- An attempt of an authenticated departure (R428 steps 2 and 3): the message is formed for D and handed to the KCE. -/
def State.authAttempt (s : State) (port : Nat) (h : AuthTx) (x : PtpAt) (page icv level : Nat) : State :=
  if ¬ (s.page page).serves 1 then
    ({ s.bump Obj.TIM_AUTH_REFUSED with ptp := { s.ptp with auth := smErase s.ptp.auth port } }).txDone port h.frame
  else
    let w := s.txMessage h.frame x (h.tTx + (h.departure - h.commit) * 81920)
    let s1 := { s with ptp := { s.ptp with auth := smInsert s.ptp.auth port { h with formed := w } } }
    s1.kcePut level page (authHandle port h.attempts) (slice w x.hdr (icv - x.hdr)) none

/-- The MAC starts sending a frame whose bytes are final. -/
def State.startSending (s : State) (port : Nat) (f : TxFrame) : State := s.modPort port fun y => { y with sending := some f, idleSince := s.now }

/-- The head frame of a transmitter goes out (R223, R419–R422, R428). -/
def State.transmit (s : State) (port : Nat) (ts : TxStamp) (f : TxFrame) : State :=
  let tTx := s.tTx port ts
  let plain := s.startSending port { f with win := f.colophon f.win tTx }
  match s.txPtp port f with
  | none => plain
  | some x =>
    if ptpEvent (ptpType f.win x) ∧ ¬ s.txValid port ts then (s.bump Obj.TIM_TS_INVALID).txDone port f
    else
      match (if f.stomp ∨ s.dstateOf f.desc = 2 then none else s.txAuth f x) with
      | some (page, icv, level) =>
        let h : AuthTx := { departure := s.now + nsTicks (s.get Obj.TIM_AUTH_HOLD), attempts := 1, commit := s.now, tTx := tTx, formed := f.win, frame := f }
        s.authAttempt port h x page icv level
      | none =>
        let w := s.txMessage f x tTx
        ((s.countCorrected f x).returnTx port f x tTx).startSending port { f with win := f.colophon w tTx }

/-- An authenticated message waits for its tail even in cut-through (R428). -/
def State.txWaits (s : State) (port : Nat) (f : TxFrame) : Bool :=
  match s.txPtp port f with
  | some x => decide (s.dstateOf f.desc = 0) && (s.txAuth f x).isSome
  | none => false

/-- FRAME_TRANSMIT (R223): a port that is up and awake, with nothing in transmission or held for a departure, starts its next frame. -/
def execFrameTransmit (port : Nat) (ts : TxStamp) (s : State) : Host.Outcome State Fault Refusal :=
  let x := s.port port
  .next (match x.tx with
    | f :: rest =>
      if ¬ s.portUp port ∨ x.sending.isSome ∨ x.waking.isSome ∨ x.txLpi ∨ (s.ptp.auth.any fun (e : Nat × AuthTx) => decide (e.1 = port)) ∨ s.txWaits port f then s
      else (s.modPort port fun y => { y with tx := rest }).transmit port ts f
    | [] => s)

/-! ### AUTH_DEPARTURE -/

/-- A held message at its departure (R428 steps 4 and 5): sent with its ICV, or late, or given up after the fourth attempt. -/
def State.depart (s : State) (port : Nat) (h : AuthTx) : State :=
  let f := h.frame
  match s.txPtp port f with
  | none => s
  | some x =>
    let hd := authHandle port h.attempts
    let s0 := { s with kce := { s.kce with results := s.kce.results.filter fun (e : Nat × Bytes × Bool) => decide (e.1 ≠ hd) } }
    let gone := { s0 with ptp := { s0.ptp with auth := smErase s0.ptp.auth port } }
    match s.kce.results.find? (fun (e : Nat × Bytes × Bool) => decide (e.1 = hd)), s.txAuth f x with
    | some (_, tag, true), some (_, icv, _) =>
      let tTx := h.tTx + (h.departure - h.commit) * 81920
      let w := ptpPatch h.formed x (icv - x.hdr) (tag.take 8)
      ((gone.countCorrected f x).returnTx port f x tTx).startSending port { f with win := f.colophon w tTx }
    | some (_, _, false), _ => (gone.bump Obj.TIM_AUTH_REFUSED).txDone port f
    | none, some (page, icv, level) =>
      let s1 := s0.bump Obj.TIM_AUTH_LATE
      if 4 ≤ h.attempts then (({ s1 with ptp := { s1.ptp with auth := smErase s1.ptp.auth port } }).bump Obj.TIM_AUTH_REFUSED).txDone port f
      else s1.authAttempt port { h with departure := h.departure + nsTicks (s.get Obj.TIM_AUTH_HOLD), attempts := h.attempts + 1 } x page icv level
    | _, none => (gone.bump Obj.TIM_AUTH_REFUSED).txDone port f

/-- AUTH_DEPARTURE (R428). -/
def execAuthDeparture (port : Nat) (s : State) : Host.Outcome State Fault Refusal :=
  .next (match s.ptp.auth.find? (fun (e : Nat × AuthTx) => decide (e.1 = port)) with
    | some e => if s.now < e.2.departure then s else s.depart port e.2
    | none => s)

/-! ### TRANSMIT_COMPLETE -/

/-- The FCS of a frame as it goes out: inverted where the frame is stomped (R27, R223). -/
def wireFcs (stomp : Bool) (b : Bytes) : Bytes := if stomp then (fcsBytes b).map fun (x : Byte) => x ^^^ 0xFF#8 else fcsBytes b

/-- A frame leaves: counted, its in-flight bytes and reference let go; a pause frame that waited follows (R227, R236). -/
def State.frameSent (s : State) (port : Nat) (f : TxFrame) (body : Bytes) (stomp : Bool) : State :=
  let b := if body.length < 60 then padTo 60 body else body
  let s1 := ((s.toWire port (.frame port (b ++ wireFcs stomp b) stomp) (b ++ wireFcs stomp b)).bump (Obj.CTR_TX_FRAMES port)).bumpBy (Obj.CTR_TX_OCTETS port) (b.length + 4)
  let s2 := (if stomp then s1.bump (Obj.CTR_TX_STOMP port) else s1).pmc (1024 + port / 8) 2 1
  let s3 := (s2.txDone port f).modPort port fun x => { x with sending := none, idleSince := s.now }
  match (s3.port port).pauseDue with
  | some left => s3.sendPause port (s3.get (Obj.PT_FC_MODE port)) (s3.port port).xoff left
  | none => s3

/-- TRANSMIT_COMPLETE (R223, R333, R334): the stored bytes after the window are read and sent. A frame still being received has run out of
bytes. -/
def execTransmitComplete (port : Nat) (s : State) : Host.Outcome State Fault Refusal :=
  .next (match (s.port port).sending with
    | none => s
    | some f =>
      let n := s.storedOf f.desc - f.restOff
      let rd := s.readWords (s.srcOf f.desc) (s.chainOf f.desc) (f.restOff / 32) ((n + 31) / 32)
      let s1 := rd.2.poisonRead (s.origOf f.desc) rd.1.2
      let under := decide (s.dstateOf f.desc = 0)
      let stomp := f.stomp || under || decide (s.dstateOf f.desc = 2) || decide (0 < rd.1.2)
      (if under then s1.bump Obj.GAL_CT_UNDERRUN else s1).frameSent port f (f.win ++ rd.1.1.take n) stomp)

end Sys2Proof.Machine
end

