-- ==== Sys2Proof/Machine/Programs.lean ====
section
/-! DEFINITION. Program load: check, install and bank switch of stage-program images (R265–R270). -/

namespace Sys2Proof.Machine
open Sys2Proof

/-- Whole code words of a range of keys written: no stored error, no write-back, no diagnostic mark is left in them. -/
def State.memRangeWritten (s : State) (lo hi : Nat) : State :=
  let inside := fun (k : Nat) => decide (lo ≤ k) && decide (k < hi)
  let m := { s.mem with flips := smClearRange s.mem.flips lo hi, backs := s.mem.backs.filter (fun (b : WriteBack) => !inside b.key),
                        log := s.mem.log.filter fun k => !inside k }
  ({ s with mem := m }).put Obj.FLT_DIAG_LOGGED m.log.length

/-- A bank of a pipeline written whole from an image. -/
def State.bankWrite (s : State) (k : Nat) (b : Bool) (im : Image) (id : Nat) : State :=
  let base := k * 2 ^ 24 + b2n b * 2 ^ 16
  (s.memRangeWritten (memKey 8 base 0) (memKey 8 (base + 41) 0)).modPipe k fun x =>
    if b then { x with bank1 := im, id1 := id } else { x with bank0 := im, id0 := id }

/-- A check, an install or a switch runs (R268). -/
def State.plnBusy (s : State) : Bool := s.isBusy Obj.PLN_CHECK || s.isBusy Obj.PLN_INSTALL || s.isBusy Obj.PLN_SWITCH

/-- A START on `PLN_CHECK` (R266). -/
def startPlnCheck (s : State) : Nat × State :=
  if s.plnBusy then (Res.busy, s)
  else
    match imageCheck s.pipes.staging s.pipes.stagedTotal with
    | some (detail, place) => (Res.ok, (s.put Obj.PLN_CHECK_WHERE place).runOnce Obj.PLN_CHECK Res.badValue detail)
    | none =>
      let s1 := { s with pipes := { s.pipes with staging := imageClean s.pipes.staging } }
      (Res.ok, ((s1.put Obj.PLN_CHECK_WHERE 0).put Obj.PLN_CHECK_ID (imageId s.pipes.staging)).runOnce Obj.PLN_CHECK Res.ok 0)

/-- The pipelines of a mask. -/
def maskPipes (mask : Nat) : List Nat := (upTo 32).filter fun k => bitOf mask k

/-- A START on `PLN_INSTALL` (R267). -/
def startPlnInstall (s : State) : Nat × State :=
  let id := s.get Obj.PLN_CHECK_ID
  let mask := s.get Obj.PLN_INSTALL_MASK
  if s.plnBusy then (Res.busy, s)
  else if id = 0 then (Res.ok, s.runOnce Obj.PLN_INSTALL Res.badState 1)
  else if mask = 0 then (Res.ok, s.runOnce Obj.PLN_INSTALL Res.badState 2)
  else (Res.ok, ((maskPipes mask).foldl (fun a k => a.bankWrite k (!(a.pipe k).ingress1) s.pipes.staging id) s).runOnce Obj.PLN_INSTALL Res.ok 0)

/-- `PLN_STANDBY_ID` of a pipeline. -/
def State.standbyId (s : State) (k : Nat) : Nat := (s.pipe k).bankId (!(s.pipe k).ingress1)

/-- `PLN_ACTIVE_ID` of a pipeline. -/
def State.activeId (s : State) (k : Nat) : Nat := (s.pipe k).bankId (s.pipe k).ingress1

/-- A START on `PLN_SWITCH` (R268): the switch waits for its clock T. -/
def startPlnSwitch (s : State) : Nat × State :=
  let mask := s.get Obj.PLN_SWITCH_MASK
  if s.plnBusy then (Res.busy, s)
  else if (maskPipes mask).any fun k => decide (s.standbyId k = 0) then (Res.ok, s.runOnce Obj.PLN_SWITCH Res.badState 1)
  else if mask = 0 then (Res.ok, s.runOnce Obj.PLN_SWITCH Res.badState 2)
  else
    let x : PlnSwitch := { mask := mask, mode := s.get Obj.PLN_SWITCH_MODE, passed := false, seqT := 0, deadline := 0, abort := false }
    (Res.ok, { s with pipes := { s.pipes with switch := some x } }.runBegin Obj.PLN_SWITCH)

/-- An ABORT of a switch (R268): in mode 1 egress switches in the next clock. -/
def State.abortPlnSwitch (s : State) : State :=
  match s.pipes.switch with
  | some x => if x.mode = 1 then { s with pipes := { s.pipes with switch := some { x with abort := true } } } else s
  | none => s

/-- `PLN_DRAIN_LEFT` of a drain: frames enqueued before T that still wait for ports of the masked pipelines. -/
def State.drainLeft (s : State) (x : PlnSwitch) : Nat :=
  ((s.sched.queues.filter fun (e : Nat × Queue) => bitOf x.mask (e.1 / 16 / 32)).map fun (e : Nat × Queue) =>
    (e.2.entries.filter fun (q : QEntry) => decide (q.seq < x.seqT)).length).foldl (· + ·) 0

/-- `PLN_STATE` (R272). -/
def State.plnState (s : State) (k : Nat) : Nat :=
  let drains : Bool := match s.pipes.switch with | some x => x.passed && bitOf x.mask k | none => false
  if s.pipeGated k then 0 else if drains then 3 else if s.activeId k = 0 then 1 else 2

/-- INGRESS_BANK_SWITCH (R268): clock T of a switch; in mode 0 egress switches with it and the run ends. -/
def execIngressBankSwitch (s : State) : Host.Outcome State Fault Refusal :=
  .next (match s.pipes.switch with
    | none => s
    | some x =>
      if x.passed then s
      else
        let s1 := (maskPipes x.mask).foldl (fun a k =>
          (a.bump (Obj.PLN_SWITCHES k)).modPipe k fun y => { y with ingress1 := !y.ingress1, egress1 := if x.mode = 0 then !y.ingress1 else y.egress1 }) s
        if x.mode = 0 then { s1 with pipes := { s1.pipes with switch := none } }.runEnd Obj.PLN_SWITCH Res.ok 0
        else
          { s1 with pipes := { s1.pipes with switch := some { x with passed := true, seqT := s1.sched.enqSeq + 1,
                                                                     deadline := s1.now + msTicks (s1.get Obj.PLN_DRAIN_TIMEOUT) } } })

/-- EGRESS_BANK_SWITCH (R268): the end of a drain: drained, timed out or aborted. -/
def execEgressBankSwitch (s : State) : Host.Outcome State Fault Refusal :=
  .next (match s.pipes.switch with
    | none => s
    | some x =>
      let left := s.drainLeft x
      if ¬ x.passed ∨ ¬ (x.abort ∨ left = 0 ∨ x.deadline ≤ s.now) then s
      else
        let s1 := (maskPipes x.mask).foldl (fun a k => a.modPipe k fun y => { y with egress1 := y.ingress1 }) s
        let s2 := { s1 with pipes := { s1.pipes with switch := none } }.put Obj.PLN_DRAIN_LEFT left
        if x.abort then s2.runEnd Obj.PLN_SWITCH Res.aborted 0
        else s2.runEnd Obj.PLN_SWITCH Res.ok (if left = 0 then 0 else 1))

/-- The stored images come back in phase 9 (R269): each pipeline's stored image becomes its active one; an image that fails its CRC leaves its
pipeline without a program and records a restore fault. `programs`: IMAGE_ID × 4096 + word ↦ value. -/
def State.restorePrograms (s : State) (x : Images) : State :=
  (upTo 32).foldl (fun a k =>
    let id := listAt 0 x.active k
    if id = 0 then a
    else
      let im : Image := (x.programs.filter fun (e : Nat × Nat) => decide (e.1 / 4096 = id)).map fun (e : Nat × Nat) => (e.1 % 4096, e.2)
      if imageCrc im = imageCrcField im then a.bankWrite k (a.pipe k).ingress1 im id else a.restoreFault 0x0B00) s

/-- The images that a commit stores (R269): every distinct active image once, and the IMAGE_ID of each pipeline. -/
def State.storedPrograms (s : State) : List (Nat × Nat) × List Nat :=
  let ids := ((upTo 32).map s.activeId)
  let one := fun (l : List (Nat × Nat)) (k : Nat) =>
    let id := s.activeId k
    if id = 0 ∨ l.any fun (e : Nat × Nat) => decide (e.1 / 4096 = id) then l
    else (((s.pipe k).bank (s.pipe k).ingress1).map fun (e : Nat × Nat) => (id * 4096 + e.1, e.2)).foldl (fun m (e : Nat × Nat) => smInsert m e.1 e.2) l
  ((upTo 32).foldl one [], ids)

end Sys2Proof.Machine
end

