-- ==== Sys2Proof/Machine/Commit.lean ====
section
/-! DEFINITION. Persistent-store commits and lifecycle transitions (R74–R84, R157, R158, R269, R446, R526). -/

namespace Sys2Proof.Machine
open Sys2Proof

/-! ### What a commit stores (R74, R75, R77, R531) -/

/-- A configuration entry of a fault source as its 16 bytes (R496). -/
def SrcCfg.entry (c : SrcCfg) : Nat := ((c.n * 65536 + c.flags * 256) * 2 ^ 32 + c.window) * 2 ^ 64 + c.react * 2 ^ 32

/-- A persist-flag object. -/
def persists (key : Nat) : Bool := match descOf (key / 256) (key % 256) with | some d => d.persist | none => false

/-- The dictionary image of the live values: every persist-flag object that differs from its default (R531). -/
def State.liveImage (s : State) : List (Nat × Nat) := s.dict.filter fun (e : Nat × Nat) => persists e.1

/-- The image records of the live state (R75). -/
def State.liveImages (s : State) : Images :=
  let progs := s.storedPrograms
  { fltCfg := s.flt.cfg.map fun (e : Nat × SrcCfg) => (e.1, e.2.entry)
    ptpPorts := s.ptp.ports
    policers := (s.sched.policers.filter fun (e : Nat × Policer) => decide (e.2.entry % 2 ^ 32 ≠ 0)).map fun (e : Nat × Policer) => (e.1, e.2.entry)
    groups := s.sched.groups.filter fun (e : Nat × Nat) => decide (e.2 % 2 ^ 1024 ≠ 0)
    programs := progs.1
    active := if progs.1 = [] then [] else progs.2 }

/-- The calibration as the device itself keeps it beside its factory part (R201, R336). -/
def State.liveCalib (s : State) : Calib :=
  { factory := s.bank.calib.factory, linkMap := s.linkMap, bankMap := s.galley.remap ++ s.galley.retired.map fun b => (2048 + b, 1) }

/-- The distinct images of a set of records. -/
def Images.ids (x : Images) : List Nat := (x.active.filter (· ≠ 0)).foldl setInsert []

/-- The records in order with the length of each (R75): CODE and bytes, record header included; empty content has none. -/
def Images.records (x : Images) : List (Nat × Nat) :=
  let rec_ := fun (code n each : Nat) => if n = 0 then [] else [(code, 12 + n * each)]
  rec_ 0x0400 x.fltCfg.length 20 ++ rec_ 0x0600 x.ptpPorts.length 36 ++ rec_ 0x0900 x.policers.length 20 ++ rec_ 0x0900 x.groups.length 136 ++
    rec_ 0x0B00 x.ids.length 90176 ++ rec_ 0x0B00 (b2n (!x.ids.isEmpty)) 128

/-- The CODE of the first record that does not fit the image area (R75). -/
def firstUnfit (used : Nat) : List (Nat × Nat) → Option Nat
  | [] => none
  | (code, n) :: t => if 2268 * 1024 < used + n then some code else firstUnfit (used + n) t

/-- Bytes of the image area of a bank: its header with its records, or with the directory of a flash (R75). -/
def State.areaUsed (s : State) (b : Bank) : Nat :=
  if s.boot.bootSel = 1 then 16 + 16 * s.store.flash.records.length
  else 16 + (b.images.records.map Prod.snd).foldl (· + ·) 0

/-- Bytes of a dictionary image (R531). -/
def dictImageLen (l : List (Nat × Nat)) : Nat := 16 + (l.map fun (e : Nat × Nat) => 3 + widthOf e.1 / 8).foldl (· + ·) 0

/-- `LCY_PS_USED` (R79): what the active bank's regions use. -/
def State.psUsed (s : State) : Nat :=
  let b := s.bank
  4096 + (if b.calib.factory then Config.calibLength else 0) + dictImageLen b.dictImage + b.patch.length + s.areaUsed b

/-- `LCY_PS_DIRTY` (R79): a live value differs from the active bank, or a commit was stopped. -/
def State.psDirty (s : State) : Bool := s.store.lostCommit || decide (s.liveImage ≠ s.bank.dictImage)

/-! ### Commits (R77, R78) -/

/-- Blocks of 64 KiB of a bank (R446). -/
abbrev bankBlocks : Nat := 64

/-- A commit begins: its snapshot, and the inactive bank's header is erased (R77 steps 1 and 2). -/
def State.commitBegin (s : State) (snap : Snapshot) : State :=
  let st := { s.store with stage := .running, snap := snap, lastStart := some s.now }
  let off := fun (b : Bank) => { b with valid := false }
  { s with store := if s.store.active = 0 then { st with bankB := off st.bankB } else { st with bankA := off st.bankA } }.progBegin 1 bankBlocks

/-- The snapshot of the live values (R77 step 1). -/
def State.liveSnapshot (s : State) : Snapshot := { dictImage := s.liveImage, calib := s.liveCalib, patch := s.cmp.active, images := s.liveImages }

/-- A requested commit begins, or is held until 5 s have passed since the last began (R78). -/
def State.commitAsk (s : State) : State :=
  let wait : Bool := match s.store.lastStart with | some t => decide (s.now < t + secTicks 5) | none => false
  let s1 := s.runBegin Obj.LCY_PS_COMMIT
  if wait then { s1 with store := { s1.store with stage := .held } } else s1.commitBegin s1.liveSnapshot

/-- A START on `LCY_PS_COMMIT` by a session of a class (R77, R78, R80, R83). -/
def startLcyPsCommit (s : State) (cls : Nat) : Nat × State :=
  let lcy := s.get Obj.LCY_STATE
  if lcy = 0 ∨ lcy = 3 ∨ (2 ≤ s.boot.bootSel ∧ cls ≠ 3) ∨ 99999000 ≤ s.get Obj.LCY_PS_WEAR then (Res.badState, s)
  else if s.store.transition.isSome then (Res.busy, s)
  else match s.store.stage with
    | .idle => (Res.ok, s.commitAsk)
    | .held => (Res.ok, s)
    | .running => (Res.ok, { s with store := { s.store with queued := true } })

/-- COMMIT_HOLD_EXPIRY (R78). -/
def execCommitHoldExpiry (s : State) : Host.Outcome State Fault Refusal :=
  let due : Bool := match s.store.lastStart with | some t => decide (t + secTicks 5 ≤ s.now) | none => true
  .next (if s.store.stage = .held ∧ due then s.commitBegin s.liveSnapshot else s)

/-- The commit of a transition takes what the active bank holds, or nothing for RETURN (R83 step 3). -/
def State.transitionSnapshot (s : State) (target : Nat) : Snapshot :=
  let b := s.bank
  if target = 3 then { calib := { factory := false } }
  else { dictImage := b.dictImage, calib := { factory := b.calib.factory }, patch := b.patch, images := b.images }

/-- Step 3 of a transition begins (R83): the key-region copy paired with the inactive bank is erased (R158). -/
def State.transitionCommit (s : State) (t : Transition) : State :=
  let s1 := s.commitBegin (s.transitionSnapshot t.target)
  let st := { s1.store with transition := some { t with step := 3 } }
  { s1 with store := if st.active = 0 then { st with keys1 := {} } else { st with keys0 := {} } }

/-- What follows a commit's end (R77, R83): the transition that waited, else a queued commit. -/
def State.afterCommit (s : State) : State :=
  let s1 := { s with store := { s.store with stage := .idle, snap := {} } }
  match s1.store.transition with
  | some t => if t.step = 2 then { s1 with store := { s1.store with queued := false } }.transitionCommit t else s1
  | none => if s1.store.queued then { s1 with store := { s1.store with queued := false } }.commitAsk else s1

/-- A commit ends without publishing (R75, R79, R115, R446). -/
def State.commitFails (s : State) (outcome detail : Nat) : State :=
  (((s.runEnd Obj.LCY_PS_COMMIT outcome detail).progEnd 1 outcome 0).latch Attn.lifecycle).afterCommit

/-- An ABORT of a commit (R446): a held one ends; a running one stops, its bank invalid. -/
def State.abortCommit (s : State) : State :=
  match s.store.stage with
  | .idle => s
  | .held => (s.runEnd Obj.LCY_PS_COMMIT Res.aborted 0).afterCommit
  | .running => if s.isBusy Obj.LCY_PS_COMMIT then s.commitFails Res.aborted 0 else s

/-- The key-region copies follow a commit (R158): the inactive bank's copy written in full, then the other's header, with the new TAG. -/
def State.keysFollow (s : State) (gen : Nat) : State :=
  let src := if s.store.active = 0 then s.store.keys0 else s.store.keys1
  let c : KeyCopy := { src with tag := some gen }
  (({ s with store := { s.store with keys0 := c, keys1 := c } }).wear 2).wear 3

/-- The new bank is published (R77 step 4): it becomes active. -/
def State.publish (s : State) (lifecycle transitions : Nat) (key : Bytes) (images : Images) : State :=
  let old := s.bank
  let gen := old.generation + 1
  let x := s.store.snap
  let b : Bank := { valid := true, generation := gen, lifecycle := lifecycle, transitions := transitions, carriedKey := key,
                    calib := x.calib, dictImage := x.dictImage, patch := x.patch, images := images }
  let dest := 1 - s.store.active
  let st := if dest = 0 then { s.store with bankA := b, active := 0 } else { s.store with bankB := b, active := 1 }
  let s1 := (({ s with store := { st with lostCommit := false } }).wear dest).put Obj.LCY_PS_BANK dest
  (s1.put Obj.LCY_PS_GENERATION gen).latch Attn.lifecycle

/-- An ordinary commit: its images to the area or the flash, then its header. -/
def State.ordinaryCommit (s : State) (flashOk : Bool) (b : Bank) : State :=
  let im := s.store.snap.images
  let done := fun (a : State) => ((a.runEnd Obj.LCY_PS_COMMIT Res.ok 0).progDone 1 bankBlocks |>.progEnd 1 Res.ok 0).afterCommit
  if s.boot.bootSel = 1 then
    let s1 := if im.records = [] then s else s.emit .flashWrite
    if im.records ≠ [] ∧ (¬ flashOk ∨ ¬ s.store.flashPresent) then s1.commitFails Res.badLength 0x0B01
    else
      let s2 := (s1.keysFollow (b.generation + 1)).publish b.lifecycle b.transitions b.carriedKey {}
      done { s2 with store := { s2.store with flash := im } }
  else
    match firstUnfit 16 im.records with
    | some code => s.commitFails Res.badLength code
    | none => done ((s.keysFollow (b.generation + 1)).publish b.lifecycle b.transitions b.carriedKey im)

/-- COMMIT_COMPLETE (R75, R77, R83, R158, R526): programming and verification end. -/
def execCommitComplete (flashOk : Bool) (s : State) : Host.Outcome State Fault Refusal :=
  .next (if s.store.stage ≠ .running then s
    else
      let b := s.bank
      match s.store.transition with
      | some t =>
        if t.step = 3 then
          let s1 := s.publish t.target (b.transitions + 1) t.key s.store.snap.images
          let s2 := s1.progDone 1 bankBlocks |>.progEnd 1 Res.ok 0
          { s2 with store := { s2.store with stage := .idle, snap := {}, transition := some { t with step := 4 } } }
        else s.ordinaryCommit flashOk b
      | none => s.ordinaryCommit flashOk b)

/-! ### Transitions (R81–R84) -/

/-- The transitions of R81. -/
def transitionAllowed (from_ dest : Nat) : Bool :=
  decide ((from_, dest) = (0, 1) ∨ (from_, dest) = (0, 3) ∨ (from_, dest) = (1, 2) ∨ (from_, dest) = (2, 1) ∨ (from_, dest) = (1, 3) ∨ (from_, dest) = (2, 3))

/-- A START on `LCY_TRANSITION` by a session (R81, R82, R83). -/
def startLcyTransition (s : State) (session : Nat) : Nat × State :=
  let len := s.get Obj.LCY_NEXT_KEY_LEN
  let target := s.get Obj.LCY_TARGET
  if s.store.transition.isSome then (Res.busy, s)
  else if ¬ transitionAllowed (s.get Obj.LCY_STATE) target ∨ 100000000 ≤ s.get Obj.LCY_PS_WEAR then (Res.badState, s)
  else if s.get Obj.LCY_CONFIRM ≠ (s.get Obj.LCY_TRANSITIONS + 1) % 2 ^ 32 ∨ (len ≠ 16 ∧ len ≠ 32) then (Res.badValue, s)
  else
    let t : Transition := { target := target, key := (beBytes 32 (s.get Obj.LCY_NEXT_KEY)).take len, session := session, step := 2 }
    let s1 := { s with store := { s.store with transition := some t } }.runBegin Obj.LCY_TRANSITION
    (Res.ok, match s1.store.stage with
      | .idle => s1.transitionCommit t
      | .held => s1.commitBegin s1.liveSnapshot
      | .running => s1)

/-- TRANSITION_FINISH (R83 steps 4 to 6). -/
def execTransitionFinish (s : State) : Host.Outcome State Fault Refusal :=
  .next (match s.store.transition with
    | some t =>
      if t.step ≠ 4 then s
      else
        let st := { s.store with keys0 := {}, keys1 := {}, transition := none }
        let st1 := if t.target = 3 then (if st.active = 0 then { st with bankB := {} } else { st with bankA := {} }) else st
        { s with store := st1 }.innerReset 3
    | none => s)

end Sys2Proof.Machine
end

