-- ==== Sys2Proof/Machine/Compositor.lean ====
section
/-! DEFINITION. The Compositor: contexts, lines, safe points, the control store and patches (R433–R457). The routines' own work is what the
chapters' commands do; a line command is the sequencer's work on the line that its context stands at (DEDUCED, notes/assumptions/41). -/

namespace Sys2Proof.Machine
open Sys2Proof

/-! ### Contexts (R433, R434) -/

/-- The priority of a context; 0 is the highest (R433). -/
def ctxPriority (c : Nat) : Nat := listAt 3 [0, 0, 1, 1, 1, 1, 2, 2, 3, 3, 3, 3, 3, 3, 0, 3] c

/-- The progress object of a context: k of R456. -/
def ctxProgress (c : Nat) : Option Nat :=
  if c = 2 then some 4 else if c = 3 then some 5 else if c = 8 then some 3 else if c = 10 then some 2
  else if c = 11 then some 1 else if c = 13 then some 6 else if c = 14 then some 0 else none

/-- COND (R438), judged on a context. -/
def State.condOf (s : State) (c : Nat) (cond : Nat) : Bool :=
  let x := s.ctx c
  if cond = 0 then true
  else if cond = 1 then x.z
  else if cond = 2 then x.n
  else if cond = 3 then x.c
  else if cond = 4 then x.v
  else if cond = 5 then decide (x.lc = 0)
  else if cond = 6 then !x.queue.isEmpty
  else if cond = 7 then x.abort
  else if cond = 8 then x.expired
  else if cond = 9 then x.pend.isEmpty
  else if cond = 10 then s.kce.results.any fun (e : Nat × Bytes × Bool) => decide (e.1 = 0x20000 + c)
  else if cond = 11 then decide (x.netWrites = 0)
  else false

/-- An idle context with a word in its queue is ready at line c, and a waiting one whose COND is true goes on behind its WAIT (R434, R437). -/
def State.readyCtxs (s : State) : State :=
  (upTo 16).foldl (fun a c =>
    let x := a.ctx c
    match x.state with
    | .idle => if x.queue.isEmpty then a else a.modCtx c fun y => { y with state := .ready, line := c, stack := [], gap := 0, readyAt := a.now }
    | .waiting => if a.condOf c x.wait then a.modCtx c fun y => { y with state := .ready, line := x.line + 1, readyAt := a.now } else a
    | _ => a) s

/-- The context that the sequencer chooses next (R434): of the highest priority that has one ready, the first after the one that ran last. -/
def State.chooseCtx (s : State) : Option Nat :=
  (upTo 4).findSome? fun p =>
    let after := listAt 15 s.cmp.last p
    ((upTo 16).map fun i => (after + 1 + i) % 16).find? fun c => decide (ctxPriority c = p) && decide ((s.ctx c).state = .ready)

/-- A ready context of higher priority than c, and one of c's own priority. -/
def State.higherReady (s : State) (c : Nat) : Bool := (upTo 16).any fun i => decide (ctxPriority i < ctxPriority c) && decide ((s.ctx i).state = .ready)
def State.equalReady (s : State) (c : Nat) : Bool :=
  (upTo 16).any fun i => decide (i ≠ c) && decide (ctxPriority i = ctxPriority c) && decide ((s.ctx i).state = .ready)

/-- The running context leaves the sequencer in a state. -/
def State.leaveSeq (s : State) (c : Nat) (st : CtxState) (line : Nat) : State :=
  let s1 := s.modCtx c fun x => { x with state := st, line := line, run := 0, readyAt := s.now }
  { s1 with cmp := { s1.cmp with current := none } }

/-- A fault event of the Compositor (R437, R441, R444). -/
def State.cmpFault (s : State) (detail : Nat) : State := s.failureOf 249 0 detail

/-- The context restarts at line c (R433, R455). Its return stack is empty there (DEDUCED, notes/assumptions/43). -/
def State.restartCtx (s : State) (c : Nat) : State :=
  (s.modCtx c fun x => { x with line := c, stack := [], gap := 0 }).bump (Obj.CMP_C_RESTARTS c)

/-- CONTEXT_WAKE (R434): the sequencer, free, takes the ready context that is next. -/
def execContextWake (ctx : Nat) (s : State) : Host.Outcome State Fault Refusal :=
  let s1 := s.readyCtxs
  .next (if s1.cmp.current.isSome ∨ s1.chooseCtx ≠ some ctx then s1
    else
      let x := s1.ctx ctx
      let s2 := (s1.raiseTo (Obj.CMP_C_READY_MAX ctx) (((s1.now - x.readyAt) * 5 + 3) / 4)).modCtx ctx fun y => { y with state := .running, run := 0 }
      let s3 := { s2 with cmp := { s2.cmp with current := some ctx, last := listSet s2.cmp.last (ctxPriority ctx) ctx } }
      match ctxProgress ctx with
      | some k => if s3.get (Obj.CMP_P_STATE k) = 2 then s3.put (Obj.CMP_P_STATE k) 1 else s3
      | none => s3)

/-- CONTEXT_TIMER_EXPIRY (R433, R442). -/
def execContextTimerExpiry (ctx : Nat) (s : State) : Host.Outcome State Fault Refusal :=
  .next (match (s.ctx ctx).timer with
    | some t => if t ≤ s.now then (s.modCtx ctx fun x => { x with timer := none, expired := true }).readyCtxs else s
    | none => s)

/-- A value delivered to or written into a register; W00 takes it into LC (R440). -/
def Ctx.write (x : Ctx) (r v : Nat) : Ctx :=
  if r = 0 then { x with lc := v % 2 ^ 32 } else { x with regs := smSet 0 x.regs r (v % 2 ^ 64) }

/-- A register as it stands (R440). -/
def Ctx.reg (x : Ctx) (r : Nat) : Nat := if r = 0 then 0 else smGet 0 x.regs r

/-- NET_READ_RESPONSE (R440): the response fills the register that waits longest for one. -/
def execNetReadResponse (ctx : Nat) (value : BitVec 64) (s : State) : Host.Outcome State Fault Refusal :=
  .next (match (s.ctx ctx).pend.find? (fun (e : Nat × Option (Nat × Nat)) => decide (e.2 = none)) with
    | some e => (s.modCtx ctx fun x => { x.write e.1 value.toNat with pend := x.pend.erase e }).readyCtxs
    | none => s)

/-! ### The line (R436) -/

/-- The fields of a line. -/
structure Microline where
  seqOp : Nat
  cond : Nat
  target : Nat
  safe : Bool
  aluOp : Nat
  a : Nat
  b : Nat
  bImm : Bool
  d : Nat
  dSrc : Nat
  fWe : Bool
  memOp : Nat
  memA : Nat
  memD : Nat
  netOp : Nat
  netA : Nat
  netD : Nat
  evtOp : Nat
  evtArg : Nat
  rsv : Nat
  imm : Nat
deriving DecidableEq, Repr

/-- A line taken apart (R436). -/
def microline (w : Nat) : Microline :=
  { seqOp := field w 143 140, cond := field w 139 134, target := field w 133 117, safe := bitOf w 116, aluOp := field w 115 111, a := field w 110 105,
    b := field w 104 99, bImm := bitOf w 98, d := field w 97 92, dSrc := field w 91 90, fWe := bitOf w 89, memOp := field w 88 87, memA := field w 86 81,
    memD := field w 80 75, netOp := field w 74 72, netA := field w 71 66, netD := field w 65 60, evtOp := field w 59 57, evtArg := field w 56 52,
    rsv := field w 51 48, imm := field w 47 0 }

/-- A 48-bit immediate sign-extended to 64 bits. -/
def immExt (imm : Nat) : Nat := ofSigned 64 (toSigned 48 imm)

/-- Leading zero bits of a 64-bit value. -/
def clz64 (a : Nat) : Nat := ((upTo 64).findIdx? fun i => bitOf a (63 - i)).getD 64

/-- The ALU (R439): result, carry, overflow; none for NOP. -/
def cmpAlu (op a b : Nat) : Option (Nat × Bool × Bool) :=
  let sh := b % 64
  let plain := fun (v : Nat) => some (v % 2 ^ 64, false, false)
  let sa := toSigned 64 a
  let sb := toSigned 64 b
  match op with
  | 0x01 => plain a
  | 0x02 => plain b
  | 0x03 =>
    let r := (a + b) % 2 ^ 64
    some (r, decide (2 ^ 64 ≤ a + b), decide (toSigned 64 r ≠ sa + sb))
  | 0x04 =>
    let r := (a + 2 ^ 64 - b) % 2 ^ 64
    some (r, decide (a < b), decide (toSigned 64 r ≠ sa - sb))
  | 0x05 => plain (a &&& b)
  | 0x06 => plain (a ||| b)
  | 0x07 => plain (a ^^^ b)
  | 0x08 => plain (a <<< sh)
  | 0x09 => plain (a >>> sh)
  | 0x0A => plain (ofSigned 64 (sa.fdiv ((2 ^ sh : Nat) : Int)))
  | 0x0B => plain (a * b)
  | 0x0C => plain (ofSigned 64 ((sa * sb).fdiv ((2 ^ 64 : Nat) : Int)))
  | 0x0D => plain (a * b / 2 ^ 64)
  | 0x0E => plain (if sa ≤ sb then a else b)
  | 0x0F => plain (if sa ≤ sb then b else a)
  | 0x10 => plain (clz64 a)
  | 0x11 => plain (crc32c (a % 2 ^ 32) (beBytes 8 b))
  | 0x12 => plain ((a >>> sh) % 2 ^ ((b / 256) % 64 + 1))
  | _ => none

/-- The registers that a line reads (R440): those whose value one of its fields uses. -/
def Microline.reads (l : Microline) : List Nat :=
  let alu := l.aluOp
  (if (alu ≠ 0 ∧ alu ≠ 2) ∨ l.seqOp = 8 ∨ l.evtOp = 3 then [l.a] else []) ++
    (if (¬ l.bImm ∧ alu ≠ 0 ∧ alu ≠ 1 ∧ alu ≠ 0x10) ∨ l.evtOp = 4 then [l.b] else []) ++
    (if l.memOp = 1 ∨ l.memOp = 2 then [l.memA] else []) ++ (if l.memOp = 2 then [l.memD] else []) ++
    (if l.netOp = 1 ∨ l.netOp = 2 then [l.netA] else []) ++ (if l.netOp = 2 then [l.netD] else [])

/-! ### The control store (R447) -/

/-- Where the line of an address is kept: the overlay's patch line for a mapped ROM segment; instance and address of kind 11. -/
def State.linePlace (s : State) (a : Nat) : Bool × Nat :=
  if a < 0x10000 then
    let k := smGet 0 s.cmp.overlay (a / 16)
    if k = 0 then (false, a) else (true, 16 * (k - 1) + a % 16)
  else (true, a - 0x10000)

/-- The ROM (R433): lines 0x0000 to 0x000E jump to the routines, whose places Config gives; line 0x000F holds END. -/
def romWord (a : Nat) : Nat :=
  let w := (Config.romLine a).toNat
  if a < 15 then 2 ^ 140 + field w 133 117 * 2 ^ 117 + 2 ^ 116 else if a = 15 then 9 * 2 ^ 140 + 2 ^ 116 else w

/-- The content of a control-store line. -/
def State.lineAt (s : State) (p : Bool × Nat) : Nat := if p.1 then smGet 0 s.cmp.ram p.2 else romWord p.2

/-- A line is fetched through its check bits: none when it is uncorrectable. -/
def State.fetchLine (s : State) (a : Nat) : Option Nat × State :=
  let p := s.linePlace a
  let r := s.readWord 11 (if p.1 then 2 ^ 24 else 0) p.2 1
  (r.diff.map fun d => s.lineAt p ^^^ d, r.state)

/-! ### Patch changes (R450–R452) -/

/-- A change of patch runs, or a check (R454). -/
def State.patchBusy (s : State) : Bool := s.isBusy Obj.CMP_PATCH_CHECK || s.cmp.patchRun.isSome

/-- Bytes of the staging window (R457). -/
def State.stagedBytes (s : State) (off n : Nat) : Bytes := (upTo n).map fun i => u8 (smGet 0 s.cmp.staged (off + i))

/-- An image's byte string: its NMAP, NSEG and entries (R448). -/
def patchMaps (im : Bytes) : List (Nat × Nat) := (upTo (u im 24 2)).map fun i => (u im (64 + 4 * i) 2, u im (66 + 4 * i) 2)

/-- The lines of an image, by patch line. -/
def patchLines (im : Bytes) : List (Nat × Nat) :=
  let base := 64 + 4 * u im 24 2
  (upTo (16 * u im 26 2)).map fun i => (i, u im (base + 18 * i) 18)

/-- The address of a line lies in patch RAM under an overlay (R450). -/
def inPatch (overlay : List (Nat × Nat)) (a : Nat) : Bool := decide (0x10000 ≤ a) || decide (smGet 0 overlay (a / 16) ≠ 0)

/-- The overlay that the staged image would give, or none for a removal. -/
def State.newOverlay (s : State) (remove : Bool) : List (Nat × Nat) :=
  if remove then [] else (patchMaps (s.stagedBytes 0 (64 + 4 * u (s.stagedBytes 24 2) 0 2))).foldl (fun m e => smInsert m e.1 (e.2 + 1)) []

/-- The address at which a context goes on. -/
def Ctx.resume (x : Ctx) (c : Nat) : Nat := match x.state with | .idle => c | .waiting => x.line + 1 | _ => x.line

/-- A context is touched by a change between two overlays (R450). -/
def touchedBy (old new : List (Nat × Nat)) (a : Nat) : Bool := inPatch old a || inPatch new a

/-- A context parks where it stands. -/
def State.park (s : State) (c : Nat) : State :=
  (s.modCtx c fun x => { x with was := x.state, state := .parked }).put (Obj.CMP_C_LINE c) ((s.ctx c).resume c)

/-- A touched context parks where it waits or has ended (R451, step 1). -/
def State.parkTouched (s : State) : State :=
  (upTo 16).foldl (fun (a : State) c => if (a.ctx c).touched ∧ ((a.ctx c).state = .idle ∨ (a.ctx c).state = .waiting) then a.park c else a) s

/-- Some touched context is not parked yet. -/
def State.touchedOpen (s : State) : Bool := (upTo 16).any fun c => (s.ctx c).touched && decide ((s.ctx c).state ≠ .parked)

/-- The halt begins, and every context parks that does not run (R451, step 2). -/
def State.haltAll (s : State) (r : PatchRun) : State :=
  (upTo 16).foldl (fun (a : State) c => if (a.ctx c).state = .parked ∨ (a.ctx c).state = .running then a else a.park c)
    { s with cmp := { s.cmp with patchRun := some { r with halted := some (r.halted.getD s.now) } } }

/-- Settle and halt (R451, steps 1 and 2): once every touched context is parked the halt begins. -/
def State.settle (s : State) : State :=
  match s.cmp.patchRun with
  | none => s
  | some r => if s.parkTouched.touchedOpen then s.parkTouched else s.parkTouched.haltAll r

/-- A change of patch begins (R451, R452). -/
def State.beginPatch (s : State) (remove own : Bool) : State :=
  let new := s.newOverlay remove
  let s1 := (upTo 16).foldl (fun a c => a.modCtx c fun x => { x with touched := touchedBy s.cmp.overlay new (x.resume c) }) s
  { s1 with cmp := { s1.cmp with patchRun := some { remove := remove, own := own, halted := none } } }.settle

/-- A context returns from the halt (R451, steps 5 and 6). -/
def State.unpark (s : State) (c : Nat) : State :=
  let x := s.ctx c
  let s1 := if x.touched then s.restartCtx c else s
  s1.modCtx c fun y =>
    if y.state ≠ .parked then { y with touched := false }
    else if y.touched then { y with touched := false, state := if y.was = .idle ∧ y.queue.isEmpty then .idle else .ready, readyAt := s.now }
    else { y with state := if y.was = .running then .ready else y.was, readyAt := s.now }

/-- Steps 3 to 6 of R451, with every context parked. -/
def State.switchPatch (s : State) (r : PatchRun) : State :=
  let im := if r.remove then [] else s.stagedBytes 0 (u (s.stagedBytes 8 4) 0 4)
  let maps := if r.remove then [] else patchMaps im
  let segs := if r.remove then 0 else u im 26 2
  let id := if r.remove then 0 else u im 12 4
  let ram := if r.remove then s.cmp.ram else (patchLines im).foldl (fun m e => smSet 0 m e.1 e.2) s.cmp.ram
  let s0 := { s with cmp := { s.cmp with overlay := maps.foldl (fun (m : List (Nat × Nat)) (e : Nat × Nat) => smInsert m e.1 (e.2 + 1)) [], ram := ram, active := im, patchRun := none } }
  let lo := memKey 11 (2 ^ 24) 0
  let hi := memKey 11 (2 ^ 24) (16 * segs)
  let s1 := { s0 with mem := { s0.mem with flips := smClearRange s0.mem.flips lo hi, backs := s0.mem.backs.filter fun b => decide (b.key < lo ∨ hi ≤ b.key) } }
  let s2 := (upTo 16).foldl (fun a c => a.unpark c) s1
  let s3 := ((s2.put Obj.CMP_PATCH_ID id).put Obj.CMP_PATCH_SEGS segs).put Obj.CMP_PATCH_MAPS maps.length
  let ns := ((s.now - r.halted.getD s.now) * 5 + 3) / 4 + ((1 + 16 * segs + maps.length) * 5 + 3) / 4
  (((s3.raiseTo Obj.CMP_HALT_MAX ns).latch Attn.patch).note 248 Cls.patch 0 0 id 0xFFFF).dispatchForme

/-- PATCH_HALT_LOAD (R451, R452): every context has parked. -/
def execPatchHaltLoad (s : State) : Host.Outcome State Fault Refusal :=
  .next (match s.cmp.patchRun with
    | none => s
    | some r =>
      if r.halted.isNone ∨ ¬ ((upTo 16).all fun c => decide ((s.ctx c).state = .parked)) then s
      else
        let segs := u (s.stagedBytes 26 2) 0 2
        let s1 := s.switchPatch r
        let s2 := if r.remove then s1 else s1.progDone 6 segs
        let s3 := if r.own then s2 else s2.runEnd (if r.remove then Obj.CMP_PATCH_REMOVE else Obj.CMP_PATCH_ACTIVATE) Res.ok 0
        s3.progEnd 6 Res.ok 0)

/-- An ABORT of an activation acts before the halt only (R446, R451). -/
def State.abortPatch (s : State) : State :=
  match s.cmp.patchRun with
  | some r =>
    if r.remove ∨ r.halted.isSome then s
    else
      let s1 := { s with cmp := { s.cmp with patchRun := none } }
      let s2 := (upTo 16).foldl (fun a c => a.modCtx c fun x =>
        { x with touched := false, state := if x.state = .parked then (if x.was = .running then .ready else x.was) else x.state }) s1
      (s2.runEnd Obj.CMP_PATCH_ACTIVATE Res.aborted 0).progEnd 6 Res.aborted 0
  | none => s

/-- The removal that an uncorrectable line of the patch RAM brings (R447): as R452, unless a change runs already. -/
def State.removePatch (s : State) : State :=
  if s.cmp.patchRun.isSome ∨ s.get Obj.CMP_PATCH_ID = 0 then s
  else (s.progBegin 6 0).beginPatch true true

/-- What an uncorrectable fetch brings beside its event (R447). -/
def State.fetchLost (s : State) (c : Nat) (patch : Bool) : State := if patch then ((s.restartCtx c).removePatch).latch Attn.patch else s.restartCtx c

/-- FETCH_UNCORRECTABLE (R447): the fetch of the running context's line. -/
def execFetchUncorrectable (patch : Bool) (s : State) : Host.Outcome State Fault Refusal :=
  .next (match s.cmp.current with
    | none => s
    | some c =>
      let p := s.linePlace (s.ctx c).line
      if p.1 ≠ patch then s else (s.memEvent 11 (if patch then 2 ^ 24 else 0) p.2 3 1 0 0 0xFFFF 0xFFFF).fetchLost c patch)

/-! ### Execution (R437–R445) -/

/-- Reads of the data memory that the line's clock brings nearer: those that fall due are delivered (R440). -/
def Ctx.deliver (x : Ctx) : Ctx :=
  let due := x.pend.filterMap fun (e : Nat × Option (Nat × Nat)) => match e.2 with | some (1, v) => some (e.1, v) | _ => none
  let rest := x.pend.filterMap fun (e : Nat × Option (Nat × Nat)) => match e.2 with
    | some (n + 1, v) => if n = 0 then none else some (e.1, some (n, v))
    | y => some (e.1, y)
  due.foldl (fun y e => y.write e.1 e.2) { x with pend := rest }

/-- The line's work on the data memory (R441): the word it reads, and the memory after it. -/
def State.cmpMem (s : State) (l : Microline) (adr val : Nat) : Nat × State :=
  if l.memOp = 1 then
    if 2 ^ 20 ≤ adr then (0, s.cmpFault adr)
    else
      let r := s.readWord 10 0 adr 1
      match r.diff with
      | some d => (smGet 0 s.cmp.mem adr ^^^ d, r.state)
      | none => (0, r.state.cmpFault adr)
  else if l.memOp = 2 then
    if 2 ^ 20 ≤ adr then (0, s.cmpFault adr)
    else (0, { s with cmp := { s.cmp with mem := smSet 0 s.cmp.mem adr val } }.memWritten 10 0 adr)
  else (0, s)

/-- START objects that a context runs (R433). -/
def ctxStarts (c : Nat) : List Nat :=
  if c = 8 then [Obj.TBL_LPM_APPLY]
  else if c = 9 then [Obj.TBL_STATIC_ADD, Obj.TBL_DELETE, Obj.TBL_FLUSH]
  else if c = 10 then [Obj.PLN_INSTALL]
  else if c = 11 then [Obj.LCY_PS_COMMIT, Obj.LCY_TRANSITION]
  else if c = 13 then [Obj.CMP_PATCH_CHECK, Obj.CMP_PATCH_ACTIVATE, Obj.CMP_PATCH_REMOVE]
  else if c = 14 then [Obj.LCY_SOFT_RESET]
  else []

/-- EVT_OP DONE (R442): the context's present run completes. -/
def State.ctxDone (s : State) (c outcome detail : Nat) : State :=
  let s1 := s.modCtx c fun x => { x with abort := false }
  match (ctxStarts c).find? (fun k => s.isBusy k) with
  | some k =>
    let s2 := s1.runEnd k outcome detail
    let s3 := if c = 8 then { s2 with tables := { s2.tables with apply := none } } else s2
    match ctxProgress c with
    | some p => s3.progEnd p outcome (s3.get (Obj.CMP_P_RESTART p))
    | none => s3
  | none => s1

/-- The event unit (R442), EVT_OP POLL apart; a source that is not allocated never reports (R480). -/
def State.cmpEvent (s : State) (c : Nat) (l : Microline) (a b : Nat) : State :=
  if l.evtOp = 2 then s.latch l.evtArg
  else if l.evtOp = 3 then (if a % 512 < 324 then s.failureOf (a % 512) 0 0 else s)
  else if l.evtOp = 4 then
    match ctxProgress c with
    | some k =>
      let v := b % 2 ^ 32
      if l.evtArg = 1 then s.put (Obj.CMP_P_DONE k) v
      else if l.evtArg = 2 then s.put (Obj.CMP_P_TOTAL k) v
      else if l.evtArg = 3 then s.put (Obj.CMP_P_RESTART k) v
      else s
    | none => s
  else if l.evtOp = 5 then s.ctxDone c (l.imm % 65536) ((l.imm / 65536) % 65536)
  else if l.evtOp = 6 then s.modCtx c fun x => { x with timer := some (s.now + 1 + nsTicks (l.imm % 2 ^ 32)), expired := false }
  else s

/-- The control network (R441): a read makes its register pending, a write is posted. -/
def State.cmpNet (s : State) (c : Nat) (l : Microline) (adr val : Nat) : State :=
  let node := (adr / 2 ^ 32) % 65536
  let at_ := adr % 2 ^ 32
  if l.netOp = 1 then (s.modCtx c fun x => { x with pend := x.pend ++ [(l.netD, none)] }).emit (.netRead c node at_)
  else if l.netOp = 2 then (s.modCtx c fun x => { x with netWrites := x.netWrites + 1 }).emit (.netWrite c node at_ val)
  else s

/-- What a line's next-address operation gives (R437): the next address, a WAIT that is not over, the END, or a fault of the stack. -/
inductive NextLine where
  | go (a : Nat)
  | wait
  | stop
  | stackFault
deriving DecidableEq, Repr

/-- SEQ_OP (R437), on the values at the start of the line; with the return stack and LC after it. -/
def nextLine (l : Microline) (a : Nat) (cond : Bool) (x : Ctx) : NextLine × List Nat × Option Nat :=
  let n := (a + 1) % 2 ^ 17
  match l.seqOp with
  | 1 => (.go l.target, x.stack, none)
  | 2 => (.go (if cond then l.target else n), x.stack, none)
  | 3 => (.go (if cond then n else l.target), x.stack, none)
  | 4 => if x.stack.length < 8 then (.go l.target, n :: x.stack, none) else (.stackFault, x.stack, none)
  | 5 => (match x.stack with | r :: t => (.go r, t, none) | [] => (.stackFault, [], none))
  | 6 => if x.lc ≠ 0 then (.go l.target, x.stack, some (x.lc - 1)) else (.go n, x.stack, none)
  | 7 => (.wait, x.stack, none)
  | 8 => (.go ((l.target + x.reg l.a % 256) % 2 ^ 17), x.stack, none)
  | 9 => (.stop, x.stack, none)
  | _ => (.go n, x.stack, none)

/-- A line whose SAFE is set is noted in the progress object of its context (R443, R456), and counted. -/
def State.safeNoted (s : State) (c a : Nat) (l : Microline) : State :=
  if l.safe then
    (match ctxProgress c with
      | some k => (s.put (Obj.CMP_P_LINE k) a).put (Obj.CMP_P_TIME k) s.uptime
      | none => s).pmc 1201 4 1
  else s

/-- The lines since the last safe point (R444, R455). -/
def State.gapCounted (s : State) (c : Nat) (l : Microline) : State :=
  if l.safe then s.modCtx c fun x => { x with gap := 0 }
  else (s.modCtx c fun x => { x with gap := x.gap + 1 }).raiseTo Obj.CMP_SAFE_GAP_MAX (min 65535 ((s.ctx c).gap + 1))

/-- A context gives the sequencer up at a safe point and goes on at line `n` later (R443). -/
def State.yieldSeq (s : State) (c n : Nat) : State :=
  let s1 := (s.leaveSeq c .ready n).put (Obj.CMP_C_LINE c) n
  match ctxProgress c with
  | some k => if s1.get (Obj.CMP_P_STATE k) = 1 then s1.put (Obj.CMP_P_STATE k) 2 else s1
  | none => s1

/-- Whether a context parks at the safe point it has reached: a touched one where its line has moved DONE, any other once the halt has begun (R451). -/
def State.mayPark (s : State) (c : Nat) (doneMoved : Bool) : Bool :=
  match s.cmp.patchRun with
  | none => false
  | some r => if (s.ctx c).touched then doneMoved else r.halted.isSome

/-- The sequencer runs no context. -/
def State.freeSeq (s : State) : State := { s with cmp := { s.cmp with current := none } }

/-- At a safe point, with line `n` next (R434, R443, R451): park, yield to a higher context or after 2,048 lines to an equal one, or go on. -/
def State.atSafe (s : State) (c n : Nat) (doneMoved : Bool) : State :=
  if s.mayPark c doneMoved then ((s.modCtx c fun x => { x with line := n }).park c).freeSeq.settle
  else if s.higherReady c ∨ (s.equalReady c ∧ 2048 ≤ (s.ctx c).run) then s.yieldSeq c n
  else s.modCtx c fun x => { x with line := n }

/-- The safe point of R443, or the release of a WAIT or END, once the line's own work is done. `doneMoved`: DONE has just advanced on it. -/
def State.safePoint (s : State) (c a : Nat) (l : Microline) (next : NextLine) (doneMoved : Bool) : State :=
  let s1 := (s.safeNoted c a l).gapCounted c l
  match next with
  | .stackFault => (s1.cmpFault a).restartCtx c
  | .stop => (s1.leaveSeq c .idle c).settle.readyCtxs
  | .wait => ((s1.modCtx c fun x => { x with wait := l.cond }).leaveSeq c .waiting a).settle.readyCtxs
  | .go n =>
    if l.safe then s1.readyCtxs.atSafe c n doneMoved
    else if 1024 ≤ (s1.ctx c).gap then (s1.cmpFault a).restartCtx c
    else s1.modCtx c fun x => { x with line := n }

/-- A line is counted (R440, R455). -/
def State.lineCounted (s : State) (c a : Nat) (patch : Bool) : State :=
  let s1 := (((s.bump Obj.CMP_LINES).bump (Obj.CMP_C_LINES c)).modCtx c fun x => { x with run := x.run + 1 }).pmc 1201 1 1 { addr := some a }
  if patch then (s1.bump Obj.CMP_PATCH_LINES).pmc 1201 2 1 { addr := some a } else s1

/-- What the ALU of a line gives: its result and the carry and overflow flags. -/
def Ctx.aluOf (x : Ctx) (l : Microline) : Option (Nat × Bool × Bool) := cmpAlu l.aluOp (x.reg l.a) (if l.bImm then immExt l.imm else x.reg l.b)

/-- What a line writes to its D register, if it does (R436, R441). -/
def Ctx.lineValue (x : Ctx) (l : Microline) (uptime : Nat) : Option Nat :=
  if l.evtOp = 1 then some (x.queue.headD 0)
  else if l.dSrc = 1 then (x.aluOf l).map fun r => r.1
  else if l.dSrc = 2 then some (immExt l.imm)
  else if l.dSrc = 3 then some uptime
  else none

/-- The flags that a line leaves. -/
def Ctx.lineFlags (y : Ctx) (l : Microline) (alu : Option (Nat × Bool × Bool)) : Ctx :=
  match alu with
  | some (r, cf, vf) => if l.fWe then { y with z := decide (r = 0), n := bitOf r 63, c := cf, v := vf } else y
  | none => y

/-- The loop counter that a line leaves; `both` says that the line also writes it as its D register, and then the value is `free`. -/
def Ctx.lineLoop (y : Ctx) (lc : Option Nat) (both : Bool) (free : Nat) : Ctx :=
  match lc with
  | some v => { y with lc := if both then free else v }
  | none => y

/-- The context after a line: its D register, its queue, LC, the flags, the return stack, and the reads of data memory under way; `x` is the
context at the line's start. -/
def Ctx.afterLine (y x : Ctx) (l : Microline) (dval lc : Option Nat) (stack : List Nat) (both : Bool) (free mem : Nat) : Ctx :=
  let y1 := match dval with | some v => y.write l.d v | none => y
  let y2 := if l.evtOp = 1 then { y1 with queue := y1.queue.drop 1 } else y1
  let y3 := { (y2.lineLoop lc both free).lineFlags l (x.aluOf l) with stack := stack }.deliver
  if l.memOp = 1 then { y3 with pend := y3.pend ++ [(l.memD, some (2, mem))] } else y3

/-- One line of context `c` at address `a`: everything it reads is as at its start (R440). -/
def State.runLine (s0 : State) (c a : Nat) (l : Microline) (patch : Bool) : State :=
  let s := s0.lineCounted c a patch
  let x := s.ctx c
  let nx := nextLine l a (s.condOf c l.cond) x
  let dval := x.lineValue l s.uptime
  let both := nx.2.2.isSome && dval.isSome && decide (l.d = 0)
  let m := s.cmpMem l (x.reg l.memA) (x.reg l.memD)
  let s1 := m.2.modCtx c fun y => y.afterLine x l dval nx.2.2 nx.2.1 both (s.freeVal 32) m.1
  let s2 := if both then s1.useFree else s1
  let s3 := (s2.cmpNet c l (x.reg l.netA) (x.reg l.netD)).cmpEvent c l (x.reg l.a) (x.reg l.b)
  s3.safePoint c a l nx.1 (decide (l.evtOp = 4) && decide (l.evtArg = 1))

/-- A stall (R440): the reads of the data memory that a line waits for arrive. -/
def Ctx.stall (x : Ctx) (regs : List Nat) : Ctx :=
  let wanted := x.pend.any fun (e : Nat × Option (Nat × Nat)) => decide (e.1 ≠ 0) && regs.contains e.1 && e.2.isSome
  if wanted then
    let due := x.pend.filterMap fun (e : Nat × Option (Nat × Nat)) => e.2.map fun p => (e.1, p.2)
    due.foldl (fun y e => y.write e.1 e.2) { x with pend := x.pend.filter fun (e : Nat × Option (Nat × Nat)) => decide (e.2 = none) }
  else x

/-- The running context's line, when its SEQ_OP is `op` (R437): fetched, stalled where it reads a pending register, and executed. -/
def State.seqOp (s : State) (op : Nat) : State :=
  match s.cmp.current with
  | none => s
  | some c =>
    let a := (s.ctx c).line
    let p := s.linePlace a
    if field (s.lineAt p) 143 140 ≠ op then s
    else
      let f := s.fetchLine a
      match f.1 with
      | none => f.2.fetchLost c p.1
      | some w =>
        let l := microline w
        let s1 := f.2.modCtx c fun x => x.stall l.reads
        if (s1.ctx c).pend.any fun (e : Nat × Option (Nat × Nat)) => decide (e.1 ≠ 0) && l.reads.contains e.1 then s1
        else s1.runLine c a l p.1

/-- SEQ_NEXT (R437). -/
def execSeqNext (s : State) : Host.Outcome State Fault Refusal := .next (s.seqOp 0)
/-- SEQ_JUMP (R437). -/
def execSeqJump (s : State) : Host.Outcome State Fault Refusal := .next (s.seqOp 1)
/-- SEQ_BRT (R437). -/
def execSeqBrt (s : State) : Host.Outcome State Fault Refusal := .next (s.seqOp 2)
/-- SEQ_BRF (R437). -/
def execSeqBrf (s : State) : Host.Outcome State Fault Refusal := .next (s.seqOp 3)
/-- SEQ_CALL (R437). -/
def execSeqCall (s : State) : Host.Outcome State Fault Refusal := .next (s.seqOp 4)
/-- SEQ_RET (R437). -/
def execSeqRet (s : State) : Host.Outcome State Fault Refusal := .next (s.seqOp 5)
/-- SEQ_LOOP (R437). -/
def execSeqLoop (s : State) : Host.Outcome State Fault Refusal := .next (s.seqOp 6)
/-- SEQ_WAIT (R437). -/
def execSeqWait (s : State) : Host.Outcome State Fault Refusal := .next (s.seqOp 7)
/-- SEQ_DISP (R437). -/
def execSeqDisp (s : State) : Host.Outcome State Fault Refusal := .next (s.seqOp 8)
/-- SEQ_END (R437). -/
def execSeqEnd (s : State) : Host.Outcome State Fault Refusal := .next (s.seqOp 9)

/-! ### The patch check (R448, R449) -/

/-- The staged bytes, cut to LENGTH. -/
def State.stagedImage (s : State) : Bytes := s.stagedBytes 0 (min 294912 (u (s.stagedBytes 8 4) 0 4))

/-- Check 1: the header's own fields and LENGTH (R448). -/
def patchHeadOk (im : Bytes) : Bool :=
  let nmap := u im 24 2
  let nseg := u im 26 2
  decide (u im 0 4 = 0x4A5A4350) && decide (u im 4 2 = 1) && decide (nmap ≤ 1024) && decide (1 ≤ nseg ∧ nseg ≤ 1024) && decide (u im 12 4 ≠ 0) &&
    decide (u im 8 4 = 64 + 4 * nmap + 288 * nseg + 16) && decide (u im 8 4 ≤ 294912)

/-- Check 5: the map entries. -/
def patchMapsOk (im : Bytes) : Bool :=
  let l := patchMaps im
  (l.all fun e => decide (e.1 < 4096) && decide (e.2 < u im 26 2)) && decide ((l.map Prod.fst).Nodup)

/-- Check 6: the fields of a line (R436–R442). -/
def lineFieldsOk (nseg : Nat) (l : Microline) : Bool :=
  decide (l.seqOp ≤ 9) && decide (l.cond ≤ 11) && decide (l.aluOp ≤ 0x12) && decide (l.memOp ≤ 2) && decide (l.netOp ≤ 2) && decide (l.evtOp ≤ 6) &&
    (decide (l.evtOp ≠ 1) || decide (l.dSrc = 0)) && (decide (l.evtOp ≠ 2) || [1, 4, 7, 8].contains l.evtArg) &&
    (decide (l.evtOp ≠ 4) || decide (1 ≤ l.evtArg ∧ l.evtArg ≤ 3)) && decide (l.target ≤ 0x13FFF) &&
    (decide (l.target < 0x10000) || decide (l.target < 0x10000 + 16 * nseg))

/-- The addresses at which a patch line executes: that of each ROM segment mapped to its segment, or its own where none is (R447). -/
def lineAddrs (maps : List (Nat × Nat)) (i : Nat) : List Nat :=
  match maps.filter fun e => decide (e.2 = i / 16) with
  | [] => [0x10000 + i]
  | l => l.map fun e => 16 * e.1 + i % 16

/-- Check 7: where SAFE must be set (R444). -/
def lineSafeOk (overlaid : Nat → Bool) (a : Nat) (last : Bool) (l : Microline) : Bool :=
  let must := decide (l.seqOp = 4 ∨ l.seqOp = 5 ∨ l.seqOp = 7 ∨ l.seqOp = 8 ∨ l.seqOp = 9) ||
    (decide (l.seqOp = 1 ∨ l.seqOp = 2 ∨ l.seqOp = 3 ∨ l.seqOp = 6) &&
      (decide (l.target ≤ a) || (decide (l.target < 0x10000) && !(overlaid (l.target / 16))))) || last
  l.safe || !must

/-- The lines that a path can execute from each traced address before its next safe point, for lines by falling address: between unsafe lines
every next address lies above the line's own (R444). -/
def gapTable (lines : List (Nat × Microline)) : List (Nat × Nat) :=
  lines.foldl (fun m (e : Nat × Microline) =>
    let l := e.2
    if l.safe then m
    else
      let nexts := if l.seqOp = 0 then [e.1 + 1] else if l.seqOp = 1 then [l.target] else [e.1 + 1, l.target]
      (e.1, 1 + nexts.foldl (fun b n => max b (smGet 0 m n)) 0) :: m) []

/-- Check 7 over an image. -/
def patchSafeOk (im : Bytes) : Bool :=
  let maps := patchMaps im
  let overlaid := fun (seg : Nat) => maps.any fun e => decide (e.1 = seg)
  let lines := (patchLines im).flatMap fun e => (lineAddrs maps e.1).map fun a => (a, decide (e.1 % 16 = 15), microline e.2)
  let falling := lines.foldl (fun (m : List (Nat × Microline)) e => smInsert m e.1 e.2.2) []
  (lines.all fun e => lineSafeOk overlaid e.1 e.2.1 e.2.2) && ((gapTable falling.reverse).all fun e => decide (e.2 ≤ 256))

/-- OUTCOME and DETAIL of the first check that fails, without the TAG and the lock (R449); `romVer` and `dictVer` are the identity objects. -/
def patchCheck (im : Bytes) (total romVer dictVer : Nat) (key : Option (Bytes × Bool)) : Nat × Nat :=
  if ¬ patchHeadOk im then (Res.badValue, 1)
  else if total ≠ u im 8 4 then (Res.badValue, 2)
  else if u im 16 4 ≠ romVer ∨ u im 20 4 ≠ dictVer then (Res.badValue, 3)
  else
    let n := im.length - 16
    let tagOk : Bool := match key with | some (k, _) => decide (cmac k (im.take n) = im.drop n) | none => false
    let locked : Bool := match key with | some (_, b) => b | none => false
    if ¬ tagOk then (Res.badValue, 4)
    else if ¬ patchMapsOk im then (Res.badValue, 5)
    else if ¬ ((patchLines im).all fun e => lineFieldsOk (u im 26 2) (microline e.2)) then (Res.badValue, 6)
    else if ¬ patchSafeOk im then (Res.badValue, 7)
    else if locked then (Res.badState, 8)
    else (Res.ok, 0)

/-- The engine's counters after a tag over `n` bytes (R169). -/
def State.tagCounted (s : State) (im : Bytes) : State := (s.bumpBy Obj.KCE_BLOCKS (kceBlocks (im.drop 16))).bump Obj.KCE_MESSAGES

/-- Check an image under the key of page 00. A pass counts one message on the page (R153). -/
def State.checkPatch (s : State) (im : Bytes) (total : Nat) : (Nat × Nat) × State :=
  let p := s.page 0
  let key : Option (Bytes × Bool) := if p.state = 1 ∨ p.state = 2 then some (p.key, decide (p.state = 2)) else none
  let r := patchCheck im total (s.get Obj.ID_ROM_VERSION) (s.get Obj.ID_DICT_VERSION) key
  let s1 := if r.2 = 0 ∨ 4 ≤ r.2 then s.tagCounted im else s
  (r, if r = (Res.ok, 0) then s1.countUse 0 1 else s1)

/-- Patches are refused where no patch may be changed (R80, R449, R454). -/
def State.patchBarred (s : State) : Bool := decide (s.get Obj.LCY_STATE = 0 ∨ s.get Obj.LCY_STATE = 3)

/-- A START on `CMP_PATCH_CHECK` (R449). -/
def startCmpPatchCheck (s : State) : Nat × State :=
  if s.patchBarred ∨ s.boot.bootSel = 2 ∨ s.boot.bootSel = 3 then (Res.badState, s)
  else if s.patchBusy then (Res.busy, s)
  else
    let im := s.stagedImage
    let r := s.checkPatch im s.cmp.stagedTotal
    let segs := u im 26 2
    let s1 := r.2.progBegin 6 segs
    let s2 := if r.1 = (Res.ok, 0) then (s1.put Obj.CMP_PATCH_STAGED_ID (u im 12 4)).progDone 6 segs else s1.latch Attn.patch
    (Res.ok, (s2.runOnce Obj.CMP_PATCH_CHECK r.1.1 r.1.2).progEnd 6 r.1.1 0)

/-- A START on `CMP_PATCH_ACTIVATE` (R451). -/
def startCmpPatchActivate (s : State) : Nat × State :=
  if s.patchBarred then (Res.badState, s)
  else if s.patchBusy then (Res.busy, s)
  else if s.get Obj.CMP_PATCH_STAGED_ID = 0 then (Res.ok, s.runOnce Obj.CMP_PATCH_ACTIVATE Res.badState 1)
  else (Res.ok, ((s.progBegin 6 (u (s.stagedBytes 26 2) 0 2)).runBegin Obj.CMP_PATCH_ACTIVATE).beginPatch false false)

/-- A START on `CMP_PATCH_REMOVE` (R452). -/
def startCmpPatchRemove (s : State) : Nat × State :=
  if s.patchBarred then (Res.badState, s)
  else if s.patchBusy then (Res.busy, s)
  else if s.get Obj.CMP_PATCH_ID = 0 then (Res.ok, s.runOnce Obj.CMP_PATCH_REMOVE Res.ok 0)
  else (Res.ok, ((s.progBegin 6 0).runBegin Obj.CMP_PATCH_REMOVE).beginPatch true false)

/-- `CMP_C_STATE` of a context (R455). -/
def State.ctxStateCode (s : State) (c : Nat) : Nat :=
  match (s.ctx c).state with | .idle => 0 | .ready => 1 | .running => 2 | .waiting => 3 | .parked => 4

/-- `CMP_STATE` (R454). -/
def State.cmpState (s : State) : Nat := if s.boot.phase ≠ .service then 0 else if s.halted then 2 else 1

end Sys2Proof.Machine
end

