-- ==== Sys2Proof/Machine/Memory.lean ====
section
/-! DEFINITION. Write-backs, scrubbing and the diagnostic mode (R463–R470, R475–R477). -/

namespace Sys2Proof.Machine
open Sys2Proof

/-- Instances of a memory kind that a scrubber reads through, with the number of code words of each (R458, R462, R469). -/
def scrubInstances (kind : Nat) : List (Nat × Nat) :=
  if kind = 0 then (upTo 2112).map fun i => (i / 1056 * 2 ^ 24 + (i / 66 % 16) * 2 ^ 16 + i % 66, 16384)
  else if kind = 1 then [(0, 65536)]
  else if kind = 2 then [(0, 6291456)]
  else if kind = 3 then (upTo 8).map fun c => (c * 2 ^ 24, 2097152)
  else if kind = 4 then (upTo 8).map fun c => (c * 2 ^ 24, 524288)
  else if kind = 5 then (upTo 8).map fun c => (c * 2 ^ 24, 133120)
  else if kind = 6 then (upTo 8).map fun c => (c * 2 ^ 24, 132104)
  else if kind = 7 then (upTo 32).map fun k => (k * 2 ^ 24, 131072)
  else if kind = 8 then (upTo 64).flatMap fun b => (upTo 41).map fun a => ((b / 2) * 2 ^ 24 + (b % 2) * 2 ^ 16 + a, if a = 40 then 1024 else 256)
  else if kind = 9 then (upTo 8).map fun c => (c * 2 ^ 24, if c = 0 then 86144 else 69760)
  else if kind = 10 then [(0, 1048576)]
  else if kind = 11 then [(0, 65536), (2 ^ 24, 16384)]
  else []

/-- Code words of an instance; zero where there is none to scrub. -/
def scrubSize (kind inst : Nat) : Nat := smGet 0 (scrubInstances kind) inst

/-- The address of the n-th word of an instance, where its addresses have gaps (kinds 6 and 9). -/
def scrubAddr (kind n : Nat) : Nat :=
  if kind = 6 then (if n < 131072 then n else if n < 132096 then 0x80000 + (n - 131072) else 0x80400 + (n - 132096))
  else if kind = 9 then
    if n < 65536 then n
    else if n < 67584 then 0x20000 + (n - 65536)
    else if n < 67712 then 0x28000 + (n - 67584)
    else if n < 69760 then 0x40000 + (n - 67712)
    else 0x30000 + (n - 69760)
  else n

/-- A slice whose memory is gated (R470). -/
def State.scrubGated (s : State) (kind inst : Nat) : Bool :=
  let i := inst / 2 ^ 24
  if 3 ≤ kind ∧ kind ≤ 6 then s.chaseGated i else if kind = 7 ∨ kind = 8 then s.pipeGated i else false

/-- The bank that a remap copies, and its spare, are skipped (R470). -/
def State.scrubSkips (s : State) (kind inst : Nat) : Bool :=
  match s.galley.copying with
  | some b => decide (kind = 0) && decide (inst / 2 ^ 24 = b.die) && decide (inst / 2 ^ 16 % 256 = b.group) &&
      (decide (inst % 2 ^ 16 = b.fromBank) || decide (inst % 2 ^ 16 = b.toBank))
  | none => false

/-- A pass ends (R469): the passes and the period of the slowest instance. -/
def State.scrubPass (s : State) (kind inst : Nat) : State :=
  let k := kind * 2 ^ 32 + inst
  let began := smGet 0 s.mem.passAt k
  let passes := smInsert s.mem.passes k (smGet 0 s.mem.passes k + 1)
  let s1 := { s with mem := { s.mem with passes := passes, passAt := smInsert s.mem.passAt k s.now } }
  let least := (scrubInstances kind).foldl (fun (m : Option Nat) (e : Nat × Nat) =>
    let n := smGet 0 passes (kind * 2 ^ 32 + e.1)
    match m with | some x => some (min x n) | none => some n) none
  ((s1.put (Obj.FLT_MI_SCRUB_PASSES kind) (least.getD 0 % 2 ^ 32)).put (Obj.FLT_MI_SCRUB_PERIOD kind) ((s.now - began) / 800))

/-- The logical block that a physical LPM block of a chase serves (R282). -/
def State.lpmLogical (s : State) (c ph : Nat) : Option Nat := (upTo 64).find? fun l => decide (s.physBlock c l = ph)

/-- The content of an LPM slot and its result word by physical address: none in a block that serves nothing. -/
def State.slotContent (s : State) (c addr : Nat) : Nat :=
  match s.lpmLogical c (addr / 2048) with
  | some l => s.tables.slot l (addr % 2048)
  | none => 0

/-- The place of a shadow word in kind 6 by the address that R475 gives: the logical block's. -/
def State.shadowAddr (s : State) (c addr : Nat) : Nat :=
  match s.lpmLogical c (addr / 2048) with
  | some l => l * 2048 + addr % 2048
  | none => 131072 + addr % 2048

/-- What an uncorrectable word brings that a scrub has found (R304, R447, R466, R467), beside its report and write-back. -/
def State.scrubLost (s : State) (kind inst addr : Nat) : State :=
  let i := inst / 2 ^ 24
  if kind = 2 ∧ addr % 3 = 0 then s.descLost (addr / 3)
  else if kind = 7 then s.lrnWrite i (addr / 2) 0
  else if kind = 9 then
    if addr < 0x10000 then
      let idx := 32768 * i + addr / 2
      let x := smGet {} s.sched.policers idx
      if addr % 2 = 0 ∨ x = {} then s
      else
        let y := { x with tc := x.cbs * 8000, tp := x.pbs * 8000, green := 0, yellow := 0, red := 0 }
        { s with sched := { s.sched with policers := smSet {} s.sched.policers idx y } }
    else if addr < 0x28000 then s.modQueue (128 * i + (addr - 0x20000) / 16) (addr % 16) fun x => { x with credit := 0 }
    else if addr < 0x30000 then
      { s with sched := { s.sched with portCredit := smSet 0 s.sched.portCredit (128 * i + (addr - 0x28000)) 0 } }
    else if addr < 0x40000 then s
    else s.linkLost (128 * i + (addr - 0x40000) / 16) (addr % 16)
  else if kind = 11 ∧ i = 1 then s.removePatch.latch Attn.patch
  else s

/-- SCRUB_READ (R469, R470): `flips` are the bits of the word that have decayed since it was written. An LPM slot is compared with its shadow. -/
def execScrubRead (kind inst flips : Nat) (s : State) : Host.Outcome State Fault Refusal :=
  let size := scrubSize kind inst
  let k := kind * 2 ^ 32 + inst
  let n := smGet 0 s.mem.scrub k
  let addr := scrubAddr kind n
  .next (if size = 0 ∨ s.boot.phase ≠ .service ∨ s.wiping ∨ s.scrubGated kind inst ∨ s.scrubSkips kind inst then s
    else
      let s0 := s.setFlips kind inst addr (s.flipsAt kind inst addr ^^^ flips)
      let next := if n + 1 < size then n + 1 else 0
      let s1 := { s0 with mem := { s0.mem with scrub := smSet 0 s0.mem.scrub k next } }
      let s2 := if next = 0 then s1.scrubPass kind inst else s1
      if s2.get Obj.FLT_DIAG_ENABLE = 1 ∧ s2.mem.log.contains (memKey kind inst addr) then s2
      else
        let r := s2.readWord kind inst addr 3
        match r.diff with
        | none => r.state.scrubLost kind inst addr
        | some d =>
          let c := inst / 2 ^ 24
          let sh := r.state.shadowAddr c addr
          if kind = 5 ∧ d ≠ 0 ∧ r.state.flipsAt 6 inst sh = 0 then (r.state.memEvent 5 inst addr 5 3 4 0 0xFFFF 0xFFFF).memWritten 5 inst addr
          else r.state)

/-- The logical word of a physical galley place, if the bank serves one (R312). -/
def State.galleyWord (s : State) (inst addr : Nat) : Option Nat :=
  let die := inst / 2 ^ 24
  let group := inst / 2 ^ 16 % 256
  match s.bankLogical die group (inst % 2 ^ 16) with
  | some b =>
    let g := s.galley.groups
    some (8 * ((addr / 8) * (64 * g) + ((b * (g / 2) + group) * 2 + die)) + addr % 8)
  | none => none

/-- The bits that a write-back leaves: a corrected word keeps what its correction gave, whether right or a miscorrection (R461). -/
def afterBack (kind pat : Nat) : Nat :=
  match decodeKind kind pat with
  | .fix p1 p2 _ => (pat ^^^ 2 ^ p1) ^^^ (match p2 with | some p => 2 ^ p | none => 0)
  | _ => 0

/-- A write-back lands (R463, R465): the corrected word; the galley word as read with POISON; or the word from its restoration. -/
def State.backLands (s : State) (kind inst addr : Nat) (poison : Bool) : State :=
  let pat := s.flipsAt kind inst addr
  let s1 := (s.memWritten kind inst addr).bump (Obj.FLT_MI_WRITEBACKS kind)
  if poison then
    match s.galleyWord inst addr with
    | some w =>
      let v := (s.galley.word w ^^^ dataBits 0 pat) % 2 ^ 256 + 2 ^ 256
      s1.modGalley fun g => { g with words := smSet (g.wiped w) g.words w v }
    | none => s1
  else
    match decodeKind kind pat with
    | .bad _ =>
      -- a shadow slot comes from the live slot while its parity passes (R458)
      if kind = 6 ∧ addr < 131072 ∧ s.flipsAt 5 inst (s.physBlock (inst / 2 ^ 24) (addr / 2048) * 2048 + addr % 2048) ≠ 0 then s
      else if kind = 6 ∨ kind = 8 ∨ kind = 9 then
        let t := memSource kind inst addr
        s1.note t.1 Cls.restoration kind 0 addr t.2
      else s1
    | _ => s1.setFlips kind inst addr (afterBack kind pat)

/-- WRITE_BACK (R463, R465): a pending write-back takes its free cycle. -/
def execWriteBack (kind inst addr : Nat) (s : State) : Host.Outcome State Fault Refusal :=
  .next (match s.mem.backs.find? (fun (b : WriteBack) => decide (b.key = memKey kind inst addr)) with
    | none => s
    | some b =>
      let s1 := { s with mem := { s.mem with backs := s.mem.backs.erase b } }
      s1.backLands kind inst addr b.poison)

/-! ### Diagnostic mode (R475–R477) -/

/-- The content of the code word that the diagnostic objects name: its kind's place and its data (R475). Words beyond the memory's end
are none (DESIGN CHOICE, notes/assumptions/44). -/
def State.diagWord (s : State) : Option (Nat × Nat × Nat × Nat) :=
  let kind := s.get Obj.FLT_DIAG_KIND
  let i := s.get Obj.FLT_DIAG_INSTANCE
  let a := s.get Obj.FLT_DIAG_ADDR
  let inst := i * 2 ^ 24
  if kind = 7 then (if i < 32 ∧ a < 131072 then some (7, inst, a, (s.lrn i (a / 2) >>> (if a % 2 = 0 then 64 else 0)) % 2 ^ 64) else none)
  else if 8 ≤ i then none
  else if kind = 3 then (if a < 2097152 then some (3, inst, a, (smGet 0 s.tables.label (a / 2) >>> (if a % 2 = 0 then 64 else 0)) % 2 ^ 64) else none)
  else if kind = 4 then (if a < 524288 then some (4, inst, a, (smGet 0 s.tables.nextHop (a / 2) >>> (if a % 2 = 0 then 64 else 0)) % 2 ^ 64) else none)
  else if kind = 5 then (if a < 133120 then some (5, inst, a, s.slotContent i a / 2 ^ 32) else none)
  else if kind = 6 then (if a < 133120 then some (6, inst, s.shadowAddr i a, s.slotContent i a / 2 ^ 32) else none)
  else none

/-- The check bits that belong to a word's data, as stored (R459; DEDUCED, notes/assumptions/45). -/
def diagCheck (kind data : Nat) : Nat :=
  if kind = 5 then (1 - popCount 40 data % 2) + 2 * (1 - popCount 40 (data / 2 ^ 40) % 2) else check72 data

/-- Where the check bits of a word lie in its pattern, and the width of its data. -/
def diagShape (kind : Nat) : Nat × Nat := if kind = 5 then (80, 80) else (64, 64)

/-- A START on `FLT_DIAG_READ` (R475): nothing is corrected, written back or reported. -/
def startFltDiagRead (s : State) : Nat × State :=
  if s.get Obj.FLT_DIAG_ENABLE = 0 then (Res.ok, s.runOnce Obj.FLT_DIAG_READ Res.badState 3)
  else
    match s.diagWord with
    | none => (Res.ok, s.runOnce Obj.FLT_DIAG_READ Res.badValue 0)
    | some (kind, inst, a, data) =>
      let pat := s.flipsAt kind inst a
      let sh := diagShape kind
      let bits := if kind = 5 then 2 else 8
      let stored := data ^^^ (pat % 2 ^ sh.2)
      let check := diagCheck kind data ^^^ ((pat / 2 ^ sh.1) % 2 ^ bits)
      let syn := match decodeKind kind pat with | .fix _ _ x => x | .bad x => x | .clean => 0
      (Res.ok, (((s.put Obj.FLT_DIAG_DATA stored).put Obj.FLT_DIAG_CHECK check).put Obj.FLT_DIAG_SYNDROME syn).runOnce Obj.FLT_DIAG_READ Res.ok 0)

/-- A START on `FLT_DIAG_WRITE` (R475, R476): the data and check bits exactly as given. -/
def startFltDiagWrite (s : State) : Nat × State :=
  let done := fun (a : State) (o d : Nat) => (Res.ok, a.runOnce Obj.FLT_DIAG_WRITE o d)
  if s.get Obj.FLT_DIAG_ENABLE = 0 then done s Res.badState 3
  else
    match s.diagWord with
    | none => done s Res.badValue 0
    | some (kind, inst, a, data) =>
      let key := memKey kind inst a
      if s.scrubGated kind inst then done s Res.badState 1
      else if ¬ s.mem.log.contains key ∧ 64 ≤ s.mem.log.length then done s Res.badState 2
      else
        let sh := diagShape kind
        let bits := if kind = 5 then 2 else 8
        let given := s.get Obj.FLT_DIAG_DATA % 2 ^ sh.2
        let pat := (given ^^^ (data % 2 ^ sh.2)) + ((s.get Obj.FLT_DIAG_CHECK ^^^ diagCheck kind data) % 2 ^ bits) * 2 ^ sh.1
        let s1 := (s.memWritten kind inst a).setFlips kind inst a pat
        let log := setInsert s.mem.log key
        done (({ s1 with mem := { s1.mem with log := log } }).put Obj.FLT_DIAG_LOGGED log.length) Res.ok 0

/-- The mode ends (R477): every logged word is restored, or invalidated for kind 7, and the log is empty. -/
def State.endDiag (s : State) : State :=
  let one := fun (a : State) (k : Nat) =>
    let kind := k / 2 ^ 64
    let inst := (k / 2 ^ 32) % 2 ^ 32
    if kind = 7 then a.lrnWrite (inst / 2 ^ 24) ((k % 2 ^ 32) / 2) 0 else a.memWritten kind inst (k % 2 ^ 32)
  let s1 := s.mem.log.foldl one s
  (({ s1 with mem := { s1.mem with log := [] } }).put Obj.FLT_DIAG_LOGGED 0).put Obj.FLT_DIAG_ENABLE 0

end Sys2Proof.Machine
end

