-- ==== Sys2Proof/Machine/Telem.lean ====
section
/-! DEFINITION. Telemetry: proofs, their export, queue sweeps, performance counters and snapshots (R355–R356, R366–R383). -/

namespace Sys2Proof.Machine
open Sys2Proof

/-! ### Proofs (R366–R368) -/

/-- Return a proof's buffer (R368). -/
def State.proofFree (s : State) (b : Nat × Nat) : State := (s.push b.1 b.2 (some 1025)).chargeBuf 1025 b.1 false

/-- Words of a chain read for a proof: each with its poison (R334, R366). -/
def State.captureWords (s : State) (req : Option Nat) (bufs : List (Nat × Nat)) (i : Nat) : Nat → List (Nat × Bool) × State
  | 0 => ([], s)
  | n + 1 =>
    match chainWord bufs i with
    | none => ([], s)
    | some w =>
      let r := s.galleyRead w req
      let t := r.state.captureWords req bufs (i + 1) n
      ((r.data, r.poison) :: t.1, t.2)

/-- Words of a proof's record written into its buffer. -/
def State.writeProof (s : State) (buf : Nat × Nat) (i : Nat) : List (Nat × Bool) → State
  | [] => s
  | e :: t => (s.galleyWrite (8 * buf.2 + i) (e.1 + b2n e.2 * 2 ^ 256) (some 1025)).writeProof buf (i + 1) t

/-- The header of a proof record (R367). -/
def ProofSel.header (x : ProofSel) (rlen capLen : Nat) (bad poison : Bool) : Bytes :=
  beBytes 2 rlen ++ [u8 (b2n bad * 128 + b2n poison * 64 + b2n x.dropped * 32 + x.sampler), 0] ++ beBytes 2 x.inPort ++ beBytes 2 x.dest ++
  [u8 x.qp, u8 x.reason] ++ beBytes 2 x.length ++ beBytes 2 capLen ++ [0, 0] ++ beBytes 8 x.rxNs ++ beBytes 4 x.user ++ beBytes 4 x.seq

/-- A proof reaches the Compositor's proof queue, or finds it full (R366 step 4, R368). -/
def State.proofDeliver (s : State) (sampler : Nat) (x : Proof) : State :=
  let s1 := s.bump (Obj.PMC_PS_MADE sampler)
  if 4096 ≤ s1.telem.proofs.length then ((s1.proofFree x.buf).bump Obj.PMC_PROOF_LOST).latchLost Attn.proof
  else
    let s2 := { s1 with telem := { s1.telem with proofs := s1.telem.proofs ++ [x] } }
    if s1.telem.proofs.isEmpty then s2.latch Attn.proof else s2

/-- The replication engine makes a selected frame's proof (R366 steps 2 to 4). -/
def State.makeProof (s : State) (x : ProofSel) : State :=
  let t := s.get (Obj.PMC_PS_TRUNC x.sampler)
  let cap := min t (s.storedOf x.desc - 32)
  let rlen := 32 + (cap + 3) / 4 * 4
  let n := (cap + 31) / 32
  let rd := s.captureWords (s.srcOf x.desc) (s.chainOf x.desc) 1 n
  let bad := decide (s.dstateOf x.desc = 2)
  let poisoned := (rd.1.filter fun (e : Nat × Bool) => e.2).length
  let s1 := rd.2.poisonRead x.desc poisoned
  let r := s1.ask 1025 (if rlen ≤ 256 then 0 else 1)
  match r.1.1 with
  | none => (r.2.releaseFrame x.desc).bump (Obj.PMC_PS_REFUSED x.sampler)
  | some b =>
    let hdr : Nat × Bool := (beNat (x.header rlen cap bad (decide (0 < poisoned))), false)
    -- the record ends at CAPLEN, zero past it in its last word
    let body := rd.1.mapIdx fun i (e : Nat × Bool) => (e.1 / 2 ^ (8 * (32 - min 32 (cap - 32 * i))) * 2 ^ (8 * (32 - min 32 (cap - 32 * i))), e.2)
    ((r.2.writeProof b 0 (hdr :: body)).releaseFrame x.desc).proofDeliver x.sampler { buf := b, rlen := rlen, at_ := s.now }

/-- A selected frame has the bytes its proof needs (R366 step 2). -/
def State.proofReady (s : State) (x : ProofSel) : Bool :=
  decide (32 + s.get (Obj.PMC_PS_TRUNC x.sampler) ≤ s.storedOf x.desc) || decide (s.dstateOf x.desc ≠ 0)

/-- PROOF_CAPTURE (R366): the oldest selection of a sampler whose bytes are there. -/
def execProofCapture (sampler : Nat) (s : State) : Host.Outcome State Fault Refusal :=
  .next (match s.telem.engine.find? (fun (x : ProofSel) => decide (x.sampler = sampler) && s.proofReady x) with
    | none => s
    | some x => { s with telem := { s.telem with engine := s.telem.engine.erase x } }.makeProof x)

/-- A proof's record as it leaves the device (R368): the bytes of a poisoned word are zero, and POISON is set. -/
def State.readProof (s : State) (x : Proof) : Bytes × State :=
  let rd := s.captureWords (some 1025) [x.buf] 0 ((x.rlen + 31) / 32)
  let bytes := rd.1.flatMap fun (e : Nat × Bool) => if e.2 then zeros 32 else beBytes 32 e.1
  let bad := rd.1.any fun (e : Nat × Bool) => e.2
  let b := bytes.take x.rlen
  ((if bad then patchBytes b 2 [u8 (u b 2 1 ||| 64)] else b), rd.2)

/-- The export channel of a stream: 0 proofs, 1 samples, 2 snapshots (R370). -/
def State.streamChan (s : State) (i : Nat) : Option Nat :=
  let c := octByte 3 (s.get Obj.PMC_STREAM_CHAN) i
  if c < 4 then some c else none

/-- A READ of `PMC_PROOF` (R368): its result code, the record padded to 288 B, and the state after the pop. -/
def readPmcProof (s : State) : Nat × Nat × State :=
  if (s.streamChan 0).isSome then (Res.badState, 0, s)
  else
    match s.telem.proofs with
    | [] => (Res.ok, 0, s)
    | x :: rest =>
      let r := { s with telem := { s.telem with proofs := rest } }.readProof x
      (Res.ok, beNat (padTo 288 r.1), r.2.proofFree x.buf)

/-! ### Export (R370–R372) -/

/-- A channel is on. -/
def State.chanOn (s : State) (c : Nat) : Bool := decide (s.get (Obj.PMC_CH_ENABLE c) = 1)

/-- Records packed into datagrams of `seg` bytes (R370): each group's records with the number of the first. `room` is what the open datagram
still holds. -/
def packRecords (seg : Nat) (i : Nat) (room : Nat) (open_ : List Bytes) (first : Nat) : List Bytes → List (Nat × List Bytes)
  | [] => if open_.isEmpty then [] else [(first, open_)]
  | r :: t =>
    if r.length ≤ room ∨ open_.isEmpty then packRecords seg (i + 1) (room - r.length) (open_ ++ [r]) (if open_.isEmpty then i else first) t
    else (first, open_) :: packRecords seg (i + 1) (seg - 24 - r.length) [r] i t

/-- Payload bytes of proofs of these lengths as one send: full datagrams of `seg` and the last (R370). -/
def packedSize (seg : Nat) (lens : List Nat) : Nat :=
  let g := packRecords seg 0 (seg - 24) [] 0 (lens.map zeros)
  match g.getLast? with
  | some l => (g.length - 1) * seg + 24 + l.2.flatten.length
  | none => 0

/-- The most proofs from the head of the queue that a batch holds (R372); `n` are tried. -/
def batchCount (seg limit : Nat) (lens : List Nat) (k : Nat) : Nat → Nat
  | 0 => k
  | n + 1 => if k < lens.length ∧ (k = 0 ∨ packedSize seg (lens.take (k + 1)) ≤ limit) then batchCount seg limit lens (k + 1) n else k

/-- PROOF_BATCH_CLOSE (R372): the open batch is full, or its first proof has waited. -/
def execProofBatchClose (s : State) : Host.Outcome State Fault Refusal :=
  .next (match s.streamChan 0, s.telem.proofs with
    | some c, p :: _ =>
      if ¬ s.chanOn c then s
      else
        let lens := s.telem.proofs.map fun (x : Proof) => x.rlen
        let k := batchCount (s.get (Obj.PMC_CH_SEG c)) (s.get Obj.PMC_PROOF_BATCH) lens 0 lens.length
        if k < lens.length ∨ p.at_ + usTicks (s.get Obj.PMC_PROOF_HOLD) ≤ s.now then
          let x : ExportUnit := { stream := 1, time := s.uptime, unit := 0, proofs := s.telem.proofs.take k, entries := [] }
          { s with telem := { s.telem with proofs := s.telem.proofs.drop k, units := s.telem.units ++ [x] } }
        else s
    | _, _ => s)

/-- A completed sweep or snapshot becomes a unit, or is not exported (R372, R383). -/
def State.unitReady (s : State) (stream seq time : Nat) (entries : List (Nat × Nat)) : State :=
  match s.streamChan (stream - 1) with
  | none => s
  | some c =>
    if ¬ s.chanOn c ∨ s.telem.units.any fun (x : ExportUnit) => decide (x.stream = stream) then
      s.bump (if stream = 2 then Obj.PMC_EXP_SKIP_SAMPLES else Obj.PMC_EXP_SKIP_SNAPS)
    else { s with telem := { s.telem with units := s.telem.units ++ [{ stream := stream, time := time, unit := seq % 2 ^ 32, proofs := [], entries := entries }] } }

/-- The records of a unit in order; the buffers of its proofs are read. -/
def State.unitRecords (s : State) (x : ExportUnit) : List Bytes × State :=
  if x.stream = 1 then
    x.proofs.foldl (fun (a : List Bytes × State) (p : Proof) => let r := a.2.readProof p; (a.1 ++ [r.1], r.2)) ([], s)
  else if x.stream = 2 then ((upTo 16384).map fun i => beBytes 8 (smGet 0 x.entries i), s)
  else ((upTo 1202).map fun i => beBytes 80 (smGet 0 x.entries i), s)

/-- The export header of a datagram (R371). -/
def exportHeader (x : ExportUnit) (count seq index : Nat) : Bytes :=
  [1, u8 x.stream] ++ beBytes 2 count ++ beBytes 4 seq ++ beBytes 8 x.time ++ beBytes 4 x.unit ++ beBytes 4 (if x.stream = 1 then 0 else index)

/-- One large send of a channel, `groups` its datagrams (R370). -/
def State.exportOne (s : State) (c : Nat) (x : ExportUnit) (groups : List (Nat × List Bytes)) : State :=
  let seg := s.get (Obj.PMC_CH_SEG c)
  let hdr := s.get (Obj.PMC_CH_HDR_LEN c)
  let base := s.get (Obj.PMC_CH_DATAGRAMS c)
  let dgrams := groups.mapIdx fun i (g : Nat × List Bytes) =>
    let d := exportHeader x g.2.length ((base + i + 1) % 2 ^ 32) g.1 ++ g.2.flatten
    if i + 1 < groups.length then padTo seg d else d
  let payload := dgrams.flatten
  let r : LargeRec := { port := s.get (Obj.PMC_CH_PORT c), queue := s.get (Obj.PMC_CH_QUEUE c), l3 := s.get (Obj.PMC_CH_L3 c),
                        csum := decide (s.get (Obj.PMC_CH_UDP_CSUM c) = 1), hdrLen := hdr, l3Off := s.get (Obj.PMC_CH_L3_OFF c), seg := seg, total := payload.length }
  let t := beBytes 128 (s.get (Obj.PMC_CH_TEMPLATE c))
  let s1 := ((s.bumpBy (Obj.PMC_CH_DATAGRAMS c) groups.length).bump (Obj.PMC_CH_SENDS c)).pmc 1201 6 1
  let s2 := if s1.largeRefused r (padTo hdr t) then s1.bump (Obj.PMC_CH_REFUSED c) else s1
  s2.largeSend r t payload

/-- The datagrams of a unit in sends of at most `per` (R370); `n` bounds their number. -/
def State.exportAll (s : State) (c : Nat) (x : ExportUnit) (per : Nat) (groups : List (Nat × List Bytes)) : Nat → State
  | 0 => s
  | n + 1 => if groups.isEmpty then s else (s.exportOne c x (groups.take per)).exportAll c x per (groups.drop per) n

/-- EXPORT_SEND (R370): the channel's next unit goes out, and the buffers of its proofs return. -/
def execExportSend (channel : Nat) (s : State) : Host.Outcome State Fault Refusal :=
  .next (if 4 ≤ channel ∨ ¬ s.chanOn channel then s
    else
      match s.telem.units.find? (fun (x : ExportUnit) => decide (s.streamChan (x.stream - 1) = some channel)) with
      | none => s
      | some x =>
        let seg := s.get (Obj.PMC_CH_SEG channel)
        let r := { s with telem := { s.telem with units := s.telem.units.erase x } }.unitRecords x
        let groups := packRecords seg 0 (seg - 24) [] 0 r.1
        let per := max 1 ((65528 - s.get (Obj.PMC_CH_HDR_LEN channel)) / seg)
        let s1 := r.2.exportAll channel x per groups groups.length
        x.proofs.foldl (fun a (p : Proof) => a.proofFree p.buf) s1)

/-! ### Queue sweeps (R355, R356) -/

/-- Head-of-line delay of a queue in ns (R341). -/
def State.holDelay (s : State) (p q : Nat) : Nat :=
  match (s.queue p q).entries with
  | e :: _ => (s.uptime + 2 ^ 64 - e.time) % 2 ^ 64
  | [] => 0

/-- QUEUE_SAMPLE_SWEEP (R355): a multiple of the interval has been reached since the last sweep. -/
def execQueueSampleSweep (s : State) : Host.Outcome State Fault Refusal :=
  let i := s.get Obj.SCH_SAMPLE_INTERVAL
  .next (if i = 0 ∨ s.uptime / (i * 1000) * (i * 1000) ≤ s.sched.lastSweep then s
    else
      let seq := s.get Obj.SCH_SAMPLE_SEQ + 1
      let entries := s.sched.queues.filterMap fun (e : Nat × Queue) =>
        if e.2.entries.isEmpty ∨ s.ptType (e.1 / 16) = 0 then none
        else
          let v := min (s.depth (e.1 / 16) (e.1 % 16)) (2 ^ 32 - 1) * 2 ^ 32 + min (s.holDelay (e.1 / 16) (e.1 % 16)) (2 ^ 32 - 1)
          if v = 0 then none else some (e.1, v)
      let w : Sweep := { seq := seq, time := s.uptime, interval := i, entries := entries }
      let s1 := { s with sched := { s.sched with ring := smInsert s.sched.ring ((seq - 1) % 8) w, lastSweep := s.uptime } }.put Obj.SCH_SAMPLE_SEQ seq
      s1.unitReady 2 seq s.uptime entries)

/-! ### Counter sets (R373–R378) -/

/-- Kind and instance of a block (R373). -/
def blockKind (b : Nat) : Nat × Nat :=
  if b < 1024 then (0, b) else if b < 1152 then (1, b - 1024) else if b < 1160 then (2, b - 1152) else if b < 1192 then (3, b - 1160)
  else if b < 1200 then (4, b - 1192) else (b - 1195, 0)

/-- The quoin of a block on a quoin. -/
def blockQuoin (b : Nat) : Option Nat :=
  let k := blockKind b
  if k.1 = 0 then some (k.2 / 128) else if k.1 = 1 then some (k.2 / 16) else if k.1 = 2 then some k.2 else none

/-- A block lies in a gated slice (R378). -/
def State.blockGated (s : State) (b : Nat) : Bool :=
  let k := blockKind b
  if k.1 = 0 then s.octetGated (k.2 / 8) else if k.1 = 1 then s.octetGated k.2 else if k.1 = 3 then s.pipeGated k.2
  else if k.1 = 4 then s.chaseGated k.2 else false

/-- A counter set. -/
def State.ctrSet (s : State) (b : Nat) : CtrSet := smGet {} s.telem.sets b

/-- The cycle counter (R373). -/
def State.cycles (s : State) (b : Nat) : Nat :=
  if s.blockGated b then 0 else (if b = 1201 then 1 else 2) * (s.now - max (s.ctrSet b).since s.telem.wiped) % 2 ^ 64

/-- A counter as it reads (R377, R378). -/
def State.ctrRead (s : State) (b k : Nat) : Nat := if s.blockGated b then 0 else listAt 0 (s.ctrSet b).ctr k

/-- The events and occupancies of a kind (R376): events, then occupancies, by the bits of two numbers. -/
def catalog (kind : Nat) : Nat × Nat :=
  if kind = 0 then (0b1110, 0b1110000) else if kind = 1 then (0b110110, 0b1000) else if kind = 2 then (0b11110, 0b100000)
  else if kind = 3 then (0b11100110, 0b11000) else if kind = 4 then (0b10111110, 0b1000000) else if kind = 5 then (0b11111110, 0b1100000000)
  else (0b1111110, 0b110000000)

/-- The attributes that an event carries (R376): REQ, CLASS, TC, ADDR. -/
def carries (kind code : Nat) : Bool × Bool × Bool × Bool :=
  if kind = 4 then (if code ≤ 5 then (true, false, true, true) else if code = 6 then (false, false, false, true) else (false, false, false, false))
  else if kind = 5 then
    (if code = 1 then (true, false, true, true) else if code = 2 then (true, false, true, false) else if code ≤ 5 then (true, false, false, true)
     else if code ≤ 7 then (false, false, false, true) else if code = 8 then (true, false, false, false) else (false, false, false, false))
  else if kind = 6 then
    (if code = 1 ∨ code = 2 ∨ code = 4 then (false, false, false, true) else if code = 3 ∨ code = 7 then (true, true, false, false)
     else if code = 5 then (false, false, true, false) else (false, false, false, false))
  else (false, false, false, false)

/-- A configuration that R374 accepts. -/
def cfgOk (kind v : Nat) : Bool :=
  let code := octByte 20 v 0
  let mode := octByte 20 v 1
  let m := mode % 4
  let cat := catalog kind
  let car := carries kind code
  let cls := octByte 20 v 2 % 16
  let tc := octByte 20 v 3
  let reqEn := bitOf mode 2
  let addrEn := bitOf mode 3
  let req := octField 20 v 8 2
  let lo := octField 20 v 12 4
  let hi := octField 20 v 16 4
  let small := decide (kind < 4)
  (decide (code = 0) || bitOf (cat.1 ||| cat.2) code) && !(decide (m = 0) && decide (code ≠ 0) && bitOf cat.2 code) &&
  !((decide (m = 1) || decide (m = 2)) && decide (code ≠ 0) && bitOf cat.1 code) && decide (m ≠ 3) &&
  !(decide (octField 20 v 4 4 ≠ 0) && decide (m ≠ 1)) &&
  !(small && (decide (cls ≠ 0) || decide (tc ≠ 0) || decide (req ≠ 0) || decide (lo ≠ 0) || decide (hi ≠ 0) || reqEn || addrEn)) &&
  !(!small && ((reqEn && !car.1) || (decide (cls ≠ 0) && !car.2.1) || (decide (tc ≠ 0) && !car.2.2.1) || (addrEn && !car.2.2.2))) &&
  decide (req ≤ (if kind = 4 then 1023 else if kind = 5 then 1025 else if kind = 6 then 15 else 0)) && decide (lo ≤ hi)

/-- A configuration with its reserved bits zero (R11, R374). -/
def cfgClean (v : Nat) : Nat :=
  let b := beBytes 20 v
  let b1 := patchBytes b 1 [u8 (u b 1 1 % 16), u8 (u b 2 1 % 16)]
  beNat (patchBytes b1 10 [0, 0])

/-- Write a counter's configuration (R378): count and WRAP stay. -/
def State.writeCfg (s : State) (b k v : Nat) : State :=
  { s with telem := { s.telem with sets := smSet {} s.telem.sets b { s.ctrSet b with cfg := listSet (s.ctrSet b).cfg k (cfgClean v) } } }

/-- A START on `PMC_B_CLEAR` for a session's selected block (R378). -/
def startPmcBClear (s : State) (b : Nat) : Nat × State :=
  let x : CtrSet := { s.ctrSet b with ctr := List.replicate 8 0, since := s.now }
  (Res.ok, ({ s with telem := { s.telem with sets := smSet {} s.telem.sets b x } }).runOnce Obj.PMC_B_CLEAR Res.ok 0)

/-- What a lane's receiver gives counter event `code` in this clock, while it is locked: codewords and symbols of its FEC, and the fill of its
clock-crossing FIFO, which no command shows. Free values (DESIGN CHOICE, notes/assumptions/62). -/
def State.laneFree (s : State) (n code : Nat) : Nat := if (s.lane n).pcs then Config.freeValue (s.fresh + 8 * n + code) % 2 ^ 16 else 0

/-- An occupancy of a block in this clock, over the parts that pass the filters (R375, R376). -/
def State.occupancy (s : State) (b code cfg : Nat) : Nat :=
  let k := blockKind b
  let i := k.2
  let sum := fun (l : List Nat) => l.foldl (· + ·) 0
  if k.1 = 0 ∧ (code = 4 ∨ code = 5) then s.laneFree i code
  else if k.1 = 0 ∧ code = 6 then (match s.portOfLane i with | some p => b2n (s.port p).txLpi | none => 0)
  else if k.1 = 1 ∧ code = 3 then sum ((upTo 8).map fun j => (s.port (8 * i + j)).fifoBytes)
  else if k.1 = 3 ∧ code = 4 then sum ((upTo 32).map fun j => (s.port (32 * i + j)).fifo.length)
  else if k.1 = 4 ∧ code = 6 then
    sum ((s.sched.queues.filter fun (e : Nat × Queue) =>
      decide (e.1 / 2048 = i) && ({ addr := some e.1 } : PmcAttr).passes cfg).map fun (e : Nat × Queue) => s.depth (e.1 / 16) (e.1 % 16))
  else if k.1 = 5 ∧ code = 8 then
    sum ((s.galley.held.filter fun (e : Nat × Nat) => ({ req := some (e.1 / 4) } : PmcAttr).passes cfg).map fun (e : Nat × Nat) => e.2)
  else if k.1 = 6 ∧ code = 7 then
    sum ((upTo 16).map fun j => if ({ req := some j, cls := some (s.page j).cls } : PmcAttr).passes cfg then (s.session j).queue.length else 0)
  else if k.1 = 6 ∧ code = 8 then s.telem.proofs.length
  else 0

/-- A set after `n` clocks of its domain: the counters in modes 1 and 2 add (R377). -/
def State.occupy (s : State) (b n : Nat) (x : CtrSet) : CtrSet :=
  { x with ctr := (x.ctr.zip x.cfg).map fun (e : Nat × Nat) =>
      let m := octByte 20 e.2 1 % 4
      let code := octByte 20 e.2 0
      if code = 0 then e.1
      else if m = 0 then (if b < 1024 ∧ code ≤ 3 then ctrAdd e.1 (s.laneFree b code) else e.1)
      else
        let o := s.occupancy b code e.2
        if m = 1 then ctrAdd e.1 (if octField 20 e.2 4 4 < o then n else 0) else ctrAdd e.1 (n * o) }

/-- The ports of a chase with an eligible queue: chase scheduler event 7 counts those given no place, as none is in a clock without a
dequeue (R344, R376). -/
def State.waitingPorts (s : State) (c : Nat) : Nat :=
  ((upTo 128).filter fun i => s.portEligible (128 * c + i) && (s.pick (128 * c + i)).isSome).length

/-- One tick of the counter sets: two clocks of 1.6 GHz, one of the Compositor. -/
def State.ctrTick (s : State) : State :=
  let live := fun (b : Nat) => !s.blockGated b
  let sets := s.telem.sets.map fun (e : Nat × CtrSet) => if live e.1 then (e.1, s.occupy e.1 (if e.1 = 1201 then 1 else 2) e.2) else e
  let uses7 := sets.filter fun (e : Nat × CtrSet) => decide (1192 ≤ e.1 ∧ e.1 < 1200) && e.2.cfg.any fun c => decide (octByte 20 c 0 = 7)
  let s1 := { s with telem := { s.telem with sets := sets } }
  let s2 := uses7.foldl (fun a (e : Nat × CtrSet) => a.pmc e.1 7 (2 * a.waitingPorts (e.1 - 1192))) s1
  let fill := s.telem.sets.any fun (e : Nat × CtrSet) => decide (e.1 < 1024) && e.2.cfg.any fun c => decide (octByte 20 c 0 ≠ 0)
  if fill then { s2 with fresh := s2.fresh + 8192 } else s2

/-! ### Snapshots (R379, R380) -/

/-- The record of a block (R379) as an 80-byte number. -/
def State.blockRecord (s : State) (b : Nat) : Nat :=
  let k := blockKind b
  let gated := s.blockGated b
  let stale : Bool := match blockQuoin b with | some q => !(bitOf (s.get Obj.TIM_REPLICA_VALID) q) | none => false
  beNat ([u8 k.1, 0] ++ beBytes 2 k.2 ++ beBytes 4 (b2n gated + 2 * b2n (!gated) + 4 * b2n stale) ++ beBytes 8 (s.cycles b) ++
    (upTo 8).flatMap fun i => beBytes 8 (s.ctrRead b i))

/-- SNAPSHOT_CAPTURE (R379): every set is captured at T, its WRAP flags are cleared, and the window is written. -/
def execSnapshotCapture (s : State) : Host.Outcome State Fault Refusal :=
  .next (match s.telem.snapAt with
    | none => s
    | some (t, start) =>
      if s.uptime < t then s
      else
        let seq := s.get Obj.PMC_SNAP_SEQ + 1
        let records := (upTo 1202).map fun b => (b, s.blockRecord b)
        let sets := (s.telem.sets.map fun (e : Nat × CtrSet) => (e.1, { e.2 with ctr := e.2.ctr.map (· % 2 ^ 63) })).filter fun (e : Nat × CtrSet) => decide (e.2 ≠ {})
        let s1 := { s with telem := { s.telem with snapAt := none, sets := sets, snap := { seq := seq, time := t, records := records } } }
        let s2 := ((s1.put Obj.PMC_SNAP_SEQ seq).put Obj.PMC_SNAP_TIME t).unitReady 3 seq t records
        if start then s2.runEnd Obj.PMC_SNAP Res.ok 0 else s2)

/-- A START on `PMC_SNAP` (R380). -/
def startPmcSnap (s : State) : Nat × State :=
  let at_ := s.get Obj.PMC_SNAP_AT
  let now := s.uptime
  if s.telem.snapAt.isSome then (Res.busy, s)
  else if at_ ≠ 0 ∧ (at_ < now + 5000 ∨ now + 10000000000 < at_) then (Res.ok, s.runOnce Obj.PMC_SNAP Res.badValue 1)
  else
    let t := if at_ = 0 then (now + 5000 + 999) / 1000 * 1000 else at_
    (Res.ok, { s with telem := { s.telem with snapAt := some (t, true) } }.runBegin Obj.PMC_SNAP)

/-- PERIODIC_SNAPSHOT (R380). -/
def execPeriodicSnapshot (s : State) : Host.Outcome State Fault Refusal :=
  let i := s.get Obj.PMC_SNAP_INTERVAL * 1000
  .next (if i = 0 ∨ s.uptime / i * i ≤ s.telem.lastSnap then s
    else
      let s1 := { s with telem := { s.telem with lastSnap := s.uptime } }
      if s.telem.snapAt.isSome then s1.bump Obj.PMC_SNAP_SKIPPED
      else { s1 with telem := { s1.telem with snapAt := some (s.uptime / i * i, false) } })

/-- Part i of the snapshot window, 16 bytes (R379). -/
def State.snapPart (s : State) (i : Nat) : Bytes :=
  let x := s.telem.snap
  if x.seq = 0 then zeros 16
  else if i = 0 then beBytes 8 x.seq ++ beBytes 8 x.time
  else if i = 1 then beBytes 4 1202 ++ zeros 12
  else if i < 4 then zeros 16
  else if i < 6014 then beBytes 16 (smGet 0 x.records ((i - 4) / 5) / 2 ^ (128 * (4 - (i - 4) % 5)))
  else if i = 6014 then beBytes 8 x.seq ++ zeros 8
  else zeros 16

/-- Part i of the sample window, 8 bytes: slot i div 16,400 of the ring (R356). -/
def State.samplePart (s : State) (i : Nat) : Bytes :=
  match s.sched.ring.find? (fun (e : Nat × Sweep) => decide (e.1 = i / 16400)) with
  | none => zeros 8
  | some e =>
    let j := i % 16400
    if j = 0 ∨ j = 16392 then beBytes 8 e.2.seq
    else if j = 1 then beBytes 8 e.2.time
    else if j = 2 then beBytes 4 e.2.interval ++ zeros 4
    else if 8 ≤ j ∧ j < 16392 then beBytes 8 (smGet 0 e.2.entries (j - 8))
    else zeros 8

end Sys2Proof.Machine
end

