-- ==== Sys2Proof/Machine/Ptp.lean ====
section
/-! DEFINITION. The boundary clocks: messages terminated and sent, the choice of the master, measurements, unicast grants (R421–R425, R429,
R432). Message layouts, data set comparison and TLVs are those of IEEE 1588 (PRESUMED, notes/assumptions/40). -/

namespace Sys2Proof.Machine
open Sys2Proof

/-! ### Instances -/

/-- Instance `d`. -/
def State.inst (s : State) (d : Nat) : PtpInst := listAt {} s.ptp.insts d

/-- Change an instance. -/
def State.modInst (s : State) (d : Nat) (f : PtpInst → PtpInst) : State := { s with ptp := { s.ptp with insts := listMod s.ptp.insts d f } }

/-- Instance `d` is enabled. -/
def State.instOn (s : State) (d : Nat) : Bool := decide (d < 2) && decide (s.get (Obj.TIM_P_ENABLE d) = 1)

/-- A port is a member of an instance. -/
def State.member (s : State) (d p : Nat) : Bool := bitOf (s.ptpField p 0 1) d

/-- A port is master-only in an instance (R421, R432). -/
def State.masterOnly (s : State) (d p : Nat) : Bool := bitOf (s.ptpField p 0 1) (2 + d) || decide (s.get (Obj.TIM_D_SOURCE d) ≠ 1)

/-- The member ports of an instance. -/
def State.memberPorts (s : State) (d : Nat) : List Nat := (s.ptp.ports.map fun (e : Nat × Nat) => e.1).filter (s.member d)

/-- portState of a port: unlisted, INITIALIZING; down, DISABLED. -/
def State.portStateOf (s : State) (d p : Nat) : Nat :=
  if ¬ s.member d p ∨ ¬ s.instOn d then 0 else if ¬ s.portUp p then 5 else smGet 4 (s.inst d).states p

/-- portIdentity of a port (R421). -/
def State.portIdentity (s : State) (p : Nat) : Bytes := beBytes 8 (s.get Obj.TIM_CLOCK_ID) ++ beBytes 2 (p + 1)

/-- Ticks of a message interval of 2^log s. -/
def logTicks (v : Nat) : Nat :=
  let l := toSigned 32 v
  if l < 0 then 800000000 / 2 ^ l.natAbs else 800000000 * 2 ^ l.natAbs

/-- The interval object's value of a message type. -/
def State.logOf (s : State) (d kind : Nat) : Nat :=
  if kind = 0xB then s.get (Obj.TIM_P_ANN_LOG d) else if kind = 1 ∨ kind = 9 then s.get (Obj.TIM_P_DREQ_LOG d) else s.get (Obj.TIM_P_SYNC_LOG d)

/-- Convert an FRC value to domain d time (R423). -/
def State.toDomain (s : State) (d f : Nat) : Int := (s.domain d).time f

/-- The units of a PTP timestamp (48-bit seconds, 32-bit ns). -/
def stampUnits (b : Bytes) (off : Nat) : Int := ((u b off 6 * 1000000000 + u b (off + 6) 4) * 65536 : Nat)

/-- correctionField of a message. -/
def corrOf (m : Bytes) : Int := toSigned 64 (u m 8 8)

/-- TIM_P_CLASS by the first row of R424 that holds. -/
def State.ptpClass (s : State) (d : Nat) : Nat :=
  let src := s.get (Obj.TIM_D_SOURCE d)
  let st := s.dstate d
  let parentClass : Option Nat := if src = 1 ∧ (st = 1 ∨ st = 2) then (s.inst d).parent.map fun (f : Foreign) => f.gmClass else none
  match parentClass with
  | some c => c
  | none =>
    if st = 3 then
      (if s.now ≤ ((s.domain d).holdSince.getD s.now) + secTicks (s.get (Obj.TIM_P_HOLD_SPEC d)) then 135 else 165)
    else if src = 0 ∨ (src = 2 ∧ st = 2) then s.get (Obj.TIM_P_OWN_CLASS d)
    else 248

/-! ### The best master (R421) -/

/-- localPriority of a port. -/
def State.localPrio (s : State) (p : Nat) : Nat := let v := s.ptpField p 1 1; if v = 0 then 128 else v

/-- The order of the alternate BMCA: clockClass, clockAccuracy, offsetScaledLogVariance, priority2, localPriority, then, for classes above 127,
the grandmaster's identity, then stepsRemoved, then the sender. -/
def Foreign.rank (f : Foreign) (localPrio : Nat) : List Nat :=
  [f.gmClass, f.gmAccuracy, f.gmVariance, f.prio2, localPrio, if f.gmClass ≤ 127 then 0 else beNat f.gm, f.steps, beNat f.sender]

/-- Lexicographic order. -/
def lexLt : List Nat → List Nat → Bool
  | a :: s, b :: t => decide (a < b) || (decide (a = b) && lexLt s t)
  | _, _ => false

/-- A foreign master is qualified: two Announce messages, the last within the timeout (R423). -/
def State.qualified (s : State) (d : Nat) (f : Foreign) : Bool :=
  decide (2 ≤ f.count) && decide (s.now < f.at_ + s.get (Obj.TIM_P_ANN_TIMEOUT d) * logTicks (s.get (Obj.TIM_P_ANN_LOG d))) && s.portUp f.port &&
    s.member d f.port && !(s.masterOnly d f.port)

/-- The best qualified foreign master. -/
def State.bestForeign (s : State) (d : Nat) : Option Foreign :=
  ((s.inst d).foreign.filter (s.qualified d)).foldl (fun (b : Option Foreign) f =>
    match b with
    | none => some f
    | some g => if lexLt (f.rank (s.localPrio f.port)) (g.rank (s.localPrio g.port)) then some f else some g) none

/-- The instance's own data set is no worse than a foreign one. -/
def State.ownBetter (s : State) (d : Nat) (f : Foreign) : Bool :=
  let own : Foreign := { port := 0, sender := [], gm := beBytes 8 (s.get Obj.TIM_CLOCK_ID), gmClass := s.get (Obj.TIM_P_OWN_CLASS d), gmAccuracy := 0xFE, gmVariance := 0xFFFF,
                         prio2 := s.get (Obj.TIM_P_PRIORITY2 d), steps := 0, count := 2, at_ := 0, flags := 0, utc := 0, source := 0xA0 }
  !(lexLt (f.rank (s.localPrio f.port)) (own.rank (s.get (Obj.TIM_P_LOCAL_PRIO d))))

/-- The state decision of every member port: the slave port, PASSIVE where another master is better than this clock, MASTER elsewhere. -/
def State.decideStates (s : State) (d : Nat) (best : Option Foreign) : State :=
  let x := s.inst d
  let one := fun (l : List (Nat × Nat)) (p : Nat) =>
    let st : Nat :=
      match best with
      | some f =>
        if f.port = p then (if x.delays.isEmpty then 8 else 9)
        else if x.foreign.any fun (g : Foreign) => decide (g.port = p) && s.qualified d g && decide (g.gm = f.gm) && decide (g.steps ≤ f.steps) then 7
        else 6
      | none => 6
    smInsert l p st
  s.modInst d fun y => { y with states := ((s.memberPorts d).filter s.portUp).foldl one y.states }

/-- The BMCA of an instance: its parent, its objects, its port states (R421, R431). -/
def State.bmca (s : State) (d : Nat) : State :=
  let best : Option Foreign := match s.bestForeign d with | some f => if s.ownBetter d f then none else some f | none => none
  let old := (s.inst d).parent
  let same : Bool := match old, best with
    | some a, some b => decide (a.port = b.port) && decide (a.sender = b.sender)
    | none, none => true
    | _, _ => false
  let s1 := s.modInst d fun x => if same then { x with parent := best } else { x with parent := best, sync := none, last := none, delays := [], syncAt := s.now }
  let s2 := match best with
    | some f => ((s1.put (Obj.TIM_P_GM d) (beNat f.gm)).put (Obj.TIM_P_PARENT d) (beNat f.sender)).put (Obj.TIM_P_SLAVE_PORT d) f.port
    | none => ((s1.put (Obj.TIM_P_GM d) 0).put (Obj.TIM_P_PARENT d) 0).put (Obj.TIM_P_SLAVE_PORT d) 0xFFFF
  (if same then s2 else s2.put (Obj.TIM_P_PATH_DELAY d) 0).decideStates d best

/-! ### Messages taken (R417, R423, R425, R429) -/

/-- The AUTHENTICATION TLV of a message itself. -/
def msgAuth (m : Bytes) : Option (Nat × Nat × Nat) := authTlv m ⟨0, none, 0⟩

/-- R429: the sequenceId of an authenticated message is newer; unauthenticated ones are not judged. -/
def State.replayOk (s : State) (d : Nat) (m : Bytes) : Bool :=
  match msgAuth m with
  | none => true
  | some _ =>
    match (s.inst d).replay.find? (fun (e : Nat × Nat) => decide (e.1 = u m 20 10 * 16 + u m 0 1 % 16)) with
    | none => true
    | some e => let g := (u m 30 2 + 65536 - e.2) % 65536; decide (1 ≤ g ∧ g < 32768)

/-- The sequenceId of an accepted authenticated message is kept. -/
def State.replayKeep (s : State) (d : Nat) (m : Bytes) : State :=
  match msgAuth m with
  | none => s
  | some _ => s.modInst d fun x => { x with replay := smInsert x.replay (u m 20 10 * 16 + u m 0 1 % 16) (u m 30 2) }

/-- A message comes from the parent, on its port. -/
def State.fromParent (s : State) (d : Nat) (r : PtpRx) : Bool :=
  match (s.inst d).parent with
  | some f => decide (f.port = r.port) && decide (f.sender = slice r.msg 20 10)
  | none => false

/-- The mean path delay: the average of the last exchanges. -/
def PtpInst.pathDelay (x : PtpInst) : Int := if x.delays.isEmpty then 0 else (x.delays.foldl (· + ·) 0).fdiv x.delays.length

/-- A Sync with its t1 (corrections added) and t2 is complete: a measurement once a mean path delay exists (R423). -/
def State.syncDone (s : State) (d : Nat) (t1 t2 : Int) : State :=
  let x := s.inst d
  let s1 := s.modInst d fun y => { y with last := some (t1, t2), sync := none }
  if x.delays.isEmpty then s1 else s1.queueMeasure d (t2 - t1 - x.pathDelay)

/-- delayAsymmetry of a port in units of 2⁻¹⁶ ns (R432). -/
def State.asymmetry (s : State) (p : Nat) : Int := psUnits (toSigned 32 (s.ptpField p 4 4))

/-- A Delay_Resp that answers the port's Delay_Req (R423). -/
def State.delayResp (s : State) (d : Nat) (r : PtpRx) : State :=
  if ¬ s.fromParent d r ∨ slice r.msg 44 10 ≠ s.portIdentity r.port then s
  else
    match s.ptp.tx.find? (fun (e : PtpTx) => decide (e.inst = d) && decide (e.port = r.port) && decide (e.kind = 1) && decide (e.seqId = u r.msg 30 2)) with
    | none => s
    | some e =>
      let s1 := { s with ptp := { s.ptp with tx := s.ptp.tx.erase e } }
      match (s.inst d).last with
      | none => s1
      | some (t1, t2) =>
        let t3 := s.toDomain d e.time
        let t4 := stampUnits r.msg 34 - corrOf r.msg
        let one := ((t2 - t1) + (t4 - t3)).fdiv 2 - s.asymmetry r.port
        let s2 := s1.modInst d fun x => { x with delays := (one :: x.delays).take 8 }
        ((s2.put (Obj.TIM_P_PATH_DELAY d) (ofSigned 64 (s2.inst d).pathDelay))).modInst d fun x => { x with states := smInsert x.states r.port 9 }

/-- An Announce: the foreign master's record, and the BMCA. -/
def State.announce (s : State) (d : Nat) (r : PtpRx) : State :=
  let m := r.msg
  let sender := slice m 20 10
  let mine := fun (f : Foreign) => decide (f.port = r.port) && decide (f.sender = sender)
  let window := 4 * logTicks (s.get (Obj.TIM_P_ANN_LOG d))
  let count : Nat := match (s.inst d).foreign.find? mine with
    | some f => if s.now < f.at_ + window then min 2 (f.count + 1) else 1
    | none => 1
  let f : Foreign :=
    { port := r.port, sender := sender, gm := slice m 53 8, gmClass := u m 48 1, gmAccuracy := u m 49 1, gmVariance := u m 50 2, prio2 := u m 52 1,
      steps := u m 61 2, count := count, at_ := s.now, flags := u m 6 2, utc := u m 44 2, source := u m 63 1 }
  if u m 20 8 = s.get Obj.TIM_CLOCK_ID ∨ 255 ≤ f.steps then s
  else (s.modInst d fun x => { x with foreign := (x.foreign.filter fun g => !(mine g)) ++ [f] }).bmca d

/-- The active grants of an instance. -/
def State.liveGrants (s : State) (d : Nat) : List Grant := (s.inst d).grants.filter fun (g : Grant) => decide (s.now < g.at_ + secTicks g.duration)

/-! ### Messages built (R422, IEEE 1588) -/

/-- A message of an instance: header, body, and the AUTHENTICATION TLV of its entry (R426). -/
def State.ptpMessage (s : State) (d port kind seq flags logv : Nat) (corr : Int) (body : Bytes) : Bytes :=
  let k := s.get (Obj.TIM_P_AUTH d)
  let e := s.get (Obj.TIM_AUTH_KEY (k - 1))
  let tlv := if k = 0 then [] else beBytes 2 0x8009 ++ beBytes 2 14 ++ [u8 (octByte 8 e 0), 0] ++ beBytes 4 (octField 8 e 4 4) ++ zeros 8
  let len := 34 + body.length + tlv.length
  [u8 kind, 0x12] ++ beBytes 2 len ++ [u8 (s.get (Obj.TIM_P_DOMAIN d)), 0] ++ beBytes 2 flags ++ beBytes 8 (ofSigned 64 corr) ++ zeros 4 ++ s.portIdentity port ++
    beBytes 2 seq ++ [0, u8 logv] ++ body ++ tlv

/-- The frame of a message: EtherType 0x88F7 under G.8275.1, IPv4 and UDP to a peer under G.8275.2, the
identification a free value. -/
def State.ptpFrame (s : State) (d kind : Nat) (mac : Bytes) (ip : Nat) (m : Bytes) : Bytes :=
  let sa := beBytes 6 (s.get Obj.SES_MAC_ADDR)
  if s.get (Obj.TIM_P_PROFILE d) = 0 then beBytes 6 0x011B19000000 ++ sa ++ beBytes 2 0x88F7 ++ m
  else
    let port := if ptpEvent kind then 319 else 320
    let udp := beBytes 2 port ++ beBytes 2 port ++ beBytes 2 (8 + m.length) ++ [0, 0]
    let h := [0x45, 0] ++ beBytes 2 (28 + m.length) ++ beBytes 2 (s.freeVal 16) ++ beBytes 2 0x4000 ++ [64, 17, 0, 0] ++ beBytes 4 (s.get Obj.SES_IPV4_ADDR) ++ beBytes 4 ip
    mac ++ sa ++ beBytes 2 0x0800 ++ patchBytes h 10 (beBytes 2 (inetChecksum h)) ++ udp ++ m

/-- A message goes into `TIM_P_QUEUE` of a port. -/
def State.ptpSend (s : State) (d port kind : Nat) (mac : Bytes) (ip : Nat) (m : Bytes) : State :=
  (s.cmpSend port (s.get (Obj.TIM_P_QUEUE d)) (s.ptpFrame d kind mac ip m)).useFree

/-- The unicast flag under G.8275.2. -/
def State.uniFlag (s : State) (d : Nat) : Nat := if s.get (Obj.TIM_P_PROFILE d) = 1 then 0x0400 else 0

/-- A Delay_Resp to a Delay_Req (R422). -/
def State.sendDelayResp (s : State) (d : Nat) (r : PtpRx) : State :=
  let t4 := t96OfUnits (s.toDomain d r.time)
  let body := beBytes 10 (t4 / 65536) ++ slice r.msg 20 10
  s.ptpSend d r.port 9 r.mac r.ip (s.ptpMessage d r.port 9 (u r.msg 30 2) (s.uniFlag d) (s.get (Obj.TIM_P_DREQ_LOG d)) (corrOf r.msg - (t4 % 65536 : Nat)) body)

/-! ### Unicast negotiation (R425) -/

/-- A Signaling message with TLVs to a peer. -/
def State.sendSignal (s : State) (d port : Nat) (mac : Bytes) (ip : Nat) (target tlvs : Bytes) : State :=
  let k := port * 16 + 0xC
  let seq := smGet 0 (s.inst d).seqIds k
  (s.modInst d fun x => { x with seqIds := smSet 0 x.seqIds k ((seq + 1) % 65536) }).ptpSend d port 0xC mac ip
    (s.ptpMessage d port 0xC seq (s.uniFlag d) 0x7F 0 (target ++ tlvs))

/-- One TLV of a received Signaling message: the reply TLV it calls for, and the instance's grants after it. -/
def State.signalTlv (s : State) (d : Nat) (r : PtpRx) (t : Nat) (v : Bytes) : Bytes × State :=
  let kind := u v 0 1 / 16
  let other := fun (master : Bool) (g : Grant) => !(decide (g.master = master) && decide (g.kind = kind) && decide (g.port = r.port) && decide (g.ip = r.ip))
  if t = 4 then
    let live := (s.liveGrants d).filter (other true)
    let ok := decide ((live.filter fun (g : Grant) => g.master).length < 64) && ([0, 9, 0xB].contains kind)
    let g : Grant := { master := true, kind := kind, port := r.port, ip := r.ip, mac := r.mac, interval := u v 1 1, duration := u v 2 4, at_ := s.now }
    (beBytes 2 5 ++ beBytes 2 8 ++ [u8 (kind * 16), u8 (u v 1 1)] ++ beBytes 4 (if ok then u v 2 4 else 0) ++ [0, u8 (b2n ok)],
      if ok then s.modInst d fun x => { x with grants := live ++ [g] } else s)
  else if t = 5 then
    let rest := (s.liveGrants d).filter (other false)
    let g : Grant := { master := false, kind := kind, port := r.port, ip := r.ip, mac := r.mac, interval := u v 1 1, duration := u v 2 4, at_ := s.now }
    ([], s.modInst d fun x => { x with grants := if u v 2 4 = 0 then rest else rest ++ [g] })
  else if t = 6 then
    (beBytes 2 7 ++ beBytes 2 2 ++ [u8 (kind * 16), 0], s.modInst d fun x => { x with grants := ((s.liveGrants d).filter (other true)).filter (other false) })
  else ([], s)

/-- The TLVs of a Signaling message from an offset; `n` bounds the walk. -/
def State.signalTlvs (s : State) (d : Nat) (r : PtpRx) (off : Nat) (reply : Bytes) : Nat → Bytes × State
  | 0 => (reply, s)
  | n + 1 =>
    let len := u r.msg (off + 2) 2
    if r.msg.length < off + 4 + len then (reply, s)
    else
      let x := s.signalTlv d r (u r.msg off 2) (slice r.msg (off + 4) len)
      x.2.signalTlvs d r (off + 4 + len) (reply ++ x.1) n

/-- A Signaling message (R425). -/
def State.signaling (s : State) (d : Nat) (r : PtpRx) : State :=
  if s.get (Obj.TIM_P_PROFILE d) = 0 then s
  else
    let x := s.signalTlvs d r 44 [] r.msg.length
    if x.1.isEmpty then x.2 else x.2.sendSignal d r.port r.mac r.ip (slice r.msg 20 10) x.1

/-- A message by its type (R417). -/
def State.ptpTake (s : State) (d : Nat) (r : PtpRx) : State :=
  let m := r.msg
  let t := u m 0 1 % 16
  if t = 0 then
    if ¬ s.fromParent d r then s
    else
      let s1 := s.modInst d fun x => { x with syncAt := s.now }
      let t2 := s.toDomain d r.time
      if bitOf (u m 6 1) 1 then s1.modInst d fun x => { x with sync := some (u m 30 2, r.time, corrOf m) }
      else s1.syncDone d (stampUnits m 34 + corrOf m) t2
  else if t = 8 then
    match (s.inst d).sync with
    | some (seq, f, c) => if s.fromParent d r ∧ seq = u m 30 2 then s.syncDone d (stampUnits m 34 + corrOf m + c) (s.toDomain d f) else s
    | none => s
  else if t = 1 then (if s.portStateOf d r.port = 6 then s.modInst d fun x => { x with reqs := x.reqs ++ [r] } else s)
  else if t = 9 then s.delayResp d r
  else if t = 0xB then s.announce d r
  else if t = 0xC then s.signaling d r
  else s

/-- PTP_MESSAGE_TERMINATED (R417): the oldest message terminated for an instance. -/
def execPtpMessageTerminated (inst : Nat) (s : State) : Host.Outcome State Fault Refusal :=
  .next (if s.halted then s
    else match s.ptp.rx.find? (fun (r : PtpRx) => decide (r.inst = inst)) with
    | none => s
    | some r =>
      let n := smGet 0 s.ptp.rxCount r.port
      let s1 := ({ s with ptp := { s.ptp with rx := s.ptp.rx.erase r, rxCount := smSet 0 s.ptp.rxCount r.port ((n + 1) % 2 ^ 32) } }).cmpTake (4 + inst)
      if ¬ s.instOn inst then s1
      else if ¬ s1.replayOk inst r.msg then s1.bump Obj.TIM_AUTH_REPLAY
      else (s1.replayKeep inst r.msg).ptpTake inst r)

/-! ### PTP_MESSAGE_SEND (R422) -/

/-- A message's interval has passed since the last one, or none has been sent. -/
def State.sendDue (s : State) (d port kind : Nat) : Bool :=
  match (s.inst d).sentAt.find? (fun (e : Nat × Nat) => decide (e.1 = port * 16 + kind)) with
  | some e => decide (e.2 + logTicks (s.logOf d kind) ≤ s.now)
  | none => true

/-- The peers a message goes to: the group under G.8275.1; under G.8275.2 those granted it, or for Delay_Req the port's peer. -/
def State.peers (s : State) (d port kind : Nat) : List (Bytes × Nat) :=
  if s.get (Obj.TIM_P_PROFILE d) = 0 then [([], 0)]
  else if kind = 1 then [(beBytes 6 (s.ptpField port 12 6), s.ptpField port 20 4)]
  else ((s.liveGrants d).filter fun (g : Grant) => g.master && decide (g.kind = (if kind = 8 then 0 else kind)) && decide (g.port = port)).map fun (g : Grant) => (g.mac, g.ip)

/-- Announce's body from the parent's data set or the own one (R422, R424). -/
def State.announceBody (s : State) (d : Nat) : Nat × Bytes :=
  let cls := s.ptpClass d
  match (s.inst d).parent with
  | some f =>
    (f.flags % 256, zeros 10 ++ beBytes 2 f.utc ++ [0, 128, u8 cls, u8 f.gmAccuracy] ++ beBytes 2 f.gmVariance ++ [u8 f.prio2] ++ f.gm ++ beBytes 2 (f.steps + 1) ++ [u8 f.source])
  | none =>
    (0, zeros 10 ++ beBytes 2 0 ++ [0, 128, u8 cls, 0xFE] ++ beBytes 2 0xFFFF ++ [u8 (s.get (Obj.TIM_P_PRIORITY2 d))] ++ beBytes 8 (s.get Obj.TIM_CLOCK_ID) ++ beBytes 2 0 ++ [0xA0])

/-- One message to every peer, and its interval begins anew. -/
def State.sendMessage (s : State) (d port kind flags : Nat) (body : Bytes) : State :=
  let k := port * 16 + kind
  let seq := smGet 0 (s.inst d).seqIds k
  let s1 := s.modInst d fun x => { x with seqIds := smSet 0 x.seqIds k ((seq + 1) % 65536), sentAt := smInsert x.sentAt k s.now }
  let m := s.ptpMessage d port kind seq (flags + s.uniFlag d) (s.logOf d kind) 0 body
  (s.peers d port kind).foldl (fun a (e : Bytes × Nat) => a.ptpSend d port kind e.1 e.2 m) s1

/-- A Follow_Up for a two-step Sync whose T_TX has come back (R422). -/
def State.sendFollowUp (s : State) (d port : Nat) : State :=
  match s.ptp.tx.find? (fun (e : PtpTx) => decide (e.inst = d) && decide (e.port = port) && decide (e.kind = 0)) with
  | none => s
  | some e =>
    let t := t96OfUnits (s.toDomain d e.time)
    let m := s.ptpMessage d port 8 e.seqId (s.uniFlag d) (s.logOf d 0) (t % 65536 : Nat) (beBytes 10 (t / 65536))
    (s.peers d port 8).foldl (fun a (x : Bytes × Nat) => a.ptpSend d port 8 x.1 x.2 m) { s with ptp := { s.ptp with tx := s.ptp.tx.erase e } }

/-- PTP_MESSAGE_SEND (R422, R424). A port still LISTENING takes its state with its first Announce. -/
def execPtpMessageSend (inst port kind : Nat) (s : State) : Host.Outcome State Fault Refusal :=
  .next (if s.halted ∨ ¬ s.instOn inst ∨ ¬ s.member inst port ∨ ¬ s.portUp port then s
    else
      let s0 := if kind = 0xB ∧ s.portStateOf inst port = 4 then s.bmca inst else s
      let st := s0.portStateOf inst port
      if kind = 8 then s0.sendFollowUp inst port
      else if kind = 9 then
        match (s0.inst inst).reqs.find? (fun (r : PtpRx) => decide (r.port = port)) with
        | some r => (s0.modInst inst fun x => { x with reqs := x.reqs.erase r }).sendDelayResp inst r
        | none => s0
      else if ¬ s0.sendDue inst port kind then s0
      else if kind = 0 ∧ st = 6 then s0.sendMessage inst port 0 (if s0.get (Obj.TIM_P_STEP inst) = 1 then 0x0200 else 0) (zeros 10)
      else if kind = 1 ∧ (st = 8 ∨ st = 9) then s0.sendMessage inst port 1 0 (zeros 10)
      else if kind = 0xB ∧ st = 6 then let b := s0.announceBody inst; s0.sendMessage inst port 0xB b.1 b.2
      else s0)

/-! ### UNICAST_GRANT_RENEWAL, PTP_MASTER_LOST -/

/-- A port asks its peer for what it needs: no live grant, or half of its duration gone (R425). -/
def State.wants (s : State) (d port : Nat) : List Nat :=
  [0xB, 0, 9].filter fun k =>
    !((s.liveGrants d).any fun (g : Grant) => !g.master && decide (g.kind = k) && decide (g.port = port) && decide (s.now < g.at_ + secTicks g.duration / 2))

/-- UNICAST_GRANT_RENEWAL (R425). -/
def execUnicastGrantRenewal (inst : Nat) (s : State) : Host.Outcome State Fault Refusal :=
  let ask := fun (a : State) (p : Nat) =>
    let tlvs := (a.wants inst p).flatMap fun k => beBytes 2 4 ++ beBytes 2 6 ++ [u8 (k * 16), u8 (a.logOf inst k)] ++ beBytes 4 300
    if tlvs.isEmpty then a else a.sendSignal inst p (beBytes 6 (a.ptpField p 12 6)) (a.ptpField p 20 4) (List.replicate 10 0xFF#8) tlvs
  .next (if s.halted ∨ ¬ s.instOn inst ∨ s.get (Obj.TIM_P_PROFILE inst) = 0 then s
    else ((s.memberPorts inst).filter fun p => s.portUp p && !(s.masterOnly inst p)).foldl ask s)

/-- The parent is gone: its Announce has timed out, its Syncs have stopped, or its port went down (R423). -/
def State.parentLost (s : State) (d : Nat) : Bool :=
  match (s.inst d).parent with
  | some f => !(s.qualified d f) || decide ((s.inst d).syncAt + 16 * logTicks (s.get (Obj.TIM_P_SYNC_LOG d)) ≤ s.now)
  | none => decide (s.get (Obj.TIM_P_SLAVE_PORT d) ≠ 0xFFFF)

/-- PTP_MASTER_LOST (R423): the BMCA looks for another master; without one the domain enters holdover (R392). -/
def execPtpMasterLost (domain : Nat) (s : State) : Host.Outcome State Fault Refusal :=
  .next (if ¬ s.instOn domain ∨ s.get (Obj.TIM_D_SOURCE domain) ≠ 1 ∨ ¬ s.parentLost domain then s
    else
      let gone := fun (f : Foreign) => match (s.inst domain).parent with
        | some g => decide (f.port = g.port) && decide (f.sender = g.sender)
        | none => false
      let s1 := (s.modInst domain fun x => { x with foreign := x.foreign.filter fun f => !(gone f) }).bmca domain
      if (s1.inst domain).parent.isNone ∧ (s1.dstate domain = 1 ∨ s1.dstate domain = 2) then s1.holdover domain else s1)

/-- A port's entry of `TIM_PTP_STATE` (R432). -/
def State.ptpStateEntry (s : State) (p : Nat) : Bytes :=
  let slave := [0, 1].find? fun d => decide (s.portStateOf d p = 9)
  let delay : Nat := match slave with | some d => s.get (Obj.TIM_P_PATH_DELAY d) | none => 0
  [u8 (s.portStateOf 0 p), u8 (s.portStateOf 1 p), 0, 0] ++ beBytes 8 delay ++ beBytes 4 (smGet 0 s.ptp.rxCount p)

/-- A disabled instance keeps nothing (R421). -/
def State.instReset (s : State) (d : Nat) : State :=
  ((((s.modInst d fun _ => {}).put (Obj.TIM_P_GM d) 0).put (Obj.TIM_P_PARENT d) 0).put (Obj.TIM_P_SLAVE_PORT d) 0xFFFF).put (Obj.TIM_P_PATH_DELAY d) 0

end Sys2Proof.Machine
end

