-- ==== Sys2Proof/Machine/ObjRead.lean ====
section
/-! DEFINITION. What a READ of each object returns: its stored value, or the live state of the block it describes (R132, R137, and the object
rules of each chapter). -/

namespace Sys2Proof.Machine
open Sys2Proof

/-! ### Attention levels (R115, R118, R140) -/

/-- Any sensor is in warning (R507). -/
def State.anyWarn (s : State) : Bool := s.power.sensors.any fun (e : Nat × Sensor) => e.2.warn

/-- The present level conditions that session `i` sees by the class of its page, as bits 0 to 15 (R115). -/
def State.levels (s : State) (i : Nat) : Nat :=
  let cls := (s.page i).cls
  let key := (s.page i).pastNear || (decide (cls = 3) && s.kce.pages.any KeyPage.pastNear)
  let bits : List (Nat × Bool) :=
    [(Attn.fault, decide (0 < s.pendingSources)), (Attn.learn, decide (s.get Obj.TBL_EVENT_THRESH < s.tables.events.length)),
     (Attn.proof, !s.telem.proofs.isEmpty), (Attn.thermal, s.anyWarn), (Attn.key, key)]
  bits.foldl (fun a (e : Nat × Bool) => if e.2 && sees cls e.1 then setBit a e.1 true else a) 0

/-! ### Device status (R139–R142) -/

/-- A repair is in progress in some stack (R141). -/
def State.repairing (s : State) : Bool :=
  s.galley.copying.isSome || !s.tables.spares.isEmpty || s.links.any fun (l : Link) => l.repair.isSome

/-- `ID_STATUS` (R141). -/
def State.idStatus (s : State) : Nat :=
  let boot := s.get Obj.ID_BOOT_SEL
  let bits : List Bool :=
    [s.ports.any (fun (e : Nat × Port) => s.portUp e.1), s.wiping, decide (s.store.stage ≠ .idle), s.psDirty, decide (boot = 2 ∨ boot = 3), s.flt.safe,
     decide (0 < s.pendingSources), s.anyWarn, decide (s.boot.pllState = 2), decide (s.get Obj.CMP_PATCH_ID ≠ 0), decide (s.dstate s.sel = 3),
     s.tim.splicing, s.repairing]
  bits.foldr (fun (b : Bool) a => 2 * a + b2n b) 0

/-- `ID_SPARES_USED` (R140): die-link lanes off their home lane, galley banks and LPM blocks on a spare. -/
def State.sparesUsed (s : State) : Nat :=
  let lanes := (s.links.map fun (l : Link) => (l.lanes.filter fun (e : Nat × DLane) =>
    decide (e.2.state = 0) && e.2.logical.isSome && decide (e.2.logical ≠ (dlaneHome (e.1 % 432)).logical)).length).foldl (· + ·) 0
  lanes + s.galley.remap.length + ((upTo 8).filter fun c => decide (s.get (Obj.CHS_LPM_SPARE c) ≠ 0xFF)).length

/-- `SES_STATE` (R142, R150, R167). -/
def State.sesState (s : State) (i : Nat) : Nat :=
  let p := s.page i
  if p.use = 1 ∨ p.state = 0 ∨ p.state = 3 then 2 else if p.state = 2 then 3 else if (s.session i).isOpen then 1 else 0

/-- Objects 0x0000 to 0x0120 that are live, for a session (R139–R142). -/
def State.liveId (s : State) (req key : Nat) : Nat :=
  if key = Obj.ID_STATUS then s.idStatus
  else if key = Obj.ID_UPTIME then s.uptime
  else if key = Obj.ID_ATTN_LEVEL then s.levels req
  else if key = Obj.ID_SPARES_USED then s.sparesUsed
  else if key = Obj.ID_SESSIONS_OPEN then (upTo 16).foldl (fun a i => if (s.session i).isOpen then setBit a i true else a) 0
  else if key = Obj.SES_MG_FEC_ACTIVE then
    (if s.wonel.mg1.up then s.wonel.mg1.fec * 256 else 0) + (if s.wonel.mg0.up then s.wonel.mg0.fec else 0)
  else if 0x011000 ≤ key ∧ key < 0x012000 then
    let i := key / 256 - 0x0110
    let x := s.session i
    match key % 256 with
    | 1 => s.sesState i
    | 2 => if s.sesState i = 2 then 0xFF else (s.page i).cls
    | 3 => x.idle
    | 4 => if x.isOpen then (x.deadline - s.now) / 800000000 else 0
    | 5 => (s.page i).counter
    | 8 => x.queue.length
    | 9 => match x.bulk with | some b => b.idx * 65536 + b.sub * 256 + 1 | none => 0
    | 10 => match x.bulk with | some b => b.next | none => 0
    | 11 => match x.bulk with | some b => b.total | none => 0
    | _ => s.get key
  else s.get key

/-! ### Key pages (R169, R170) -/

/-- Objects 0x0140 to 0x015F. -/
def State.liveKce (s : State) (key : Nat) : Nat :=
  if key = Obj.KCE_BUSY then (match s.kce.running with | some m => m.level | none => 0xFF)
  else if key = Obj.KCE_SUSPENDED then s.kce.slots.length
  else if 0x015000 ≤ key ∧ key < 0x016000 then
    let i := key / 256 - 0x0150
    let p := s.page i
    match key % 256 with
    | 1 => p.state
    | 2 => if p.state = 0 then 0xFF else p.use
    | 3 => if p.state = 0 ∨ p.use = 1 then 0xFF else p.cls
    | 4 => if p.state = 0 then 0 else p.key.length
    | 5 => p.used
    | 6 => 2 ^ 48 - p.used
    | 7 => p.near
    | 8 => p.ceilS
    | 9 => p.ceilU
    | 10 => p.installs
    | 11 => s.pageHold i
    | _ => s.get key
  else s.get key

/-! ### Clocks, lifecycle, store (R64, R70, R79) -/

/-- State of a reference input (R64). -/
def RefIn.code (r : RefIn) : Nat := if r.qualified then 2 else if r.present then 1 else 0

/-- Objects 0x0200 to 0x0300. -/
def State.liveClk (s : State) (key : Nat) : Nat :=
  let b := s.boot
  if key = Obj.CLK_REF_ACTIVE then (if b.pllState = 2 then 0xFF else b.activeRef)
  else if key = Obj.CLK_REF0_STATE then b.ref0.code
  else if key = Obj.CLK_REF1_STATE then b.ref1.code
  else if key = Obj.CLK_REF_OFFSET then (if b.ref0.present ∧ b.ref1.present then ofSigned 32 (b.ref1.ppm - b.ref0.ppm) else 0)
  else if key = Obj.CLK_PLL_STATE then b.pllState
  else if key = Obj.LCY_PS_DIRTY then b2n s.psDirty
  else if key = Obj.LCY_PS_USED then s.psUsed
  else s.get key

/-! ### Power (R509–R511) -/

/-- The hottest reading, the lowest sensor on a tie. -/
def State.hottest (s : State) : Nat :=
  (upTo 64).foldl (fun m k => if (s.sensor m).temp < (s.sensor k).temp then k else m) 0

/-- Objects 0x0310 to 0x0340. -/
def State.livePwr (s : State) (key : Nat) : Nat :=
  let idx := key / 256
  if key = Obj.PWR_TOTAL then ((s.power.rails.map fun (r : Rail) => r.vout * r.iout / 1000).foldl (· + ·) 0) % 2 ^ 32
  else if key = Obj.PWR_TRIP_LAST then s.power.tripSensor
  else if key = Obj.PWR_T_MAX then ofSigned 32 (s.sensor s.hottest).temp
  else if key = Obj.PWR_T_MAX_SENSOR then s.hottest
  else if key = Obj.PWR_GATED_GROUPS then
    (upTo 32).foldl (fun a g => if s.galley.groups / 2 ≤ g % 16 then setBit a g true else a) 0
  else if 0x0318 ≤ idx ∧ idx < 0x031D then
    let r := s.rail (idx - 0x0318)
    match key % 256 with
    | 1 => r.state
    | 2 => r.set
    | 3 => r.vout
    | 4 => r.iout % 2 ^ 32
    | _ => s.get key
  else if 0x0340 ≤ idx ∧ idx < 0x0380 then
    let x := s.sensor (idx - 0x0340)
    match key % 256 with
    | 1 => ofSigned 32 x.temp
    | 4 => if x.failed then 2 else if x.warn then 1 else 0
    | _ => s.get key
  else s.get key

/-! ### Faults (R494) -/

/-- Objects 0x0400. -/
def State.liveFlt (s : State) (key : Nat) : Nat :=
  if key = Obj.FLT_PENDING then s.pendingSources
  else if key = Obj.FLT_SEVERE then s.severeSources
  else if key = Obj.FLT_EVENT_COUNT then s.flt.queue.length
  else if key = Obj.FLT_REPAIRS_WAITING then (s.flt.repairs.filter fun (r : Repair) => !r.begun).length
  else s.get key

/-! ### The Compositor (R454, R455) -/

/-- Objects 0x0500 to 0x051F. -/
def State.liveCmp (s : State) (key : Nat) : Nat :=
  let idx := key / 256
  if key = Obj.CMP_STATE then s.cmpState
  else if 0x0510 ≤ idx ∧ idx < 0x0520 then
    match key % 256 with
    | 1 => s.ctxStateCode (idx - 0x0510)
    | 2 => ctxPriority (idx - 0x0510)
    | _ => s.get key
  else s.get key

/-! ### Time (R405–R407, R431) -/

/-- Objects 0x0600 to 0x0691. -/
def State.liveTim (s : State) (key : Nat) : Nat :=
  let idx := key / 256
  let f := s.frc
  if key = Obj.TIM_FRC then f
  else if key = Obj.TIM_NOW then
    ((f * 2 ^ 96 + t96OfUnits ((s.domain 0).time f)) * 2 ^ 96 + t96OfUnits ((s.domain 1).time f)) * 2 ^ 96 + t96OfUnits (s.outputTime f)
  else if key = Obj.TIM_SPLICE_RES then (if s.tim.splicing then sat64 (s.residual f) else 0)
  else if key = Obj.TIM_OUTPUT then t96OfUnits (s.outputTime f)
  else if key = Obj.TIM_EVENT_COUNT then s.tim.events.length
  else if idx = 0x0610 ∨ idx = 0x0611 then
    let d := s.domain (idx - 0x0610)
    match key % 256 with
    | 3 => t96OfUnits (d.time f)
    | 4 => ofSigned 96 d.off
    | 5 => d.anc % 2 ^ 96
    | 6 => ofSigned 64 d.rate
    | 18 => match d.holdSince with | some t => (s.now - t) / 800000000 % 2 ^ 32 | none => 0
    | _ => s.get key
  else if 0x0620 ≤ idx ∧ idx < 0x0630 ∧ key % 256 = 7 then
    let st := s.get (Obj.TIM_TPO_STATE (idx - 0x0620))
    if st = 1 ∨ st = 2 then t96OfUnits (s.tpo (idx - 0x0620)).target else 0
  else if key = Obj.TIM_P_CLASS 0 then s.ptpClass 0
  else if key = Obj.TIM_P_CLASS 1 then s.ptpClass 1
  else s.get key

/-! ### Telemetry (R381, R382) -/

/-- Objects 0x0700 to 0x0711, for a session. -/
def State.livePmc (s : State) (req key : Nat) : Nat :=
  let sel := (s.session req).pmcSel
  let sub := key % 256
  if key = Obj.PMC_PROOF_COUNT then s.telem.proofs.length
  else if key = Obj.PMC_SEL then sel
  else if key / 256 = 0x0711 then
    if sub = 1 then (blockKind sel).1
    else if sub = 2 then (blockKind sel).2
    else if sub = 3 then s.cycles sel
    else if 4 ≤ sub ∧ sub < 12 then listAt 0 (s.ctrSet sel).cfg (sub - 4)
    else if 12 ≤ sub ∧ sub < 20 then s.ctrRead sel (sub - 12)
    else s.get key
  else s.get key

/-! ### Galley (R337) -/

/-- Objects 0x0800 to 0x0838. -/
def State.liveGal (s : State) (key : Nat) : Nat :=
  let g := s.galley
  let idx := key / 256
  let waiting := s.flt.repairs.any fun (r : Repair) => decide (r.stack = 0) && !r.begun && (match r.kind with | .bank _ _ _ => true | _ => false)
  if key = Obj.GAL_STATE then
    (if s.wiping then 0 else if s.isBusy Obj.GAL_CARVE_APPLY then 2 else if g.copying.isSome then 3 else 1)
  else if key = Obj.GAL_GROUPS_ACTIVE then g.groups
  else if key = Obj.GAL_CAPACITY then g.groups * 32
  else if 0x0808 ≤ idx ∧ idx < 0x080C then
    let c := idx - 0x0808
    match key % 256 with
    | 1 => caseSize c
    | 2 => g.base c
    | 3 => g.count c
    | 4 => g.freeOf c
    | 6 => s.unusedMin c
    | _ => s.get key
  else if key = Obj.GAL_DESC_FRAMES then (g.descs.filter fun (e : Nat × Option Descr) => match e.2 with | some (.frame ..) => true | _ => false).length
  else if key = Obj.GAL_DESC_COPY_LIMIT then s.copyLimit
  else if key = Obj.GAL_DESC_COPY_USED then s.copiesUsed
  else if key = Obj.GAL_SPARES_FREE then s.sparesFree
  else if key = Obj.GAL_REMAP_STATE then (if g.copying.isSome then 2 else if waiting then 1 else 0)
  else s.get key

/-! ### Scheduling (R361, R362) -/

/-- Shaper selections other than 0, as they stand in the dictionary. -/
def State.selections (s : State) : List Nat :=
  (s.dict.filter fun (e : Nat × Nat) =>
    let sub := e.1 % 256
    decide (0x180000 ≤ e.1 ∧ e.1 < 0x1C0000) && (decide (sub = 1) || (decide (0x10 ≤ sub ∧ sub ≤ 0xDF) && decide ((sub - 0x10) % 13 = 3)))).map Prod.snd

/-- `SCH_SP_USERS` of a profile. -/
def State.spUsers (s : State) (k : Nat) : Nat :=
  if k = 0 then 17408 - s.selections.length else (s.selections.filter fun v => decide (v = k)).length

/-- Objects 0x0900 to 0x09FF. -/
def State.liveSch (s : State) (key : Nat) : Nat :=
  if key = Obj.SCH_MC_QUEUE then s.sched.mcQueue.length
  else if 0x098000 ≤ key ∧ key < 0x0A0000 ∧ key % 256 = 2 then s.spUsers (key / 256 - 0x0980)
  else s.get key

/-- Objects 0x1800 to 0x1BFF. -/
def State.liveQ (s : State) (p sub key : Nat) : Nat :=
  let q := (sub - 0x10) / 13
  if sub = 2 then ofSigned 64 (s.portCredit p)
  else if sub = 3 then s.inflight p % 2 ^ 32
  else if sub = 4 then ((upTo 16).map fun i => s.depth p i).foldl (· + ·) 0 % 2 ^ 32
  else if sub = 5 then smGet 0 s.sched.vtime p
  else if sub = 11 then s.pausedMap p
  else if sub < 0x10 then s.get key
  else match (sub - 0x10) % 13 with
    | 6 => s.depth p q % 2 ^ 32
    | 7 => s.holDelay p q
    | 8 => ofSigned 64 (s.queue p q).credit
    | _ => s.get key

/-! ### Tables (R307–R309) -/

/-- Objects 0x0A00 to 0x0A3F. -/
def State.liveTbl (s : State) (key : Nat) : Nat :=
  let idx := key / 256
  let mine := fun (k : Nat) => (s.tables.learn.filter fun (e : Nat × Nat) => decide (e.1 / 65536 = k) && Lrn.valid e.2)
  if key = Obj.TBL_EVENT_COUNT then s.tables.events.length
  else if 0x0A20 ≤ idx ∧ idx < 0x0A40 then
    match key % 256 with
    | 1 => (mine (idx - 0x0A20)).length
    | 2 => ((mine (idx - 0x0A20)).filter fun (e : Nat × Nat) => Lrn.static e.2).length
    | _ => s.get key
  else s.get key

/-- Objects 0x2100 to 0x2107: a chase's table set is copied in the clock in which it is switched on (DEDUCED, notes/assumptions/50). -/
def State.liveChs (s : State) (c key : Nat) : Nat :=
  if key % 256 = 1 then (if s.chaseGated c then 0 else 2) else s.get key

/-- Objects 0x2000 to 0x201F. -/
def State.livePln (s : State) (k key : Nat) : Nat :=
  match key % 256 with
  | 1 => s.plnState k
  | 2 => s.activeId k
  | 3 => s.standbyId k
  | _ => s.get key

/-! ### Lanes, die-links, ports (R209, R210, R235, R236) -/

/-- `LN_STATE` (R209). -/
def State.lnState (s : State) (n : Nat) : Nat :=
  let l := s.lane n
  if s.octetGated (n / 8) then 0
  else if l.failCause ≠ 0 then 7
  else if s.get (Obj.LN_LOOPBACK n) ≠ 0 then 6
  else if s.get (Obj.LN_PRBS_TX n) ≠ 0 ∨ s.get (Obj.LN_PRBS_RX n) ≠ 0 then 5
  else match s.portOfLane n with
    | some p => if s.portUp p then 4 else if l.pcs then 3 else if l.cdr then 2 else 1
    | none => 1

/-- Objects 0x1000 to 0x13FF. -/
def State.liveLn (s : State) (n key : Nat) : Nat :=
  match key % 256 with
  | 0x01 => s.lnState n
  | 0x02 => s.lnMode n
  | 0x03 => s.lnFec n
  | 0x06 => s.ffeActive n
  | 0x10 => b2n (s.lane n).signal
  | 0x11 => if s.get (Obj.LN_LOOPBACK n) = 2 then 0 else s.get key
  | 0x17 => ofSigned 32 (s.laneTemp n)
  | 0x22 => (s.lane n).failCause
  | _ => s.get key

/-- Objects 0x2200 to 0x2207. -/
def State.liveQd (s : State) (q key : Nat) : Nat :=
  let l := s.link q
  match key % 256 with
  | 0x01 => if l.state = 2 ∧ l.repair.isSome then 3 else l.state
  | 0x02 => (s.freeSpares q 0).length
  | 0x03 => (s.freeSpares q 1).length
  | 0x05 => s.repairState q
  | 0x0B => (upTo 864).foldl (fun m i =>
      if (s.dlane q (i / 432) (i % 432)).state = 0 then min m (s.laneMargin q (i / 432) (i % 432)) else m) 255
  | 0x10 => ofSigned 32 (s.tempDelta q)
  | _ => s.get key

/-- `PT_PAUSE_STATE` (R235). -/
def State.pauseState (s : State) (p : Nat) : Nat :=
  let x := s.port p
  x.xoff + 256 * x.timers.foldl (fun a (e : Nat × Nat) => setBit a (if e.1 = 8 then 0 else e.1) true) 0

/-- Objects 0x1400 to 0x17FF. -/
def State.livePt (s : State) (p key : Nat) : Nat :=
  let x := s.port p
  match key % 256 with
  | 0x05 => s.ptState p
  | 0x06 => s.ptSpeed p
  | 0x16 => s.pauseState p
  | 0x19 => s.lpiTwOwn p
  | 0x1A => s.lpiTw p
  | 0x1B => b2n x.txLpi + 2 * b2n x.rxLpi + 4 * b2n x.waking.isSome
  | _ => s.get key

/-- Objects 0x1C00 to 0x1FFF: the low-power times count on while they last. -/
def State.liveCtr (s : State) (p key : Nat) : Nat :=
  let x := s.port p
  match key % 256 with
  | 0x1C => (s.get key + (if x.txLpi then (s.now - x.txLpiSince) / 800 else 0)) % 2 ^ 64
  | 0x1D => (s.get key + (if x.rxLpi then (s.now - x.rxLpiSince) / 800 else 0)) % 2 ^ 64
  | _ => s.get key

/-- The value that a READ by session `req` returns, popping objects apart. -/
def State.live (s : State) (req key : Nat) : Nat :=
  let idx := key / 256
  let sub := key % 256
  if idx < 0x0140 then s.liveId req key
  else if idx < 0x0200 then s.liveKce key
  else if idx < 0x0310 then s.liveClk key
  else if idx < 0x0400 then s.livePwr key
  else if idx < 0x0500 then s.liveFlt key
  else if idx < 0x0600 then s.liveCmp key
  else if idx < 0x0700 then s.liveTim key
  else if idx < 0x0800 then s.livePmc req key
  else if idx < 0x0900 then s.liveGal key
  else if idx < 0x0A00 then s.liveSch key
  else if idx < 0x0B00 then s.liveTbl key
  else if idx < 0x1000 then s.get key
  else if idx < 0x1400 then s.liveLn (idx - 0x1000) key
  else if idx < 0x1800 then s.livePt (idx - 0x1400) key
  else if idx < 0x1C00 then s.liveQ (idx - 0x1800) sub key
  else if idx < 0x2000 then s.liveCtr (idx - 0x1C00) key
  else if idx < 0x2100 then s.livePln (idx - 0x2000) key
  else if idx < 0x2200 then s.liveChs (idx - 0x2100) key
  else if idx < 0x2300 then s.liveQd (idx - 0x2200) key
  else s.get key

/-- Objects held by the Compositor (R135 and the notes of each chapter). -/
def heldByCmp (key : Nat) : Bool :=
  let idx := key / 256
  let sub := key % 256
  (decide (0x0500 ≤ idx ∧ idx < 0x0600)) || decide (0x0A00 ≤ idx ∧ idx < 0x0B00) || decide (0x0720 ≤ idx ∧ idx < 0x0724) ||
    decide (idx = 0x0690 ∨ idx = 0x0691) ||
    ((decide (idx = 0x0610 ∨ idx = 0x0611)) && (decide (sub = 2) || decide (10 ≤ sub ∧ sub ≤ 18))) ||
    (decide (idx = 0x0700) && (decide (sub = 1) || decide (4 ≤ sub ∧ sub ≤ 6))) ||
    decide (key = Obj.TIM_AUTH_REPLAY) || decide (key = Obj.PWR_AVS_MARGIN) ||
    (decide (0x1400 ≤ idx ∧ idx < 0x1800) && decide (sub = 0x1A)) || (decide (0x2100 ≤ idx ∧ idx < 0x2108) && decide (sub = 0x0E))

/-- A READ that pops (R131): the code, the value of `n` bytes, and the state after it; an empty queue reads zero. -/
def State.popOr (s : State) (key : Nat) : Option (Nat × Nat × State) :=
  if key = Obj.FLT_EVENT then
    some (match s.flt.queue with
      | [] => (Res.ok, 0, s)
      | r :: t => (Res.ok, beNat r.bytes, { s with flt := { s.flt with queue := t } }))
  else if key = Obj.TIM_EVENT then
    some (match s.tim.events with
      | [] => (Res.ok, 0, s)
      | r :: t => (Res.ok, beNat r, { s with tim := { s.tim with events := t } }))
  else if key = Obj.TBL_EVENT then
    some (match s.tables.events with
      | [] => (Res.ok, 0, s)
      | r :: t => (Res.ok, beNat r, { s with tables := { s.tables with events := t } }))
  else if key = Obj.PMC_PROOF then some (readPmcProof s)
  else none

/-- A READ of an object whose access has been judged (R108, R110, R131): its code, its value, and the state after it. A START object whose run
lasts answers NOT_READY with its previous record. -/
def State.readObject (s : State) (req key : Nat) : Nat × Nat × State :=
  match s.popOr key with
  | some r => r
  | none =>
    let v := if key = Obj.LCY_SOFT_RESET then 0 else s.live req key
    (if s.isBusy key then Res.notReady else Res.ok, v, s)

end Sys2Proof.Machine
end

