-- ==== Sys2Proof/Machine/ObjWrite.lean ====
section
/-! DEFINITION. What a WRITE of each object does (R129 steps 9 to 12, R134, and the object rules of each chapter): one judgement that gives a
result code and, where it is OK, the state after the write. The check pass of R109 uses the code alone, the apply pass the state. -/

namespace Sys2Proof.Machine
open Sys2Proof

/-- A judged write: refused with a code, or carried out. -/
abbrev Written := Nat × State

/-- A write refused with BAD_VALUE, BAD_STATE or BUSY. -/
def State.badValue (s : State) : Written := (Res.badValue, s)
def State.badState (s : State) : Written := (Res.badState, s)
def State.busyNow (s : State) : Written := (Res.busy, s)

/-- The value is stored. -/
def State.stored (s : State) (key v : Nat) : Written := (Res.ok, s.put key v)

/-- The value is stored where it passes its check. -/
def State.storeIf (s : State) (ok : Bool) (key v : Nat) : Written := if ok then s.stored key v else s.badValue

/-- A value lies in a closed range. -/
def inRange (lo hi v : Nat) : Bool := decide (lo ≤ v) && decide (v ≤ hi)

/-- A two's-complement value of 32 bits lies in a closed range. -/
def inRange32 (lo hi : Int) (v : Nat) : Bool := decide (lo ≤ toSigned 32 v) && decide (toSigned 32 v ≤ hi)

/-! ### Gating (R21, R134, R306, R353, R378, R504; DEDUCED, notes/assumptions/50) -/

/-- The counter set of a block restarts at its values after wipe; its configuration is kept (R378). -/
def State.freshSet (s : State) (b : Nat) : State :=
  { s with telem := { s.telem with sets := smSet {} s.telem.sets b { s.ctrSet b with ctr := [0, 0, 0, 0, 0, 0, 0, 0], since := s.now } } }

/-- Octet `o` is gated: what its lanes and MACs hold is lost; their configuration is kept. -/
def State.gateOctet (s : State) (o : Nat) : State :=
  let lane := fun (a : State) (n : Nat) =>
    let b := (a.stopLane n).modLane n fun l => { signal := l.signal }
    let c := ((b.clearKeys (Obj.LN_STATE n) (Obj.LN_EQ_MODE n)).clearKeys (Obj.LN_TX_FFE_ACTIVE n) (Obj.LN_TX_SWING n)).clearKeys
      (Obj.LN_PRBS_LOCK n) (Obj.LN_EYE_PHASE n)
    let d := c.clearKeys (Obj.LN_EYE_RUN n) (Obj.LN_FLAPS n + 1)
    (d.clearKeys (Obj.CTR_RX_FRAMES n) (Obj.CTR_CLEAR n + 1)).freshSet n
  ((upTo 8).foldl (fun a i => lane a (8 * o + i)) s).freshSet (1024 + o)

/-- Pipeline `k` is gated: its learning table, buckets and counters are lost; the image store keeps its programs (R270). -/
def State.gatePipe (s : State) (k : Nat) : State :=
  let s1 := s.modTables fun t => { t with learn := smClearRange t.learn (k * 65536) ((k + 1) * 65536), learners := smErase t.learners k }
  let s2 := (s1.memRangeWritten (memKey 7 (k * 2 ^ 24) 0) (memKey 7 ((k + 1) * 2 ^ 24) 0)).memRangeWritten
    (memKey 8 (k * 2 ^ 24) 0) (memKey 8 ((k + 1) * 2 ^ 24) 0)
  let s3 := ((s2.clearKeys (Obj.PLN_STATE k) (Obj.PLN_DEFAULT_CLASS k)).clearKeys (Obj.PLN_IN_PKTS k) (Obj.PLN_COLO_SKIPPED k + 1)).clearKeys
    (Obj.TBL_LRN_ENTRIES k) (Obj.TBL_LRN_RING_ERR k + 1)
  s3.freshSet (1160 + k)

/-- Pipeline `k` is switched on: its policers are rewritten and start full (R353). -/
def State.ungatePipe (s : State) (k : Nat) : State :=
  let renew := fun (e : Nat × Policer) =>
    if e.1 / 8192 = k then
      let v := e.2.entry
      (e.1, ({ pending := true, nCir := v / 2 ^ 96, nPir := v / 2 ^ 64 % 2 ^ 32, nCbs := v / 2 ^ 32 % 2 ^ 32, nPbs := v % 2 ^ 32 } : Policer))
    else e
  ({ s with sched := { s.sched with policers := s.sched.policers.map renew } }).freshSet (1160 + k)

/-- The table set of chase `c` is gated: its stored errors, its spare and its counters are lost. -/
def State.gateChase (s : State) (c : Nat) : State :=
  let mine := fun (r : Repair) => match r.kind with | .lpmBlock d _ => decide (d = c) | _ => false
  let s1 := { s with flt := { s.flt with repairs := s.flt.repairs.filter fun (r : Repair) => !mine r } }
  let s2 := s1.modTables fun t => { t with spares := smErase t.spares c }
  let s3 := [3, 4, 5, 6].foldl (fun a kind => a.memRangeWritten (memKey kind (c * 2 ^ 24) 0) (memKey kind (c * 2 ^ 24 + 1) 0)) s2
  let s4 := (s3.clearKeys (Obj.CHS_STATE c) (Obj.CHS_LPM_SPARE_LBLOCK c)).clearKeys (Obj.CHS_LPM_SPARE_IN c) (Obj.CHS_LPM_SPARE_IN c + 1)
  { s4 with busy := setErase s4.busy (Obj.CHS_LPM_SPARE_IN c) }.freshSet (1192 + c)

/-- The table set of chase `c` is switched on: its content is the shared one, its remap that of the lowest running chase (R306). -/
def State.ungateChase (s : State) (c : Nat) : State :=
  match (upTo 8).find? fun d => decide (d ≠ c) && !s.chaseGated d with
  | some d => (s.put (Obj.CHS_LPM_SPARE c) (s.get (Obj.CHS_LPM_SPARE d))).freshSet (1192 + c)
  | none => s.freshSet (1192 + c)

/-- Write the gate object of the octets. -/
def State.setOctetGates (s : State) (v : Nat) : State :=
  let new := s.put Obj.PWR_GATE_OCTETS v
  (upTo 128).foldl (fun a o =>
    if s.octetGated o = new.octetGated o then a
    else if new.octetGated o then a.gateOctet o
    else ((upTo 8).foldl (fun (b : State) i => b.freshSet (8 * o + i)) (a.octetOn o)).freshSet (1024 + o)) new

/-- Write the gate object of the pipelines. -/
def State.setPipeGates (s : State) (v : Nat) : State :=
  let new := s.put Obj.PWR_GATE_PIPES v
  (upTo 32).foldl (fun a k => if s.pipeGated k = new.pipeGated k then a else if new.pipeGated k then a.gatePipe k else a.ungatePipe k) new

/-- Write the gate object of the table sets. -/
def State.setChaseGates (s : State) (v : Nat) : State :=
  (upTo 8).foldl (fun a c =>
    if s.chaseGated c = bitOf v c then a
    else if bitOf v c then (a.putBit Obj.PWR_GATE_CHASES c true).gateChase c
    else (a.ungateChase c).putBit Obj.PWR_GATE_CHASES c false) s

/-- Forming a port on `k` lanes at `p` first clears the gate bits of its octets, its pipeline and its table set (R504). -/
def State.ungateFor (s : State) (p k : Nat) : State :=
  let clear := fun (v o : Nat) => if octBit 16 v o then v - 2 ^ (8 * (15 - o / 8) + o % 8) else v
  let s1 := s.setChaseGates (setBit (s.get Obj.PWR_GATE_CHASES) (p / 128) false)
  let s2 := s1.setPipeGates (setBit (s1.get Obj.PWR_GATE_PIPES) (p / 32) false)
  let octets := ((upTo k).map fun i => (p + i) / 8).foldl setInsert []
  s2.setOctetGates (octets.foldl clear (s2.get Obj.PWR_GATE_OCTETS))

/-- A write of `PWR_GATE_OCTETS` (R504). -/
def State.writeGateOctets (s : State) (v : Nat) : Written :=
  if (upTo 1024).any fun n => octBit 16 v (n / 8) && (s.portOfLane n).isSome then s.badState else (Res.ok, s.setOctetGates v)

/-- A write of `PWR_GATE_PIPES` (R504). -/
def State.writeGatePipes (s : State) (v : Nat) : Written :=
  if s.ports.any (fun (e : Nat × Port) => decide (s.ptType e.1 ≠ 0) && bitOf v (e.1 / 32)) ∨
      (upTo 1024).any (fun p => bitOf v (p / 32) && decide (s.ptType p ≠ 0)) then s.badState
  else (Res.ok, s.setPipeGates v)

/-- A write of `PWR_GATE_CHASES` (R306). -/
def State.writeGateChases (s : State) (v : Nat) : Written :=
  if (upTo 8).any (fun c => bitOf v c && !s.chaseGated c && (upTo 4).any fun i => !s.pipeGated (4 * c + i)) ∨ v = 0xFF then s.badState
  else (Res.ok, s.setChaseGates v)

/-! ### Wonel, keys, clocks, power, faults, the Compositor -/

/-- An IPv4 address that `SES_IPV4_ADDR` refuses (R90). -/
def ipRefused (v : Nat) : Bool :=
  decide (224 ≤ v / 2 ^ 24 ∧ v / 2 ^ 24 < 240) || decide (v = 0xFFFFFFFF) || decide (v / 2 ^ 24 = 127)

/-- 0x0100 to 0x0120. What R90 delays until after the reply is in `State.afterWrite`. -/
def State.writeSes (s : State) (key v : Nat) : Written :=
  if key = Obj.SES_IPV4_ADDR then s.storeIf (!ipRefused v) key v
  else if key = Obj.SES_UDP_PORT then s.storeIf (decide (v ≠ 0)) key v
  else if key = Obj.SES_VLAN then s.storeIf (decide (v ≤ 4094)) key v
  else if key = Obj.SES_MG_ENABLE ∨ key = Obj.SES_MG_FEC then s.storeIf (decide (v ≤ 3)) key v
  else if key = Obj.SES_IDLE_DEFAULT then s.storeIf (inRange 1 3600 v) key v
  else if 0x012000 ≤ key then s.storeIf (decide (v < 8)) key v
  else s.stored key v

/-- A management port's link under a new `SES_MG_FEC` (R89): kept in a mode it may keep, else started afresh. -/
def MgPort.refec (x : MgPort) (now v : Nat) : MgPort :=
  if x.up ∧ (v = 0 ∨ v = x.fec) then x else { up := false, fec := if v = 0 then 3 else v, since := now }

/-- What follows the reply to a write of a transport object (R89, R90). -/
def State.afterWrite (s : State) (key v : Nat) : State :=
  if key = Obj.SES_MG_FEC then
    let m0 := s.wonel.mg0.refec s.now v
    let m1 := s.wonel.mg1.refec s.now v
    let fell := (s.wonel.mg0.up && !m0.up) || (s.wonel.mg1.up && !m1.up)
    let s1 := { s with wonel := { s.wonel with mg0 := m0, mg1 := m1 } }
    if fell then s1.latch Attn.link else s1
  else s

/-- 0x0300 to 0x0340. -/
def State.writePwr (s : State) (key v : Nat) : Written :=
  if key = Obj.CLK_REF_PREFER then s.storeIf (decide (v ≤ 1)) key v
  else if key = Obj.PWR_AVS_MODE then s.storeIf (decide (v ≤ 1)) key v
  else if key = Obj.PWR_AVS_FIXED then s.storeIf (inRange 650 850 v) key v
  else if key = Obj.PWR_GATE_OCTETS then s.writeGateOctets v
  else if key = Obj.PWR_GATE_PIPES then s.writeGatePipes v
  else if key = Obj.PWR_GATE_CHASES then s.writeGateChases v
  else if 0x034000 ≤ key then s.storeIf (inRange32 480 1200 v) key v
  else s.stored key v

/-- The ranges of the injection objects (R495). -/
def injValueOk (sub v : Nat) : Bool :=
  match sub with
  | 1 => decide (v ≤ 13)
  | 3 => inRange 1 3 v
  | 4 => decide (v ≤ 19)
  | 5 => decide (v ≤ 1)
  | 6 => inRange 1 1000 v
  | _ => true

/-- 0x0400 to 0x0491. -/
def State.writeFlt (s : State) (key v : Nat) : Written :=
  if 0x042000 ≤ key ∧ key < 0x042100 then
    if injValueOk (key % 256) v = false then s.badValue else if s.isBusy Obj.FLT_INJ_ARM then s.busyNow else s.stored key v
  else if key = Obj.FLT_DIAG_ENABLE then
    (if v = 1 ∧ s.get Obj.LCY_STATE ≠ 1 then s.badState else if v = 1 then s.stored key 1 else (Res.ok, s.endDiag))
  else if key = Obj.FLT_DIAG_KIND then s.storeIf (inRange 3 7 v) key v
  else if key = Obj.FLT_DIAG_INSTANCE then s.storeIf (decide (v ≤ if s.get Obj.FLT_DIAG_KIND = 7 then 31 else 7)) key v
  else if key = Obj.FLT_DIAG_CHECK then s.storeIf (!(decide (s.get Obj.FLT_DIAG_KIND = 5) && decide (3 < v))) key v
  else s.stored key v

/-! ### Time and PTP (R386–R408, R430, R431) -/

/-- A T96 of a period of R397. -/
def periodOk (v : Nat) : Bool := let u := unitsOfT96 v; decide (1000 * 65536 ≤ u) && decide (u ≤ 2 ^ 32 * 1000000000 * 65536)

/-- An entry of `TIM_AUTH_KEY` (R426): reserved bytes, its page, and its SPP and keyID once only. -/
def State.authKeyOk (s : State) (key v : Nat) : Bool :=
  let page := octField 8 v 1 1
  let same := fun (w : Nat) => decide (octField 8 w 0 1 = octField 8 v 0 1) && decide (octField 8 w 4 4 = octField 8 v 4 4) && decide (octField 8 w 1 1 ≠ 0xFF)
  decide (octField 8 v 2 2 = 0) &&
    (decide (page = 0xFF) ||
      (decide (page < 16) && decide ((s.page page).state ≠ 0) && decide ((s.page page).use = 1) &&
        !((upTo 8).any fun i => decide (Obj.TIM_AUTH_KEY i ≠ key) && same (s.get (Obj.TIM_AUTH_KEY i)))))

/-- 0x0600 to 0x063F. -/
def State.writeTim (s : State) (key v : Nat) : Written :=
  let idx := key / 256
  let sub := key % 256
  if key = Obj.TIM_SELECT then (if v ≤ 1 then (Res.ok, s.selectDomain v false) else s.badValue)
  else if key = Obj.TIM_AUTO_SWITCH then (Res.ok, (s.put key v).autoSwitch)
  else if key = Obj.TIM_SPLICE_WINDOW then s.storeIf (decide (v ≤ 1000000000)) key v
  else if key = Obj.TIM_SPLICE_SLOPE then s.storeIf (inRange 1 1000000 v) key v
  else if key = Obj.TIM_OUT_ENGAGE then (Res.ok, s.writeEngage v)
  else if idx = 0x0610 ∨ idx = 0x0611 then
    let d := idx - 0x0610
    match sub with
    | 0x01 => if v ≤ 2 then (Res.ok, s.writeSource d v) else s.badValue
    | 0x06 => s.writeRate d v
    | 0x07 => s.writeSet d v
    | 0x08 => s.writeAdjust d v
    | 0x09 => s.storeIf (decide (v ≤ 15)) key v
    | 0x0A => s.storeIf (inRange 1 10000 v) key v
    | 0x0B => s.storeIf (inRange 10 1000000000 v) key v
    | 0x0C => s.storeIf (inRange 1 1000000 v) key v
    | _ => s.stored key v
  else if 0x0620 ≤ idx ∧ idx < 0x0630 then
    match sub with
    | 0x01 => if v ≤ 2 then s.armTpo (idx - 0x0620) v else s.badValue
    | 0x03 => s.storeIf (periodOk v) key v
    | 0x04 => s.storeIf (decide (10 ≤ v)) key v
    | 0x05 => s.storeIf (inRange32 (-100000) 100000 v) key v
    | _ => s.stored key v
  else
    match sub with
    | 0x01 => s.storeIf (decide (v ≤ 3)) key v
    | 0x02 =>
      if inRange 1 10000000 v then
        let tci := listMod s.tim.tci (idx - 0x0630) fun x => { x with seen := 0 }
        (Res.ok, { s.put key v with tim := { s.tim with tci := tci } })
      else s.badValue
    | 0x03 => s.storeIf (inRange32 (-100000) 100000 v) key v
    | _ => s.stored key v

/-- 0x0680 to 0x0691. -/
def State.writePtp (s : State) (key v : Nat) : Written :=
  let sub := key % 256
  if key = Obj.TIM_AUTH_HOLD then s.storeIf (inRange 100 10000 v) key v
  else if key / 256 = 0x0681 then s.storeIf (s.authKeyOk key v) key v
  else if 0x0690 ≤ key / 256 then
    let d := key / 256 - 0x0690
    let on := s.instOn d
    match sub with
    | 0x01 =>
      if v = 1 ∧ s.instOn (1 - d) ∧ s.get (Obj.TIM_P_DOMAIN d) = s.get (Obj.TIM_P_DOMAIN (1 - d)) then s.badState
      else if v = s.get key then (Res.ok, s) else (Res.ok, (s.put key v).instReset d)
    | 0x02 =>
      if 1 < v then s.badValue
      else if on then s.badState
      else
        let dom := s.get (Obj.TIM_P_DOMAIN d)
        let fits : Bool := if v = 0 then inRange 24 43 dom else inRange 44 63 dom
        let s1 := s.put key v
        (Res.ok, if fits then s1 else s1.put (Obj.TIM_P_DOMAIN d) (if v = 0 then 24 else 44))
    | 0x03 =>
      if ¬ (if s.get (Obj.TIM_P_PROFILE d) = 0 then inRange 24 43 v else inRange 44 63 v) then s.badValue
      else if on then s.badState else s.stored key v
    | 0x05 => s.storeIf (decide (1 ≤ v)) key v
    | 0x06 => s.storeIf (decide (v ≤ 1)) key v
    | 0x07 => s.storeIf (inRange32 (-7) 0 v) key v
    | 0x08 => s.storeIf (inRange32 (-7) 0 v) key v
    | 0x09 => s.storeIf (inRange32 (-3) 1 v) key v
    | 0x0A => s.storeIf (inRange 2 10 v) key v
    | 0x0B => s.storeIf (decide (v ≤ 15)) key v
    | 0x0C => s.storeIf (decide (v ≤ 8)) key v
    | 0x0D => s.storeIf (decide (v ≤ 86400)) key v
    | _ => s.stored key v
  else s.stored key v

/-! ### Telemetry (R381–R383) -/

/-- 0x0700 to 0x0723, for a session. -/
def State.writePmc (s : State) (req key v : Nat) : Written :=
  let idx := key / 256
  let sub := key % 256
  if key = Obj.PMC_STREAM_CHAN then s.storeIf ((upTo 3).all fun i => decide (octByte 3 v i ≤ 3 ∨ octByte 3 v i = 0xFF)) key v
  else if key = Obj.PMC_PROOF_BATCH then s.storeIf (inRange 1024 60000 v) key v
  else if key = Obj.PMC_PROOF_HOLD then s.storeIf (inRange 10 1000000 v) key v
  else if 0x0708 ≤ idx ∧ idx < 0x0710 then
    let k := idx - 0x0708
    let restart := fun (a : State) =>
      { a with telem := { a.telem with samplers := listMod a.telem.samplers k fun x => { x with count := 0 } } }
    match sub with
    | 2 => if inRange 1 16777216 v then (Res.ok, restart (s.put key v)) else s.badValue
    | 3 => if v ≤ 1 then (Res.ok, restart (s.put key v)) else s.badValue
    | 4 => s.storeIf (decide (v = 128 ∨ v = 256)) key v
    | _ => s.stored key v
  else if key = Obj.PMC_SEL then (if v ≤ 1201 then (Res.ok, s.modSession req fun x => { x with pmcSel := v }) else s.badValue)
  else if idx = 0x0711 then
    let b := (s.session req).pmcSel
    if cfgOk (blockKind b).1 v ∧ octByte 20 v 1 / 16 = 0 ∧ octByte 20 v 2 / 16 = 0 ∧ octField 20 v 10 2 = 0 then (Res.ok, s.writeCfg b (sub - 4) v)
    else s.badValue
  else if key = Obj.PMC_SNAP_INTERVAL then s.storeIf (decide (v = 0) || inRange 1000 10000000 v) key v
  else if 0x0720 ≤ idx then
    match sub with
    | 2 => s.storeIf (decide (v ≤ 1023)) key v
    | 3 => s.storeIf (decide (v ≤ 15)) key v
    | 4 => s.storeIf (decide (v ≤ 2)) key v
    | 6 => s.storeIf (inRange 14 128 v) key v
    | 9 => s.storeIf (inRange 312 10000 v) key v
    | _ => s.stored key v
  else s.stored key v

/-! ### Galley, scheduling, tables, programs -/

/-- The guarantees of the quota profiles fit the carving in force (R324). -/
def State.minsFit (s : State) : Bool := (upTo 4).all fun c => decide (s.sumMin c ≤ s.galley.count c)

/-- 0x0801 to 0x0838. -/
def State.writeGal (s : State) (key v : Nat) : Written :=
  let idx := key / 256
  let fits := fun (a : State) => if a.minsFit then (Res.ok, a) else s.badValue
  if key = Obj.GAL_CARVE_GROUPS then s.storeIf (decide (v = 8 ∨ v = 16 ∨ v = 32)) key v
  else if 0x0810 ≤ idx ∧ idx < 0x0820 then
    match key % 256 with
    | 1 => fits (s.put key v)
    | 2 => s.storeIf ((upTo 4).all fun i => decide (v / 16 ^ i % 16 ≤ 9)) key v
    | _ => s.storeIf (decide (v ≤ 7)) key v
  else if key = Obj.GAL_PORT_PROFILE then fits (s.put key v)
  else if key = Obj.GAL_CMP_PROFILE ∨ key = Obj.GAL_REP_PROFILE then (if v ≤ 15 then fits (s.put key v) else s.badValue)
  else if key = Obj.GAL_REMAP_BANK then s.storeIf (decide (v / 128 % 16 = 0)) key v
  else s.stored key v

/-- A shaper profile's parameters (R348). -/
def shaperOk (v : Nat) : Bool :=
  let rate := v / 2 ^ 32
  let burst := v % 2 ^ 32
  inRange 1 1600000000 rate && inRange 1 16777216 burst && decide (rate ≤ burst * 8000)

/-- 0x0900 to 0x09FF. -/
def State.writeSch (s : State) (key v : Nat) : Written :=
  if key = Obj.SCH_MC_BASE then s.storeIf (decide (v ≤ 16383)) key v
  else if key = Obj.SCH_SAMPLE_INTERVAL then s.storeIf (decide (v = 0) || inRange 10 1000000 v) key v
  else if shaperOk v then (Res.ok, (s.put key v).put (Obj.SCH_SP_PENDING (key / 256 - 0x0980)) 1)
  else s.badValue

/-- 0x1800 to 0x1BFF. -/
def State.writeQ (s : State) (key v : Nat) : Written :=
  let p := key / 256 - 0x1800
  let sub := key % 256
  let select := if v ≤ 127 then (Res.ok, (s.put key v).put (Obj.SCH_SP_PENDING v) 1) else s.badValue
  if sub = 1 then select
  else match (sub - 0x10) % 13 with
    | 0 =>
      if 1 < v then s.badValue
      else
        let s1 := s.put key v
        (Res.ok, if v = 0 ∧ s.get key = 1 then s1.retag p ((sub - 0x10) / 13) else s1)
    | 1 => s.storeIf (inRange 1 4096 v) key v
    | 2 => s.storeIf (decide (v ≤ 16777216)) key v
    | 3 => select
    | _ => s.stored key v

/-- 0x0A00. -/
def State.writeTbl (s : State) (key v : Nat) : Written :=
  if key = Obj.TBL_AGE_TIME then s.storeIf (decide (v ≤ 1000000)) key v
  else if key = Obj.TBL_EVENT_THRESH then
    let n := s.tables.events.length
    if 4095 < v then s.badValue else (Res.ok, if v < n ∧ n ≤ s.get key then (s.put key v).latch Attn.learn else s.put key v)
  else if key = Obj.TBL_KEY then s.storeIf (decide (octField 8 v 0 2 ≤ 4095)) key v
  else if key = Obj.TBL_KEY_PORT then s.storeIf (decide (v ≤ 1023)) key v
  else if key = Obj.TBL_FLUSH_PORT then s.storeIf (decide (v ≤ 1023 ∨ v = 0xFFFF)) key v
  else if key = Obj.TBL_FLUSH_VID then s.storeIf (decide (v ≤ 4095 ∨ v = 0xFFFF)) key v
  else if key = Obj.TBL_LABEL_BASE then s.storeIf (decide (v ≤ 1048575)) key v
  else if key = Obj.TBL_NH_BASE then s.storeIf (decide (v ≤ 262143)) key v
  else s.stored key v

/-- 0x0B00 and 0x2000 to 0x201F. -/
def State.writePln (s : State) (key v : Nat) : Written :=
  if key = Obj.PLN_SWITCH_MODE then s.storeIf (decide (v ≤ 1)) key v
  else if key = Obj.PLN_DRAIN_TIMEOUT then s.storeIf (inRange 1 10000 v) key v
  else if key = Obj.PLN_IOAM_NODE_ID then s.storeIf (decide (v < 2 ^ 24)) key v
  else if key = Obj.PLN_IOAM_NS_EN then s.storeIf (decide (v ≤ 15)) key v
  else if 0x200000 ≤ key then s.storeIf (decide (v ≤ 63)) key v
  else s.stored key v

/-! ### Lanes, ports, die-links -/

/-- The port of a lane judged against what holds it down. -/
def State.laneHoldCheck (s : State) (n : Nat) : State := match s.portOfLane n with | some p => s.holdCheck p | none => s

/-- A write of a test-pattern code (R182, R183): a lane both of whose codes are 0 again goes back to adaptation. -/
def State.writePrbs (s : State) (n key v : Nat) : Written :=
  let mode := s.lnMode n
  if 10 < v ∨ (mode ≠ 0 ∧ ¬ prbsAllowed mode v) then s.badValue
  else if v ≠ 0 ∧ mode = 0 then s.badState
  else
    let tested := decide (s.get (Obj.LN_PRBS_TX n) ≠ 0 ∨ s.get (Obj.LN_PRBS_RX n) ≠ 0)
    let s1 := s.put key v
    let s2 := if key = Obj.LN_PRBS_RX n then s1.clearKeys (Obj.LN_PRBS_LOCK n) (Obj.LN_SIGNAL n) else s1
    let s3 := s2.laneHoldCheck n
    (Res.ok, if tested ∧ s3.get (Obj.LN_PRBS_TX n) = 0 ∧ s3.get (Obj.LN_PRBS_RX n) = 0 then s3.readapt n else s3)

/-- 0x1000 to 0x13FF. -/
def State.writeLn (s : State) (key v : Nat) : Written :=
  let n := key / 256 - 0x1000
  match key % 256 with
  | 0x04 =>
    if 1 < v then s.badValue
    else
      let s1 := s.put key v
      (Res.ok, if v = s.get key then s1 else if v = 1 then s1.readapt n else s1.modLane n fun l => { l with trainDone := false, retryAt := none })
  | 0x05 => s.storeIf (ffeOk (beBytes 6 v)) key v
  | 0x07 => s.storeIf (decide (v ≤ 15)) key v
  | 0x08 => s.storeIf (decide (v ≤ 3)) key v
  | 0x09 => (Res.ok, (s.put key v).laneHoldCheck n)
  | 0x0A =>
    if 3 < v then s.badValue
    else if v = s.get key then (Res.ok, s)
    else (Res.ok, ((s.put key v).readapt n).laneHoldCheck n)
  | 0x0B => s.writePrbs n key v
  | 0x0C => s.writePrbs n key v
  | 0x19 => s.storeIf (inRange32 (-32) 31 v) key v
  | 0x1A => s.storeIf (inRange32 (-64) 63 v) key v
  | 0x1B => s.storeIf (decide (v ≤ 2)) key v
  | 0x1C => s.storeIf (inRange 20 40 v) key v
  | 0x1D => s.storeIf (decide (v ≤ 2)) key v
  | 0x1E => s.storeIf (inRange 3 12 v) key v
  | _ => s.stored key v

/-- A write of `PT_TYPE` (R213, R504). -/
def State.writeType (s : State) (p v : Nat) : Written :=
  let c := s.formCheck p v
  if c ≠ Res.ok then (c, s) else (Res.ok, (if v = 0 then s else s.ungateFor p (ptLanes v)).formPort p v)

/-- Marks of R227: each XON below its XOFF, and XOFF at most 2³⁰. -/
def marksOk (v : Nat) : Bool := (upTo 8).all fun i => decide (octField 64 v (32 + 4 * i) 4 < octField 64 v (4 * i) 4) && decide (octField 64 v (4 * i) 4 ≤ 2 ^ 30)

/-- 0x1400 to 0x17FF. -/
def State.writePt (s : State) (key v : Nat) : Written :=
  let p := key / 256 - 0x1400
  match key % 256 with
  | 0x01 => s.writeType p v
  | 0x02 => if v = 0xFF ∨ (ptFecs (s.ptType p)).contains v then (Res.ok, s.reFec p v) else s.badValue
  | 0x03 => if v ≤ 2 then (Res.ok, (s.put key v).lpiCheck p) else s.badValue
  | 0x04 => (Res.ok, (s.put key v).holdCheck p)
  | 0x08 => s.storeIf (decide (v ≤ 10000)) key v
  | 0x09 => s.storeIf (decide (v ≤ 10000)) key v
  | 0x0A => s.storeIf (inRange 1518 10240 v) key v
  | 0x0B => s.storeIf (decide (v ≤ 2)) key v
  | 0x0C => s.storeIf (decide (0x0600 ≤ v) && decide (v ≠ 0x8100) && decide (v ≠ 0x8808)) key v
  | 0x0D => s.storeIf (inRange 1 4094 v) key v
  | 0x0E => s.storeIf (decide (v ≤ 7)) key v
  | 0x0F => s.storeIf (decide (v < 2 ^ 24)) key v
  | 0x10 => if v = 1 ∧ s.get (Obj.PT_FC_MODE p) ≠ 0 then s.badState else s.stored key v
  | 0x11 => if 2 < v then s.badValue else if v ≠ 0 ∧ s.dropPriv p then s.badState else (Res.ok, s.writeFcMode p v)
  | 0x12 =>
    -- a priority that is no longer lossless leaves XOFF
    let s1 := s.put key v
    let gone := (s.port p).xoff &&& (255 ^^^ v)
    if s.get (Obj.PT_FC_MODE p) = 2 ∧ gone ≠ 0 then
      (Res.ok, ((s1.modPort p fun x => { x with xoff := x.xoff &&& v, refused := x.refused.filter fun (e : Nat × Nat) => bitOf v e.1 }).pauseNow p gone).xoffEval p)
    else (Res.ok, s1.xoffEval p)
  | 0x13 => (Res.ok, (s.put key v).unpaused p (s.pausedMap p))
  | 0x14 => s.storeIf (decide (1 ≤ v)) key v
  | 0x15 => if marksOk v then (Res.ok, (s.put key v).xoffEval p) else s.badValue
  | 0x17 =>
    if v = 1 then (if lpiAllowed (s.ptType p) (s.get (Obj.PT_MEDIA p)) then s.stored key 1 else s.badState)
    else (Res.ok, (s.put key 0).wakeTx p)
  | 0x18 => s.storeIf (inRange 1000 10000000 v) key v
  | _ => s.stored key v

/-- 0x2100 to 0x2207. -/
def State.writeQd (s : State) (key v : Nat) : Written :=
  if key < 0x220000 then s.storeIf (decide (v ≤ 63)) key v
  else if key % 256 = 0x0C then s.storeIf (inRange 4 32 v) key v
  else s.storeIf (decide (v / 512 % 64 = 0)) key v

/-- Steps 9 to 12 of R129 for a value of the object's type, and the write (R129, R133): the code, and the state. -/
def State.writeOne (s : State) (req key v : Nat) : Written :=
  let idx := key / 256
  if idx < 0x0140 then s.writeSes key v
  else if idx < 0x0300 then s.stored key v
  else if idx < 0x0400 then s.writePwr key v
  else if idx < 0x0500 then s.writeFlt key v
  else if idx < 0x0640 then s.writeTim key v
  else if idx < 0x0700 then s.writePtp key v
  else if idx < 0x0800 then s.writePmc req key v
  else if idx < 0x0900 then s.writeGal key v
  else if idx < 0x0A00 then s.writeSch key v
  else if idx < 0x0B00 then (if s.wiping then s.busyNow else s.writeTbl key v)
  else if idx < 0x1000 then s.writePln key v
  else if idx < 0x1400 then s.writeLn key v
  else if idx < 0x1800 then s.writePt key v
  else if idx < 0x1C00 then s.writeQ key v
  else if idx < 0x2100 then s.writePln key v
  else s.writeQd key v

/-- The range of a type, step 10 (R124): BOOL is 0 or 1, a T96 has less than 10⁹ nanoseconds. -/
def typeOk (t : OType) (v : Nat) : Bool :=
  match t with
  | .bool => decide (v ≤ 1)
  | .t96 => decide (v / 2 ^ 16 % 2 ^ 32 < 1000000000)
  | _ => true

end Sys2Proof.Machine
end

