-- ==== Sys2Proof/Machine/Bulk.lean ====
section
/-! DEFINITION. The bulk windows 0x3000–0x3FFF: their sizes, what a BULK_READ returns, and what a BULK_WRITE does (R112, R113, and the window
rules of each chapter). -/

namespace Sys2Proof.Machine
open Sys2Proof

/-- The size of a window in bytes. -/
def windowSize (idx : Nat) : Nat :=
  if idx = 0x3000 ∨ (0x3008 ≤ idx ∧ idx < 0x3010) then 10485760
  else if idx = 0x3010 ∨ (0x3018 ≤ idx ∧ idx < 0x3020) then 4194304
  else if idx = 0x3020 then 32768
  else if 0x3028 ≤ idx ∧ idx < 0x3030 then 2097152
  else if 0x3030 ≤ idx ∧ idx < 0x3038 then 8192
  else if 0x3040 ≤ idx ∧ idx < 0x3060 then 1048576
  else if idx = 0x3080 then 16416
  else if idx = 0x3081 then 2048
  else if 0x3100 ≤ idx ∧ idx < 0x3120 then 131072
  else if 0x3120 ≤ idx ∧ idx < 0x3140 then 393216
  else if idx = 0x3140 then 2162688
  else if idx = 0x3141 then 1049600
  else if idx = 0x3400 then 16384
  else if idx = 0x3401 then 8192
  else if idx = 0x3500 ∨ idx = 0x3501 then 294912
  else if idx = 0x3600 then 81920
  else if idx = 0x3601 then 32768
  else if idx = 0x3602 then 16384
  else if idx = 0x3700 then 96288
  else if idx = 0x3B00 ∨ (0x3B20 ≤ idx ∧ idx < 0x3B40) then 90176
  else if 0x3F00 ≤ idx ∧ idx < 0x3F08 then 6912
  else 0

/-! ### Reads (R112) -/

/-- A lane's entry in `QD_MAP` (R211): i counts 0–431 up, 432–863 down. -/
def State.mapEntry (s : State) (q i : Nat) : Bytes :=
  let d := s.dlane q (i / 432) (i % 432)
  [u8 d.state, u8 (s.laneMargin q (i / 432) (i % 432))] ++ beBytes 2 (d.logical.getD 0xFFFF) ++ beBytes 4 d.crcErrors

/-- A policer's state entry (R363); a gated pipeline has lost it (R353). -/
def State.policerEntry (s : State) (k i : Nat) : Bytes :=
  if s.pipeGated k then zeros 48
  else
    let x := smGet {} s.sched.policers (8192 * k + i)
    beBytes 8 x.tc ++ beBytes 8 x.tp ++ beBytes 8 x.green ++ beBytes 8 x.yellow ++ beBytes 8 x.red ++ zeros 8

/-- The entry size of a window that is read as it stands, and its entries. -/
def State.windowEntry (s : State) (idx : Nat) : Nat × (Nat → Bytes) :=
  if idx = 0x3020 then (1, fun i => [u8 (smGet 0 s.tables.ops i)])
  else if 0x3028 ≤ idx ∧ idx < 0x3030 then
    (16, fun i =>
      if s.chaseGated (idx - 0x3028) then zeros 16
      else
        let w := s.slotStored (idx - 0x3028) (i / 2048) (i % 2048)
        beBytes 10 (w / 2 ^ 32) ++ zeros 2 ++ beBytes 4 w)
  else if 0x3030 ≤ idx ∧ idx < 0x3038 then
    (1, fun i => if s.chaseGated (idx - 0x3030) then [0] else [u8 (if i < 4096 then smGet 0 s.tables.dir4 i else smGet 0 s.tables.dir6 (i - 4096))])
  else if idx = 0x3080 then (16, fun r => (upTo 4).flatMap fun c => beBytes 4 (s.heldOf r c))
  else if idx = 0x3081 then (1, fun i => let v := smGet 0 s.galley.remap i; [u8 (if v = 0 then i % 64 else v - 1)])
  else if 0x3100 ≤ idx ∧ idx < 0x3120 then (16, fun i => beBytes 16 (smGet {} s.sched.policers (8192 * (idx - 0x3100) + i)).entry)
  else if 0x3120 ≤ idx ∧ idx < 0x3140 then (48, s.policerEntry (idx - 0x3120))
  else if idx = 0x3140 then (132, fun i => beBytes 132 (smGet 0 s.sched.groups (s.get Obj.SCH_MC_BASE + i)))
  else if idx = 0x3141 then (8, s.samplePart)
  else if idx = 0x3400 then (32, s.srcStateBytes)
  else if idx = 0x3401 then (16, fun i => if 323 < i then zeros 16 else srcCfgBytes (s.srcCfg i))
  else if idx = 0x3500 then (1, fun i => s.stagedBytes i 1)
  else if idx = 0x3501 then (1, fun i => [(s.cmp.active[i]?).getD 0])
  else if idx = 0x3600 then (80, fun n => beBytes 80 (s.calRecord n))
  else if idx = 0x3601 then (32, fun p => beBytes 32 (smGet 0 s.ptp.ports p))
  else if idx = 0x3602 then (16, s.ptpStateEntry)
  else if idx = 0x3700 then (16, s.snapPart)
  else if idx = 0x3B00 then (32, fun i => beBytes 32 (smGet 0 s.pipes.staging i))
  else if 0x3B20 ≤ idx ∧ idx < 0x3B40 then
    let x := s.pipe (idx - 0x3B20)
    (32, fun i => beBytes 32 (smGet 0 (x.bank x.ingress1) i))
  else (8, s.mapEntry (idx - 0x3F00))

/-- Entries `i` to `i + n − 1` of a table that is read through its code, each of `size` bytes; one that is uncorrectable reads as zero
(DEDUCED, notes/assumptions/46). -/
def readEntries (size : Nat) (rd : State → Nat → Option Nat × State) (i : Nat) (s : State) : Nat → Bytes × State
  | 0 => ([], s)
  | n + 1 =>
    let r := rd s i
    let t := readEntries size rd (i + 1) r.2 n
    (beBytes size (r.1.getD 0) ++ t.1, t.2)

/-- The tables read through their codes: entry size and read. -/
def State.codedWindow (s : State) (idx : Nat) : Option (Nat × (State → Nat → Option Nat × State)) :=
  if 0x3008 ≤ idx ∧ idx < 0x3010 then
    some (10, fun a e => if s.chaseGated (idx - 0x3008) then (some 0, a) else a.labelRead (idx - 0x3008) e 1)
  else if 0x3018 ≤ idx ∧ idx < 0x3020 then
    some (16, fun a e => if s.chaseGated (idx - 0x3018) then (some 0, a) else a.nhRead (idx - 0x3018) e 1)
  else if 0x3040 ≤ idx ∧ idx < 0x3060 then
    some (16, fun a e => if s.pipeGated (idx - 0x3040) then (some 0, a) else let r := a.lrnRead (idx - 0x3040) e 1; (some r.1, r.2))
  else none

/-- The bytes of a window from an offset within it (R112): cut at its end. -/
def State.windowRead (s : State) (idx off n : Nat) : Bytes × State :=
  let m := min n (windowSize idx - off)
  let span := fun (size : Nat) => (off / size, (off + m + size - 1) / size - off / size)
  match s.codedWindow idx with
  | some (size, rd) =>
    let r := readEntries size rd (span size).1 s (span size).2
    (slice r.1 (off % size) m, r.2)
  | none =>
    let e := s.windowEntry idx
    let all := (upTo (span e.1).2).flatMap fun i => e.2 ((span e.1).1 + i)
    (slice all (off % e.1) m, s)

/-! ### Writes (R113) -/

/-- Bytes written into a staging area of 32-byte words; `n` bounds the words. -/
def patchWords (m : List (Nat × Nat)) (off : Nat) (data : Bytes) : Nat → List (Nat × Nat)
  | 0 => m
  | n + 1 =>
    if data.isEmpty then m
    else
      let room := 32 - off % 32
      let w := off / 32
      let v := beNat (patchBytes (beBytes 32 (smGet 0 m w)) (off % 32) (data.take room))
      patchWords (smSet 0 m w v) (off + room) (data.drop room) n

/-- Bytes written into a staging area of bytes. -/
def patchStaged (m : List (Nat × Nat)) (off : Nat) : Bytes → List (Nat × Nat)
  | [] => m
  | b :: t => patchStaged (smSet 0 m off b.toNat) (off + 1) t

/-- The entry size of a window whose segments carry whole entries, with its table's entries (R279, R363); 0 for the staging areas. -/
def entrySize (idx : Nat) : Nat × Nat :=
  if idx = 0x3000 then (10, 1048576)
  else if idx = 0x3010 then (16, 262144)
  else if 0x3100 ≤ idx ∧ idx < 0x3120 then (16, 8192)
  else if idx = 0x3140 then (132, 16384)
  else if idx = 0x3401 then (16, 512)
  else if idx = 0x3601 then (32, 1024)
  else (0, 0)

/-- The base entry that a FIRST segment latches. -/
def State.baseOf (s : State) (idx : Nat) : Nat :=
  if idx = 0x3000 then s.get Obj.TBL_LABEL_BASE
  else if idx = 0x3010 then s.get Obj.TBL_NH_BASE
  else if idx = 0x3140 then s.get Obj.SCH_MC_BASE
  else 0

/-- The entries of a segment. -/
def splitEntries (size : Nat) (data : Bytes) : List Bytes := (upTo (data.length / size)).map fun i => slice data (size * i) size

/-- An entry passes the check that its chapter states. -/
def entryOk (idx e : Nat) (b : Bytes) : Bool :=
  if 0x3100 ≤ idx ∧ idx < 0x3120 then policerOk (u b 0 4) (u b 4 4) (u b 8 4) (u b 12 4)
  else if idx = 0x3401 then (srcCfgParse e b).isSome || (decide (323 < e) && decide (beNat b = 0))
  else true

/-- A group entry with its reserved bits zero (R359). -/
def cleanGroup (b : Bytes) : Nat := u b 0 1 % 2 * 2 ^ 1048 + u b 4 128

/-- A port's PTP entry with its reserved bits zero (R432). -/
def cleanPtp (b : Bytes) : Nat :=
  beNat ([u8 (u b 0 1 % 16)] ++ slice b 1 1 ++ zeros 2 ++ slice b 4 14 ++ zeros 2 ++ slice b 20 4 ++ zeros 8)

/-- An entry reaches its table. -/
def State.writeEntry (s : State) (idx e : Nat) (b : Bytes) : State :=
  if idx = 0x3000 then s.writeLabel e (beNat b)
  else if idx = 0x3010 then s.writeNh e (beNat b)
  else if idx < 0x3120 then
    let k := idx - 0x3100
    (s.writePolicer (8192 * k + e) (u b 0 4) (u b 4 4) (u b 8 4) (u b 12 4)).memWritten 9 (k / 4 * 2 ^ 24) (2 * (8192 * (k % 4) + e))
  else if idx = 0x3140 then
    ({ s with sched := { s.sched with groups := smSet 0 s.sched.groups e (cleanGroup b) } }).memWritten 9 0 (0x30000 + e)
  else if idx = 0x3401 then
    match srcCfgParse e b with
    | some c => { s with flt := { s.flt with cfg := smSet (srcDefault e) s.flt.cfg e c } }
    | none => s
  else { s with ptp := { s.ptp with ports := smSet 0 s.ptp.ports e (cleanPtp b) } }

/-- A staging window is in use by the run that reads it (R267, R290, R449). -/
def State.windowBusy (s : State) (idx : Nat) : Bool :=
  (decide (idx = 0x3020) && s.isBusy Obj.TBL_LPM_APPLY) || (decide (idx = 0x3500) && s.patchBusy) ||
    (decide (idx = 0x3B00) && (s.isBusy Obj.PLN_CHECK || s.isBusy Obj.PLN_INSTALL)) || s.wiping

/-- The window's own checks on a segment of a transfer (R279, R289, R363), and then its use (R129 step 12). -/
def State.segmentCheck (s : State) (idx base off total : Nat) (data : Bytes) : Nat :=
  let e := entrySize idx
  if (idx = 0x3020 ∧ total % 32 ≠ 0) ∨ (e.1 ≠ 0 ∧ (total % e.1 ≠ 0 ∨ data.length % e.1 ≠ 0 ∨ e.1 * e.2 < base * e.1 + total)) then Res.badLength
  else if e.1 ≠ 0 ∧ ¬ ((splitEntries e.1 data).zipIdx.all fun (x : Bytes × Nat) => entryOk idx (base + off / e.1 + x.2) x.1) then Res.badValue
  else if s.windowBusy idx then Res.busy
  else Res.ok

/-- A segment that has passed is written. -/
def State.segmentWrite (s : State) (idx base off : Nat) (data : Bytes) : State :=
  let e := entrySize idx
  if e.1 ≠ 0 then
    (splitEntries e.1 data).zipIdx.foldl (fun (a : State) (x : Bytes × Nat) => a.writeEntry idx (base + off / e.1 + x.2) x.1) s
  else if idx = 0x3020 then s.modTables fun t => { t with ops := patchStaged t.ops off data }
  else if idx = 0x3500 then ({ s with cmp := { s.cmp with staged := patchStaged s.cmp.staged off data } }).put Obj.CMP_PATCH_STAGED_ID 0
  else ({ s with pipes := { s.pipes with staging := patchWords s.pipes.staging off data (data.length / 32 + 2) } }).put Obj.PLN_CHECK_ID 0

/-- A transfer has completed: TOTAL is kept for the staging areas. -/
def State.transferDone (s : State) (idx total : Nat) : State :=
  if idx = 0x3020 then s.modTables fun t => { t with opsTotal := some total }
  else if idx = 0x3500 then { s with cmp := { s.cmp with stagedTotal := total } }
  else if idx = 0x3B00 then { s with pipes := { s.pipes with stagedTotal := total } }
  else s

/-- The checks of R113 on a segment of session `i`: a code, and the transfer that it belongs to. -/
def State.bulkJudge (s : State) (i idx sub sflags off total : Nat) (data : Bytes) : Nat × Bulk :=
  let first := bitOf sflags 0
  let open_ := (s.session i).bulk
  let x : Bulk := if first then ⟨idx, sub, 0, total, s.baseOf idx⟩ else open_.getD ⟨idx, sub, 0, total, 0⟩
  let fits := if bitOf sflags 1 then decide (off + data.length = total) else decide (off + data.length ≤ total)
  let code :=
    if first ∧ off ≠ 0 then Res.badOffset
    else if first ∧ (total = 0 ∨ windowSize idx < total) then Res.badLength
    else if ¬ first ∧ (open_.isNone ∨ x.idx ≠ idx ∨ x.sub ≠ sub ∨ x.total ≠ total) then Res.badState
    else if off ≠ x.next then Res.badOffset
    else if ¬ fits then Res.badLength
    else s.segmentCheck idx x.base off total data
  (code, x)

/-- The next offset of the transfer that session `i` has open, 0 with none (R113). -/
def State.nextOffset (s : State) (i : Nat) : Nat := match (s.session i).bulk with | some b => b.next | none => 0

/-- A BULK_WRITE segment whose object has been judged (R113): RESULT, NEXT_OFFSET, and the state. -/
def State.bulkWrite (s : State) (i idx sub sflags off total : Nat) (data : Bytes) : Nat × Nat × State :=
  let j := s.bulkJudge i idx sub sflags off total data
  if j.1 ≠ Res.ok then (j.1, s.nextOffset i, s)
  else
    let s1 := s.segmentWrite idx j.2.base off data
    let next := off + data.length
    let last := bitOf sflags 1
    let s2 := s1.modSession i fun y => { y with bulk := if last then none else some { j.2 with next := next } }
    (Res.ok, next, if last then s2.transferDone idx total else s2)

/-- A BULK_READ of an object that has been judged (R112): RESULT, the data, and the state. -/
def State.bulkRead (s : State) (idx off len : Nat) : Nat × Bytes × State :=
  if windowSize idx ≤ off then (Res.badOffset, [], s)
  else
    let r := s.windowRead idx off len
    (Res.ok, r.1, r.2)

end Sys2Proof.Machine
end

