-- ==== Sys2Proof/Machine/Starts.lean ====
section
/-! DEFINITION. START and ABORT on every START object (R110, R111, R446). -/

namespace Sys2Proof.Machine
open Sys2Proof

/-- The run of a START object begins, by the object's own rules: RESULT and the state. `cls`: the session's user class; `gone`: what the
test of a lane's failure cause finds (R191). -/
def State.startRun (s : State) (session cls key : Nat) (gone : Bool) : Nat × State :=
  let idx := key / 256
  let sub := key % 256
  if key = Obj.LCY_SOFT_RESET then (if s.boot.softPending then (Res.busy, s) else startLcySoftReset s)
  else if key = Obj.LCY_PS_COMMIT then startLcyPsCommit s cls
  else if key = Obj.LCY_TRANSITION then startLcyTransition s session
  else if 0x0160 ≤ idx ∧ idx < 0x0170 then (if sub = 6 then startKceInstall s (idx - 0x0160) else startKceEmpty s (idx - 0x0160))
  else if 0x1000 ≤ idx ∧ idx < 0x1400 then
    (if sub = 0x18 then startLnAdapt s (idx - 0x1000) else if sub = 0x1F then startLnEyeRun s (idx - 0x1000) else startLnRelease s (idx - 0x1000) gone)
  else if 0x2200 ≤ idx ∧ idx < 0x2208 then startQdRepair s (idx - 0x2200)
  else if key = Obj.PLN_CHECK then startPlnCheck s
  else if key = Obj.PLN_INSTALL then startPlnInstall s
  else if key = Obj.PLN_SWITCH then startPlnSwitch s
  else if key = Obj.TBL_STATIC_ADD then startTblStaticAdd s
  else if key = Obj.TBL_DELETE then startTblDelete s
  else if key = Obj.TBL_FLUSH then startTblFlush s
  else if key = Obj.TBL_LPM_APPLY then startTblLpmApply s
  else if 0x2100 ≤ idx ∧ idx < 0x2108 then startChsLpmSpareIn s (idx - 0x2100)
  else if key = Obj.GAL_CARVE_APPLY then startGalCarveApply s
  else if key = Obj.GAL_REMAP then startGalRemap s
  else if key = Obj.PMC_B_CLEAR then startPmcBClear s (s.session session).pmcSel
  else if key = Obj.PMC_SNAP then startPmcSnap s
  else if key = Obj.CMP_PATCH_CHECK then startCmpPatchCheck s
  else if key = Obj.CMP_PATCH_ACTIVATE then startCmpPatchActivate s
  else if key = Obj.CMP_PATCH_REMOVE then startCmpPatchRemove s
  else if key = Obj.FLT_DIAG_WRITE then startFltDiagWrite s
  else if key = Obj.FLT_DIAG_READ then startFltDiagRead s
  else if key = Obj.FLT_CLEAR then startFltClear s
  else if key = Obj.FLT_SAFE_ENTER then startFltSafeEnter s
  else if key = Obj.FLT_INJ_ARM then startFltInjArm s
  else if key = Obj.PWR_SHUTDOWN then startPwrShutdown s
  else startCtrClear s (idx - 0x1C00)

/-- A START as it is answered (R111): a refused commit or transition raises LIFECYCLE (R115); BUSY while a run of the object lasts, commits apart (R77). What an install, an empty or a shutdown does
comes after its reply (R160, R161, R500): `State.afterStart`. -/
def State.startObject (s : State) (session cls key : Nat) (gone : Bool) : Nat × State :=
  let r := s.startRun session cls key gone
  let later := decide (0x016000 ≤ key ∧ key < 0x017000) || decide (key = Obj.PWR_SHUTDOWN)
  if r.1 ≠ Res.ok then (r.1, if key = Obj.LCY_PS_COMMIT ∨ key = Obj.LCY_TRANSITION then s.latch Attn.lifecycle else s)
  else if s.isBusy key ∧ key ≠ Obj.LCY_PS_COMMIT then (Res.busy, s)
  else if later then (Res.ok, s)
  else r

/-- Every session but the requesting one closes when a transition passes its step 1 (R99). -/
def State.closeOthers (s : State) (session : Nat) : State :=
  (upTo 16).foldl (fun (a : State) i => if i = session then a else a.closeSession i) s

/-- What follows the reply to a START that was answered OK (R83, R99, R160, R161, R500). -/
def State.afterStart (s : State) (session key : Nat) : State :=
  let idx := key / 256
  if 0x0160 ≤ idx ∧ idx < 0x0170 then
    let p := idx - 0x0160
    ((if key % 256 = 6 then startKceInstall s p else startKceEmpty s p).2).keyOnset s p
  else if key = Obj.PWR_SHUTDOWN then afterPwrShutdown (startPwrShutdown s).2
  else if key = Obj.LCY_TRANSITION then s.closeOthers session
  else s

/-- The START objects that ABORT may stop; every other is described as not abortable (R111, R446). -/
def abortable (key : Nat) : Bool :=
  let lane := decide (0x100000 ≤ key ∧ key < 0x140000)
  [Obj.LCY_SOFT_RESET, Obj.LCY_PS_COMMIT, Obj.PLN_SWITCH, Obj.TBL_LPM_APPLY, Obj.CMP_PATCH_ACTIVATE, Obj.FLT_INJ_ARM].contains key || lane

/-- The ABORT flag of the context whose routine serves a START object (R437, R446). -/
def State.abortCtx (s : State) (key : Nat) : State :=
  (upTo 16).foldl (fun (a : State) c => if (ctxStarts c).contains key then a.modCtx c fun x => { x with abort := true } else a) s

/-- A running run is asked to stop (R111, R446): it ends at once where its own rule lets it, else at its next safe point. -/
def State.abortRun (s : State) (key : Nat) : State :=
  let idx := key / 256
  let s1 :=
    if key = Obj.LCY_PS_COMMIT then s.abortCommit
    else if key = Obj.PLN_SWITCH then s.abortPlnSwitch
    else if key = Obj.TBL_LPM_APPLY then s.modTables fun t => { t with apply := t.apply.map fun (x : Nat × Nat × Bool) => (x.1, x.2.1, true) }
    else if key = Obj.CMP_PATCH_ACTIVATE then s.abortPatch
    else if key = Obj.FLT_INJ_ARM then abortFltInjArm s
    else if key % 256 = 0x1F then s.modLane (idx - 0x1000) fun l => { l with eye := l.eye.map fun (e : EyeScan) => { e with abort := true } }
    else s.runEnd key Res.aborted 0
  if s1.isBusy key then s1.abortCtx key else s1

/-- An ABORT on a START object (R111): the code, and the state. -/
def State.abortObject (s : State) (key : Nat) : Nat × State :=
  if key = Obj.LCY_SOFT_RESET then (Res.ok, { s with boot := { s.boot with softPending := false } })
  else if ¬ abortable key then (if s.isBusy key then Res.notAbortable else Res.ok, s)
  else if s.isBusy key then (Res.ok, s.abortRun key)
  else (Res.ok, s)

end Sys2Proof.Machine
end

