-- ==== Sys2Proof/Machine/Judge.lean ====
section
/-! DEFINITION. How a reference or item of a request is judged and carried out (R106–R109, R126–R131, R144, R145). -/

namespace Sys2Proof.Machine
open Sys2Proof

/-- What a request does with an object. -/
inductive Access where
  | read | write | bulkRead | bulkWrite | start | abort
deriving DecidableEq, Repr

/-- An index of an unallocated range, or of the vendor test range (R8, R135). -/
def unallocated (idx : Nat) : Bool :=
  (decide (0x0C00 ≤ idx) && decide (idx ≤ 0x0FFF)) || (decide (0x2020 ≤ idx) && decide (idx ≤ 0x20FF)) ||
  (decide (0x2108 ≤ idx) && decide (idx ≤ 0x21FF)) || (decide (0x2208 ≤ idx) && decide (idx ≤ 0x2FFF)) || decide (0x4000 ≤ idx)

/-- A class below the read floor of an index's range, after grants (R127, R135, R144). -/
def belowFloor (cls grant idx : Nat) (acc : Access) : Bool :=
  decide (cls = 0) &&
    ((decide (0x0700 ≤ idx ∧ idx < 0x0800) && !bitOf grant 0) || (decide (0x0A00 ≤ idx ∧ idx < 0x0B00) && !bitOf grant 1) ||
      decide (0x0B00 ≤ idx ∧ idx < 0x0C00) || (decide (0x3000 ≤ idx ∧ idx < 0x4000) && !(bitOf grant 2 && decide (acc = .bulkRead))))

/-- A class holds a right on an index (R126): "Own" by the instance of the session's own page. -/
def Right.holds (r : Right) (cls grant session idx : Nat) : Bool :=
  match r with
  | .obs => true
  | .oper => decide (1 ≤ cls)
  | .admin => decide (2 ≤ cls)
  | .cust => decide (cls = 3)
  | .none => false
  | .own => decide (2 ≤ cls) || decide (idx % 16 = session)
  | .operG g => decide (1 ≤ cls) || bitOf grant g

/-- An opcode applies to a type (R129 step 4). -/
def Access.applies (a : Access) (t : OType) : Bool :=
  match a with
  | .read => decide (t ≠ .bulk)
  | .write => decide (t ≠ .bulk) && decide (t ≠ .start)
  | .bulkRead => decide (t = .bulk)
  | .bulkWrite => decide (t = .bulk)
  | .start => decide (t = .start)
  | .abort => decide (t = .start) || decide (t = .bulk)

/-- Whether an access needs the Read right (R126). -/
def Access.isRead (a : Access) : Bool := decide (a = .read) || decide (a = .bulkRead)

/-- The type, Read and Write entries of a subindex that exists; subindex 0x00 is a U8 without Write right (R120). -/
def shapeOf (idx sub : Nat) : Option (OType × Right × Right) :=
  if sub = 0 then (maxSub idx).map fun (e : Nat × Right) => (.u8, e.2, .none) else (descOf idx sub).map fun d => (d.ty, d.rd, d.wr)

/-- A grant that a session of class Administrator may not write (R145): that of a page of class Administrator or Custodian, or of a page
that holds no key. -/
def State.grantBarred (s : State) (cls idx sub : Nat) : Bool :=
  let p := s.page (sub - 1)
  decide (idx = 0x0120) && decide (cls = 2) &&
    !((decide (p.state = 1) || decide (p.state = 2)) && decide (p.use = 0) && decide (p.cls ≤ 1))

/-- Steps 1 to 6 of R129 for a session with a grant: the code, and the type where it is OK. -/
def State.judgeAccess (s : State) (session grant : Nat) (acc : Access) (idx sub : Nat) : Nat × OType :=
  let cls := (s.page session).cls
  if unallocated idx then (Res.noObject, .u8)
  else if belowFloor cls grant idx acc then (Res.denied, .u8)
  else match shapeOf idx sub with
  | none => (Res.noObject, .u8)
  | some (t, rd, wr) =>
    if ¬ acc.applies t then (Res.badType, .u8)
    else if ¬ acc.isRead ∧ wr = .none then (Res.readOnly, .u8)
    else if ¬ (if acc.isRead then rd else wr).holds cls grant session idx ∨ (acc = .write ∧ s.grantBarred cls idx sub) then (Res.denied, .u8)
    else (Res.ok, t)

/-- An object that the Compositor holds is served by it: its context 6 takes the request, and the counter event of R375 is seen. -/
def State.serveCmp (s : State) (session key : Nat) : State :=
  if heldByCmp key then (s.cmpPush 6).pmc 1201 3 1 { req := some session, cls := some (s.page session).cls } else s

/-! ### Reads (R106, R108, R130) -/

/-- An item as it travels in a reply; one that failed has TYPE 0 and VLEN 0 (R130). -/
def itemBytes (idx sub ist : Nat) (t : OType) (v : Nat) : Bytes :=
  if ist = Res.ok ∨ ist = Res.notReady then beBytes 2 idx ++ [u8 sub, u8 t.code] ++ beBytes 2 t.len ++ beBytes 2 ist ++ beBytes t.len v
  else beBytes 2 idx ++ [u8 sub, 0, 0, 0] ++ beBytes 2 ist

/-- A reference of a request: INDEX, SUB, and its reserved byte. -/
structure Ref where
  idx : Nat
  sub : Nat
  rsv : Nat
deriving DecidableEq, Repr

/-- The reference at an offset of a payload. -/
def refAt (pl : Bytes) (off : Nat) : Ref := ⟨u pl off 2, u pl (off + 2) 1, u pl (off + 3) 1⟩

/-- A reference as a request judges it (R106, R129). -/
def State.judgeRef (s : State) (session grant : Nat) (acc : Access) (r : Ref) : Nat × OType :=
  if r.rsv ≠ 0 then (Res.badValue, .u8) else s.judgeAccess session grant acc r.idx r.sub

/-- Read one reference: its ISTATUS, its item, and the state. -/
def State.readRef (s : State) (session grant : Nat) (r : Ref) : Nat × Bytes × State :=
  let j := s.judgeRef session grant .read r
  if j.1 ≠ Res.ok then (j.1, itemBytes r.idx r.sub j.1 .u8 0, s)
  else
    let key := r.idx * 256 + r.sub
    if r.sub = 0 then (Res.ok, itemBytes r.idx 0 Res.ok .u8 (((maxSub r.idx).map Prod.fst).getD 0), s.serveCmp session key)
    else
      let x := (s.serveCmp session key).readObject session key
      (x.1, itemBytes r.idx r.sub x.1 j.2 x.2.1, x.2.2)

/-- The length of the item that a reference gives (R108). -/
def State.refLen (s : State) (session grant : Nat) (r : Ref) : Nat :=
  let j := s.judgeRef session grant .read r
  8 + (if j.1 = Res.ok then j.2.len else 0)

/-- Read references one after another (R108): RESULT so far, the items, and the state. -/
def State.readRefs (s : State) (session grant result : Nat) (out : Bytes) : List Ref → Nat × Bytes × State
  | [] => (result, out, s)
  | r :: t =>
    let x := s.readRef session grant r
    x.2.2.readRefs session grant (if result = Res.ok then x.1 else result) (out ++ x.2.1) t

/-! ### Writes (R107, R109) -/

/-- A write item. -/
structure WItem where
  idx : Nat
  sub : Nat
  ty : Nat
  vlen : Nat
  ist : Nat
  val : Bytes
deriving DecidableEq, Repr

/-- `n` items that fill a byte string exactly. -/
def parseItems (b : Bytes) : Nat → Option (List WItem)
  | 0 => if b.isEmpty then some [] else none
  | n + 1 =>
    let v := u b 4 2
    if b.length < 8 + v then none
    else (parseItems (b.drop (8 + v)) n).map fun l => ⟨u b 0 2, u b 2 1, u b 3 1, v, u b 6 2, slice b 8 v⟩ :: l

/-- A write item judged to step 12 of R129: its code, the object, its value, and the state that the write gives. -/
def State.judgeItem (s : State) (session grant : Nat) (x : WItem) : Nat × Nat × Nat × State :=
  let key := x.idx * 256 + x.sub
  let v := beNat x.val
  let j := s.judgeAccess session grant .write x.idx x.sub
  if x.ist ≠ 0 then (Res.badValue, key, v, s)
  else if j.1 ≠ Res.ok then (j.1, key, v, s)
  else if x.ty ≠ j.2.code then (Res.badType, key, v, s)
  else if x.vlen ≠ j.2.len then (Res.badLength, key, v, s)
  else if ¬ typeOk j.2 v then (Res.badValue, key, v, s)
  else
    let w := s.writeOne session key v
    (w.1, key, v, if w.1 = Res.ok then w.2.serveCmp session key else s)

/-- The code that the check pass gives: step 12 belongs to the apply pass (R129). -/
def State.checkItem (s : State) (session grant : Nat) (x : WItem) : Nat :=
  let c := (s.judgeItem session grant x).1
  if c = Res.busy then Res.ok else c

/-- A result (R106). -/
def resultBytes (x : WItem) (ist : Nat) : Bytes := beBytes 2 x.idx ++ [u8 x.sub, 0] ++ beBytes 2 ist

/-- The apply pass (R109): RESULT, the results, the values written, and the state. -/
def State.applyItems (s : State) (session grant : Nat) : List WItem → Nat × Bytes × List (Nat × Nat) × State
  | [] => (Res.ok, [], [], s)
  | x :: t =>
    let j := s.judgeItem session grant x
    if j.1 ≠ Res.ok then (j.1, resultBytes x j.1 ++ t.flatMap fun y => resultBytes y Res.notApplied, [], s)
    else
      let r := j.2.2.2.applyItems session grant t
      (r.1, resultBytes x Res.ok ++ r.2.1, (j.2.1, j.2.2.1) :: r.2.2.1, r.2.2.2)

/-- WRITE_MULTI, and WRITE as one of one item (R109): RESULT, the results, the values written, and the state. -/
def State.writeItems (s : State) (session grant : Nat) (l : List WItem) : Nat × Bytes × List (Nat × Nat) × State :=
  let codes := l.map fun x => s.checkItem session grant x
  match codes.find? fun c => decide (c ≠ Res.ok) with
  | some c => (c, (l.zip codes).flatMap fun (e : WItem × Nat) => resultBytes e.1 (if e.2 = Res.ok then Res.notApplied else e.2), [], s)
  | none => s.applyItems session grant l

end Sys2Proof.Machine
end

