-- ==== Sys2Proof/Machine/Wonel.lean ====
section
/-! DEFINITION. The management engine: ways in, acceptance, sessions, requests and replies (R86–R119, R532). -/

namespace Sys2Proof.Machine
open Sys2Proof

/-! ### Ways in and out (R86–R93) -/

/-- A frame on a way in: how it came, its destination, its EtherType and what follows. -/
structure WayFrame where
  via : Via
  dst : Nat
  type : Nat
  body : Bytes
deriving DecidableEq, Repr

/-- A frame with at most one 802.1Q tag (R93). -/
def parseWay (way : Nat) (f : Bytes) : Option WayFrame :=
  if f.length < 14 then none
  else if u f 12 2 ≠ 0x8100 then some ⟨⟨way, slice f 6 6, none, none⟩, u f 0 6, u f 12 2, f.drop 14⟩
  else if f.length < 18 then none
  else some ⟨⟨way, slice f 6 6, some (u f 14 2), none⟩, u f 0 6, u f 16 2, f.drop 18⟩

/-- `SES_VLAN` accepts the tag of a frame (R90). -/
def State.vlanOk (s : State) (v : Via) : Bool :=
  match v.vlan with
  | none => decide (s.get Obj.SES_VLAN = 0)
  | some t => decide (t % 4096 = s.get Obj.SES_VLAN)

/-- The way in takes a frame of this destination (R86): `SES_MAC_ADDR`, and on MG0 and MG1 the broadcast address. -/
def State.dstOk (s : State) (way dst : Nat) : Bool :=
  decide (dst = s.get Obj.SES_MAC_ADDR) || (decide (0x400 ≤ way) && decide (dst = 0xFFFFFFFFFFFF))

/-- The UDP datagram for Wonel in an IPv4 packet (R86, R93): addresses, ports and DSCP, and its payload. -/
def State.parseUdp (s : State) (b : Bytes) : Option ((Nat × Nat × Nat × Nat × Nat) × Bytes) :=
  let total := u b 2 2
  let len := u b 24 2
  let dst := u b 16 4
  let dgram := slice b 20 len
  if b.length < 28 ∨ u b 0 1 ≠ 0x45 ∨ total < 28 ∨ b.length < total ∨ u b 6 2 % 0x4000 ≠ 0 ∨ u b 9 1 ≠ 17 ∨ inetChecksum (b.take 20) ≠ 0 then none
  else if dst = 0 ∨ dst ≠ s.get Obj.SES_IPV4_ADDR ∨ u b 22 2 ≠ s.get Obj.SES_UDP_PORT ∨ len < 8 ∨ total < 20 + len then none
  else if u b 26 2 ≠ 0 ∧ inetChecksum (slice b 12 8 ++ [0, 17] ++ beBytes 2 len ++ dgram) ≠ 0 then none
  else some ((u b 12 4, dst, u b 20 2, u b 22 2, u b 1 1 / 4), dgram.drop 8)

/-- The Wonel message of a frame, by either encapsulation (R86, R93). -/
def State.wonelOf (s : State) (way : Nat) (f : Bytes) : Option (Via × Bytes) :=
  match parseWay way f with
  | none => none
  | some x =>
    if ¬ s.vlanOk x.via ∨ ¬ s.dstOk way x.dst then none
    else if x.type = 0x88B5 then some (x.via, x.body)
    else if x.type = 0x0800 then (s.parseUdp x.body).map fun e => ({ x.via with udp := some e.1 }, e.2)
    else none

/-- An ARP request for `SES_IPV4_ADDR` (R88): its sender's addresses. -/
def State.arpOf (s : State) (way : Nat) (f : Bytes) : Option (Via × Bytes) :=
  match parseWay way f with
  | none => none
  | some x =>
    let ip := s.get Obj.SES_IPV4_ADDR
    if s.vlanOk x.via ∧ s.dstOk way x.dst ∧ x.type = 0x0806 ∧ 28 ≤ x.body.length ∧ u x.body 0 8 = 0x0001080006040001 ∧ ip ≠ 0 ∧ u x.body 24 4 = ip
    then some (x.via, slice x.body 8 10) else none

/-- The tag of a reply (R87): the VID and PCP of the request. -/
def Via.tagBytes (v : Via) : Bytes :=
  match v.vlan with
  | none => []
  | some t => beBytes 2 0x8100 ++ beBytes 2 (t / 8192 * 8192 + t % 4096)

/-- An Ethernet frame back to the neighbour a request came from, padded (R87, R93). -/
def State.backFrame (s : State) (v : Via) (type : Nat) (payload : Bytes) : Bytes :=
  let f := v.src ++ beBytes 6 (s.get Obj.SES_MAC_ADDR) ++ v.tagBytes ++ beBytes 2 type ++ payload
  f ++ zeros (60 - f.length)

/-- Management port `mg`. -/
def State.mgPort (s : State) (mg : Nat) : MgPort := if mg = 0 then s.wonel.mg0 else s.wonel.mg1

/-- Change a management port. -/
def State.modMg (s : State) (mg : Nat) (f : MgPort → MgPort) : State :=
  { s with wonel := if mg = 0 then { s.wonel with mg0 := f s.wonel.mg0 } else { s.wonel with mg1 := f s.wonel.mg1 } }

/-- A frame leaves by a way (R87): a management port whose link is up, or a front port's queue 15. -/
def State.wayOut (s : State) (way : Nat) (f : Bytes) : State :=
  if way < 0x400 then s.cmpSend way 15 f
  else if (s.mgPort (way - 0x400)).up then s.emit (.mgFrame (way - 0x400) (f ++ fcsBytes f)) else s

/-- A Wonel message goes back the way its request came (R87). The IPv4 identification is a free value: the manual gives none. -/
def State.sendBack (s : State) (v : Via) (msg : Bytes) : State :=
  match v.udp with
  | none => s.wayOut v.way (s.backFrame v 0x88B5 msg)
  | some (src, dst, sport, dport, dscp) =>
    let len := 8 + msg.length
    let h := [0x45, u8 (dscp * 4)] ++ beBytes 2 (20 + len) ++ beBytes 2 (s.freeVal 16) ++ beBytes 2 0x4000 ++ [64, 17, 0, 0] ++ beBytes 4 dst ++ beBytes 4 src
    let d := beBytes 2 dport ++ beBytes 2 sport ++ beBytes 2 len ++ [0, 0] ++ msg
    let c := udpChecksum (beBytes 4 dst ++ beBytes 4 src ++ [0, 17] ++ beBytes 2 len) d
    (s.wayOut v.way (s.backFrame v 0x0800 (patchBytes h 10 (beBytes 2 (inetChecksum h)) ++ patchBytes d 6 (beBytes 2 c)))).useFree

/-- While a transition runs, no session but the requesting one receives a reply (R84). -/
def State.muted (s : State) (session : Nat) : Bool := match s.store.transition with | some t => decide (t.session ≠ session) | none => false

/-! ### Messages (R91, R92) -/

/-- Fields of a message. -/
def msgOpcode (m : Bytes) : Nat := u m 1 1
def msgSession (m : Bytes) : Nat := u m 3 1 % 16
def msgSeq (m : Bytes) : Nat := u m 4 8
def msgLength (m : Bytes) : Nat := u m 16 2

/-- The payload. -/
def msgPayload (m : Bytes) : Bytes := slice m 20 (msgLength m)

/-- Step 1 of R94. -/
def msgMalformed (m : Bytes) : Bool :=
  decide (m.length < 36) || decide (u m 0 1 ≠ 1) || bitOf (u m 2 1) 0 || decide (1280 < msgLength m) || decide (m.length < 36 + msgLength m)

/-- The TAG of a request passes (R92), and the engine's work on it. -/
def State.tagPasses (s : State) (page : Nat) (m : Bytes) : Bool × State :=
  let n := 20 + msgLength m
  let r := s.kceTag page (m.take n)
  (decide (r.1 = slice m n 16), r.2)

/-! ### Replies (R91, R92, R102, R114–R116) -/

/-- The attention bits of a session's next reply, as bits 0 to 15. -/
def State.attnOf (s : State) (i : Nat) : Nat :=
  let x := s.session i
  if x.isOpen then x.latches ||| s.levels i else s.levels i

/-- A reply without its TAG. -/
def replyBody (op i seq status : Nat) (payload : Bytes) : Bytes :=
  [1, u8 op, 1, u8 i] ++ beBytes 8 seq ++ beBytes 4 status ++ beBytes 2 payload.length ++ [0, 0] ++ payload

/-- A reply is built, clears the latches it carries, and is sent; a reply to an accepted request replaces the cached one. -/
def State.answer (s : State) (i : Nat) (m : Bytes) (v : Via) (code : Nat) (payload : Bytes) (cached : Bool) : State :=
  let body := replyBody (msgOpcode m) i (msgSeq m) (s.attnOf i * 65536 + code) payload
  let t := s.kceTag i body
  let msg := body ++ t.1
  let s1 := t.2.modSession i fun x => { x with latches := 0, cache := if cached then some (msgSeq m, msg) else x.cache }
  if s.muted i then s1 else s1.sendBack v msg

/-! ### Acceptance (R94, R95, R156) -/

/-- A session whose page has locked closes once its accepted requests are answered (R99, R118, R153). -/
def State.closeSpent (s : State) : State :=
  (upTo 16).foldl (fun (a : State) i =>
    if (a.page i).state = 2 ∧ (a.session i).isOpen ∧ (a.session i).queue.isEmpty then a.closeSession i else a) s

/-- The idle time of an open session counts anew (R99). -/
def State.touch (s : State) (i : Nat) : State :=
  s.modSession i fun x => if x.isOpen then { x with deadline := s.now + secTicks x.idle } else x

/-- Step 8 of R94: the counter and the ceilings move, and the request waits in its session's queue. -/
def State.queueRequest (s : State) (i : Nat) (m : Bytes) (v : Via) : State :=
  let s1 := (s.acceptSeq i (msgSeq m)).countUse i 2
  let p := s1.page i
  let r : Request := { msg := m, via := v, grant := s.get (Obj.SES_GRANT i),
                       need := if p.writtenS < msgSeq m then some (msgSeq m) else none,
                       needU := if p.writtenU < p.used then some p.used else none }
  let s2 := ((s1.bump (Obj.SES_ACCEPTED i)).put (Obj.SES_WAY i) v.way).modSession i fun x => { x with queue := x.queue ++ [r] }
  s2.touch i

/-- Steps 2 to 8 of R94 on a message that step 1 has let pass. -/
def State.acceptMsg (s : State) (v : Via) (m0 : Bytes) : State :=
  let m := m0.take (36 + msgLength m0)
  let i := msgSession m
  let p := s.page i
  let x := s.session i
  let resend := fun (a : State) (c : Bytes) => if a.muted i then a else (a.touch i).sendBack v c
  if p.use ≠ 0 ∨ p.state = 0 ∨ p.state = 3 then s.bump Obj.SES_PAGE_DROPS
  else if 4 ≤ x.queue.length then
    (s.bump Obj.SES_QUEUE_DROPS).modSession i fun y => if y.isOpen then { y with latches := y.latches ||| (1 <<< Attn.lost) } else y
  else
    let t := s.tagPasses i m
    match x.cache.filter fun (c : Nat × Bytes) => decide (c.1 = msgSeq m) with
    | some c => if p.state = 2 then resend s c.2 else if t.1 then resend t.2 c.2 else t.2.bump Obj.SES_BAD_TAG
    | none =>
      if p.state = 2 then s.bump Obj.SES_PAGE_DROPS
      else if ¬ t.1 then t.2.bump Obj.SES_BAD_TAG
      else if p.spent then ((t.2.lockPage i).bump Obj.SES_PAGE_DROPS).closeSpent
      else if msgSeq m ≤ p.counter ∨ msgSeq m = 2 ^ 64 - 1 then
        ((t.2.countUse i 2).answer i m v Res.replay (beBytes 8 p.counter) false).closeSpent
      else t.2.queueRequest i m v

/-! ### Requests as a whole (R105, R112, R113, R532) -/

/-- A request recognised by R105. -/
def knownOpcode (op : Nat) : Bool := [0x01, 0x02, 0x10, 0x11, 0x12, 0x13, 0x20, 0x21, 0x30, 0x31].contains op

/-- Test 1 of R532 fails: a reserved field of the header is not zero. -/
def headerReserved (m : Bytes) : Bool :=
  decide (1 < u m 2 1) || decide (16 ≤ u m 3 1) || decide (u m 12 4 ≠ 0) || decide (u m 18 2 ≠ 0)

/-- Test 4 of R532: LENGTH fits the layout, with COUNT and bulk lengths in range. -/
def lengthOk (op : Nat) (pl : Bytes) : Bool :=
  let n := pl.length
  let count := u pl 0 2
  let items := decide (4 ≤ n) && decide (1 ≤ count ∧ count ≤ 64)
  if op = 0x01 then decide (n = 4)
  else if op = 0x02 then decide (n = 0)
  else if op = 0x10 ∨ op = 0x30 ∨ op = 0x31 then decide (n = 4)
  else if op = 0x11 then decide (8 ≤ n) && (parseItems pl 1).isSome
  else if op = 0x12 then items && decide (n = 4 + 4 * count)
  else if op = 0x13 then items && (parseItems (pl.drop 4) count).isSome
  else if op = 0x20 then decide (n = 12) && decide (1 ≤ u pl 8 2 ∧ u pl 8 2 ≤ 1024)
  else decide (13 ≤ n ∧ n ≤ 12 + 1024)

/-- Test 5 of R532 fails: a reserved field of the payload's own framing is not zero. -/
def framingReserved (op : Nat) (pl : Bytes) : Bool :=
  if op = 0x01 ∨ op = 0x12 ∨ op = 0x13 then decide (u pl 2 2 ≠ 0)
  else if op = 0x20 then decide (u pl 3 1 ≠ 0) || decide (u pl 10 2 ≠ 0)
  else if op = 0x21 then decide (4 ≤ u pl 3 1)
  else false

/-- The first test of R532 that fails, for a session open or closed. -/
def wholeTest (isOpen : Bool) (m : Bytes) : Nat :=
  let op := msgOpcode m
  let pl := msgPayload m
  if headerReserved m then Res.badValue
  else if ¬ knownOpcode op then Res.badOpcode
  else if ¬ isOpen ∧ op ≠ 0x01 ∧ op ≠ 0x02 then Res.noSession
  else if ¬ lengthOk op pl then Res.badLength
  else if framingReserved op pl then Res.badValue
  else Res.ok

/-- The 8-byte header of a BULK_READ reply (R112). -/
def bulkHeader (off len : Nat) : Bytes := beBytes 4 off ++ beBytes 2 len ++ [0, 0]

/-- What a request came to: RESULT, the payload of its reply, the state at its reply, and what follows the reply: values written, a run begun,
a session that BYE closes. -/
structure Done where
  code : Nat
  payload : Bytes
  state : State
  writes : List (Nat × Nat) := []
  started : Option Nat := none
  bye : Bool := false

/-- A request that a test of R532 turns away. A BULK_READ too short to name its OFFSET is answered with a free value there. -/
def State.turnedAway (s : State) (i : Nat) (m : Bytes) (code : Nat) : Done :=
  let pl := msgPayload m
  if msgOpcode m = 0x21 then ⟨code, beBytes 4 (s.nextOffset i), s, [], none, false⟩
  else if msgOpcode m = 0x20 then
    (if 8 ≤ pl.length then ⟨code, bulkHeader (u pl 4 4) 0, s, [], none, false⟩ else ⟨code, bulkHeader (s.freeVal 32) 0, s.useFree, [], none, false⟩)
  else ⟨code, [], s, [], none, false⟩

/-- HELLO (R97, R116, R117): an open session closes first as BYE closes it, its waiting requests discarded. -/
def State.doHello (s : State) (i : Nat) (m : Bytes) : Done :=
  let lcy := s.get Obj.LCY_STATE
  let req := u (msgPayload m) 0 2
  if (lcy = 0 ∨ lcy = 3) ∧ i ≠ 0 then ⟨Res.badState, [], s, [], none, false⟩
  else
    let idle := max 1 (min 3600 (if req = 0 then s.get Obj.SES_IDLE_DEFAULT else req))
    let rest := if (s.session i).isOpen then [] else (s.session i).queue
    let s1 := (s.closeSession i).modSession i fun x =>
      { x with isOpen := true, idle := idle, deadline := s.now + secTicks idle, latches := 1 <<< Attn.lost, queue := rest }
    let p := s.page i
    let pl := [u8 p.cls, u8 lcy] ++ beBytes 2 idle ++ beBytes 2 1280 ++ [0, 0] ++ beBytes 8 p.counter ++ beBytes 8 (2 ^ 48 - p.used)
    ⟨Res.ok, pl, s1.put (Obj.SES_ACCEPTED i) 1, [], none, false⟩

/-- READ_MULTI (R108). -/
def State.doReadMulti (s : State) (i grant : Nat) (pl : Bytes) : Done :=
  let refs := (upTo (u pl 0 2)).map fun k => refAt pl (4 + 4 * k)
  if 1280 < 4 + (refs.map fun r => s.refLen i grant r).foldl (· + ·) 0 then ⟨Res.badLength, [], s, [], none, false⟩
  else
    let x := s.readRefs i grant Res.ok (beBytes 2 refs.length ++ [0, 0]) refs
    ⟨x.1, x.2.1, x.2.2, [], none, false⟩

/-- BULK_READ (R112). -/
def State.doBulkRead (s : State) (i grant : Nat) (pl : Bytes) : Done :=
  let idx := u pl 0 2
  let sub := u pl 2 1
  let off := u pl 4 4
  let j := s.judgeAccess i grant .bulkRead idx sub
  if j.1 ≠ Res.ok then ⟨j.1, bulkHeader off 0, s, [], none, false⟩
  else
    let x := (s.serveCmp i (idx * 256 + sub)).bulkRead idx off (u pl 8 2)
    ⟨x.1, bulkHeader off x.2.1.length ++ x.2.1, x.2.2, [], none, false⟩

/-- BULK_WRITE (R113). -/
def State.doBulkWrite (s : State) (i grant : Nat) (pl : Bytes) : Done :=
  let idx := u pl 0 2
  let sub := u pl 2 1
  let j := s.judgeAccess i grant .bulkWrite idx sub
  if j.1 ≠ Res.ok then ⟨j.1, beBytes 4 (s.nextOffset i), s, [], none, false⟩
  else
    let x := (s.serveCmp i (idx * 256 + sub)).bulkWrite i idx sub (u pl 3 1) (u pl 4 4) (u pl 8 4) (pl.drop 12)
    ⟨x.1, beBytes 4 x.2.1, x.2.2, [], none, false⟩

/-- START (R111). -/
def State.doStart (s : State) (i grant : Nat) (pl : Bytes) (gone : Bool) : Done :=
  let r := refAt pl 0
  let key := r.idx * 256 + r.sub
  let j := s.judgeRef i grant .start r
  if j.1 ≠ Res.ok then ⟨j.1, [], s, [], none, false⟩
  else
    let x := (s.serveCmp i key).startObject i (s.page i).cls key gone
    ⟨x.1, [], x.2, [], if x.1 = Res.ok then some key else none, false⟩

/-- ABORT (R111, R113): on a window it discards the session's own transfer. -/
def State.doAbort (s : State) (i grant : Nat) (pl : Bytes) : Done :=
  let r := refAt pl 0
  let key := r.idx * 256 + r.sub
  let j := s.judgeRef i grant .abort r
  if j.1 ≠ Res.ok then ⟨j.1, [], s, [], none, false⟩
  else if j.2 = .bulk then
    ⟨Res.ok, [], s.modSession i fun x => { x with bulk := x.bulk.filter fun (b : Bulk) => !(decide (b.idx = r.idx) && decide (b.sub = r.sub)) }, [], none, false⟩
  else
    let x := (s.serveCmp i key).abortObject key
    ⟨x.1, [], x.2, [], none, false⟩

/-- A request carried out up to its reply. -/
def State.perform (s : State) (i : Nat) (r : Request) (gone : Bool) : Done :=
  let op := msgOpcode r.msg
  let pl := msgPayload r.msg
  let c := wholeTest (s.session i).isOpen r.msg
  if c ≠ Res.ok then s.turnedAway i r.msg c
  else if op = 0x01 then s.doHello i r.msg
  else if op = 0x02 then ⟨Res.ok, [], s, [], none, (s.session i).isOpen⟩
  else if op = 0x10 then
    let x := s.readRef i r.grant (refAt pl 0)
    ⟨x.1, x.2.1, x.2.2, [], none, false⟩
  else if op = 0x11 then
    let x := s.writeItems i r.grant ((parseItems pl 1).getD [])
    ⟨x.1, x.2.1, x.2.2.2, x.2.2.1, none, false⟩
  else if op = 0x12 then s.doReadMulti i r.grant pl
  else if op = 0x13 then
    let x := s.writeItems i r.grant ((parseItems (pl.drop 4) (u pl 0 2)).getD [])
    ⟨x.1, slice pl 0 2 ++ [0, 0] ++ x.2.1, x.2.2.2, x.2.2.1, none, false⟩
  else if op = 0x20 then s.doBulkRead i r.grant pl
  else if op = 0x21 then s.doBulkWrite i r.grant pl
  else if op = 0x30 then s.doStart i r.grant pl gone
  else s.doAbort i r.grant pl

/-- What follows a reply (R83, R90, R98, R160, R500). -/
def State.afterReply (s : State) (i : Nat) (d : Done) : State :=
  let s1 := d.writes.foldl (fun (a : State) (e : Nat × Nat) => a.afterWrite e.1 e.2) s
  let s2 := match d.started with | some key => s1.afterStart i key | none => s1
  (if d.bye then s2.closeSession i else s2).closeSpent

/-- The request at the head of session `i`'s queue is executed and answered. -/
def State.serve (s : State) (i : Nat) (gone : Bool) : State :=
  match (s.session i).queue with
  | [] => s
  | r :: t =>
    let s1 := s.modSession i fun x => { x with queue := t }
    let d := { s1 with wonel := { s1.wonel with served := i } }.perform i r gone
    (d.state.answer i r.msg r.via d.code d.payload true).afterReply i d

/-! ### The turn (R96, R451) -/

/-- The objects that a request names. -/
def msgKeys (m : Bytes) : List Nat :=
  let pl := msgPayload m
  let op := msgOpcode m
  let at_ := fun (off : Nat) => u pl off 2 * 256 + u pl (off + 2) 1
  if op = 0x12 then (upTo (min 64 (u pl 0 2))).map fun k => at_ (4 + 4 * k)
  else if op = 0x13 then ((parseItems (pl.drop 4) (min 64 (u pl 0 2))).getD []).map fun (x : WItem) => x.idx * 256 + x.sub
  else if op = 0x01 ∨ op = 0x02 then []
  else [at_ 0]

/-- A request waits for the end of a patch halt when it names an object that the Compositor holds (R451). -/
def State.waitsHalt (s : State) (m : Bytes) : Bool := s.halted && (msgKeys m).any heldByCmp

/-- Wonel is served: start-up is over, and no thermal trip has silenced the transmitters (R68, R508). -/
def State.wonelOn (s : State) : Bool := s.inService && !s.power.thermtrip

/-- The session that is served next (R96), with its request. -/
def State.nextRequest (s : State) : Option (Nat × Request) :=
  if ¬ s.wonelOn then none
  else ((upTo 16).map fun k => (s.wonel.served + 1 + k) % 16).findSome? fun i =>
    match (s.session i).queue with
    | [] => none
    | r :: _ => if r.held (s.page i) || s.waitsHalt r.msg then none else some (i, r)

/-- Requests with an opcode that no command names are answered BAD_OPCODE as their turn comes (R105); `n` bounds the queues' length. -/
def State.drainUnknown (s : State) : Nat → State
  | 0 => s
  | n + 1 =>
    match s.nextRequest with
    | some (i, r) => if knownOpcode (msgOpcode r.msg) then s else (s.serve i false).drainUnknown n
    | none => s

/-- The next request is served if it is the one that the command names. -/
def State.serveIf (s : State) (p : Bytes → Bool) (gone : Bool) : State :=
  match s.nextRequest with
  | some (i, r) => if p r.msg then (s.serve i gone).drainUnknown 64 else s
  | none => s

/-- A message with an opcode. -/
def isOp (op : Nat) (m : Bytes) : Bool := decide (msgOpcode m = op)

/-- A START on one of the objects with key `key + 256 k`, k below `count`. -/
def isStart (key count : Nat) (m : Bytes) : Bool :=
  let k := u (msgPayload m) 0 2 * 256 + u (msgPayload m) 2 1
  isOp 0x30 m && decide (key ≤ k) && decide ((k - key) % 256 = 0) && decide ((k - key) / 256 < count)

/-! ### Commands: ways in -/

/-- A way in takes requests: a management port in service whose link is up; a front port's frames come through its MAC (R86, R89). -/
def State.mgListens (s : State) (mg : Nat) : Bool := decide (mg < 2) && s.wonelOn && (s.mgPort mg).up

/-- A frame of a front port is taken from those delivered to the engine. -/
def State.takeRx (s : State) (way : Nat) (f : Bytes) : Option State :=
  if s.wonel.rx.contains (way, f) then some { s with wonel := { s.wonel with rx := s.wonel.rx.erase (way, f) } } else none

/-- A frame's message is judged, or the frame is dropped (R93, R94 step 1). -/
def State.receive (s : State) (way : Nat) (f : Bytes) : State :=
  (match s.wonelOf way f with
    | none => s.bump Obj.SES_RX_DROPPED
    | some (v, m) => if msgMalformed m then s.bump Obj.SES_RX_DROPPED else s.acceptMsg v m).drainUnknown 64

/-- The port's bit of `SES_MG_ENABLE`. -/
def State.mgEnabled (s : State) (mg : Nat) : Bool := bitOf (s.get Obj.SES_MG_ENABLE) mg

/-- WONEL_FRAME_RX (R86, R94). On a front port the frame is one that R222 has delivered; with `SES_INBAND` FALSE it is not accepted. -/
def execWonelFrameRx (way : Nat) (frame : Bytes) (s : State) : Host.Outcome State Fault Refusal :=
  .next (if way < 0x400 then
      match s.takeRx way frame with
      | none => s
      | some s1 => if s.get Obj.SES_INBAND = 1 ∧ s.wonelOn then s1.receive way frame else s1
    else if ¬ s.mgListens (way - 0x400) then s
    else if ¬ s.mgEnabled (way - 0x400) then s.bump Obj.SES_RX_DROPPED
    else s.receive way frame)

/-- The reply to an ARP request: from the address asked for, to the sender (R88). -/
def State.arpReply (s : State) (v : Via) (sender : Bytes) : State :=
  let mac := beBytes 6 (s.get Obj.SES_MAC_ADDR)
  s.wayOut v.way (s.backFrame v 0x0806 (beBytes 8 0x0001080006040002 ++ mac ++ beBytes 4 (s.get Obj.SES_IPV4_ADDR) ++ sender))

/-- An ARP frame on a way in that is listening. -/
def State.arpIn (s : State) (way : Nat) (f : Bytes) (count : Bool) : State :=
  match s.arpOf way f with
  | some (v, sender) => s.arpReply v sender
  | none => if count then s.bump Obj.SES_RX_DROPPED else s

/-- ARP_REQUEST (R88): answered on every way in where UDP Wonel is accepted. -/
def execArpRequest (way : Nat) (frame : Bytes) (s : State) : Host.Outcome State Fault Refusal :=
  .next (if way < 0x400 then
      match s.takeRx way frame with
      | none => s
      | some s1 => if s.get Obj.SES_INBAND = 1 ∧ s.wonelOn then s1.arpIn way frame false else s1
    else if ¬ s.mgListens (way - 0x400) then s
    else if ¬ s.mgEnabled (way - 0x400) then s.bump Obj.SES_RX_DROPPED
    else s.arpIn way frame true)

/-- MG_FRAME_DROPPED (R88): a frame that is neither Wonel for the device nor an ARP request for it. -/
def execMgFrameDropped (mg : Nat) (frame : Bytes) (s : State) : Host.Outcome State Fault Refusal :=
  let taken := s.mgEnabled mg && ((s.wonelOf (0x400 + mg) frame).isSome || (s.arpOf (0x400 + mg) frame).isSome)
  .next (if ¬ s.mgListens mg ∨ taken then s else s.bump Obj.SES_RX_DROPPED)

/-- MG_FEC_CYCLE (R89): RS-FEC, BASE-R FEC, none, and again. -/
def execMgFecCycle (mg : Nat) (s : State) : Host.Outcome State Fault Refusal :=
  let x := s.mgPort mg
  .next (if 2 ≤ mg ∨ ¬ s.wonelOn ∨ x.up ∨ s.get Obj.SES_MG_FEC ≠ 0 ∨ s.now < x.since + secTicks 2 then s
    else s.modMg mg fun y => { y with fec := if y.fec = 3 then 2 else if y.fec = 2 then 1 else 3, since := s.now })

/-- The procedure of `SES_MG_FEC` begins on a port whose link is down (R89). -/
def State.mgBegin (s : State) (mg : Nat) : State :=
  let v := s.get Obj.SES_MG_FEC
  s.modMg mg fun _ => { up := false, fec := if v = 0 then 3 else v, since := s.now }

/-- MG_LINK_CHANGE (R89, R115): the mode that locked is kept until the link goes down. -/
def execMgLinkChange (mg : Nat) (up : Bool) (s : State) : Host.Outcome State Fault Refusal :=
  .next (if 2 ≤ mg ∨ ¬ s.wonelOn ∨ (s.mgPort mg).up = up then s
    else if up then (s.modMg mg fun y => { y with up := true, since := s.now }).latch Attn.link
    else (s.mgBegin mg).latch Attn.link)

/-- SESSION_IDLE_TIMEOUT (R99). -/
def execSessionIdleTimeout (s_ : Nat) (s : State) : Host.Outcome State Fault Refusal :=
  let x := s.session s_
  .next (if x.isOpen ∧ x.deadline ≤ s.now then s.closeSession s_ else s)

/-! ### Commands: requests -/

/-- HELLO (R97). -/
def execHello (s : State) : Host.Outcome State Fault Refusal := .next (s.serveIf (isOp 0x01) false)
/-- BYE (R98). -/
def execBye (s : State) : Host.Outcome State Fault Refusal := .next (s.serveIf (isOp 0x02) false)
/-- READ (R108). -/
def execRead (s : State) : Host.Outcome State Fault Refusal := .next (s.serveIf (isOp 0x10) false)
/-- WRITE (R109). -/
def execWrite (s : State) : Host.Outcome State Fault Refusal := .next (s.serveIf (isOp 0x11) false)
/-- READ_MULTI (R108). -/
def execReadMulti (s : State) : Host.Outcome State Fault Refusal := .next (s.serveIf (isOp 0x12) false)
/-- WRITE_MULTI (R109). -/
def execWriteMulti (s : State) : Host.Outcome State Fault Refusal := .next (s.serveIf (isOp 0x13) false)
/-- BULK_READ (R112). -/
def execBulkRead (s : State) : Host.Outcome State Fault Refusal := .next (s.serveIf (isOp 0x20) false)
/-- BULK_WRITE (R113). -/
def execBulkWrite (s : State) : Host.Outcome State Fault Refusal := .next (s.serveIf (isOp 0x21) false)
/-- The next request is one that the command names. -/
def State.nextIs (s : State) (p : Bytes → Bool) : Bool := match s.nextRequest with | some (_, r) => p r.msg | none => false

/-- START (R111): on any object; on `LN_RELEASE` what the test of R191 finds is then a free value. -/
def execStart (s : State) : Host.Outcome State Fault Refusal :=
  .next (if s.nextIs (isStart (Obj.LN_RELEASE 0) 1024) then s.useFree.serveIf (isOp 0x30) (decide (s.freeVal 1 = 1)) else s.serveIf (isOp 0x30) false)
/-- ABORT (R111). -/
def execAbort (s : State) : Host.Outcome State Fault Refusal := .next (s.serveIf (isOp 0x31) false)

/-- LCY_SOFT_RESET (R65). -/
def execLcySoftReset (s : State) : Host.Outcome State Fault Refusal := .next (s.serveIf (isStart Obj.LCY_SOFT_RESET 1) false)
/-- LCY_PS_COMMIT (R77). -/
def execLcyPsCommit (s : State) : Host.Outcome State Fault Refusal := .next (s.serveIf (isStart Obj.LCY_PS_COMMIT 1) false)
/-- LCY_TRANSITION (R82). -/
def execLcyTransition (s : State) : Host.Outcome State Fault Refusal := .next (s.serveIf (isStart Obj.LCY_TRANSITION 1) false)
/-- KCE_INSTALL (R159, R160). -/
def execKceInstall (s : State) : Host.Outcome State Fault Refusal := .next (s.serveIf (isStart (Obj.KCE_INSTALL 0) 16) false)
/-- KCE_EMPTY (R161). -/
def execKceEmpty (s : State) : Host.Outcome State Fault Refusal := .next (s.serveIf (isStart (Obj.KCE_EMPTY 0) 16) false)
/-- LN_ADAPT (R178). -/
def execLnAdapt (s : State) : Host.Outcome State Fault Refusal := .next (s.serveIf (isStart (Obj.LN_ADAPT 0) 1024) false)
/-- LN_EYE_RUN (R188). -/
def execLnEyeRun (s : State) : Host.Outcome State Fault Refusal := .next (s.serveIf (isStart (Obj.LN_EYE_RUN 0) 1024) false)
/-- LN_RELEASE (R191). -/
def execLnRelease (gone : Bool) (s : State) : Host.Outcome State Fault Refusal := .next (s.serveIf (isStart (Obj.LN_RELEASE 0) 1024) gone)
/-- QD_REPAIR (R210). -/
def execQdRepair (s : State) : Host.Outcome State Fault Refusal := .next (s.serveIf (isStart (Obj.QD_REPAIR 0) 8) false)
/-- CTR_CLEAR (R237). -/
def execCtrClear (s : State) : Host.Outcome State Fault Refusal := .next (s.serveIf (isStart (Obj.CTR_CLEAR 0) 1024) false)
/-- PLN_CHECK (R266). -/
def execPlnCheck (s : State) : Host.Outcome State Fault Refusal := .next (s.serveIf (isStart Obj.PLN_CHECK 1) false)
/-- PLN_INSTALL (R267). -/
def execPlnInstall (s : State) : Host.Outcome State Fault Refusal := .next (s.serveIf (isStart Obj.PLN_INSTALL 1) false)
/-- PLN_SWITCH (R268). -/
def execPlnSwitch (s : State) : Host.Outcome State Fault Refusal := .next (s.serveIf (isStart Obj.PLN_SWITCH 1) false)
/-- TBL_STATIC_ADD (R300). -/
def execTblStaticAdd (s : State) : Host.Outcome State Fault Refusal := .next (s.serveIf (isStart Obj.TBL_STATIC_ADD 1) false)
/-- TBL_DELETE (R300). -/
def execTblDelete (s : State) : Host.Outcome State Fault Refusal := .next (s.serveIf (isStart Obj.TBL_DELETE 1) false)
/-- TBL_FLUSH (R300). -/
def execTblFlush (s : State) : Host.Outcome State Fault Refusal := .next (s.serveIf (isStart Obj.TBL_FLUSH 1) false)
/-- TBL_LPM_APPLY (R290). -/
def execTblLpmApply (s : State) : Host.Outcome State Fault Refusal := .next (s.serveIf (isStart Obj.TBL_LPM_APPLY 1) false)
/-- CHS_LPM_SPARE_IN (R305). -/
def execChsLpmSpareIn (s : State) : Host.Outcome State Fault Refusal := .next (s.serveIf (isStart (Obj.CHS_LPM_SPARE_IN 0) 8) false)
/-- GAL_CARVE_APPLY (R315). -/
def execGalCarveApply (s : State) : Host.Outcome State Fault Refusal := .next (s.serveIf (isStart Obj.GAL_CARVE_APPLY 1) false)
/-- GAL_REMAP (R335). -/
def execGalRemap (s : State) : Host.Outcome State Fault Refusal := .next (s.serveIf (isStart Obj.GAL_REMAP 1) false)
/-- PMC_SNAP (R380). -/
def execPmcSnap (s : State) : Host.Outcome State Fault Refusal := .next (s.serveIf (isStart Obj.PMC_SNAP 1) false)
/-- PMC_B_CLEAR (R378). -/
def execPmcBClear (s : State) : Host.Outcome State Fault Refusal := .next (s.serveIf (isStart Obj.PMC_B_CLEAR 1) false)
/-- CMP_PATCH_CHECK (R449). -/
def execCmpPatchCheck (s : State) : Host.Outcome State Fault Refusal := .next (s.serveIf (isStart Obj.CMP_PATCH_CHECK 1) false)
/-- CMP_PATCH_ACTIVATE (R451). -/
def execCmpPatchActivate (s : State) : Host.Outcome State Fault Refusal := .next (s.serveIf (isStart Obj.CMP_PATCH_ACTIVATE 1) false)
/-- CMP_PATCH_REMOVE (R452). -/
def execCmpPatchRemove (s : State) : Host.Outcome State Fault Refusal := .next (s.serveIf (isStart Obj.CMP_PATCH_REMOVE 1) false)
/-- FLT_CLEAR (R488). -/
def execFltClear (s : State) : Host.Outcome State Fault Refusal := .next (s.serveIf (isStart Obj.FLT_CLEAR 1) false)
/-- FLT_SAFE_ENTER (R492). -/
def execFltSafeEnter (s : State) : Host.Outcome State Fault Refusal := .next (s.serveIf (isStart Obj.FLT_SAFE_ENTER 1) false)
/-- FLT_INJ_ARM (R490). -/
def execFltInjArm (s : State) : Host.Outcome State Fault Refusal := .next (s.serveIf (isStart Obj.FLT_INJ_ARM 1) false)
/-- FLT_DIAG_WRITE (R475, R476). -/
def execFltDiagWrite (s : State) : Host.Outcome State Fault Refusal := .next (s.serveIf (isStart Obj.FLT_DIAG_WRITE 1) false)
/-- FLT_DIAG_READ (R475). -/
def execFltDiagRead (s : State) : Host.Outcome State Fault Refusal := .next (s.serveIf (isStart Obj.FLT_DIAG_READ 1) false)
/-- PWR_SHUTDOWN (R500). -/
def execPwrShutdown (s : State) : Host.Outcome State Fault Refusal := .next (s.serveIf (isStart Obj.PWR_SHUTDOWN 1) false)

end Sys2Proof.Machine
end

