-- ==== Sys2Proof/Machine/Restore.lean ====
section
/-! DEFINITION. Phases 8 to 10 of start-up: the stored patch, the persisted dictionary, and service (R68–R70, R75, R146, R216, R316, R397,
R453, R531). -/

namespace Sys2Proof.Machine
open Sys2Proof

/-- The straps leave everything at its default (R70, R89). -/
def State.recovery (s : State) : Bool := decide (2 ≤ s.boot.bootSel)

/-! ### Phase 8 (R85, R453, R526) -/

/-- An image is loaded without a halt: patch RAM, overlay and the objects that report it. -/
def State.loadPatch (s : State) (im : Bytes) : State :=
  let maps := patchMaps im
  let segs := u im 26 2
  let s1 := { s with cmp := { s.cmp with
    overlay := maps.foldl (fun (m : List (Nat × Nat)) (e : Nat × Nat) => smInsert m e.1 (e.2 + 1)) []
    ram := (patchLines im).foldl (fun (m : List (Nat × Nat)) (e : Nat × Nat) => smSet 0 m e.1 e.2) []
    active := im } }
  ((s1.put Obj.CMP_PATCH_ID (u im 12 4)).put Obj.CMP_PATCH_SEGS segs).put Obj.CMP_PATCH_MAPS maps.length

/-- The stored patch, checked under the key of page 00; one that fails leaves the ROM lines and a patch fault (R85). -/
def State.loadStored (s : State) : State :=
  let im := s.bank.patch
  if im = [] ∨ s.recovery ∨ s.patchBarred then s
  else
    let r := s.checkPatch im im.length
    if r.1 = (Res.ok, 0) then (r.2.loadPatch im).latch Attn.patch else (r.2.failureOf 248 0x1D 0).latch Attn.patch

/-- PATCH_LOAD (R453): phase 8. Under BOOT_SEL 0b01 a flash that does not answer is a fault, and the store alone serves (R56, R526). -/
def execPatchLoad (flash : Bool) (s : State) : Host.Outcome State Fault Refusal :=
  .next (if s.boot.phase ≠ .patch then s
    else
      let asked := decide (s.boot.bootSel = 1)
      let s1 := { s with store := { s.store with flashPresent := asked && flash }, boot := { s.boot with phase := .restore } }
      (if asked && !flash then s1.failureOf 251 0x1F 0 else s1).loadStored)

/-! ### Phase 9 (R70, R75, R531) -/

/-- The entries before the first that names no persist-flag subindex or stands out of order, and that entry's index (R531). -/
def dictPrefix (lo : Nat) : List (Nat × Nat) → List (Nat × Nat) × Option Nat
  | [] => ([], none)
  | e :: t =>
    if persists e.1 ∧ lo ≤ e.1 then
      let r := dictPrefix (e.1 + 1) t
      (e :: r.1, r.2)
    else ([], some (e.1 / 256))

/-- A persisted value is applied by the checks of its object, or records a restore fault (R70). The mode of a time output is stored and arms
nothing (R397); a grant of a page without a key is zero (R146); ports stay disabled in PROVISIONED (R216); an instance is enabled last. -/
def State.restoreEntry (s : State) (e : Nat × Nat) : State :=
  let idx := e.1 / 256
  let sub := e.1 % 256
  let ty := match descOf idx sub with | some d => d.ty | none => .u8
  let keyless : Bool := decide (idx = 0x0120) && decide ((s.page (sub - 1)).state = 0)
  let off : Bool := decide (0x1400 ≤ idx ∧ idx < 0x1800 ∧ sub = 0x04) && decide (s.get Obj.LCY_STATE = 1)
  let later : Bool := decide (e.1 = Obj.TIM_P_ENABLE 0) || decide (e.1 = Obj.TIM_P_ENABLE 1)
  if keyless ∨ off ∨ later then s
  else if 0x0620 ≤ idx ∧ idx < 0x0630 ∧ sub = 1 then (if e.2 ≤ 2 then s.put e.1 e.2 else s.restoreFault idx)
  else if typeOk ty e.2 then
    let w := s.writeOne 0 e.1 e.2
    if w.1 = Res.ok then w.2 else s.restoreFault idx
  else s.restoreFault idx

/-- The entries of the indexes from `lo` up to but not including `hi`. -/
def State.restoreRange (s : State) (l : List (Nat × Nat)) (lo hi : Nat) : State :=
  (l.filter fun (e : Nat × Nat) => decide (lo * 256 ≤ e.1) && decide (e.1 < hi * 256)).foldl (fun (a : State) e => a.restoreEntry e) s

/-- The entries of an image record, by the window that writes them; one that fails its window's check is a restore fault of the record's code. -/
def State.restoreRecord (s : State) (code size : Nat) (place : Nat → Nat × Nat) (l : List (Nat × Nat)) : State :=
  l.foldl (fun (a : State) (e : Nat × Nat) =>
    let w := place e.1
    let b := beBytes size e.2
    if entryOk w.1 w.2 b then a.writeEntry w.1 w.2 b else a.restoreFault code) s

/-- The persisted carving, where it differs from that of the wipe of phase 7 (R316). -/
def State.restoreCarving (s : State) : State :=
  if s.stagedCarve = (32, [1048576, 196608, 47104, 20480]) then s
  else
    let bad := s.carveCheck.isSome
    let s1 := (startGalCarveApply s).2
    if bad then s1.restoreFault 0x0801 else s1

/-- The instances persisted as enabled. -/
def State.restoreInstances (s : State) (l : List (Nat × Nat)) : State :=
  [0, 1].foldl (fun (a : State) d =>
    if smGet 0 l (Obj.TIM_P_ENABLE d) = 1 then
      let w := a.writeOne 0 (Obj.TIM_P_ENABLE d) 1
      if w.1 = Res.ok then w.2 else a.restoreFault (0x0690 + d)
    else a) s

/-- The image records that phase 9 reads: those of the bank, or of the flash where the bank has none (R75). -/
def State.storedImages (s : State) : Images :=
  let x := s.bank.images
  if s.boot.bootSel = 1 ∧ s.store.flashPresent ∧ x.records = [] then s.store.flash else x

/-- The stored values and records in ascending index order (R68, R75). -/
def State.restoreAll (s : State) : State :=
  let p := dictPrefix 0 s.bank.dictImage
  let l := p.1
  let x := s.storedImages
  let s1 := (s.restoreRange l 0 0x0401).restoreRecord 0x0400 16 (fun k => (0x3401, k)) x.fltCfg
  let s2 := (s1.restoreRange l 0x0401 0x0681).restoreRecord 0x0680 32 (fun k => (0x3601, k)) x.ptpPorts
  let s3 := (((s2.restoreRange l 0x0681 0x0700).restoreInstances l).restoreRange l 0x0700 0x0802).restoreCarving
  let s4 := (s3.restoreRange l 0x0802 0x0901).restoreRecord 0x0900 16 (fun k => (0x3100 + k / 8192, k % 8192)) x.policers
  let s5 := s4.restoreRecord 0x0900 132 (fun k => (0x3140, k)) x.groups
  let s6 := ((s5.restoreRange l 0x0901 0x0B01).restorePrograms x).restoreRange l 0x0B01 0x10000
  match p.2 with
  | some idx => s6.restoreFault idx
  | none => s6

/-- DICTIONARY_RESTORE (R70): phase 9; under the recovery straps nothing is applied. -/
def execDictionaryRestore (s : State) : Host.Outcome State Fault Refusal :=
  .next (if s.boot.phase ≠ .restore then s
    else
      let s1 := if s.recovery then s else s.restoreAll
      { s1 with boot := { s1.boot with phase := .enable } })

/-! ### Phase 10 (R68, R69, R397, R472, R499) -/

/-- A restored mode of a time output is judged as a mode write (R397). -/
def State.armRestored (s : State) (t : Nat) : State :=
  let mode := s.get (Obj.TIM_TPO_MODE t)
  if mode = 0 then s
  else
    let w := s.armTpo t mode
    if w.1 = Res.ok then w.2 else (s.put (Obj.TIM_TPO_MODE t) 0).restoreFault (0x0620 + t)

/-- The device enters its safe state for what start-up found (R472, R499). -/
def State.safeFor (s : State) (cause : Option Nat) : State := match cause with | some c => s.enterSafe c | none => s

/-- WONEL_ENABLE (R68): MG0 and MG1 begin their links, Wonel is served, and restored outputs are armed at the end of phase 10. -/
def execWonelEnable (s : State) : Host.Outcome State Fault Refusal :=
  .next (if s.boot.phase ≠ .enable then s
    else
      let s1 := { s with boot := { s.boot with phase := .service } }.put Obj.LCY_START_TIME ((s.now - s.boot.clock0) / 800)
      let s2 := (upTo 16).foldl (fun (a : State) t => a.armRestored t) ((s1.mgBegin 0).mgBegin 1)
      (s2.safeFor s2.boot.railFault).safeFor s2.boot.selfTestFail)

end Sys2Proof.Machine
end

