-- ==== Sys2Proof/Machine/Dispatch.lean ====
section
/-! DEFINITION. The effect of each command: one arm per row of the table of operations and events. -/

namespace Sys2Proof.Machine
open Sys2Proof

/-- The effect of a command on everything but the queue. -/
def exec (i : Instr) (s : State) : Host.Outcome State Fault Refusal :=
  match i with
  | .resetNAsserted ns => Sys2Proof.Machine.execResetNAsserted ns s
  | .resetNRelease s0 s1 s2 act0 act1 => Sys2Proof.Machine.execResetNRelease s0 s1 s2 act0 act1 s
  | .referenceAppears r => Sys2Proof.Machine.execReferenceAppears r s
  | .supplyLoss vio => Sys2Proof.Machine.execSupplyLoss vio s
  | .supplyValid resetHigh s0 s1 s2 act0 act1 => Sys2Proof.Machine.execSupplyValid resetHigh s0 s1 s2 act0 act1 s
  | .rootPllLock => Sys2Proof.Machine.execRootPllLock s
  | .railPoll rail vout status => Sys2Proof.Machine.execRailPoll rail vout status s
  | .railDeadline rail => Sys2Proof.Machine.execRailDeadline rail s
  | .storeRead badLanes => Sys2Proof.Machine.execStoreRead badLanes s
  | .dieLinkTraining bad closed skew => Sys2Proof.Machine.execDieLinkTraining bad closed skew s
  | .galleySelfTest weak bad checker us => Sys2Proof.Machine.execGalleySelfTest weak bad checker us s
  | .wipe ns => Sys2Proof.Machine.execWipe ns s
  | .patchLoad flash => Sys2Proof.Machine.execPatchLoad flash s
  | .dictionaryRestore => Sys2Proof.Machine.execDictionaryRestore s
  | .wonelEnable => Sys2Proof.Machine.execWonelEnable s
  | .referenceAbsent r => Sys2Proof.Machine.execReferenceAbsent r s
  | .referenceMonitorWindow r ppm => Sys2Proof.Machine.execReferenceMonitorWindow r ppm s
  | .revertiveSwitch => Sys2Proof.Machine.execRevertiveSwitch s
  | .lcySoftReset => Sys2Proof.Machine.execLcySoftReset s
  | .softReset => Sys2Proof.Machine.execSoftReset s
  | .lcyPsCommit => Sys2Proof.Machine.execLcyPsCommit s
  | .commitHoldExpiry => Sys2Proof.Machine.execCommitHoldExpiry s
  | .commitComplete flashOk => Sys2Proof.Machine.execCommitComplete flashOk s
  | .lcyTransition => Sys2Proof.Machine.execLcyTransition s
  | .transitionFinish => Sys2Proof.Machine.execTransitionFinish s
  | .wonelFrameRx way frame => Sys2Proof.Machine.execWonelFrameRx way frame s
  | .arpRequest way frame => Sys2Proof.Machine.execArpRequest way frame s
  | .mgFrameDropped mg frame => Sys2Proof.Machine.execMgFrameDropped mg frame s
  | .mgFecCycle mg => Sys2Proof.Machine.execMgFecCycle mg s
  | .mgLinkChange mg up => Sys2Proof.Machine.execMgLinkChange mg up s
  | .sessionIdleTimeout s_ => Sys2Proof.Machine.execSessionIdleTimeout s_ s
  | .hello => Sys2Proof.Machine.execHello s
  | .bye => Sys2Proof.Machine.execBye s
  | .read => Sys2Proof.Machine.execRead s
  | .write => Sys2Proof.Machine.execWrite s
  | .readMulti => Sys2Proof.Machine.execReadMulti s
  | .writeMulti => Sys2Proof.Machine.execWriteMulti s
  | .bulkRead => Sys2Proof.Machine.execBulkRead s
  | .bulkWrite => Sys2Proof.Machine.execBulkWrite s
  | .start => Sys2Proof.Machine.execStart s
  | .abort => Sys2Proof.Machine.execAbort s
  | .kceInstall => Sys2Proof.Machine.execKceInstall s
  | .kceEmpty => Sys2Proof.Machine.execKceEmpty s
  | .kcePageHoldExpiry page => Sys2Proof.Machine.execKcePageHoldExpiry page s
  | .kceMessage level page handle data expect => Sys2Proof.Machine.execKceMessage level page handle data expect s
  | .kceSuspend blocks => Sys2Proof.Machine.execKceSuspend blocks s
  | .kceMessageDone => Sys2Proof.Machine.execKceMessageDone s
  | .ceilingRaiseWritten page usage => Sys2Proof.Machine.execCeilingRaiseWritten page usage s
  | .kceUncorrectable page slot => Sys2Proof.Machine.execKceUncorrectable page slot s
  | .signalDetect lane => Sys2Proof.Machine.execSignalDetect lane s
  | .adaptationComplete lane ctle snr => Sys2Proof.Machine.execAdaptationComplete lane ctle snr s
  | .continuousAdaptation lane ctle snr stepFs => Sys2Proof.Machine.execContinuousAdaptation lane ctle snr stepFs s
  | .linkTrainingRetry lane => Sys2Proof.Machine.execLinkTrainingRetry lane s
  | .cdrLock lane => Sys2Proof.Machine.execCdrLock lane s
  | .cdrLockLoss lane => Sys2Proof.Machine.execCdrLockLoss lane s
  | .ppmUpdate lane ppm steps => Sys2Proof.Machine.execPpmUpdate lane ppm steps s
  | .alignmentLoss port skewPs => Sys2Proof.Machine.execAlignmentLoss port skewPs s
  | .prbsLockChange lane lock bits errors => Sys2Proof.Machine.execPrbsLockChange lane lock bits errors s
  | .laneFailure lane cause => Sys2Proof.Machine.execLaneFailure lane cause s
  | .lnAdapt => Sys2Proof.Machine.execLnAdapt s
  | .lnEyeRun => Sys2Proof.Machine.execLnEyeRun s
  | .eyeScanPointComplete lane errors => Sys2Proof.Machine.execEyeScanPointComplete lane errors s
  | .lnRelease gone => Sys2Proof.Machine.execLnRelease gone s
  | .dieLinkSlotRx q dir lane own slot => Sys2Proof.Machine.execDieLinkSlotRx q dir lane own slot s
  | .controlCellResend q dir cell ok => Sys2Proof.Machine.execControlCellResend q dir cell ok s
  | .marginMeasure q dir lane margin => Sys2Proof.Machine.execMarginMeasure q dir lane margin s
  | .repairSpareChoice q => Sys2Proof.Machine.execRepairSpareChoice q s
  | .mirrorStart q => Sys2Proof.Machine.execMirrorStart q s
  | .mirrorSwitch q => Sys2Proof.Machine.execMirrorSwitch q s
  | .repairStopSlot q => Sys2Proof.Machine.execRepairStopSlot q s
  | .qdRepair => Sys2Proof.Machine.execQdRepair s
  | .portUp port => Sys2Proof.Machine.execPortUp port s
  | .portDown port => Sys2Proof.Machine.execPortDown port s
  | .flushComplete port => Sys2Proof.Machine.execFlushComplete port s
  | .frameRx port frame pcsErr ts => Sys2Proof.Machine.execFrameRx port frame pcsErr ts s
  | .pauseFrameRx port => Sys2Proof.Machine.execPauseFrameRx port s
  | .pauseTimerExpiry port timer => Sys2Proof.Machine.execPauseTimerExpiry port timer s
  | .pauseRefresh port => Sys2Proof.Machine.execPauseRefresh port s
  | .losslessRefusalCheck port => Sys2Proof.Machine.execLosslessRefusalCheck port s
  | .lpiEntry port => Sys2Proof.Machine.execLpiEntry port s
  | .lpiWakeComplete port => Sys2Proof.Machine.execLpiWakeComplete port s
  | .lldpSend port => Sys2Proof.Machine.execLldpSend port s
  | .lldpRx port => Sys2Proof.Machine.execLldpRx port s
  | .lldpTimeout port => Sys2Proof.Machine.execLldpTimeout port s
  | .largeSend record template payload => Sys2Proof.Machine.execLargeSend record template payload s
  | .ingressPipeline port => Sys2Proof.Machine.execIngressPipeline port s
  | .growthRequest port => Sys2Proof.Machine.execGrowthRequest port s
  | .hankRefill case hank => Sys2Proof.Machine.execHankRefill case hank s
  | .frameTailWritten port => Sys2Proof.Machine.execFrameTailWritten port s
  | .dequeue port => Sys2Proof.Machine.execDequeue port s
  | .frameTransmit port ts => Sys2Proof.Machine.execFrameTransmit port ts s
  | .transmitComplete port => Sys2Proof.Machine.execTransmitComplete port s
  | .shaperRefill => Sys2Proof.Machine.execShaperRefill s
  | .queueSampleSweep => Sys2Proof.Machine.execQueueSampleSweep s
  | .multicastReplication => Sys2Proof.Machine.execMulticastReplication s
  | .ringInject pipe => Sys2Proof.Machine.execRingInject pipe s
  | .ringMessageArrival pipe damaged => Sys2Proof.Machine.execRingMessageArrival pipe damaged s
  | .agerVisit pipe => Sys2Proof.Machine.execAgerVisit pipe s
  | .tblStaticAdd => Sys2Proof.Machine.execTblStaticAdd s
  | .tblDelete => Sys2Proof.Machine.execTblDelete s
  | .tblFlush => Sys2Proof.Machine.execTblFlush s
  | .tblLpmApply => Sys2Proof.Machine.execTblLpmApply s
  | .lpmRecordComplete => Sys2Proof.Machine.execLpmRecordComplete s
  | .entryRestoration chase table entry => Sys2Proof.Machine.execEntryRestoration chase table entry s
  | .lpmShadowRewrite chase slot => Sys2Proof.Machine.execLpmShadowRewrite chase slot s
  | .chsLpmSpareIn => Sys2Proof.Machine.execChsLpmSpareIn s
  | .lpmSpareSwitch chase => Sys2Proof.Machine.execLpmSpareSwitch chase s
  | .galCarveApply => Sys2Proof.Machine.execGalCarveApply s
  | .galRemap => Sys2Proof.Machine.execGalRemap s
  | .bankRemapSwitch => Sys2Proof.Machine.execBankRemapSwitch s
  | .writeBack kind inst addr => Sys2Proof.Machine.execWriteBack kind inst addr s
  | .scrubRead kind inst flips => Sys2Proof.Machine.execScrubRead kind inst flips s
  | .plnCheck => Sys2Proof.Machine.execPlnCheck s
  | .plnInstall => Sys2Proof.Machine.execPlnInstall s
  | .plnSwitch => Sys2Proof.Machine.execPlnSwitch s
  | .ingressBankSwitch => Sys2Proof.Machine.execIngressBankSwitch s
  | .egressBankSwitch => Sys2Proof.Machine.execEgressBankSwitch s
  | .proofCapture sampler => Sys2Proof.Machine.execProofCapture sampler s
  | .proofBatchClose => Sys2Proof.Machine.execProofBatchClose s
  | .exportSend channel => Sys2Proof.Machine.execExportSend channel s
  | .pmcSnap => Sys2Proof.Machine.execPmcSnap s
  | .periodicSnapshot => Sys2Proof.Machine.execPeriodicSnapshot s
  | .snapshotCapture => Sys2Proof.Machine.execSnapshotCapture s
  | .pmcBClear => Sys2Proof.Machine.execPmcBClear s
  | .ctrClear => Sys2Proof.Machine.execCtrClear s
  | .tciEdge pin rising fine => Sys2Proof.Machine.execTciEdge pin rising fine s
  | .tpoRisingEdge pin => Sys2Proof.Machine.execTpoRisingEdge pin s
  | .tpoFallingEdge pin => Sys2Proof.Machine.execTpoFallingEdge pin s
  | .spliceEnd => Sys2Proof.Machine.execSpliceEnd s
  | .servoMeasurement domain offset => Sys2Proof.Machine.execServoMeasurement domain offset s
  | .tciSourceTimeout domain => Sys2Proof.Machine.execTciSourceTimeout domain s
  | .ptpMasterLost domain => Sys2Proof.Machine.execPtpMasterLost domain s
  | .ptpMessageTerminated inst => Sys2Proof.Machine.execPtpMessageTerminated inst s
  | .ptpMessageSend inst port kind => Sys2Proof.Machine.execPtpMessageSend inst port kind s
  | .unicastGrantRenewal inst => Sys2Proof.Machine.execUnicastGrantRenewal inst s
  | .authDeparture port => Sys2Proof.Machine.execAuthDeparture port s
  | .seqNext => Sys2Proof.Machine.execSeqNext s
  | .seqJump => Sys2Proof.Machine.execSeqJump s
  | .seqBrt => Sys2Proof.Machine.execSeqBrt s
  | .seqBrf => Sys2Proof.Machine.execSeqBrf s
  | .seqCall => Sys2Proof.Machine.execSeqCall s
  | .seqRet => Sys2Proof.Machine.execSeqRet s
  | .seqLoop => Sys2Proof.Machine.execSeqLoop s
  | .seqWait => Sys2Proof.Machine.execSeqWait s
  | .seqDisp => Sys2Proof.Machine.execSeqDisp s
  | .seqEnd => Sys2Proof.Machine.execSeqEnd s
  | .contextWake ctx => Sys2Proof.Machine.execContextWake ctx s
  | .netReadResponse ctx value => Sys2Proof.Machine.execNetReadResponse ctx value s
  | .contextTimerExpiry ctx => Sys2Proof.Machine.execContextTimerExpiry ctx s
  | .fetchUncorrectable patch => Sys2Proof.Machine.execFetchUncorrectable patch s
  | .cmpPatchCheck => Sys2Proof.Machine.execCmpPatchCheck s
  | .cmpPatchActivate => Sys2Proof.Machine.execCmpPatchActivate s
  | .patchHaltLoad => Sys2Proof.Machine.execPatchHaltLoad s
  | .cmpPatchRemove => Sys2Proof.Machine.execCmpPatchRemove s
  | .faultEvent source cause tile detail failure => Sys2Proof.Machine.execFaultEvent source cause tile detail failure s
  | .reactionTimerExpiry source => Sys2Proof.Machine.execReactionTimerExpiry source s
  | .rungNotBegun source => Sys2Proof.Machine.execRungNotBegun source s
  | .fltClear => Sys2Proof.Machine.execFltClear s
  | .fltSafeEnter => Sys2Proof.Machine.execFltSafeEnter s
  | .fltInjArm => Sys2Proof.Machine.execFltInjArm s
  | .fltDiagWrite => Sys2Proof.Machine.execFltDiagWrite s
  | .fltDiagRead => Sys2Proof.Machine.execFltDiagRead s
  | .regulatorPoll rail vout iout status => Sys2Proof.Machine.execRegulatorPoll rail vout iout status s
  | .pmbAlert status => Sys2Proof.Machine.execPmbAlert status s
  | .pmbusTransactionFailure rail => Sys2Proof.Machine.execPmbusTransactionFailure rail s
  | .pmbusRetry rail ok => Sys2Proof.Machine.execPmbusRetry rail ok s
  | .railDroop rail ns => Sys2Proof.Machine.execRailDroop rail ns s
  | .avsLoop margin => Sys2Proof.Machine.execAvsLoop margin s
  | .sensorRead sensor temp => Sys2Proof.Machine.execSensorRead sensor temp s
  | .thermalTrip sensor => Sys2Proof.Machine.execThermalTrip sensor s
  | .pwrShutdown => Sys2Proof.Machine.execPwrShutdown s
  | .signalLoss lane => Sys2Proof.Machine.execSignalLoss lane s
  | .pcsLockAcquired port => Sys2Proof.Machine.execPcsLockAcquired port s
  | .linkFaultRx port fault => Sys2Proof.Machine.execLinkFaultRx port fault s
  | .dieLinkLockLoss q dir lane whole => Sys2Proof.Machine.execDieLinkLockLoss q dir lane whole s
  | .linkTrainingEnd lane ok taps => Sys2Proof.Machine.execLinkTrainingEnd lane ok taps s
  | .lpiRxChange port lpi => Sys2Proof.Machine.execLpiRxChange port lpi s
  | .keyRingEntryFree page usage => Sys2Proof.Machine.execKeyRingEntryFree page usage s
  | .regulatorFaultReread rail status => Sys2Proof.Machine.execRegulatorFaultReread rail status s

end Sys2Proof.Machine
end

