-- ==== Sys2Proof/Machine/Tick.lean ====
section
/-! DEFINITION. A clock of 1.25 ns with no command: what the hardware does by itself in it (DESIGN CHOICE, notes/assumptions/1). -/

namespace Sys2Proof.Machine
open Sys2Proof

/-- Posted writes of the control network are acknowledged (R441). -/
def State.ackWrites (s : State) : State :=
  { s with cmp := { s.cmp with ctxs := s.cmp.ctxs.map fun (x : Ctx) => { x with netWrites := 0 } } }

/-- One clock: counters of occupancy add, frames that wait for the galley and the receive queue move on, posted writes are acknowledged, and
waiting contexts become ready (R58, R234, R331, R377, R434, R441). -/
def tick (s : State) : State :=
  let s1 := { s.ctrTick with now := s.now + 1 }
  let s2 := if s1.cmp.sends.isEmpty then s1 else s1.drainSends s1.cmp.sends
  s2.cmpConsume.ackWrites.readyCtxs

end Sys2Proof.Machine
end

