-- ==== Sys2Proof/Safety.lean ====
section
/-! DEFINITION. The terms of the statements: the parts of the state, frames over them, the well-formed state, and a request at its turn. -/

namespace Sys2Proof.Machine
open Sys2Proof

/-! ### Parts and frames -/

/-- The parts of the state, one for each group of registers, memories and queues that a chapter gives the block. -/
inductive Part where
  | now | boot | store | wonel | kce | flt | power | lanes | links | pipes | galley | sched | ports | tables | telem | tim | ptp | cmp | mem
  | dict | busy | out | fresh | pending
deriving DecidableEq, Repr

/-- A part is the same in two states. -/
def Part.same (p : Part) (s t : State) : Prop :=
  match p with
  | .now => t.now = s.now
  | .boot => t.boot = s.boot
  | .store => t.store = s.store
  | .wonel => t.wonel = s.wonel
  | .kce => t.kce = s.kce
  | .flt => t.flt = s.flt
  | .power => t.power = s.power
  | .lanes => t.lanes = s.lanes
  | .links => t.links = s.links
  | .pipes => t.pipes = s.pipes
  | .galley => t.galley = s.galley
  | .sched => t.sched = s.sched
  | .ports => t.ports = s.ports
  | .tables => t.tables = s.tables
  | .telem => t.telem = s.telem
  | .tim => t.tim = s.tim
  | .ptp => t.ptp = s.ptp
  | .cmp => t.cmp = s.cmp
  | .mem => t.mem = s.mem
  | .dict => t.dict = s.dict
  | .busy => t.busy = s.busy
  | .out => t.out = s.out
  | .fresh => t.fresh = s.fresh
  | .pending => t.pending = s.pending

/-- The frame of a change: every part outside a list is as it was. -/
def unchangedBut (l : List Part) (s t : State) : Prop := ∀ p, p ∉ l → p.same s t

/-- The frame of a change of the dictionary: every object outside a list reads as it did. -/
def objectsBut (l : List Nat) (s t : State) : Prop := ∀ k, k ∉ l → t.get k = s.get k

/-! ### What a command may change -/

/-- Every part but the clock and the queue: what a reset, or a request of Wonel, may change. -/
def everyPart : List Part :=
  [.boot, .store, .wonel, .kce, .flt, .power, .lanes, .links, .pipes, .galley, .sched, .ports, .tables, .telem, .tim, .ptp, .cmp, .mem, .dict, .busy, .out, .fresh]

/-- The parts that the ladder of reactions to a fault may change (R480 to R486), with what attends it: attention bits, repairs, outputs. -/
def reaction : List Part := [.wonel, .flt, .links, .galley, .tables, .tim, .cmp, .dict, .out, .fresh]

/-- A read of a memory under its code: a reaction, and the memory's records (R457 to R470). -/
def coded : List Part := reaction ++ [.mem, .busy]

/-- A frame that moves: reads under codes, queues, ports and counter sets. -/
def traffic : List Part := coded ++ [.sched, .ports, .telem]

/-- The parts of the state that a command may change; every other part it leaves as it is. -/
def partsOf : Instr → List Part
  | .resetNAsserted .. | .supplyLoss .. | .lcySoftReset | .softReset | .lcyPsCommit | .lcyTransition | .transitionFinish | .wonelFrameRx ..
  | .hello | .bye | .read | .write | .readMulti | .writeMulti | .bulkRead | .bulkWrite | .start | .abort | .kceInstall | .kceEmpty
  | .lnAdapt | .lnEyeRun | .lnRelease .. | .qdRepair | .tblStaticAdd | .tblDelete | .tblFlush | .tblLpmApply | .chsLpmSpareIn
  | .galCarveApply | .galRemap | .plnCheck | .plnInstall | .plnSwitch | .pmcSnap | .pmcBClear | .ctrClear | .cmpPatchCheck
  | .cmpPatchActivate | .cmpPatchRemove | .fltClear | .fltSafeEnter | .fltInjArm | .fltDiagWrite | .fltDiagRead | .pwrShutdown => everyPart
  | .resetNRelease .. | .referenceAppears .. | .supplyValid .. => [.boot]
  | .rootPllLock => [.boot, .power, .dict]
  | .railPoll .. | .railDeadline .. | .pmbusTransactionFailure .. | .pmbusRetry .. => reaction ++ [.boot, .power]
  | .storeRead .. | .patchLoad .. => reaction ++ [.boot, .store, .kce]
  | .dieLinkTraining .. | .wonelEnable | .referenceAbsent .. | .referenceMonitorWindow .. | .revertiveSwitch => reaction ++ [.boot]
  | .galleySelfTest .. => [.boot, .galley, .dict, .fresh]
  | .wipe .. => [.boot, .telem, .mem, .dict]
  | .dictionaryRestore => traffic ++ [.boot, .lanes, .pipes, .ptp]
  | .commitHoldExpiry => [.store, .dict]
  | .commitComplete .. => reaction ++ [.store, .busy]
  | .arpRequest .. | .dieLinkSlotRx .. | .lldpSend .. | .largeSend .. | .ingressPipeline .. | .growthRequest .. | .dequeue ..
  | .transmitComplete .. | .multicastReplication | .scrubRead .. | .exportSend .. => traffic
  | .mgFrameDropped .. | .prbsLockChange .. | .lldpTimeout .. => [.dict]
  | .mgFecCycle .. | .mgLinkChange .. | .sessionIdleTimeout .. => [.wonel]
  | .kcePageHoldExpiry .. => [.kce]
  | .kceMessage .. | .kceSuspend .. => [.kce, .dict]
  | .kceMessageDone | .ceilingRaiseWritten .. | .keyRingEntryFree .. => reaction ++ [.store, .kce]
  | .kceUncorrectable .. => reaction ++ [.kce]
  | .signalDetect .. | .cdrLockLoss .. | .signalLoss .. => [.lanes, .ports, .dict, .busy]
  | .adaptationComplete .. | .eyeScanPointComplete .. => [.lanes, .dict, .busy]
  | .continuousAdaptation .. => [.lanes, .telem, .dict]
  | .linkTrainingRetry .. => [.lanes]
  | .cdrLock .. | .alignmentLoss .. => [.lanes, .ports, .dict]
  | .ppmUpdate .. => reaction ++ [.lanes, .ports, .busy]
  | .laneFailure .. | .portDown .. | .flushComplete .. | .dieLinkLockLoss .. => traffic ++ [.lanes, .ptp]
  | .controlCellResend .. => [.links, .telem]
  | .marginMeasure .. | .fetchUncorrectable .. | .faultEvent .. | .rungNotBegun .. => reaction
  | .repairSpareChoice .. => [.wonel, .flt, .links, .tim, .dict, .busy, .out]
  | .mirrorStart .. | .mirrorSwitch .. => [.links]
  | .repairStopSlot .. => reaction ++ [.busy]
  | .portUp .. => [.wonel, .lanes, .ports, .ptp, .dict]
  | .frameRx .. => reaction ++ [.store, .kce, .ports, .telem]
  | .pauseFrameRx .. | .pauseTimerExpiry .. => [.sched, .ports]
  | .pauseRefresh .. | .losslessRefusalCheck .. | .lpiEntry .. | .lpiWakeComplete .. => [.ports, .dict, .out]
  | .lldpRx .. | .lpiRxChange .. => [.ports, .dict]
  | .hankRefill .. | .ringMessageArrival .. | .agerVisit .. | .entryRestoration .. | .lpmShadowRewrite .. | .lpmSpareSwitch ..
  | .bankRemapSwitch => coded
  | .frameTailWritten .. | .ptpMessageTerminated .. | .ptpMessageSend .. | .unicastGrantRenewal .. => traffic ++ [.ptp]
  | .frameTransmit .. | .authDeparture .. => traffic ++ [.kce, .ptp]
  | .shaperRefill => coded ++ [.sched]
  | .queueSampleSweep => [.sched, .telem, .dict]
  | .ringInject .. => [.tables, .telem, .dict]
  | .lpmRecordComplete => [.tables, .mem, .dict, .busy]
  | .writeBack .. => [.wonel, .flt, .galley, .mem, .dict]
  | .ingressBankSwitch | .egressBankSwitch => [.pipes, .dict, .busy]
  | .proofCapture .. => coded ++ [.ports, .telem]
  | .proofBatchClose => [.telem]
  | .periodicSnapshot => [.telem, .dict]
  | .snapshotCapture => [.telem, .dict, .busy]
  | .tciEdge .. => [.wonel, .tim, .ptp, .cmp, .dict, .fresh]
  | .tpoRisingEdge .. | .tpoFallingEdge .. => [.tim, .dict, .out]
  | .spliceEnd => [.wonel, .tim, .dict]
  | .servoMeasurement .. => [.wonel, .flt, .tim, .ptp, .cmp, .dict, .fresh]
  | .tciSourceTimeout .. => [.wonel, .flt, .tim, .dict]
  | .ptpMasterLost .. => [.wonel, .flt, .tim, .ptp, .dict]
  | .seqNext | .seqJump | .seqBrt | .seqBrf | .seqCall | .seqRet | .seqLoop | .seqWait | .seqDisp | .seqEnd => coded ++ [.telem]
  | .contextWake .. => [.cmp, .dict]
  | .netReadResponse .. | .contextTimerExpiry .. => [.cmp]
  | .patchHaltLoad => [.wonel, .flt, .links, .galley, .tables, .tim, .cmp, .mem, .dict, .busy, .out]
  | .reactionTimerExpiry .. => [.wonel, .flt, .links, .galley, .tables, .tim, .dict, .out]
  | .regulatorPoll .. | .pmbAlert .. | .railDroop .. | .avsLoop .. | .sensorRead .. | .regulatorFaultReread .. => reaction ++ [.power]
  | .thermalTrip .. => [.store, .flt, .power, .tim, .dict, .out]
  | .pcsLockAcquired .. => [.lanes, .ports]
  | .linkFaultRx .. => [.ports]
  | .linkTrainingEnd .. => [.lanes, .dict]

/-! ### The objects that a command may change -/

/-- Families of dictionary objects: each by its number or numbers (a port, a queue, a quoin …); one that stands alone takes none. -/
abbrev Objects : Type := List (Nat → Nat → Nat)

/-- An object belongs to one of the families. -/
def Objects.covers (o : Objects) (k : Nat) : Prop := ∃ f ∈ o, ∃ i j, k = f i j

/-- The objects that the ladder of reactions to a fault may change (R480 to R486, R489, R492). -/
def reactionObjects : Objects :=
  [fun _ _ => Obj.ID_SAFE_CAUSE, fun i _ => Obj.QD_OCTETS_SHED i, fun _ _ => Obj.FLT_STATE, fun _ _ => Obj.FLT_EVENT_LOST,
    fun _ _ => Obj.FLT_EVENTS, fun _ _ => Obj.FLT_RUNGS]

/-- The objects that a read of a memory under its code may change (R457 to R470, R490). -/
def codedObjects : Objects := reactionObjects ++
  [fun i _ => Obj.TBL_LRN_UNCORR i, fun i _ => Obj.CHS_LABEL_CE i, fun i _ => Obj.CHS_LABEL_UE i, fun i _ => Obj.CHS_NH_CE i,
    fun i _ => Obj.CHS_NH_UE i, fun i _ => Obj.CHS_LPM_PARITY i, fun i _ => Obj.CHS_LPM_MISMATCH i, fun _ _ => Obj.CMP_FETCH_CE,
    fun _ _ => Obj.CMP_FETCH_UE, fun i _ => Obj.FLT_MI_CE i, fun i _ => Obj.FLT_MI_UE i, fun i _ => Obj.FLT_MI_LAST i, fun _ _ => Obj.FLT_INJ_ARM,
    fun _ _ => Obj.FLT_INJ_LEFT, fun _ _ => Obj.FLT_INJ_DONE, fun _ _ => Obj.FLT_INJ_COINCIDENT]

/-- The objects that taking and returning buffers of the galley may change (R320 to R327). -/
def bufferObjects : Objects := codedObjects ++
  [fun _ _ => Obj.GAL_PTR_FAULTS, fun _ _ => Obj.GAL_QUAR_LAST, fun _ _ => Obj.GAL_QUARANTINED, fun _ _ => Obj.GAL_LOST,
    fun _ _ => Obj.FLT_DIAG_LOGGED]

/-- The dictionary objects that a command may change; every other object reads after it as it did before. None stands for a command that may
change any: a reset, a request of Wonel, what start-up restores, and what a routine's microcode may name. -/
def objectsOf : Instr → Option Objects
  | .resetNAsserted .. | .supplyLoss .. | .storeRead .. | .dictionaryRestore | .lcySoftReset | .softReset | .lcyPsCommit | .lcyTransition
  | .transitionFinish | .wonelFrameRx .. | .hello | .bye | .read | .write | .readMulti | .writeMulti | .bulkRead | .bulkWrite | .start
  | .abort | .kceInstall | .kceEmpty | .lnAdapt | .lnEyeRun | .lnRelease .. | .qdRepair | .frameRx .. | .tblStaticAdd | .tblDelete
  | .tblFlush | .tblLpmApply | .lpmRecordComplete | .chsLpmSpareIn | .galCarveApply | .galRemap | .plnCheck | .plnInstall | .plnSwitch
  | .pmcSnap | .pmcBClear | .ctrClear | .seqNext | .seqJump | .seqBrt | .seqBrf | .seqCall | .seqRet | .seqLoop | .seqWait | .seqDisp
  | .seqEnd | .cmpPatchCheck | .cmpPatchActivate | .cmpPatchRemove | .fltClear | .fltSafeEnter | .fltInjArm | .fltDiagWrite | .fltDiagRead
  | .pwrShutdown => none
  | .resetNRelease .. | .referenceAppears .. | .supplyValid .. | .mgFecCycle .. | .mgLinkChange .. | .sessionIdleTimeout ..
  | .kcePageHoldExpiry .. | .linkTrainingRetry .. | .controlCellResend .. | .mirrorStart .. | .mirrorSwitch .. | .pauseFrameRx ..
  | .pauseTimerExpiry .. | .proofBatchClose | .netReadResponse .. | .contextTimerExpiry .. | .pcsLockAcquired .. | .linkFaultRx .. => some []
  | .rootPllLock => some
      ([fun _ _ => Obj.PWR_STATE] : Objects)
  | .railPoll .. => some (reactionObjects ++
      ([fun _ _ => Obj.PWR_STATE, fun i _ => Obj.PWR_R_STATUS i] : Objects))
  | .railDeadline .. => some (reactionObjects ++
      ([fun _ _ => Obj.PWR_STATE] : Objects))
  | .dieLinkTraining .. => some (reactionObjects ++
      ([fun i _ => Obj.QD_REPAIRS i, fun i _ => Obj.QD_LAST_REPAIR i, fun i _ => Obj.QD_LAST_REPAIR_TIME i, fun i _ => Obj.QD_SKEW_MAX i,
        fun _ _ => Obj.TIM_REPLICA_VALID] : Objects))
  | .galleySelfTest .. => some
      ([fun _ _ => Obj.GAL_LAST_REMAP, fun _ _ => Obj.FLT_BIST_RESULT, fun _ _ => Obj.FLT_BIST_REMAPPED, fun _ _ => Obj.FLT_BIST_WEAK,
        fun _ _ => Obj.FLT_BIST_TIME, fun _ _ => Obj.FLT_BIST_FIRST_FAIL] : Objects)
  | .wipe .. => some
      ([fun _ _ => Obj.LCY_WIPE_STATE, fun _ _ => Obj.LCY_WIPE_TIME, fun _ _ => Obj.TBL_HASH_SEED_ACTIVE, fun i _ => Obj.CMP_P_RUN i,
        fun i _ => Obj.CMP_P_STATE i, fun i _ => Obj.CMP_P_DONE i, fun i _ => Obj.CMP_P_TOTAL i, fun i _ => Obj.CMP_P_RESTART i,
        fun i _ => Obj.PWR_S_MAX i] : Objects)
  | .patchLoad .. => some (reactionObjects ++
      ([fun _ _ => Obj.LCY_PS_WEAR, fun _ _ => Obj.KCE_BLOCKS, fun _ _ => Obj.KCE_MESSAGES, fun _ _ => Obj.CMP_PATCH_ID, fun _ _ => Obj.CMP_PATCH_SEGS,
        fun _ _ => Obj.CMP_PATCH_MAPS] : Objects))
  | .wonelEnable => some (reactionObjects ++
      ([fun _ _ => Obj.LCY_START_TIME, fun i _ => Obj.TIM_TPO_MODE i, fun i _ => Obj.TIM_TPO_STATE i] : Objects))
  | .referenceAbsent .. | .referenceMonitorWindow .. | .revertiveSwitch => some (reactionObjects ++
      ([fun _ _ => Obj.CLK_REF_SWITCHES] : Objects))
  | .commitHoldExpiry => some
      ([fun i _ => Obj.CMP_P_RUN i, fun i _ => Obj.CMP_P_STATE i, fun i _ => Obj.CMP_P_DONE i, fun i _ => Obj.CMP_P_TOTAL i,
        fun i _ => Obj.CMP_P_RESTART i] : Objects)
  | .commitComplete .. => some (reactionObjects ++
      ([fun _ _ => Obj.LCY_PS_BANK, fun _ _ => Obj.LCY_PS_GENERATION, fun _ _ => Obj.LCY_PS_COMMIT, fun _ _ => Obj.LCY_PS_WEAR,
        fun i _ => Obj.CMP_P_RUN i, fun i _ => Obj.CMP_P_STATE i, fun i _ => Obj.CMP_P_DONE i, fun i _ => Obj.CMP_P_TOTAL i,
        fun i _ => Obj.CMP_P_RESTART i] : Objects))
  | .arpRequest .. => some (bufferObjects ++
      ([fun _ _ => Obj.SES_RX_DROPPED, fun i _ => Obj.GAL_C_FREE_MIN i, fun i _ => Obj.GAL_C_GRANTS i, fun i _ => Obj.GAL_C_REFUSED i,
        fun i _ => Obj.GAL_C_FALLBACKS i, fun i j => Obj.Q_ENQ i j, fun i j => Obj.Q_TAIL_DROPS i j, fun i _ => Obj.CTR_TX_FRAMES i,
        fun i _ => Obj.CTR_TX_OCTETS i, fun i _ => Obj.CTR_TX_PAUSE i, fun i _ => Obj.CTR_TX_FLUSHED i, fun i _ => Obj.CTR_TX_LSO_SEGMENTS i,
        fun i _ => Obj.CTR_LPI_TX_US i] : Objects))
  | .mgFrameDropped .. => some
      ([fun _ _ => Obj.SES_RX_DROPPED] : Objects)
  | .kceMessage .. | .kceSuspend .. => some
      ([fun _ _ => Obj.KCE_L0_WAIT_MAX, fun _ _ => Obj.KCE_REFUSED] : Objects)
  | .kceMessageDone => some (reactionObjects ++
      ([fun _ _ => Obj.LCY_PS_WEAR, fun _ _ => Obj.KCE_BLOCKS, fun _ _ => Obj.KCE_MESSAGES, fun _ _ => Obj.KCE_L0_WAIT_MAX, fun _ _ => Obj.KCE_REFUSED] : Objects))
  | .ceilingRaiseWritten .. | .keyRingEntryFree .. => some (reactionObjects ++
      ([fun _ _ => Obj.LCY_PS_WEAR] : Objects))
  | .kceUncorrectable .. => some (reactionObjects ++
      ([fun _ _ => Obj.KCE_L0_WAIT_MAX, fun _ _ => Obj.KCE_REFUSED] : Objects))
  | .signalDetect .. | .signalLoss .. => some
      ([fun i _ => Obj.LN_ADAPT i, fun i _ => Obj.LN_EYE_RUN i, fun i _ => Obj.LN_EYE_RESULT i] : Objects)
  | .adaptationComplete .. => some
      ([fun i _ => Obj.LN_RX_CTLE i, fun i _ => Obj.LN_RX_SNR i, fun i _ => Obj.LN_ADAPT i] : Objects)
  | .continuousAdaptation .. => some
      ([fun i _ => Obj.LN_RX_CTLE i, fun i _ => Obj.LN_RX_SNR i] : Objects)
  | .cdrLock .. => some
      ([fun i _ => Obj.LN_CDR_PHASE i] : Objects)
  | .cdrLockLoss .. => some
      ([fun i _ => Obj.LN_EYE_RUN i, fun i _ => Obj.LN_EYE_RESULT i] : Objects)
  | .ppmUpdate .. => some (reactionObjects ++
      ([fun i _ => Obj.LN_CDR_PHASE i, fun i _ => Obj.LN_RX_PPM i, fun i _ => Obj.LN_EYE_RUN i, fun i _ => Obj.LN_EYE_RESULT i] : Objects))
  | .alignmentLoss .. => some
      ([fun i _ => Obj.LN_FLAPS i] : Objects)
  | .prbsLockChange .. => some
      ([fun i _ => Obj.LN_PRBS_LOCK i, fun i _ => Obj.LN_PRBS_BITS i, fun i _ => Obj.LN_PRBS_ERRORS i] : Objects)
  | .laneFailure .. => some (bufferObjects ++
      ([fun i _ => Obj.LN_ADAPT i, fun i _ => Obj.LN_EYE_RUN i, fun i _ => Obj.LN_EYE_RESULT i, fun i _ => Obj.PT_LINK_CHANGES i,
        fun i _ => Obj.TBL_LRN_INSTALLS i, fun _ _ => Obj.GAL_CT_BAD, fun i _ => Obj.Q_FLUSH_STATE i, fun i _ => Obj.CTR_RX_ABORTED i,
        fun i _ => Obj.CTR_TX_FRAMES i, fun i _ => Obj.CTR_TX_OCTETS i, fun i _ => Obj.CTR_TX_PAUSE i, fun i _ => Obj.CTR_TX_FLUSHED i,
        fun i _ => Obj.CTR_TX_ABORTED i, fun i _ => Obj.CTR_LPI_TX_US i, fun i _ => Obj.CTR_LPI_RX_US i] : Objects))
  | .eyeScanPointComplete .. => some
      ([fun i _ => Obj.LN_EYE_RUN i, fun i _ => Obj.LN_EYE_RESULT i, fun i _ => Obj.LN_EYE_COUNT i] : Objects)
  | .dieLinkSlotRx .. => some (bufferObjects ++
      ([fun i _ => Obj.QD_LAST_REPAIR i, fun i _ => Obj.QD_LAST_REPAIR_TIME i, fun i _ => Obj.QD_CRC_UP i, fun i _ => Obj.QD_CRC_DOWN i,
        fun i _ => Obj.QD_LOST_SLOTS i, fun _ _ => Obj.TIM_EVENT_LOST, fun _ _ => Obj.TIM_REPLICA_VALID, fun i _ => Obj.CTR_RX_FCS_ERR i,
        fun i _ => Obj.CTR_TX_FRAMES i, fun i _ => Obj.CTR_TX_OCTETS i, fun i _ => Obj.CTR_TX_PAUSE i] : Objects))
  | .marginMeasure .. => some (reactionObjects ++
      ([fun i _ => Obj.QD_LAST_REPAIR i, fun i _ => Obj.QD_LAST_REPAIR_TIME i] : Objects))
  | .repairSpareChoice .. => some (reactionObjects ++
      ([fun i _ => Obj.QD_REPAIR i] : Objects))
  | .repairStopSlot .. => some (reactionObjects ++
      ([fun i _ => Obj.QD_REPAIRS i, fun i _ => Obj.QD_LAST_REPAIR i, fun i _ => Obj.QD_LAST_REPAIR_TIME i, fun i _ => Obj.QD_REPAIR i] : Objects))
  | .portUp .. => some
      ([fun i _ => Obj.LN_FLAPS i, fun i _ => Obj.PT_LINK_CHANGES i] : Objects)
  | .portDown .. => some (bufferObjects ++
      ([fun i _ => Obj.PT_LINK_CHANGES i, fun i _ => Obj.TBL_LRN_INSTALLS i, fun _ _ => Obj.GAL_CT_BAD, fun i _ => Obj.Q_FLUSH_STATE i,
        fun i _ => Obj.CTR_RX_ABORTED i, fun i _ => Obj.CTR_TX_FRAMES i, fun i _ => Obj.CTR_TX_OCTETS i, fun i _ => Obj.CTR_TX_PAUSE i,
        fun i _ => Obj.CTR_TX_FLUSHED i, fun i _ => Obj.CTR_TX_ABORTED i, fun i _ => Obj.CTR_LPI_TX_US i, fun i _ => Obj.CTR_LPI_RX_US i] : Objects))
  | .flushComplete .. => some (bufferObjects ++
      ([fun i _ => Obj.LN_FLAPS i, fun i _ => Obj.PT_LINK_CHANGES i, fun i _ => Obj.Q_FLUSH_STATE i, fun i _ => Obj.CTR_TX_FRAMES i,
        fun i _ => Obj.CTR_TX_OCTETS i, fun i _ => Obj.CTR_TX_PAUSE i, fun i _ => Obj.CTR_TX_FLUSHED i] : Objects))
  | .pauseRefresh .. | .losslessRefusalCheck .. | .lpiWakeComplete .. => some
      ([fun i _ => Obj.CTR_TX_FRAMES i, fun i _ => Obj.CTR_TX_OCTETS i, fun i _ => Obj.CTR_TX_PAUSE i] : Objects)
  | .lpiEntry .. => some
      ([fun i _ => Obj.CTR_LPI_TX_ENTRIES i] : Objects)
  | .lldpSend .. | .unicastGrantRenewal .. => some (bufferObjects ++
      ([fun i _ => Obj.GAL_C_FREE_MIN i, fun i _ => Obj.GAL_C_GRANTS i, fun i _ => Obj.GAL_C_REFUSED i, fun i _ => Obj.GAL_C_FALLBACKS i,
        fun i j => Obj.Q_ENQ i j, fun i j => Obj.Q_TAIL_DROPS i j, fun i _ => Obj.CTR_TX_FRAMES i, fun i _ => Obj.CTR_TX_OCTETS i,
        fun i _ => Obj.CTR_TX_PAUSE i, fun i _ => Obj.CTR_TX_FLUSHED i, fun i _ => Obj.CTR_TX_LSO_SEGMENTS i, fun i _ => Obj.CTR_LPI_TX_US i] : Objects))
  | .lldpRx .. | .lldpTimeout .. => some
      ([fun i _ => Obj.PT_LPI_TW i] : Objects)
  | .largeSend .. => some (bufferObjects ++
      ([fun i _ => Obj.GAL_C_FREE_MIN i, fun i _ => Obj.GAL_C_GRANTS i, fun i _ => Obj.GAL_C_REFUSED i, fun i _ => Obj.GAL_C_FALLBACKS i,
        fun i j => Obj.Q_ENQ i j, fun i j => Obj.Q_TAIL_DROPS i j, fun i _ => Obj.CTR_TX_FRAMES i, fun i _ => Obj.CTR_TX_OCTETS i,
        fun i _ => Obj.CTR_TX_PAUSE i, fun i _ => Obj.CTR_TX_FLUSHED i, fun i _ => Obj.CTR_TX_LSO_SEGMENTS i, fun i _ => Obj.CTR_TX_LSO_REFUSED i,
        fun i _ => Obj.CTR_LPI_TX_US i] : Objects))
  | .ingressPipeline .. => some (bufferObjects ++
      ([fun i _ => Obj.PLN_IN_PKTS i, fun i _ => Obj.PLN_DROPS i, fun i _ => Obj.PLN_LAST_DROP i, fun i _ => Obj.PLN_TO_CMP i,
        fun i _ => Obj.PLN_PARSE_ERR i, fun i _ => Obj.PLN_WINDOW_OVF i, fun _ _ => Obj.TBL_EVENT_LOST, fun i _ => Obj.TBL_LRN_INSTALLS i,
        fun i _ => Obj.TBL_LRN_FULL i, fun i _ => Obj.TBL_LRN_INJ_DROPS i, fun i _ => Obj.TBL_LRN_SUPPRESSED i, fun i _ => Obj.TBL_LRN_LAG_MAX i,
        fun i _ => Obj.TBL_LRN_STATIC_MOVES i, fun i _ => Obj.GAL_C_FREE_MIN i, fun i _ => Obj.GAL_C_GRANTS i, fun i _ => Obj.GAL_C_REFUSED i,
        fun i _ => Obj.GAL_C_FALLBACKS i, fun _ _ => Obj.GAL_DESC_COPY_REFUSED, fun _ _ => Obj.GAL_CT_FRAMES, fun i j => Obj.Q_ENQ i j,
        fun i j => Obj.Q_TAIL_DROPS i j, fun i _ => Obj.PMC_PS_SEEN i, fun i _ => Obj.PMC_PS_SELECTED i, fun i _ => Obj.PMC_PS_MISSED i,
        fun i _ => Obj.FLT_MI_DISCARDS i, fun i _ => Obj.CTR_RX_OVERFLOW_DROP i, fun i _ => Obj.CTR_RX_LOSSLESS_DROP i, fun i _ => Obj.CTR_TX_FRAMES i,
        fun i _ => Obj.CTR_TX_OCTETS i, fun i _ => Obj.CTR_TX_PAUSE i, fun i _ => Obj.CTR_TX_FLUSHED i, fun i _ => Obj.CTR_LPI_TX_US i] : Objects))
  | .growthRequest .. => some (bufferObjects ++
      ([fun i _ => Obj.GAL_C_FREE_MIN i, fun i _ => Obj.GAL_C_GRANTS i, fun i _ => Obj.GAL_C_REFUSED i, fun i _ => Obj.GAL_C_FALLBACKS i,
        fun _ _ => Obj.GAL_CT_BAD, fun i _ => Obj.CTR_RX_OVERFLOW_DROP i, fun i _ => Obj.CTR_RX_LOSSLESS_DROP i, fun i _ => Obj.CTR_TX_FRAMES i,
        fun i _ => Obj.CTR_TX_OCTETS i, fun i _ => Obj.CTR_TX_PAUSE i] : Objects))
  | .hankRefill .. => some (codedObjects ++
      ([fun _ _ => Obj.GAL_PTR_FAULTS, fun _ _ => Obj.GAL_QUAR_LAST, fun _ _ => Obj.GAL_QUARANTINED, fun _ _ => Obj.GAL_LOST] : Objects))
  | .frameTailWritten .. => some (bufferObjects ++
      ([fun i _ => Obj.PLN_TO_CMP i, fun _ _ => Obj.GAL_DESC_COPY_REFUSED, fun _ _ => Obj.GAL_CT_BAD, fun _ _ => Obj.GAL_POISON_READS,
        fun _ _ => Obj.GAL_POISON_FRAMES, fun _ _ => Obj.GAL_INVALID_READS, fun _ _ => Obj.SCH_MC_ENGINE_DROPS, fun i j => Obj.Q_ENQ i j,
        fun i j => Obj.Q_TAIL_DROPS i j, fun i _ => Obj.CTR_TX_FRAMES i, fun i _ => Obj.CTR_TX_OCTETS i, fun i _ => Obj.CTR_TX_PAUSE i,
        fun i _ => Obj.CTR_TX_FLUSHED i, fun i _ => Obj.CTR_LPI_TX_US i] : Objects))
  | .dequeue .. => some (bufferObjects ++
      ([fun i _ => Obj.PLN_OUT_PKTS i, fun i _ => Obj.PLN_DROPS i, fun i _ => Obj.PLN_LAST_DROP i, fun i _ => Obj.PLN_PARSE_ERR i,
        fun i _ => Obj.PLN_WINDOW_OVF i, fun i _ => Obj.PLN_COLO_DONE i, fun i _ => Obj.PLN_COLO_SKIPPED i, fun _ _ => Obj.GAL_POISON_READS,
        fun _ _ => Obj.GAL_POISON_FRAMES, fun _ _ => Obj.GAL_INVALID_READS, fun i j => Obj.Q_DEQ i j, fun i j => Obj.Q_ECN_MARKS i j,
        fun i _ => Obj.FLT_MI_DISCARDS i, fun i _ => Obj.CTR_TX_FRAMES i, fun i _ => Obj.CTR_TX_OCTETS i, fun i _ => Obj.CTR_TX_PAUSE i,
        fun i _ => Obj.CTR_TX_FLUSHED i] : Objects))
  | .frameTransmit .. => some (bufferObjects ++
      ([fun _ _ => Obj.KCE_L0_WAIT_MAX, fun _ _ => Obj.KCE_REFUSED, fun _ _ => Obj.TIM_TC_CORRECTED, fun _ _ => Obj.TIM_TS_INVALID,
        fun _ _ => Obj.TIM_AUTH_REFUSED, fun i _ => Obj.CTR_TX_FRAMES i, fun i _ => Obj.CTR_TX_OCTETS i, fun i _ => Obj.CTR_TX_PAUSE i] : Objects))
  | .transmitComplete .. => some (bufferObjects ++
      ([fun _ _ => Obj.GAL_CT_UNDERRUN, fun _ _ => Obj.GAL_POISON_READS, fun _ _ => Obj.GAL_POISON_FRAMES, fun _ _ => Obj.GAL_INVALID_READS,
        fun i _ => Obj.CTR_TX_FRAMES i, fun i _ => Obj.CTR_TX_OCTETS i, fun i _ => Obj.CTR_TX_PAUSE i, fun i _ => Obj.CTR_TX_STOMP i] : Objects))
  | .shaperRefill => some (codedObjects ++
      ([fun i _ => Obj.SCH_SP_PENDING i, fun _ _ => Obj.FLT_DIAG_LOGGED] : Objects))
  | .queueSampleSweep => some
      ([fun _ _ => Obj.SCH_SAMPLE_SEQ, fun _ _ => Obj.PMC_EXP_SKIP_SAMPLES, fun _ _ => Obj.PMC_EXP_SKIP_SNAPS] : Objects)
  | .multicastReplication => some (bufferObjects ++
      ([fun _ _ => Obj.GAL_DESC_COPY_REFUSED, fun _ _ => Obj.SCH_MC_FRAMES, fun _ _ => Obj.SCH_MC_COPIES, fun _ _ => Obj.SCH_MC_NONE,
        fun i _ => Obj.Q_MC_COPIES i, fun i _ => Obj.Q_MC_DOWN i, fun i _ => Obj.Q_MC_FULL i, fun i _ => Obj.Q_MC_NODESC i, fun i j => Obj.Q_ENQ i j,
        fun i _ => Obj.CTR_TX_FRAMES i, fun i _ => Obj.CTR_TX_OCTETS i, fun i _ => Obj.CTR_TX_PAUSE i, fun i _ => Obj.CTR_TX_FLUSHED i,
        fun i _ => Obj.CTR_LPI_TX_US i] : Objects))
  | .ringInject .. => some
      ([fun i _ => Obj.TBL_LRN_EVENTS i] : Objects)
  | .ringMessageArrival .. => some (codedObjects ++
      ([fun _ _ => Obj.TBL_EVENT_LOST, fun i _ => Obj.TBL_LRN_INSTALLS i, fun i _ => Obj.TBL_LRN_FULL i, fun i _ => Obj.TBL_LRN_LAG_MAX i,
        fun i _ => Obj.TBL_LRN_RING_ERR i, fun _ _ => Obj.FLT_DIAG_LOGGED] : Objects))
  | .agerVisit .. => some (codedObjects ++
      ([fun _ _ => Obj.TBL_EVENT_LOST, fun i _ => Obj.TBL_LRN_AGED i, fun _ _ => Obj.FLT_DIAG_LOGGED] : Objects))
  | .entryRestoration .. => some (codedObjects ++
      ([fun i _ => Obj.CHS_RESTORED i, fun i _ => Obj.CHS_UNRESTORED i, fun _ _ => Obj.FLT_DIAG_LOGGED] : Objects))
  | .lpmShadowRewrite .. => some (codedObjects ++
      ([fun _ _ => Obj.FLT_DIAG_LOGGED] : Objects))
  | .lpmSpareSwitch .. => some (reactionObjects ++
      ([fun i _ => Obj.CHS_LPM_SPARE i, fun i _ => Obj.CHS_LPM_SPARE_IN i] : Objects))
  | .bankRemapSwitch => some (reactionObjects ++
      ([fun i _ => Obj.TBL_LRN_UNCORR i, fun i _ => Obj.CHS_LABEL_CE i, fun i _ => Obj.CHS_LABEL_UE i, fun i _ => Obj.CHS_NH_CE i,
        fun i _ => Obj.CHS_NH_UE i, fun i _ => Obj.CHS_LPM_PARITY i, fun i _ => Obj.CHS_LPM_MISMATCH i, fun _ _ => Obj.GAL_REMAPS,
        fun _ _ => Obj.GAL_LAST_REMAP, fun _ _ => Obj.GAL_REMAP, fun _ _ => Obj.CMP_FETCH_CE, fun _ _ => Obj.CMP_FETCH_UE, fun i _ => Obj.FLT_MI_CE i,
        fun i _ => Obj.FLT_MI_UE i, fun i _ => Obj.FLT_MI_LAST i] : Objects))
  | .writeBack .. => some
      ([fun i _ => Obj.FLT_MI_WRITEBACKS i, fun _ _ => Obj.FLT_DIAG_LOGGED, fun _ _ => Obj.FLT_EVENT_LOST, fun _ _ => Obj.FLT_EVENTS] : Objects)
  | .scrubRead .. => some (bufferObjects ++
      ([fun i _ => Obj.CMP_C_LINE i, fun i _ => Obj.CMP_P_RUN i, fun i _ => Obj.CMP_P_STATE i, fun i _ => Obj.CMP_P_DONE i,
        fun i _ => Obj.CMP_P_TOTAL i, fun i _ => Obj.CMP_P_RESTART i, fun i _ => Obj.FLT_MI_SCRUB_PASSES i, fun i _ => Obj.FLT_MI_SCRUB_PERIOD i,
        fun i _ => Obj.FLT_MI_DISCARDS i, fun i _ => Obj.CTR_TX_FRAMES i, fun i _ => Obj.CTR_TX_OCTETS i, fun i _ => Obj.CTR_TX_PAUSE i,
        fun i _ => Obj.CTR_TX_FLUSHED i] : Objects))
  | .ingressBankSwitch => some
      ([fun _ _ => Obj.PLN_SWITCH, fun i _ => Obj.PLN_SWITCHES i] : Objects)
  | .egressBankSwitch => some
      ([fun _ _ => Obj.PLN_SWITCH, fun _ _ => Obj.PLN_DRAIN_LEFT] : Objects)
  | .proofCapture .. => some (bufferObjects ++
      ([fun i _ => Obj.GAL_C_FREE_MIN i, fun i _ => Obj.GAL_C_GRANTS i, fun i _ => Obj.GAL_C_REFUSED i, fun i _ => Obj.GAL_C_FALLBACKS i,
        fun _ _ => Obj.GAL_POISON_READS, fun _ _ => Obj.GAL_POISON_FRAMES, fun _ _ => Obj.GAL_INVALID_READS, fun _ _ => Obj.PMC_PROOF_LOST,
        fun i _ => Obj.PMC_PS_MADE i, fun i _ => Obj.PMC_PS_REFUSED i, fun i _ => Obj.CTR_TX_FRAMES i, fun i _ => Obj.CTR_TX_OCTETS i,
        fun i _ => Obj.CTR_TX_PAUSE i] : Objects))
  | .exportSend .. => some (bufferObjects ++
      ([fun i _ => Obj.GAL_C_FREE_MIN i, fun i _ => Obj.GAL_C_GRANTS i, fun i _ => Obj.GAL_C_REFUSED i, fun i _ => Obj.GAL_C_FALLBACKS i,
        fun _ _ => Obj.GAL_INVALID_READS, fun i j => Obj.Q_ENQ i j, fun i j => Obj.Q_TAIL_DROPS i j, fun i _ => Obj.PMC_CH_DATAGRAMS i,
        fun i _ => Obj.PMC_CH_SENDS i, fun i _ => Obj.PMC_CH_REFUSED i, fun i _ => Obj.CTR_TX_FRAMES i, fun i _ => Obj.CTR_TX_OCTETS i,
        fun i _ => Obj.CTR_TX_PAUSE i, fun i _ => Obj.CTR_TX_FLUSHED i, fun i _ => Obj.CTR_TX_LSO_SEGMENTS i, fun i _ => Obj.CTR_TX_LSO_REFUSED i,
        fun i _ => Obj.CTR_LPI_TX_US i] : Objects))
  | .periodicSnapshot => some
      ([fun _ _ => Obj.PMC_SNAP_SKIPPED] : Objects)
  | .snapshotCapture => some
      ([fun _ _ => Obj.PMC_EXP_SKIP_SAMPLES, fun _ _ => Obj.PMC_EXP_SKIP_SNAPS, fun _ _ => Obj.PMC_SNAP, fun _ _ => Obj.PMC_SNAP_SEQ,
        fun _ _ => Obj.PMC_SNAP_TIME] : Objects)
  | .tciEdge .. => some
      ([fun _ _ => Obj.TIM_EVENT_LOST, fun i _ => Obj.TIM_TCI_LAST i, fun i _ => Obj.TIM_TCI_COUNT i, fun i _ => Obj.TIM_TCI_OVERRUN i] : Objects)
  | .tpoRisingEdge .. => some
      ([fun i _ => Obj.TIM_TPO_MODE i, fun i _ => Obj.TIM_TPO_STATE i, fun i _ => Obj.TIM_TPO_EDGES i, fun i _ => Obj.TIM_TPO_SKIPPED i] : Objects)
  | .tpoFallingEdge .. => some
      ([fun i _ => Obj.TIM_TPO_MODE i, fun i _ => Obj.TIM_TPO_STATE i] : Objects)
  | .spliceEnd => some
      ([fun _ _ => Obj.TIM_SPLICE_STATE, fun _ _ => Obj.TIM_EVENT_LOST] : Objects)
  | .servoMeasurement .. => some
      ([fun _ _ => Obj.TIM_SELECT, fun _ _ => Obj.TIM_OUT_ENGAGE, fun _ _ => Obj.TIM_SPLICE_STATE, fun _ _ => Obj.TIM_SPLICES,
        fun _ _ => Obj.TIM_EVENT_LOST, fun i _ => Obj.TIM_D_STATE i, fun i _ => Obj.TIM_D_LAST_OFFSET i, fun i _ => Obj.TIM_D_FREQ i,
        fun i _ => Obj.TIM_D_STEPS i, fun i _ => Obj.TIM_D_OUTLIERS i, fun i _ => Obj.TIM_TPO_MODE i, fun i _ => Obj.TIM_TPO_STATE i,
        fun i _ => Obj.TIM_TPO_SKIPPED i, fun i _ => Obj.CMP_P_RUN i, fun i _ => Obj.CMP_P_STATE i, fun i _ => Obj.CMP_P_DONE i,
        fun i _ => Obj.CMP_P_TOTAL i, fun i _ => Obj.CMP_P_RESTART i, fun _ _ => Obj.FLT_EVENT_LOST, fun _ _ => Obj.FLT_EVENTS] : Objects)
  | .tciSourceTimeout .. => some
      ([fun _ _ => Obj.TIM_SELECT, fun _ _ => Obj.TIM_SPLICE_STATE, fun _ _ => Obj.TIM_SPLICES, fun _ _ => Obj.TIM_EVENT_LOST,
        fun i _ => Obj.TIM_D_STATE i, fun i _ => Obj.TIM_D_HOLDOVERS i, fun i _ => Obj.TIM_TPO_MODE i, fun i _ => Obj.TIM_TPO_STATE i,
        fun i _ => Obj.TIM_TPO_SKIPPED i, fun _ _ => Obj.FLT_EVENT_LOST, fun _ _ => Obj.FLT_EVENTS] : Objects)
  | .ptpMasterLost .. => some
      ([fun _ _ => Obj.TIM_SELECT, fun _ _ => Obj.TIM_SPLICE_STATE, fun _ _ => Obj.TIM_SPLICES, fun _ _ => Obj.TIM_EVENT_LOST,
        fun i _ => Obj.TIM_D_STATE i, fun i _ => Obj.TIM_D_HOLDOVERS i, fun i _ => Obj.TIM_TPO_MODE i, fun i _ => Obj.TIM_TPO_STATE i,
        fun i _ => Obj.TIM_TPO_SKIPPED i, fun i _ => Obj.TIM_P_GM i, fun i _ => Obj.TIM_P_PARENT i, fun i _ => Obj.TIM_P_SLAVE_PORT i,
        fun i _ => Obj.TIM_P_PATH_DELAY i, fun _ _ => Obj.FLT_EVENT_LOST, fun _ _ => Obj.FLT_EVENTS] : Objects)
  | .ptpMessageTerminated .. => some (bufferObjects ++
      ([fun i _ => Obj.GAL_C_FREE_MIN i, fun i _ => Obj.GAL_C_GRANTS i, fun i _ => Obj.GAL_C_REFUSED i, fun i _ => Obj.GAL_C_FALLBACKS i,
        fun i j => Obj.Q_ENQ i j, fun i j => Obj.Q_TAIL_DROPS i j, fun _ _ => Obj.TIM_AUTH_REPLAY, fun i _ => Obj.TIM_P_GM i,
        fun i _ => Obj.TIM_P_PARENT i, fun i _ => Obj.TIM_P_SLAVE_PORT i, fun i _ => Obj.TIM_P_PATH_DELAY i, fun i _ => Obj.CTR_TX_FRAMES i,
        fun i _ => Obj.CTR_TX_OCTETS i, fun i _ => Obj.CTR_TX_PAUSE i, fun i _ => Obj.CTR_TX_FLUSHED i, fun i _ => Obj.CTR_TX_LSO_SEGMENTS i,
        fun i _ => Obj.CTR_LPI_TX_US i] : Objects))
  | .ptpMessageSend .. => some (bufferObjects ++
      ([fun i _ => Obj.GAL_C_FREE_MIN i, fun i _ => Obj.GAL_C_GRANTS i, fun i _ => Obj.GAL_C_REFUSED i, fun i _ => Obj.GAL_C_FALLBACKS i,
        fun i j => Obj.Q_ENQ i j, fun i j => Obj.Q_TAIL_DROPS i j, fun i _ => Obj.TIM_P_GM i, fun i _ => Obj.TIM_P_PARENT i,
        fun i _ => Obj.TIM_P_SLAVE_PORT i, fun i _ => Obj.TIM_P_PATH_DELAY i, fun i _ => Obj.CTR_TX_FRAMES i, fun i _ => Obj.CTR_TX_OCTETS i,
        fun i _ => Obj.CTR_TX_PAUSE i, fun i _ => Obj.CTR_TX_FLUSHED i, fun i _ => Obj.CTR_TX_LSO_SEGMENTS i, fun i _ => Obj.CTR_LPI_TX_US i] : Objects))
  | .authDeparture .. => some (bufferObjects ++
      ([fun _ _ => Obj.KCE_L0_WAIT_MAX, fun _ _ => Obj.KCE_REFUSED, fun _ _ => Obj.TIM_TC_CORRECTED, fun _ _ => Obj.TIM_AUTH_LATE,
        fun _ _ => Obj.TIM_AUTH_REFUSED, fun i _ => Obj.CTR_TX_FRAMES i, fun i _ => Obj.CTR_TX_OCTETS i, fun i _ => Obj.CTR_TX_PAUSE i] : Objects))
  | .contextWake .. => some
      ([fun i _ => Obj.CMP_C_READY_MAX i, fun i _ => Obj.CMP_P_STATE i] : Objects)
  | .fetchUncorrectable .. => some (reactionObjects ++
      ([fun i _ => Obj.TBL_LRN_UNCORR i, fun i _ => Obj.CHS_LABEL_CE i, fun i _ => Obj.CHS_LABEL_UE i, fun i _ => Obj.CHS_NH_CE i,
        fun i _ => Obj.CHS_NH_UE i, fun i _ => Obj.CHS_LPM_PARITY i, fun i _ => Obj.CHS_LPM_MISMATCH i, fun _ _ => Obj.CMP_FETCH_CE,
        fun _ _ => Obj.CMP_FETCH_UE, fun i _ => Obj.CMP_C_LINE i, fun i _ => Obj.CMP_C_RESTARTS i, fun i _ => Obj.CMP_P_RUN i,
        fun i _ => Obj.CMP_P_STATE i, fun i _ => Obj.CMP_P_DONE i, fun i _ => Obj.CMP_P_TOTAL i, fun i _ => Obj.CMP_P_RESTART i,
        fun i _ => Obj.FLT_MI_CE i, fun i _ => Obj.FLT_MI_UE i, fun i _ => Obj.FLT_MI_LAST i] : Objects))
  | .patchHaltLoad => some (reactionObjects ++
      ([fun _ _ => Obj.CMP_PATCH_ID, fun _ _ => Obj.CMP_PATCH_SEGS, fun _ _ => Obj.CMP_PATCH_MAPS, fun _ _ => Obj.CMP_PATCH_ACTIVATE,
        fun _ _ => Obj.CMP_PATCH_REMOVE, fun _ _ => Obj.CMP_HALT_MAX, fun i _ => Obj.CMP_C_RESTARTS i, fun i _ => Obj.CMP_P_STATE i,
        fun i _ => Obj.CMP_P_DONE i, fun i _ => Obj.CMP_P_RESTART i] : Objects))
  | .faultEvent .. | .rungNotBegun .. | .pmbusTransactionFailure .. | .pmbusRetry .. => some reactionObjects
  | .reactionTimerExpiry .. => some reactionObjects
  | .regulatorPoll .. | .regulatorFaultReread .. => some (reactionObjects ++
      ([fun i _ => Obj.PWR_R_STATUS i] : Objects))
  | .pmbAlert .. => some (reactionObjects ++
      ([fun _ _ => Obj.PWR_ALERTS, fun i _ => Obj.PWR_R_STATUS i] : Objects))
  | .railDroop .. => some (reactionObjects ++
      ([fun i _ => Obj.PWR_R_DROOPS i] : Objects))
  | .avsLoop .. => some (reactionObjects ++
      ([fun _ _ => Obj.PWR_AVS_MARGIN] : Objects))
  | .sensorRead .. => some (reactionObjects ++
      ([fun i _ => Obj.PWR_S_MAX i] : Objects))
  | .thermalTrip .. => some
      ([fun _ _ => Obj.ID_SAFE_CAUSE, fun _ _ => Obj.FLT_STATE] : Objects)
  | .dieLinkLockLoss .. => some (bufferObjects ++
      ([fun i _ => Obj.QD_LAST_REPAIR i, fun i _ => Obj.QD_LAST_REPAIR_TIME i, fun i _ => Obj.PT_LINK_CHANGES i, fun i _ => Obj.TBL_LRN_INSTALLS i,
        fun _ _ => Obj.GAL_CT_BAD, fun i _ => Obj.Q_FLUSH_STATE i, fun i _ => Obj.CTR_RX_ABORTED i, fun i _ => Obj.CTR_TX_FRAMES i,
        fun i _ => Obj.CTR_TX_OCTETS i, fun i _ => Obj.CTR_TX_PAUSE i, fun i _ => Obj.CTR_TX_FLUSHED i, fun i _ => Obj.CTR_TX_ABORTED i,
        fun i _ => Obj.CTR_LPI_TX_US i, fun i _ => Obj.CTR_LPI_RX_US i] : Objects))
  | .linkTrainingEnd .. => some
      ([fun i _ => Obj.LN_TX_FFE_ACTIVE i] : Objects)
  | .lpiRxChange .. => some
      ([fun i _ => Obj.CTR_LPI_RX_US i] : Objects)

/-! ### The well-formed state -/

/-- How many sessions, key pages, contexts, quoins, rails, time domains and PTP instances a state holds. -/
def State.units (s : State) : List Nat :=
  [s.wonel.sessions.length, s.kce.pages.length, s.cmp.ctxs.length, s.links.length, s.power.rails.length, s.tim.domains.length, s.ptp.insts.length]

/-- The dictionary is in its canonical form, and the collector's queue holds at most 1,024 records (R489). -/
def State.bounded (s : State) : Bool := smWf dictDefault s.dict && decide (s.flt.queue.length ≤ 1024)

/-- The well-formed state: bounded, with the units that R5 to R7, R386 and R421 give. -/
def State.wellFormed (s : State) : Bool := s.bounded && decide (s.units = [16, 16, 16, 8, 5, 2, 2])

/-! ### A request at its turn (R96, R532) -/

/-- The state in which the request at the head of session `i`'s queue is carried out. -/
def State.turnOf (s : State) (i : Nat) : State :=
  let s1 := s.modSession i fun x => { x with queue := (s.session i).queue.drop 1 }
  { s1 with wonel := { s1.wonel with served := i } }

/-- It is the turn of request `r` of session `i`, its opcode is `op`, and it passes the tests of R532. -/
def State.readyFor (s : State) (i : Nat) (r : Request) (op : Nat) : Bool :=
  decide (s.nextRequest = some (i, r)) && isOp op r.msg && decide (wholeTest (s.session i).isOpen r.msg = Res.ok)

/-- What a request came to is answered, what follows the reply follows, and requests with an unknown opcode are answered in their turn. -/
def State.finish (i : Nat) (r : Request) (d : Done) : State :=
  ((d.state.answer i r.msg r.via d.code d.payload true).afterReply i d).drainUnknown 64

/-- It is the turn of a START on the object `key`, and the session may start it (R111, R129). -/
def State.readyToStart (s : State) (i : Nat) (r : Request) (key : Nat) : Bool :=
  s.readyFor i r 0x30 && decide ((refAt (msgPayload r.msg) 0).idx * 256 + (refAt (msgPayload r.msg) 0).sub = key) &&
    decide (((s.turnOf i).judgeRef i r.grant .start (refAt (msgPayload r.msg) 0)).1 = Res.ok)

/-- The state in which a START on `key` takes effect. -/
def State.startTurn (s : State) (i key : Nat) : State := (s.turnOf i).serveCmp i key

/-- A START answered with a code, its effect being `u`. -/
def State.started (u : State) (i : Nat) (r : Request) (key code : Nat) : State :=
  State.finish i r ⟨code, [], u, [], if code = Res.ok then some key else none, false⟩

end Sys2Proof.Machine
end

