-- ==== Sys2Proof/Certificates/Slice0/Obligations.lean ====
section
/-! DEFINITION. The statements for the provers, in the order of OBLIGATIONS.json: the block as a whole, its frames, then what each family of
commands does, by chapter. A docstring names the rules a statement follows, and the log entry of a clause that is the model's own choice. -/

open Sys2Proof Sys2Proof.Machine

/-! ### The block as a whole -/

/-- A step takes the command at the front of the queue and executes it with the queue's rest. -/
def Obligations.StepExecutesTheFrontCommand : Prop :=
  ∀ (c : Instr) (rest : List Instr) (s : State), step { s with pending := c :: rest } = exec c { s with pending := rest }

/-- With no command waiting, a step answers a next state one clock later; the store, start-up, rails, keys, lanes, programs, PTP instances and
the queue stay (R58; that an idle step is one clock is the model's choice, DESIGN CHOICE, notes/assumptions/1). -/
def Obligations.IdleStepIsOneClock : Prop :=
  ∀ s : State, s.pending = [] → ∃ t, step s = .next t ∧ t.now = s.now + 1 ∧
    unchangedBut [.now, .wonel, .flt, .links, .galley, .sched, .ports, .tables, .telem, .tim, .cmp, .mem, .dict, .busy, .out, .fresh] s t

/-- After reset every unit is there and the dictionary lists nothing but defaults (R5, R132). -/
def Obligations.ResetStateIsWellFormed : Prop := State.reset.wellFormed = true ∧ ∀ k, State.reset.get k = dictDefault k

/-- Every step of the block keeps the well-formed state: the dictionary stays canonical, the collector's queue holds at most its 1,024 records
(R489), and no session, page, context, quoin, rail, domain or instance is lost or gained. -/
def Obligations.EveryStepKeepsWellFormed : Prop :=
  ∀ s t : State, s.wellFormed = true → step s = .next t → t.wellFormed = true

/-- Every command answers a next state, and none touches the queue of waiting commands or the clock. -/
def Obligations.EveryCommandAnswersNext : Prop :=
  ∀ (c : Instr) (s : State), ∃ t, exec c s = .next t ∧ t.pending = s.pending ∧ t.now = s.now

/-- The frame of every command over the parts of the state: what is not among the parts that `partsOf` names is as it was. -/
def Obligations.CommandsChangeOnlyTheirParts : Prop :=
  ∀ (c : Instr) (s t : State), exec c s = .next t → unchangedBut (partsOf c) s t

/-- The frame of every command over the dictionary: an object outside the families that `objectsOf` names reads as it did. -/
def Obligations.CommandsChangeOnlyTheirObjects : Prop :=
  ∀ (c : Instr) (s t : State) (o : Objects), objectsOf c = some o → exec c s = .next t → ∀ k, ¬ o.covers k → t.get k = s.get k

/-- A dictionary object reads as what was last written to it, no other object changes, nothing else of the state does, and the canonical form
stays (R12, R120). -/
def Obligations.ObjectReadsWhatWasWritten : Prop :=
  ∀ (s : State) (k v : Nat),
    (s.put k v).get k = v ∧ objectsBut [k] s (s.put k v) ∧ unchangedBut [.dict] s (s.put k v) ∧
    (smWf dictDefault s.dict = true → smWf dictDefault (s.put k v).dict = true)

/-- Every access to an index from 0xF000 to 0xFFFF is an access to an object that does not exist, whatever the session, the grant and the kind of
access (R8). -/
def Obligations.VendorIndexesDoNotExist : Prop :=
  ∀ (s : State) (session grant idx sub : Nat) (acc : Access), 0xF000 ≤ idx → idx ≤ 0xFFFF →
    (s.judgeAccess session grant acc idx sub).1 = Res.noObject

/-! ### Reset, references and start-up (03) -/

/-- RESET_N low for 100 ns or more, and the loss of a supply, put the device back to phase 1: what is volatile is as after power-on, the store is
kept with any running commit stopped, THERMTRIP_N is released and every time output goes low. A shorter pulse changes nothing (R48, R50, R51,
R54, R79). What the die-links keep is the model's choice, DEDUCED, notes/assumptions/36. -/
def Obligations.ExternalResetReturnsToPhaseOne : Prop :=
  (∀ (s : State) (ns : Nat), ns < 100 → exec (.resetNAsserted ns) s = .next s) ∧
  (∀ (s : State) (ns : Nat), 100 ≤ ns → ∃ t, exec (.resetNAsserted ns) s = .next t ∧
    t.boot.phase = .inReset ∧ t.boot.resetN = false ∧ t.boot.vio = s.boot.vio ∧ t.boot.vstby = s.boot.vstby ∧ t.store = s.store.stopCommit ∧
    t.galley = State.reset.galley ∧ t.tables = State.reset.tables ∧ t.sched = State.reset.sched ∧ t.ports = [] ∧ t.lanes = [] ∧
    t.flt = State.reset.flt ∧ t.kce = State.reset.kce ∧ t.cmp = State.reset.cmp ∧ t.tim = State.reset.tim ∧ t.ptp = State.reset.ptp ∧
    t.telem = State.reset.telem ∧ t.wonel = State.reset.wonel ∧ t.mem = State.reset.mem ∧ t.pipes = State.reset.pipes ∧
    t.power.thermtrip = false ∧ t.now = s.now ∧ t.pending = s.pending ∧
    (∀ i, i < 16 → Out.tpo i false s.now 0 ∈ t.out) ∧ Out.pin "THERMTRIP_N" true ∈ t.out) ∧
  (∀ (s : State) (vio : Bool), ∃ t, exec (.supplyLoss vio) s = .next t ∧
    t.boot.phase = .inReset ∧ t.boot.vio = (s.boot.vio && !vio) ∧ t.boot.vstby = (s.boot.vstby && vio) ∧ t.store = s.store.stopCommit ∧
    t.galley = State.reset.galley ∧ t.tables = State.reset.tables ∧ t.kce = State.reset.kce ∧ t.power.thermtrip = false ∧
    (vio = false → t.power.tripSensor = 0xFF) ∧ (∀ i, i < 16 → Out.tpo i false s.now 0 ∈ t.out) ∧ t.now = s.now ∧ t.pending = s.pending)

/-- With both supplies valid, the rise of RESET_N latches the value on which the three strap samples agree, or else 0b10 with the
strap-instability fault held for the collector, and chooses REFCLK0 if it toggles, otherwise REFCLK1; with neither, the device waits until a
reference appears. With a supply absent it does not start; the later supply's return with RESET_N high counts as the rise (R54, R60, R66, R67).
-/
def Obligations.ReleaseLatchesStrapsAndChoosesReference : Prop :=
  (∀ (s : State) (s0 s1 s2 : BitVec 2) (a0 a1 : Bool),
    s.boot.phase = .inReset → s.boot.resetN = false → s.boot.vio = true → s.boot.vstby = true →
    ∃ t, exec (.resetNRelease s0 s1 s2 a0 a1) s = .next t ∧ t.boot.resetN = true ∧ t.boot.clock0 = s.now ∧ t.boot.cause = 1 ∧
      (s0 = s1 ∧ s1 = s2 → t.boot.bootSel = s0.toNat ∧ t.boot.heldFaults = []) ∧
      (¬ (s0 = s1 ∧ s1 = s2) → t.boot.bootSel = 2 ∧ t.boot.heldFaults = [(251, 0x1F)]) ∧
      t.boot.activeRef = (if a0 then 0 else 1) ∧ t.boot.phase = (if a0 || a1 then .pll else .awaitReference) ∧ unchangedBut [.boot] s t) ∧
  (∀ (s : State) (s0 s1 s2 : BitVec 2) (a0 a1 : Bool), s.boot.phase = .inReset → s.boot.resetN = false → (s.boot.vio && s.boot.vstby) = false →
    exec (.resetNRelease s0 s1 s2 a0 a1) s = .next { s with boot := { s.boot with resetN := true } }) ∧
  (∀ (s : State) (s0 s1 s2 : BitVec 2) (a0 a1 : Bool), (s.boot.vio && s.boot.vstby) = false →
    exec (.supplyValid false s0 s1 s2 a0 a1) s = .next { s with boot := { s.boot with vio := true, vstby := true, resetN := false } } ∧
    ∃ t, exec (.supplyValid true s0 s1 s2 a0 a1) s = .next t ∧ t.boot.vio = true ∧ t.boot.vstby = true ∧ t.boot.resetN = true ∧
      t.boot.clock0 = s.now ∧ t.boot.bootSel = (if s0 = s1 ∧ s1 = s2 then s0.toNat else 2) ∧ t.boot.activeRef = (if a0 then 0 else 1) ∧
      t.boot.phase = (if a0 || a1 then .pll else .awaitReference) ∧ unchangedBut [.boot] s t) ∧
  (∀ (s : State) (r : Nat), r < 2 → (s.boot.ref r).present = false →
    ∃ t, exec (.referenceAppears r) s = .next t ∧ (t.boot.ref r).present = true ∧ (t.boot.ref r).since = s.now ∧
      (s.boot.phase = .awaitReference → t.boot.phase = .pll ∧ t.boot.activeRef = r) ∧
      (s.boot.phase ≠ .awaitReference → t.boot.phase = s.boot.phase ∧ t.boot.activeRef = s.boot.activeRef) ∧ unchangedBut [.boot] s t)

/-- Once the PLL is locked, a reference without edges, or outside ±100 ppm, is unqualified at once; when it is the active one the PLL goes over
to the other if that is qualified, else into holdover, and it leaves holdover for a reference that qualifies. With `CLK_REF_REVERT` the device
returns to the preferred reference once that has been qualified for 60 s. Each switch is counted, and the FRC takes no step (R61 to R64). -/
def Obligations.ReferencesSwitchWithoutAStepOfTheFrc : Prop :=
  (∀ (s : State) (r : Nat), r < 2 → s.boot.pllState ≠ 0 → (s.boot.ref r).present = true →
    ∃ t, exec (.referenceAbsent r) s = .next t ∧ (t.boot.ref r).present = false ∧ (t.boot.ref r).qualified = false ∧
      (r = s.boot.activeRef → s.boot.pllState = 1 → (s.boot.ref (1 - r)).qualified = true →
        t.boot.activeRef = 1 - r ∧ t.boot.pllState = 1 ∧ t.get Obj.CLK_REF_SWITCHES = (s.get Obj.CLK_REF_SWITCHES + 1) % 2 ^ widthOf Obj.CLK_REF_SWITCHES) ∧
      (r = s.boot.activeRef → s.boot.pllState = 1 → (s.boot.ref (1 - r)).qualified = false → t.boot.activeRef = r ∧ t.boot.pllState = 2) ∧
      (r ≠ s.boot.activeRef → t.boot.activeRef = s.boot.activeRef ∧ t.boot.pllState = s.boot.pllState) ∧ t.frc = s.frc) ∧
  (∀ (s : State) (r : Nat) (ppm : Int), r < 2 → s.boot.pllState ≠ 0 → (s.boot.ref r).present = true →
    ∃ t, exec (.referenceMonitorWindow r ppm) s = .next t ∧ (t.boot.ref r).ppm = ppm ∧
      ((t.boot.ref r).qualified = true ↔ (ppm.natAbs ≤ 100000 ∧ (s.boot.ref r).since + 8000000 ≤ s.now)) ∧
      (s.boot.pllState = 2 → (t.boot.ref r).qualified = true → t.boot.pllState = 1 ∧ t.boot.activeRef = r) ∧ t.frc = s.frc) ∧
  (∀ (s : State), s.get Obj.CLK_REF_REVERT = 1 → s.boot.pllState = 1 → s.boot.activeRef ≠ s.get Obj.CLK_REF_PREFER →
    (s.boot.ref (s.get Obj.CLK_REF_PREFER)).qualified = true →
    (s.boot.ref (s.get Obj.CLK_REF_PREFER)).qualSince + 60 * 800000000 ≤ s.now →
    ∃ t, exec .revertiveSwitch s = .next t ∧ t.boot.activeRef = s.get Obj.CLK_REF_PREFER ∧ t.boot.pllState = 1 ∧
      t.get Obj.CLK_REF_SWITCHES = (s.get Obj.CLK_REF_SWITCHES + 1) % 2 ^ widthOf Obj.CLK_REF_SWITCHES ∧ t.frc = s.frc)

/-- The PLL's lock begins phase 3 with VGAL; a rail that reads within ±5% of its set point with POWER_GOOD# clear is valid and the next begins,
the last ending the phase with the FRC at zero and the collector running; a rail not valid by its deadline is commanded off and tried once more,
and after that VCORE or VLANE_A makes the device wait 1 s and begin again (R57, R68, R384, R497 to R499). -/
def Obligations.RailsRiseInOrder : Prop :=
  (∀ s : State, s.boot.phase = .pll → s.power.rails.length = 5 → ∃ t, exec .rootPllLock s = .next t ∧ t.boot.phase = .rails ∧ t.boot.pllState = 1 ∧
    t.boot.railIx = 0 ∧ t.get Obj.PWR_STATE = 1 ∧ (t.rail 1).state = 1 ∧ (t.rail 0).state = 0 ∧ objectsBut [Obj.PWR_STATE] s t) ∧
  (∀ (s : State) (rail vout : Nat) (status : BitVec 16), s.busOn = true → s.boot.phase = .rails → s.boot.restartAt = none →
    s.power.rails.length = 5 → upOrder[s.boot.railIx]? = some rail → (s.rail rail).onSent = true → railValid (s.rail rail).set vout status = true →
    ∃ t, exec (.railPoll rail vout status) s = .next t ∧ (t.rail rail).vout = vout ∧ t.boot.railIx = s.boot.railIx + 1 ∧
      (s.boot.railIx < 4 → t.boot.phase = .rails ∧ (t.rail rail).state = 2) ∧
      (s.boot.railIx = 4 → t.boot.phase = .store ∧ t.tim.running = true ∧ t.tim.start = s.now ∧ t.frc = 0 ∧ t.flt.running = true ∧ t.get Obj.PWR_STATE = 2)) ∧
  (∀ (s : State) (rail : Nat), s.busOn = true → s.boot.phase = .rails → upOrder[s.boot.railIx]? = some rail → s.power.rails.length = 5 →
    (s.rail rail).onSent = true → (s.rail rail).deadline ≤ s.now →
    ∃ t, exec (.railDeadline rail) s = .next t ∧ Out.pmbus rail 0x01 0 ∈ t.out ∧
      ((s.rail rail).tries = 0 → (t.rail rail).tries = 1 ∧ (t.rail rail).state = 1 ∧ (t.rail rail).onSent = false ∧ t.boot.railIx = s.boot.railIx) ∧
      ((s.rail rail).tries ≠ 0 → rail = 0 ∨ rail = 3 → t.boot.restartAt = some (s.now + 800000000) ∧ t.boot.railIx = s.boot.railIx) ∧
      ((s.rail rail).tries ≠ 0 → rail = 1 ∨ rail = 2 ∨ rail = 4 → t.boot.railFault = some (253 + rail) ∧ t.boot.railIx = s.boot.railIx + 1))

/-- Phase 4 chooses the valid bank with the greater generation, A before B, and takes from its header the lifecycle state, the count of
transitions and the generation; a bank left by RETURN is erased; with no valid bank the device stops in the no-image state. An erased calibration
marks the record of every lane bad, and one whose records fail marks those (R74, R76, R81, R83, R412). -/
def Obligations.StoreReadChoosesTheBank : Prop :=
  (∀ (s : State) (bad : List Nat), s.boot.phase = .store → s.store.bankA.valid = false → s.store.bankB.valid = false →
    exec (.storeRead bad) s = .next { s with boot := { s.boot with phase := .noImage } }) ∧
  (∀ (s : State) (bad : List Nat) (k : Nat), s.boot.phase = .store → s.store.choose = some k → ∃ t, exec (.storeRead bad) s = .next t ∧
    t.boot.phase = .links ∧ t.store.active = k ∧
    ((s.store.bankA.valid = true ∧ s.store.bankB.valid = true) → k = if s.store.bankB.generation ≤ s.store.bankA.generation then 0 else 1) ∧
    (let b := if k = 0 then s.store.bankA else s.store.bankB
     b.valid = true ∧ t.get Obj.LCY_STATE = b.lifecycle ∧ t.get Obj.LCY_TRANSITIONS = b.transitions ∧ t.get Obj.LCY_PS_GENERATION = b.generation ∧
      t.get Obj.LCY_PS_BANK = k ∧ t.get Obj.LCY_RESET_CAUSE = s.boot.cause ∧ t.get Obj.ID_BOOT_SEL = s.boot.bootSel ∧
      (b.lifecycle = 3 → (if k = 0 then t.store.bankB else t.store.bankA) = {}) ∧
      t.boot.badCal = if b.calib.factory then bad.filter (· < 1024) else upTo 1024))

/-- Phases 5 to 10 follow one another, each on the command that ends it: link training, the galley's self-test with its result and counts, the
region wipes, the stored patch, the persisted values, and the enabling of Wonel, which puts the device in service and ends the start-up time (R68
to R72, R453, R471). Which checker the self-test names when one fails is a free value. -/
def Obligations.StartUpPhasesFollowInOrder : Prop :=
  (∀ (s : State) (bad closed skew : List Nat), s.boot.phase = .links → s.links.length = 8 →
    ∃ t, exec (.dieLinkTraining bad closed skew) s = .next t ∧ t.boot.phase = .selfTest ∧
      ∀ q, q < 8 → (t.link q).state = if closed.contains q then 4 else 2) ∧
  (∀ (s : State) (weak bad : List Nat) (us : Nat), s.boot.phase = .selfTest → ∃ t, exec (.galleySelfTest weak bad true us) s = .next t ∧
    t.boot.phase = .wipe ∧ t.get Obj.FLT_BIST_WEAK = weak.length ∧ t.get Obj.FLT_BIST_TIME = us ∧ t.fresh = s.fresh ∧
    (t.boot.selfTestFail.isSome = true ↔ t.get Obj.FLT_BIST_RESULT = 3) ∧ unchangedBut [.boot, .galley, .dict, .fresh] s t) ∧
  (∀ (s : State) (weak bad : List Nat) (us : Nat), s.boot.phase = .selfTest → ∃ t, exec (.galleySelfTest weak bad false us) s = .next t ∧
    t.boot.phase = .wipe ∧ t.get Obj.FLT_BIST_RESULT = 3 ∧ t.boot.selfTestFail.isSome = true) ∧
  (∀ (s : State) (ns : Nat), s.boot.phase = .wipe → ∃ t, exec (.wipe ns) s = .next t ∧ t.boot.phase = .patch ∧ t.get Obj.LCY_WIPE_STATE = 2 ∧
    t.get Obj.LCY_WIPE_TIME = ns ∧ t.mem.backs = [] ∧ t.mem.log = [] ∧ t.telem.wiped = s.now ∧
    t.get Obj.TBL_HASH_SEED_ACTIVE = smGet 0 s.bank.dictImage Obj.TBL_HASH_SEED) ∧
  (∀ (s : State) (flash : Bool), s.boot.phase = .patch → ∃ t, exec (.patchLoad flash) s = .next t ∧ t.boot.phase = .restore ∧
    t.store.flashPresent = (decide (s.boot.bootSel = 1) && flash) ∧ (2 ≤ s.boot.bootSel → t.cmp = s.cmp ∧ t.dict = s.dict)) ∧
  (∀ s : State, s.boot.phase = .restore → ∃ t, exec .dictionaryRestore s = .next t ∧ t.boot.phase = .enable ∧
    (2 ≤ s.boot.bootSel → unchangedBut [.boot] s t)) ∧
  (∀ s : State, s.boot.phase = .enable → ∃ t, exec .wonelEnable s = .next t ∧ t.boot.phase = .service ∧
    t.get Obj.LCY_START_TIME = (s.now - s.boot.clock0) / 800)

/-! ### Commits, resets and transitions (03) -/

/-- A START on `LCY_SOFT_RESET` is answered first; the reset then returns the device to phase 4 with its rails, straps and references as they
are, the FRC restarted, every memory as after wipe and the store kept. A running commit holds it back, a running transition drops it (R65, R84,
R384). A transition's commit publishes the target state with the count of transitions one higher and the new key; its end erases both copies of
the key region, for RETURN the other bank too, and resets the device into phase 4 with the lifecycle reset as cause (R81 to R83, R158). -/
def Obligations.ResetsInServiceReturnToPhaseFour : Prop :=
  ((∀ s : State, s.boot.softPending = true → s.store.transition = none → s.store.stage ≠ .running → ∃ t, exec .softReset s = .next t ∧
    t.boot.phase = .store ∧ t.boot.softPending = false ∧ t.boot.cause = 2 ∧ t.boot.bootSel = s.boot.bootSel ∧ t.boot.activeRef = s.boot.activeRef ∧
    t.boot.pllState = s.boot.pllState ∧ t.power.rails = s.power.rails ∧ t.tim.running = true ∧ t.tim.start = s.now ∧ t.frc = 0 ∧
    t.galley = State.reset.galley ∧ t.tables = State.reset.tables ∧ t.sched = State.reset.sched ∧ t.ports = [] ∧ t.mem = State.reset.mem ∧
    t.wonel = State.reset.wonel ∧ t.kce = State.reset.kce ∧ t.cmp = State.reset.cmp ∧ t.store = s.store.stopCommit ∧ t.get Obj.PWR_STATE = 2) ∧
  (∀ s : State, s.boot.softPending = true → s.store.transition = none → s.store.stage = .running → exec .softReset s = .next s) ∧
  (∀ s : State, s.boot.softPending = true → s.store.transition.isSome = true →
    exec .softReset s = .next { s with boot := { s.boot with softPending := false } })) ∧
  ((∀ (s : State) (x : Transition) (ok : Bool), s.store.stage = .running → s.store.transition = some x → x.step = 3 → s.store.active < 2 →
    ∃ t, exec (.commitComplete ok) s = .next t ∧ t.store.stage = .idle ∧ t.store.transition = some { x with step := 4 } ∧
      t.store.active = 1 - s.store.active ∧
      (let b := if s.store.active = 0 then t.store.bankB else t.store.bankA
       b.valid = true ∧ b.lifecycle = x.target ∧ b.transitions = s.bank.transitions + 1 ∧ b.generation = s.bank.generation + 1 ∧ b.carriedKey = x.key)) ∧
  (∀ (s : State) (x : Transition), s.store.transition = some x → x.step = 4 → ∃ t, exec .transitionFinish s = .next t ∧
    t.store.transition = none ∧ t.store.keys0 = {} ∧ t.store.keys1 = {} ∧ t.boot.phase = .store ∧ t.boot.cause = 3 ∧
    (x.target = 3 → s.store.active = 0 → t.store.bankB = {}) ∧ (x.target = 3 → s.store.active ≠ 0 → t.store.bankA = {}) ∧
    t.tim.running = true ∧ t.tim.start = s.now ∧ t.power.rails = s.power.rails ∧ t.links = State.reset.links))

/-- A held commit begins when 5 s have passed since the last began; when its programming ends, the other bank is valid with the next generation
and the snapshot, both copies of the key region carry the new generation, and the run ends OK. Images that do not fit the area end it BAD_LENGTH
with the code of the first record that does not fit, and nothing published (R74, R75, R77, R78, R79, R158). -/
def Obligations.CommitPublishesTheOtherBank : Prop :=
  (∀ (s : State), s.store.stage = .held → (∀ t0, s.store.lastStart = some t0 → t0 + 4000000000 ≤ s.now) → ∃ t, exec .commitHoldExpiry s = .next t ∧
    t.store.stage = .running ∧ t.store.snap = s.liveSnapshot ∧ t.store.lastStart = some s.now ∧
    (s.store.active = 0 → t.store.bankB.valid = false ∧ t.store.bankA = s.store.bankA) ∧
    (s.store.active = 1 → t.store.bankA.valid = false ∧ t.store.bankB = s.store.bankB) ∧ t.get (Obj.CMP_P_STATE 1) = 1) ∧
  (∀ (s : State) (ok : Bool), s.store.stage = .running → s.store.transition = none → s.store.queued = false → s.boot.bootSel ≠ 1 →
    s.store.active < 2 → firstUnfit 16 s.store.snap.images.records = none → ∃ t, exec (.commitComplete ok) s = .next t ∧
    t.store.active = 1 - s.store.active ∧ t.store.stage = .idle ∧
    (let b := if s.store.active = 0 then t.store.bankB else t.store.bankA
     b.valid = true ∧ b.generation = s.bank.generation + 1 ∧ b.dictImage = s.store.snap.dictImage ∧ b.patch = s.store.snap.patch ∧
      b.images = s.store.snap.images ∧ b.lifecycle = s.bank.lifecycle) ∧
    t.store.keys0.tag = some (s.bank.generation + 1) ∧ t.store.keys1.tag = some (s.bank.generation + 1) ∧ t.store.keys0 = t.store.keys1 ∧
    t.get Obj.LCY_PS_BANK = 1 - s.store.active ∧ t.get Obj.LCY_PS_GENERATION = s.bank.generation + 1 ∧
    t.get Obj.LCY_PS_COMMIT = runRecord (s.get Obj.LCY_PS_COMMIT) Res.ok 0) ∧
  (∀ (s : State) (ok : Bool) (code : Nat), s.store.stage = .running → s.store.transition = none → s.store.queued = false → s.boot.bootSel ≠ 1 →
    firstUnfit 16 s.store.snap.images.records = some code → ∃ t, exec (.commitComplete ok) s = .next t ∧
    t.store.active = s.store.active ∧ t.store.stage = .idle ∧ t.store.bankA = s.store.bankA ∧ t.store.bankB = s.store.bankB ∧
    t.get Obj.LCY_PS_COMMIT = runRecord (s.get Obj.LCY_PS_COMMIT) Res.badLength code)

/-! ### Wonel: ways in, sessions, requests (04, 05) -/

/-- A frame on a listening management port: what carries no well-formed Wonel message is dropped and counted; a message for a page that is empty,
failed or in PTP use is dropped; one whose TAG fails is dropped; one whose SEQ does not lie above the page's counter is answered REPLAY and moves
nothing; any other is accepted: the counter takes its SEQ, the page's count of messages rises by two, and the request waits in its session's
queue under the session's grant (R86, R94, R95, R118, R145, R153, R155). The order in which R95's two messages are counted is DEDUCED,
notes/assumptions/53. -/
def Obligations.RequestsAreAcceptedInOrder : Prop :=
  ∀ (s : State) (mg : Nat) (frame : Bytes), s.mgListens mg = true → s.mgEnabled mg = true →
    (∀ (v : Via) (m0 : Bytes), s.wonelOf (0x400 + mg) frame = some (v, m0) → msgMalformed m0 = false →
      let m := m0.take (36 + msgLength m0)
      let i := msgSession m
      (s.page i).use = 0 → (s.page i).state = 1 → (s.session i).queue.length < 4 → (s.session i).cache = none →
      s.wonel.sessions.length = 16 → s.kce.pages.length = 16 →
      ((s.tagPasses i m).1 = true → (s.page i).spent = false → (s.page i).counter < msgSeq m → msgSeq m ≠ 2 ^ 64 - 1 →
        ∃ u : State, exec (.wonelFrameRx (0x400 + mg) frame) s = .next (u.drainUnknown 64) ∧ (u.page i).counter = msgSeq m ∧
          (u.page i).used = (s.page i).used + 2 ∧ u.get (Obj.SES_WAY i) = 0x400 + mg ∧
          ∃ r : Request, r.msg = m ∧ r.via = v ∧ r.grant = s.get (Obj.SES_GRANT i) ∧ (u.session i).queue = (s.session i).queue ++ [r]) ∧
      ((s.tagPasses i m).1 = true → (s.page i).spent = false → msgSeq m ≤ (s.page i).counter →
        ∃ u : State, exec (.wonelFrameRx (0x400 + mg) frame) s = .next (u.drainUnknown 64) ∧ (u.page i).counter = (s.page i).counter ∧
          u.get (Obj.SES_ACCEPTED i) = s.get (Obj.SES_ACCEPTED i)) ∧
      ((s.tagPasses i m).1 = false →
        exec (.wonelFrameRx (0x400 + mg) frame) s = .next (((s.tagPasses i m).2.bump Obj.SES_BAD_TAG).drainUnknown 64))) ∧
    (∀ (v : Via) (m0 : Bytes), s.wonelOf (0x400 + mg) frame = some (v, m0) → msgMalformed m0 = false →
      let i := msgSession (m0.take (36 + msgLength m0))
      (s.page i).use ≠ 0 ∨ (s.page i).state = 0 ∨ (s.page i).state = 3 →
      exec (.wonelFrameRx (0x400 + mg) frame) s = .next ((s.bump Obj.SES_PAGE_DROPS).drainUnknown 64)) ∧
    ((s.wonelOf (0x400 + mg) frame = none ∨ ∃ e, s.wonelOf (0x400 + mg) frame = some e ∧ msgMalformed e.2 = true) →
      exec (.wonelFrameRx (0x400 + mg) frame) s = .next ((s.bump Obj.SES_RX_DROPPED).drainUnknown 64))

/-- An ARP request for the device's IPv4 address on a listening management port is answered on that port; any other frame there that is not Wonel
for the device is dropped and counted, as is every frame while the port is not in `SES_MG_ENABLE`. A frame of a front port is taken from those
delivered to the engine, and with `SES_INBAND` FALSE goes no further (R86, R88, R94). -/
def Obligations.ArpIsAnsweredAndOtherFramesDropped : Prop :=
  (∀ (s : State) (mg : Nat) (frame : Bytes) (v : Via) (sender : Bytes), s.mgListens mg = true → s.mgEnabled mg = true →
    s.arpOf (0x400 + mg) frame = some (v, sender) →
    let f := s.backFrame v 0x0806 (beBytes 8 0x0001080006040002 ++ beBytes 6 (s.get Obj.SES_MAC_ADDR) ++ beBytes 4 (s.get Obj.SES_IPV4_ADDR) ++ sender)
    ∃ t, exec (.arpRequest (0x400 + mg) frame) s = .next t ∧ t.out = Out.mgFrame mg (f ++ fcsBytes f) :: s.out ∧ unchangedBut [.out] s t) ∧
  (∀ (s : State) (mg : Nat) (frame : Bytes), s.mgListens mg = true →
    (s.mgEnabled mg = false → exec (.arpRequest (0x400 + mg) frame) s = .next (s.bump Obj.SES_RX_DROPPED) ∧
      exec (.wonelFrameRx (0x400 + mg) frame) s = .next (s.bump Obj.SES_RX_DROPPED) ∧
      exec (.mgFrameDropped mg frame) s = .next (s.bump Obj.SES_RX_DROPPED)) ∧
    (s.wonelOf (0x400 + mg) frame = none → s.arpOf (0x400 + mg) frame = none →
      exec (.mgFrameDropped mg frame) s = .next (s.bump Obj.SES_RX_DROPPED))) ∧
  (∀ (s : State) (way : Nat) (frame : Bytes), way < 0x400 → s.wonel.rx.contains (way, frame) = true → s.get Obj.SES_INBAND ≠ 1 →
    exec (.wonelFrameRx way frame) s = .next { s with wonel := { s.wonel with rx := s.wonel.rx.erase (way, frame) } } ∧
    exec (.arpRequest way frame) s = .next { s with wonel := { s.wonel with rx := s.wonel.rx.erase (way, frame) } })

/-- Management ports and idle sessions: an attempt of 2 s without lock goes on to the next FEC of the round; a link that comes up keeps its FEC,
one that goes down begins again, and both latch LINK; a session idle for its timeout closes with its latches, queue and bulk transfer, and the
key page keeps its counter (R89, R99, R115). -/
def Obligations.ManagementLinksAndIdleSessions : Prop :=
  (∀ (s : State) (mg : Nat), mg < 2 → s.wonelOn = true → (s.mgPort mg).up = false → s.get Obj.SES_MG_FEC = 0 → (s.mgPort mg).since + 1600000000 ≤ s.now →
    ∃ t, exec (.mgFecCycle mg) s = .next t ∧
      (t.mgPort mg).fec = (if (s.mgPort mg).fec = 3 then 2 else if (s.mgPort mg).fec = 2 then 1 else 3) ∧ (t.mgPort mg).since = s.now ∧
      (t.mgPort mg).up = false ∧ unchangedBut [.wonel] s t) ∧
  (∀ (s : State) (mg : Nat) (up : Bool), mg < 2 → s.wonelOn = true → (s.mgPort mg).up ≠ up → s.wonel.sessions.length = 16 →
    ∃ t, exec (.mgLinkChange mg up) s = .next t ∧ (t.mgPort mg).up = up ∧ (t.mgPort mg).since = s.now ∧
      (up = true → (t.mgPort mg).fec = (s.mgPort mg).fec) ∧
      (up = false → (t.mgPort mg).fec = if s.get Obj.SES_MG_FEC = 0 then 3 else s.get Obj.SES_MG_FEC) ∧
      (∀ i, i < 16 → (s.session i).isOpen = true → (t.session i).latches = (s.session i).latches ||| 16) ∧ unchangedBut [.wonel] s t) ∧
  (∀ (s : State) (i : Nat), i < 16 → s.wonel.sessions.length = 16 → (s.session i).isOpen = true → (s.session i).deadline ≤ s.now →
    ∃ t, exec (.sessionIdleTimeout i) s = .next t ∧ (t.session i).isOpen = false ∧ (t.session i).latches = 0 ∧ (t.session i).queue = [] ∧
      (t.session i).bulk = none ∧ (t.session i).cache = (s.session i).cache ∧ (∀ j, j ≠ i → t.session j = s.session j) ∧ unchangedBut [.wonel] s t)

/-- HELLO opens the session with the idle timeout asked for, bounded to 1 to 3,600 s, the default for 0, with ATTN_LOST latched and no transfer;
its reply gives the page's class and counters. In BLANK and RETURN only session 0 may open. BYE is answered and closes the session after its
reply (R97, R98, R116, R117). -/
def Obligations.HelloOpensAndByeCloses : Prop :=
  (∀ (s : State) (i : Nat) (r : Request), s.readyFor i r 0x01 = true → s.wonel.sessions.length = 16 →
    let lcy := s.get Obj.LCY_STATE
    let req := u (msgPayload r.msg) 0 2
    let idle := max 1 (min 3600 (if req = 0 then s.get Obj.SES_IDLE_DEFAULT else req))
    (¬ ((lcy = 0 ∨ lcy = 3) ∧ i ≠ 0) → ∃ u : State, exec .hello s = .next (State.finish i r
        ⟨Res.ok, [u8 (s.page i).cls, u8 lcy] ++ beBytes 2 idle ++ beBytes 2 1280 ++ [0, 0] ++ beBytes 8 (s.page i).counter ++
          beBytes 8 (2 ^ 48 - (s.page i).used), u, [], none, false⟩) ∧
      (u.session i).isOpen = true ∧ (u.session i).idle = idle ∧ (u.session i).deadline = s.now + idle * 800000000 ∧
      (u.session i).latches = 32768 ∧ (u.session i).bulk = none ∧ u.get (Obj.SES_ACCEPTED i) = 1) ∧
    ((lcy = 0 ∨ lcy = 3) ∧ i ≠ 0 → exec .hello s = .next (State.finish i r ⟨Res.badState, [], s.turnOf i, [], none, false⟩))) ∧
  (∀ (s : State) (i : Nat) (r : Request), s.readyFor i r 0x02 = true →
    exec .bye s = .next (State.finish i r ⟨Res.ok, [], s.turnOf i, [], none, (s.session i).isOpen⟩)) ∧
  (∀ (s : State) (i : Nat) (d : Done), i < s.wonel.sessions.length → d.writes = [] → d.started = none → d.bye = true →
    ((s.afterReply i d).session i).isOpen = false)

/-- READ answers one item and READ_MULTI one for each reference, in order: an object refused by the checks gives an item without value whose
ISTATUS names the first check that failed, and the state stays; the first code that is not OK is RESULT; a reply that would pass 1,280 bytes is
answered BAD_LENGTH with nothing read (R106, R108, R129, R130). -/
def Obligations.ReadsAnswerItemsInOrder : Prop :=
  (∀ (s : State) (i : Nat) (r : Request), s.readyFor i r 0x10 = true →
    let a := s.turnOf i
    let f := refAt (msgPayload r.msg) 0
    ((a.judgeRef i r.grant .read f).1 ≠ Res.ok → exec .read s = .next (State.finish i r
      ⟨(a.judgeRef i r.grant .read f).1, itemBytes f.idx f.sub (a.judgeRef i r.grant .read f).1 .u8 0, a, [], none, false⟩)) ∧
    ((a.judgeRef i r.grant .read f).1 = Res.ok → f.sub ≠ 0 →
      let x := (a.serveCmp i (f.idx * 256 + f.sub)).readObject i (f.idx * 256 + f.sub)
      exec .read s = .next (State.finish i r ⟨x.1, itemBytes f.idx f.sub x.1 (a.judgeRef i r.grant .read f).2 x.2.1, x.2.2, [], none, false⟩)) ∧
    ((a.judgeRef i r.grant .read f).1 = Res.ok → f.sub = 0 → exec .read s = .next (State.finish i r
      ⟨Res.ok, itemBytes f.idx 0 Res.ok .u8 (((maxSub f.idx).map Prod.fst).getD 0), a.serveCmp i (f.idx * 256), [], none, false⟩))) ∧
  (∀ (s : State) (i : Nat) (r : Request), s.readyFor i r 0x12 = true →
    let a := s.turnOf i
    let refs := (upTo (u (msgPayload r.msg) 0 2)).map fun k => refAt (msgPayload r.msg) (4 + 4 * k)
    let size := 4 + (refs.map fun f => a.refLen i r.grant f).foldl (· + ·) 0
    (1280 < size → exec .readMulti s = .next (State.finish i r ⟨Res.badLength, [], a, [], none, false⟩)) ∧
    (size ≤ 1280 →
      let x := a.readRefs i r.grant Res.ok (beBytes 2 refs.length ++ [0, 0]) refs
      exec .readMulti s = .next (State.finish i r ⟨x.1, x.2.1, x.2.2, [], none, false⟩))) ∧
  (∀ (s : State) (i g res : Nat) (out : Bytes) (f : Ref) (l : List Ref),
    s.readRefs i g res out (f :: l) =
      (s.readRef i g f).2.2.readRefs i g (if res = Res.ok then (s.readRef i g f).1 else res) (out ++ (s.readRef i g f).2.1) l)

/-- A WRITE or WRITE_MULTI any of whose items fails its check changes nothing: each failed item's result names its check, the others NOT_APPLIED,
and RESULT is the first that failed. One whose items all pass is applied in order, and what it wrote takes effect beside its reply (R107, R109,
R129). -/
def Obligations.WritesAreCheckedBeforeAnyIsApplied : Prop :=
  ∀ (s : State) (i : Nat) (r : Request) (multi : Bool), s.readyFor i r (if multi then 0x13 else 0x11) = true →
    let a := s.turnOf i
    let pl := msgPayload r.msg
    let items := (if multi then parseItems (pl.drop 4) (u pl 0 2) else parseItems pl 1).getD []
    let head : Bytes := if multi then slice pl 0 2 ++ [0, 0] else []
    let c : Instr := if multi then .writeMulti else .write
    let codes := items.map (a.checkItem i r.grant)
    (∀ bad, codes.find? (fun x => decide (x ≠ Res.ok)) = some bad →
      exec c s = .next (State.finish i r ⟨bad,
        head ++ (items.zip codes).flatMap (fun e => resultBytes e.1 (if e.2 = Res.ok then Res.notApplied else e.2)), a, [], none, false⟩)) ∧
    ((∀ x ∈ items, a.checkItem i r.grant x = Res.ok) →
      let x := a.applyItems i r.grant items
      exec c s = .next (State.finish i r ⟨x.1, head ++ x.2.1, x.2.2.2, x.2.2.1, none, false⟩))

/-- BULK_READ past a window's end is answered BAD_OFFSET, within it with up to LEN bytes cut at the end. A BULK_WRITE segment that fails a check
leaves the transfer and the window as they were and answers the offset it waits for; one that passes is written, and the transfer goes on behind
it or, at its last segment, is complete (R112, R113). -/
def Obligations.BulkTransfersMoveBySegments : Prop :=
  (∀ (s : State) (i : Nat) (r : Request), s.readyFor i r 0x20 = true →
    let a := s.turnOf i
    let pl := msgPayload r.msg
    let idx := u pl 0 2
    let off := u pl 4 4
    (a.judgeAccess i r.grant .bulkRead idx (u pl 2 1)).1 = Res.ok →
    let b := a.serveCmp i (idx * 256 + u pl 2 1)
    (windowSize idx ≤ off → exec .bulkRead s = .next (State.finish i r ⟨Res.badOffset, bulkHeader off 0, b, [], none, false⟩)) ∧
    (off < windowSize idx →
      let x := b.windowRead idx off (u pl 8 2)
      exec .bulkRead s = .next (State.finish i r ⟨Res.ok, bulkHeader off x.1.length ++ x.1, x.2, [], none, false⟩))) ∧
  (∀ (s : State) (i : Nat) (r : Request), s.readyFor i r 0x21 = true → s.wonel.sessions.length = 16 →
    let a := s.turnOf i
    let pl := msgPayload r.msg
    let idx := u pl 0 2
    let sub := u pl 2 1
    let off := u pl 4 4
    let data := pl.drop 12
    (a.judgeAccess i r.grant .bulkWrite idx sub).1 = Res.ok →
    let b := a.serveCmp i (idx * 256 + sub)
    let j := b.bulkJudge i idx sub (u pl 3 1) off (u pl 8 4) data
    (j.1 ≠ Res.ok → exec .bulkWrite s = .next (State.finish i r ⟨j.1, beBytes 4 (b.nextOffset i), b, [], none, false⟩)) ∧
    (j.1 = Res.ok → ∃ v : State, exec .bulkWrite s = .next (State.finish i r ⟨Res.ok, beBytes 4 (off + data.length), v, [], none, false⟩) ∧
      (bitOf (u pl 3 1) 1 = false → (v.session i).bulk = some { j.2 with next := off + data.length }) ∧
      (bitOf (u pl 3 1) 1 = true → (v.session i).bulk = none)))

/-- A START is answered by its object's own rules, and refused while a run of it lasts, a commit apart. An ABORT of an object that it cannot stop
answers NOT_ABORTABLE while that runs; of one that does not run, OK with nothing changed; of one that runs, OK with the run asked to stop; of a
window, it discards the session's own transfer (R77, R111, R113, R446). -/
def Obligations.StartsAndAbortsFollowTheirObjects : Prop :=
  (∀ (s : State) (i : Nat) (r : Request) (key : Nat), s.readyToStart i r key = true → s.nextIs (isStart (Obj.LN_RELEASE 0) 1024) = false →
    let x := (s.startTurn i key).startObject i (s.page i).cls key false
    exec .start s = .next (x.2.started i r key x.1) ∧
    ((s.startTurn i key).isBusy key = true → key ≠ Obj.LCY_PS_COMMIT → key ≠ Obj.LCY_TRANSITION → x.1 ≠ Res.ok ∧ x.2 = s.startTurn i key)) ∧
  (∀ (s : State) (i : Nat) (r : Request), s.readyFor i r 0x31 = true →
    let f := refAt (msgPayload r.msg) 0
    let key := f.idx * 256 + f.sub
    let a := (s.turnOf i).serveCmp i key
    ((s.turnOf i).judgeRef i r.grant .abort f).1 = Res.ok →
    (((s.turnOf i).judgeRef i r.grant .abort f).2 = .start → key ≠ Obj.LCY_SOFT_RESET →
      (abortable key = false → exec .abort s = .next (State.finish i r ⟨if a.isBusy key then Res.notAbortable else Res.ok, [], a, [], none, false⟩)) ∧
      (abortable key = true → a.isBusy key = false → exec .abort s = .next (State.finish i r ⟨Res.ok, [], a, [], none, false⟩)) ∧
      (abortable key = true → a.isBusy key = true → exec .abort s = .next (State.finish i r ⟨Res.ok, [], a.abortRun key, [], none, false⟩))) ∧
    (((s.turnOf i).judgeRef i r.grant .abort f).2 = .bulk → ∃ v : State, exec .abort s = .next (State.finish i r ⟨Res.ok, [], v, [], none, false⟩) ∧
      (v.session i).bulk = ((s.turnOf i).session i).bulk.filter fun b => !(decide (b.idx = f.idx) && decide (b.sub = f.sub))))

/-- A START on `LCY_SOFT_RESET` asks for the reset. One on `LCY_PS_COMMIT` begins the commit with its snapshot, or holds it for what is left of 5
s since the last began, or queues it behind the running one. One on `LCY_TRANSITION` to a state that R81 allows, confirmed and with a staged key,
begins the transition's commit on the bank and key-region copy that are not active, and closes every other session once it is answered (R65, R77,
R78, R80 to R83, R99, R158). -/
def Obligations.LifecycleStartsBeginTheirRuns : Prop :=
  (∀ (s : State) (i : Nat) (r : Request), s.readyToStart i r Obj.LCY_SOFT_RESET = true → s.boot.softPending = false → s.isBusy Obj.LCY_SOFT_RESET = false →
    let a := s.startTurn i Obj.LCY_SOFT_RESET
    exec .lcySoftReset s = .next (({ a with boot := { a.boot with softPending := true } } : State).started i r Obj.LCY_SOFT_RESET Res.ok)) ∧
  (∀ (s : State) (i : Nat) (r : Request), s.readyToStart i r Obj.LCY_PS_COMMIT = true →
    s.get Obj.LCY_STATE = 1 ∨ s.get Obj.LCY_STATE = 2 → s.boot.bootSel < 2 → s.get Obj.LCY_PS_WEAR < 99999000 → s.store.transition = none →
    (s.store.stage = .idle → (∀ t0, s.store.lastStart = some t0 → t0 + 4000000000 ≤ s.now) →
      ∃ v : State, exec .lcyPsCommit s = .next (v.started i r Obj.LCY_PS_COMMIT Res.ok) ∧ v.store.stage = .running ∧
        v.store.snap = (s.startTurn i Obj.LCY_PS_COMMIT).liveSnapshot ∧ v.isBusy Obj.LCY_PS_COMMIT = true ∧ v.store.lastStart = some s.now) ∧
    (∀ t0, s.store.stage = .idle → s.store.lastStart = some t0 → s.now < t0 + 4000000000 →
      ∃ v : State, exec .lcyPsCommit s = .next (v.started i r Obj.LCY_PS_COMMIT Res.ok) ∧ v.store.stage = .held ∧ v.isBusy Obj.LCY_PS_COMMIT = true) ∧
    (s.store.stage = .running → ∃ v : State, exec .lcyPsCommit s = .next (v.started i r Obj.LCY_PS_COMMIT Res.ok) ∧
      v.store.stage = .running ∧ v.store.queued = true ∧ v.store.snap = s.store.snap)) ∧
  (∀ (s : State) (i : Nat) (r : Request), s.readyToStart i r Obj.LCY_TRANSITION = true → s.store.transition = none → s.store.stage = .idle →
    s.isBusy Obj.LCY_TRANSITION = false → s.store.active < 2 →
    let len := s.get Obj.LCY_NEXT_KEY_LEN
    transitionAllowed (s.get Obj.LCY_STATE) (s.get Obj.LCY_TARGET) = true → s.get Obj.LCY_PS_WEAR < 100000000 →
    s.get Obj.LCY_CONFIRM = (s.get Obj.LCY_TRANSITIONS + 1) % 2 ^ 32 → len = 16 ∨ len = 32 →
    ∃ v : State, exec .lcyTransition s = .next (v.started i r Obj.LCY_TRANSITION Res.ok) ∧ v.store.stage = .running ∧
      v.store.transition = some ⟨s.get Obj.LCY_TARGET, (beBytes 32 (s.get Obj.LCY_NEXT_KEY)).take len, i, 3⟩ ∧
      (s.store.active = 0 → v.store.bankB.valid = false ∧ v.store.keys1 = {} ∧ v.store.keys0 = s.store.keys0) ∧
      (s.store.active = 1 → v.store.bankA.valid = false ∧ v.store.keys0 = {} ∧ v.store.keys1 = s.store.keys1)) ∧
  (∀ (s : State) (i j : Nat), j < 16 → j ≠ i → ((s.afterStart i Obj.LCY_TRANSITION).session j).isOpen = false)

/-! ### Keys (06) -/

/-- A raise of a ceiling is written to the next ring entry of both copies of the key region, with the page's INSTALLS, once the entry's last
write lies 5 s back, and is then in force for what waits for it; the hold of a page ends 5 s after its install (R156, R157, R162). An accepted
START on `KCE_INSTALL` is answered under the old key; then the page holds the staged key, use, class and threshold, its counters stand at zero
under new ceilings, INSTALLS counts, the staged key is gone, the page's grant is zero and its session is closed without a cached reply. A failed
check changes no page. `KCE_EMPTY` leaves the page without a key; page 0 is never emptied (R159 to R162, R146). -/
def Obligations.KeyPagesAreInstalledEmptiedAndRaised : Prop :=
  ((∀ (s : State) (page v : Nat) (usage : Bool), page < s.kce.pages.length →
    (if usage then (s.page page).raiseU else (s.page page).raiseS) = some v →
    let times := if usage then (s.page page).timesU else (s.page page).timesS
    let pos := if usage then (s.page page).posU else (s.page page).posS
    let wrote := fun (t : State) =>
      ((t.store.keys0.ring.find? fun x => decide (x.1 = ringKey page usage pos)).map Prod.snd = some (v, (s.page page).installs) ∧
        (t.store.keys1.ring.find? fun x => decide (x.1 = ringKey page usage pos)).map Prod.snd = some (v, (s.page page).installs)) ∧
      (if usage then (t.page page).writtenU = v ∧ (t.page page).raiseU = none ∧ (t.page page).posU = (pos + 1) % 32
        else (t.page page).writtenS = v ∧ (t.page page).raiseS = none ∧ (t.page page).posS = (pos + 1) % 32) ∧
      (t.page page).counter = (s.page page).counter ∧ (t.page page).used = (s.page page).used
    ((∀ t0, times[31]? = some t0 → t0 + 4000000000 ≤ s.now) → ∃ t, exec (.ceilingRaiseWritten page usage) s = .next t ∧ wrote t) ∧
    (∀ t0, times[31]? = some t0 → s.now < t0 + 4000000000 → exec (.ceilingRaiseWritten page usage) s = .next s) ∧
    (∀ t0, times[31]? = some t0 → t0 + 4000000000 ≤ s.now → ∃ t, exec (.keyRingEntryFree page usage) s = .next t ∧ wrote t)) ∧
  (∀ (s : State) (page : Nat), page < s.kce.pages.length → (s.page page).holdUntil ≤ s.now → ∃ t, exec (.kcePageHoldExpiry page) s = .next t ∧
    t.page page = { s.page page with holdUntil := 0 } ∧ unchangedBut [.kce] s t)) ∧
  ((∀ (s : State) (i : Nat) (r : Request) (p : Nat), p < 16 → s.readyToStart i r (Obj.KCE_INSTALL p) = true → s.wonel.sessions.length = 16 →
    s.kce.pages.length = 16 → s.get Obj.LCY_STATE = 1 ∨ s.get Obj.LCY_STATE = 2 ∨ p = 0 → s.isBusy (Obj.KCE_INSTALL p) = false → s.pageHold p = 0 →
    (s.installDetail p = 0 → ∃ u : State, exec .kceInstall s = .next (u.drainUnknown 64) ∧
      (u.page p).key = s.stagedKey p (s.get (Obj.KCE_NEW_KEYLEN p)) ∧ (u.page p).use = s.get (Obj.KCE_NEW_USE p) ∧
      (u.page p).cls = s.get (Obj.KCE_NEW_CLASS p) ∧ (u.page p).state = 1 ∧ (u.page p).counter = 0 ∧ (u.page p).used = 0 ∧
      (u.page p).near = s.get (Obj.KCE_NEW_NEAR p) ∧ (u.page p).installs = ((s.page p).installs + 1) % 2 ^ 32 ∧
      (u.page p).ceilS = 2 ^ 40 ∧ (u.page p).ceilU = 2 ^ 24 ∧ (u.page p).holdUntil = s.now + 4000000000 ∧
      u.get (Obj.KCE_NEW_KEY p) = 0 ∧ u.get (Obj.KCE_NEW_KEYLEN p) = 0 ∧ u.get (Obj.SES_GRANT p) = 0 ∧
      (u.session p).isOpen = false ∧ (u.session p).cache = none ∧
      u.get (Obj.KCE_INSTALL p) = runRecord (s.get (Obj.KCE_INSTALL p)) Res.ok 0) ∧
    (s.installDetail p ≠ 0 → ∃ u : State, exec .kceInstall s = .next (u.drainUnknown 64) ∧ u.kce.pages = s.kce.pages ∧
      u.get (Obj.KCE_INSTALL p) = runRecord (s.get (Obj.KCE_INSTALL p)) Res.badValue (s.installDetail p))) ∧
  (∀ (s : State) (i : Nat) (r : Request) (p : Nat), p < 16 → s.readyToStart i r (Obj.KCE_EMPTY p) = true → s.wonel.sessions.length = 16 →
    s.kce.pages.length = 16 → s.get Obj.LCY_STATE = 1 ∨ s.get Obj.LCY_STATE = 2 ∨ p = 0 → s.isBusy (Obj.KCE_EMPTY p) = false → s.pageHold p = 0 →
    ∃ u : State, exec .kceEmpty s = .next (u.drainUnknown 64) ∧
      (p = 0 → u.kce.pages = s.kce.pages ∧ u.get (Obj.KCE_EMPTY p) = runRecord (s.get (Obj.KCE_EMPTY p)) Res.badValue 6) ∧
      (p ≠ 0 → (u.page p).state = 0 ∧ (u.page p).key = [] ∧ (u.page p).installs = ((s.page p).installs + 1) % 2 ^ 32 ∧
        u.get (Obj.SES_GRANT p) = 0 ∧ (u.session p).isOpen = false ∧ (u.session p).cache = none ∧
        u.get (Obj.KCE_EMPTY p) = runRecord (s.get (Obj.KCE_EMPTY p)) Res.ok 0)))

/-- A message handed to the check engine waits in its level's queue of 16, and begins at once when nothing runs; a higher level suspends it at a
block boundary; what runs next is never below the level of anything that waits; a message that ends delivers its tag, or whether it agrees with
the one expected, and counts; an uncorrectable error in a context stops that message, one in a working copy every message of its page, which is
then loaded from the key region (R147, R153, R163 to R167, R169). -/
def Obligations.CheckEngineServesLevelsInOrder : Prop :=
  (∀ (s : State) (level page handle : Nat) (data : Bytes) (expect : Option Bytes), level < 5 → page < 16 →
    let m : KceMsg := ⟨level, page, handle, data, expect, [], 0, s.now⟩
    let waiting := (s.kce.queues.filter fun x => decide (x.level = level)).length
    (16 ≤ waiting → exec (.kceMessage level page handle data expect) s = .next s) ∧
    (waiting < 16 → s.kce.running.isSome = true → ∃ t, exec (.kceMessage level page handle data expect) s = .next t ∧
      t.kce.queues = s.kce.queues ++ [m] ∧ t.kce.running = s.kce.running ∧ unchangedBut [.kce] s t) ∧
    (s.kce.running = none → s.kce.queues = [] → s.kce.slots = [] → ∃ t, exec (.kceMessage level page handle data expect) s = .next t ∧
      t.kce.queues = [] ∧
      ((s.page page).serves (levelUse level) = true → t.kce.running = some { m with key := (s.page page).key }) ∧
      ((s.page page).serves (levelUse level) = false → t.kce.running = none ∧ t.kce.results = s.kce.results ++ [(handle, [], false)] ∧
        t.get Obj.KCE_REFUSED = (s.get Obj.KCE_REFUSED + 1) % 2 ^ widthOf Obj.KCE_REFUSED))) ∧
  (∀ (s : State) (m : KceMsg) (blocks : Nat), s.kce.running = some m → m.done + blocks < kceBlocks m.data →
    ((∃ x ∈ s.kce.queues, x.level < m.level) → ∃ u : State, exec (.kceSuspend blocks) s = .next u.kceNext ∧ u.kce.running = none ∧
      u.kce.slots = s.kce.slots ++ [{ m with done := m.done + blocks }] ∧ u.kce.queues = s.kce.queues) ∧
    ((∀ x ∈ s.kce.queues, m.level ≤ x.level) → exec (.kceSuspend blocks) s = .next s)) ∧
  (∀ (s : State) (m : KceMsg), s.kceNext.kce.running = some m →
    (∀ x ∈ s.kce.queues, m.level ≤ x.level) ∧ (∀ x ∈ s.kce.slots, m.level ≤ x.level)) ∧
  (∀ (s : State) (m : KceMsg), s.kce.running = some m → m.page < s.kce.pages.length →
    let tag := usedTag m.level (cmac m.key m.data)
    let pass := match m.expect with | some e => decide (e = tag) | none => true
    ∃ u : State, exec .kceMessageDone s = .next u.kceNext ∧ u.kce.running = none ∧
      u.kce.results = s.kce.results ++ [(m.handle, if m.expect.isSome then [] else tag, pass)] ∧
      u.get Obj.KCE_MESSAGES = (s.get Obj.KCE_MESSAGES + 1) % 2 ^ widthOf Obj.KCE_MESSAGES ∧
      (u.page m.page).used = (s.page m.page).used + (if m.level < 3 ∧ pass = true then 1 else 0)) ∧
  (∀ (s : State) (page i : Nat) (m : KceMsg), s.kce.slots[i]? = some m → ∃ t, exec (.kceUncorrectable page (some i)) s = .next t ∧
    t.kce.slots = s.kce.slots.erase m ∧ t.kce.results = s.kce.results ++ [(m.handle, [], false)] ∧ t.kce.pages = s.kce.pages) ∧
  (∀ (s : State) (page : Nat), page < s.kce.pages.length → ∃ t, exec (.kceUncorrectable page none) s = .next t ∧
    (∀ x ∈ t.kce.queues, x.page ≠ page) ∧ (∀ x ∈ t.kce.slots, x.page ≠ page) ∧ (∀ m, t.kce.running = some m → m.page ≠ page) ∧
    let c := if s.store.active = 0 then s.store.keys0 else s.store.keys1
    (t.page page).key = (loadPage c page).key ∧ (t.page page).state = (loadPage c page).state ∧ (t.page page).counter = (loadPage c page).counter ∧
      (t.page page).used = (loadPage c page).used)

/-! ### Lanes (07) -/

/-- A lane's receiver: signal starts adaptation and its loss ends it, except under loopbacks 1 and 2; adaptation ends with its values and ends a
run of `LN_ADAPT`; a continuous change comes no sooner than 100 µs after the last and moves the delay no more than 0.2 ps; the CDR locks with the
accumulator at 0, and its loss takes the lane and the PCS of its port with it, as does an offset beyond 250 ppm (R178 to R181, R185, R186, R189).
-/
def Obligations.LaneReceiversAdaptAndLock : Prop :=
  (∀ (s : State) (n : Nat), n < 1024 → (s.lane n).signal = false →
    (s.get (Obj.LN_LOOPBACK n) ≠ 1 → s.get (Obj.LN_LOOPBACK n) ≠ 2 → ∃ t, exec (.signalDetect n) s = .next t ∧
      (t.lane n).signal = true ∧ (t.lane n).adapted = false ∧ (t.lane n).cdr = false ∧ (t.lane n).pcs = false) ∧
    (s.get (Obj.LN_LOOPBACK n) = 1 ∨ s.get (Obj.LN_LOOPBACK n) = 2 →
      exec (.signalDetect n) s = .next (s.modLane n fun l => { l with signal := true }))) ∧
  (∀ (s : State) (n : Nat), n < 1024 →
    (s.get (Obj.LN_LOOPBACK n) ≠ 1 → s.get (Obj.LN_LOOPBACK n) ≠ 2 → ∃ t, exec (.signalLoss n) s = .next t ∧
      (t.lane n).signal = false ∧ (t.lane n).adapted = false ∧ (t.lane n).cdr = false ∧ (t.lane n).pcs = false) ∧
    (s.get (Obj.LN_LOOPBACK n) = 1 ∨ s.get (Obj.LN_LOOPBACK n) = 2 →
      exec (.signalLoss n) s = .next (s.modLane n fun l => { l with signal := false }))) ∧
  (∀ (s : State) (n ctle snr : Nat), s.laneOn n = true → s.rxOn n = true → (s.lane n).adapted = false →
    ∃ t, exec (.adaptationComplete n ctle snr) s = .next t ∧ (t.lane n).adapted = true ∧ (t.lane n).adaptedAt = s.now ∧
      t.get (Obj.LN_RX_CTLE n) = min 48 ctle ∧ t.get (Obj.LN_RX_SNR n) = snr % 65536 ∧
      (s.isBusy (Obj.LN_ADAPT n) = true → t.isBusy (Obj.LN_ADAPT n) = false ∧ t.get (Obj.LN_ADAPT n) = runRecord (s.get (Obj.LN_ADAPT n)) Res.ok 0)) ∧
  (∀ (s : State) (n ctle snr step : Nat), s.laneOn n = true → (s.lane n).cdr = true → (s.lane n).adapted = true →
    ((s.lane n).adaptedAt + 80000 ≤ s.now → step ≤ 200 → ∃ t, exec (.continuousAdaptation n ctle snr step) s = .next t ∧
      (t.lane n).adaptedAt = s.now ∧ t.get (Obj.LN_RX_CTLE n) = min 48 ctle ∧ t.get (Obj.LN_RX_SNR n) = snr % 65536) ∧
    (s.now < (s.lane n).adaptedAt + 80000 ∨ 200 < step → exec (.continuousAdaptation n ctle snr step) s = .next s)) ∧
  (∀ (s : State) (n : Nat), s.laneOn n = true → s.rxOn n = true → (s.lane n).adapted = true → (s.lane n).cdr = false → s.get (Obj.LN_LOOPBACK n) ≠ 2 →
    ∃ t, exec (.cdrLock n) s = .next t ∧ (t.lane n).cdr = true ∧ t.get (Obj.LN_CDR_PHASE n) = 0) ∧
  (∀ (s : State) (n : Nat), (s.lane n).cdr = true → ∃ t, exec (.cdrLockLoss n) s = .next t ∧ (t.lane n).cdr = false ∧ (t.lane n).pcs = false ∧
    (t.lane n).eye = none ∧ (∀ p, s.portOfLane n = some p → ∀ k ∈ s.ptLaneList p, (t.lane k).pcs = false) ∧
    ((s.lane n).eye.isSome = true → t.get (Obj.LN_EYE_RUN n) = runRecord (s.get (Obj.LN_EYE_RUN n)) Res.badState 1 ∧ t.get (Obj.LN_EYE_RESULT n) = 0)) ∧
  (∀ (s : State) (n : Nat) (ppm : Int) (steps : Nat), s.laneOn n = true → (s.lane n).cdr = true →
    ∃ t, exec (.ppmUpdate n ppm steps) s = .next t ∧ t.get (Obj.LN_RX_PPM n) = ofSigned 32 ppm ∧
      t.get (Obj.LN_CDR_PHASE n) = (s.get (Obj.LN_CDR_PHASE n) + steps) % 2 ^ 32 ∧
      ((t.lane n).cdr = true ↔ ppm.natAbs ≤ 25000) ∧ (ppm.natAbs ≤ 20000 → (s.lane n).over200 = false → t.flt = s.flt))

/-- Training, patterns and alignment: a training that ends within the limits of R176 gives the taps, one that fails is tried again a second
later; a checker's lock is reported with the bits and errors counted while it held; a port whose lanes all have their locks begins to satisfy the
conditions of R215; a skew change beyond 4 ns loses alignment and counts a flap on every lane; a received fault keeps the port down (R176, R177,
R181, R183, R190, R215). -/
def Obligations.LinksTrainAlignAndCountFlaps : Prop :=
  (∀ (s : State) (n : Nat) (taps : Bytes), s.laneOn n = true → s.get (Obj.LN_EQ_MODE n) = 1 → (s.lane n).trainDone = false → (s.lane n).retryAt = none →
    (ffeOk taps = true → ∃ t, exec (.linkTrainingEnd n true taps) s = .next t ∧ (t.lane n).trainDone = true ∧
      t.get (Obj.LN_TX_FFE_ACTIVE n) = beNat taps ∧ t.ffeActive n = beNat taps) ∧
    exec (.linkTrainingEnd n false taps) s = .next (s.modLane n fun x => { x with retryAt := some (s.now + 800000000) })) ∧
  (∀ (s : State) (n at_ : Nat), (s.lane n).retryAt = some at_ →
    (at_ ≤ s.now → exec (.linkTrainingRetry n) s = .next (s.modLane n fun x => { x with retryAt := none })) ∧
    (s.now < at_ → exec (.linkTrainingRetry n) s = .next s)) ∧
  (∀ (s : State) (n bits errors : Nat) (lock : Bool), n < 1024 → s.get (Obj.LN_PRBS_RX n) ≠ 0 → s.get (Obj.LN_PRBS_RX n) ≠ 10 →
    ∃ t, exec (.prbsLockChange n lock bits errors) s = .next t ∧ t.get (Obj.LN_PRBS_LOCK n) = b2n lock ∧
      (s.get (Obj.LN_PRBS_LOCK n) = 1 → errors ≤ bits →
        t.get (Obj.LN_PRBS_BITS n) = (s.get (Obj.LN_PRBS_BITS n) + bits) % 2 ^ widthOf (Obj.LN_PRBS_BITS n) ∧
        t.get (Obj.LN_PRBS_ERRORS n) = (s.get (Obj.LN_PRBS_ERRORS n) + errors) % 2 ^ widthOf (Obj.LN_PRBS_ERRORS n)) ∧
      (s.get (Obj.LN_PRBS_LOCK n) = 0 → t.get (Obj.LN_PRBS_BITS n) = s.get (Obj.LN_PRBS_BITS n))) ∧
  (∀ (s : State) (p : Nat), s.ptType p ≠ 0 →
    (∀ n ∈ s.ptLaneList p, s.laneOn n = true ∧ ((s.lane n).cdr = true ∨ s.get (Obj.LN_LOOPBACK n) = 2) ∧
      (s.get (Obj.LN_EQ_MODE n) = 1 → (s.lane n).trainDone = true ∨ s.get (Obj.LN_LOOPBACK n) ≠ 0)) →
    ∃ t, exec (.pcsLockAcquired p) s = .next t ∧ (∀ n ∈ s.ptLaneList p, (t.lane n).pcs = true) ∧
      ((s.port p).fault = 0 → (t.port p).okSince = some ((s.port p).okSince.getD s.now) ∧ (t.port p).badSince = none)) ∧
  (∀ (s : State) (p skew : Nat), 2 ≤ ptLanes (s.ptType p) → (∀ n ∈ s.ptLaneList p, (s.lane n).pcs = true) →
    (4000 < skew → ∃ t, exec (.alignmentLoss p skew) s = .next t ∧ (t.port p).okSince = none ∧
      ∀ n ∈ s.ptLaneList p, (t.lane n).pcs = false ∧ (t.lane n).flaps.head? = some s.now ∧
        t.get (Obj.LN_FLAPS n) = (s.get (Obj.LN_FLAPS n) + 1) % 2 ^ widthOf (Obj.LN_FLAPS n)) ∧
    (skew ≤ 4000 → exec (.alignmentLoss p skew) s = .next s)) ∧
  (∀ (s : State) (p fault : Nat), s.ptType p ≠ 0 → fault ≤ 2 → ∃ t, exec (.linkFaultRx p fault) s = .next t ∧ (t.port p).fault = fault ∧
    (fault ≠ 0 → (t.port p).okSince = none ∧ (t.port p).badSince = some ((s.port p).badSince.getD s.now)) ∧ unchangedBut [.ports] s t)

/-- A failed lane is held down with its cause and takes its port down; a failed PLL fails every lane of the octet on it; cause 4 needs eight
flaps in 60 s. `LN_RELEASE` ends the hold once the test of the cause passes, else it is CAUSE_PRESENT; `LN_ADAPT` discards the adapted state and
runs until adaptation completes (R178, R190, R191). -/
def Obligations.FailedLanesAreHeldUntilReleased : Prop :=
  (∀ (s : State) (n cause : Nat), n < 1024 → s.lnMode n ≠ 0 → (s.lane n).failCause = 0 →
    (cause = 1 ∨ cause = 3 ∨ (cause = 4 ∧ 8 ≤ ((s.lane n).flaps.filter fun t => decide (s.now < t + 48000000000)).length) →
      ∃ t, exec (.laneFailure n cause) s = .next t ∧ (t.lane n).failCause = cause ∧ (t.lane n).cdr = false ∧ (t.lane n).adapted = false ∧
        ∀ p, s.portOfLane n = some p → (t.port p).up = false) ∧
    (∃ t, exec (.laneFailure n 2) s = .next t ∧
      ∀ k, k / 8 = n / 8 → s.lnMode k ≠ 0 → pam4 (s.lnMode k) = pam4 (s.lnMode n) → (s.lane k).failCause = 0 → (t.lane k).failCause = 2) ∧
    (((s.lane n).flaps.filter fun t => decide (s.now < t + 48000000000)).length < 8 → exec (.laneFailure n 4) s = .next s)) ∧
  (∀ (s : State) (i : Nat) (r : Request) (n : Nat) (gone : Bool), n < 1024 → s.readyToStart i r (Obj.LN_RELEASE n) = true →
    s.isBusy (Obj.LN_RELEASE n) = false →
    let cause := (s.lane n).failCause
    ∃ v : State, exec (.lnRelease gone) s = .next (v.started i r (Obj.LN_RELEASE n) Res.ok) ∧
      (cause = 0 ∨ cause = 4 ∨ gone = true → (v.lane n).failCause = 0 ∧ v.get (Obj.LN_RELEASE n) = runRecord (s.get (Obj.LN_RELEASE n)) Res.ok 0) ∧
      (cause ≠ 0 → cause ≠ 4 → gone = false → v.lane n = s.lane n ∧
        v.get (Obj.LN_RELEASE n) = runRecord (s.get (Obj.LN_RELEASE n)) Res.causePresent 0)) ∧
  (∀ (s : State) (i : Nat) (r : Request) (n : Nat), n < 1024 → s.readyToStart i r (Obj.LN_ADAPT n) = true → s.isBusy (Obj.LN_ADAPT n) = false →
    ∃ v : State, exec .lnAdapt s = .next (v.started i r (Obj.LN_ADAPT n) Res.ok) ∧
      (s.lnMode n = 0 → v.get (Obj.LN_ADAPT n) = runRecord (s.get (Obj.LN_ADAPT n)) Res.badState 0) ∧
      (s.lnMode n ≠ 0 → v.isBusy (Obj.LN_ADAPT n) = true ∧ (v.lane n).adapted = false ∧ (v.lane n).cdr = false ∧
        ∀ p, s.portOfLane n = some p → (v.port p).up = false))

/-- An eye scan begins when no lane of its macro scans, the lane is locked and not under loopback 2; it goes on from point to point, up from the
centre and then down, while points pass, and its end gives the count and the result and ends the run; in mode 0 one point is the result (R187 to
R189). -/
def Obligations.EyeScansWalkTheirPoints : Prop :=
  (∀ (s : State) (i : Nat) (r : Request) (n : Nat), n < 1024 → s.readyToStart i r (Obj.LN_EYE_RUN n) = true → s.isBusy (Obj.LN_EYE_RUN n) = false →
    (∀ k, k / 8 = n / 8 → (s.lane k).eye = none) →
    let x := (s.startTurn i (Obj.LN_EYE_RUN n)).startObject i (s.page i).cls (Obj.LN_EYE_RUN n) false
    exec .lnEyeRun s = .next (x.2.started i r (Obj.LN_EYE_RUN n) x.1) ∧
    (s.lnMode n = 0 ∨ s.get (Obj.LN_LOOPBACK n) = 2 ∨ (s.lane n).cdr = false → x.1 = Res.badState) ∧
    (s.lnMode n ≠ 0 → s.get (Obj.LN_LOOPBACK n) ≠ 2 → (s.lane n).cdr = true → x.1 = Res.ok ∧ x.2.isBusy (Obj.LN_EYE_RUN n) = true ∧
      x.2.get (Obj.LN_EYE_RESULT n) = 0 ∧ x.2.get (Obj.LN_EYE_COUNT n) = 0 ∧
      (x.2.lane n).eye = some ⟨s.get (Obj.LN_EYE_MODE n), s.get (Obj.LN_EYE_LEN n), s.get (Obj.LN_EYE_BER n), true, 0, 0, 0, false, 0, false⟩)) ∧
  (∀ (s : State) (n errors : Nat) (e : EyeScan), (s.lane n).eye = some e →
    let errs := min errors (2 ^ e.len)
    let a := e.advance errs
    ∃ t, exec (.eyeScanPointComplete n errors) s = .next t ∧
      (e.mode = 0 → (t.lane n).eye = none ∧ t.get (Obj.LN_EYE_RESULT n) = errs % 2 ^ 40 ∧ t.get (Obj.LN_EYE_COUNT n) = 2 ^ e.len ∧
        t.isBusy (Obj.LN_EYE_RUN n) = false) ∧
      (e.mode ≠ 0 → a.2 = true ∨ e.abort = true → (t.lane n).eye = none ∧ t.get (Obj.LN_EYE_RESULT n) = a.1.result ∧
        t.get (Obj.LN_EYE_COUNT n) = a.1.count ∧
        t.get (Obj.LN_EYE_RUN n) = runRecord (s.get (Obj.LN_EYE_RUN n)) (if e.abort then Res.aborted else Res.ok) 0) ∧
      (e.mode ≠ 0 → a.2 = false → e.abort = false → (t.lane n).eye = some a.1 ∧ t.get (Obj.LN_EYE_COUNT n) = a.1.count)) ∧
  (∀ (e : EyeScan) (errors : Nat), e.passes errors = true → e.centre = true → e.offset ≠ e.limit → (e.advance errors).2 = false ∧
    (e.dirUp = true → (e.advance errors).1.offset = e.offset + 1 ∧ (e.advance errors).1.high = e.offset) ∧
    (e.dirUp = false → (e.advance errors).1.offset = e.offset - 1 ∧ (e.advance errors).1.low = e.offset))

/-! ### Die-links (07) -/

/-- A slot on a locked die-link lane: its place in the superframe follows from its SYNC; one whose CRC passes leaves the error count, one whose
CRC fails is counted for the lane and its direction; the last marker bit of a good record gives the FRC stamp of the direction. On a mirrored
lane, two bodies of one slot that differ are a mirror mismatch (R204). Without lock the lane waits for 64 correct SYNCs in a row. A failed
control cell is resent up to four times; what follows a fifth failure is the model's choice, DESIGN CHOICE, notes/assumptions/37 (R193 to R196,
R199, R200, R202). -/
def Obligations.DieLinkSlotsAreCheckedAndCounted : Prop :=
  (∀ (s : State) (q dir p own : Nat) (slot : Bytes), q < 8 → dir < 2 → p < 432 → s.links.length = 8 → (s.link q).state = 2 →
    (s.dlane q dir p).state ≠ 3 →
    let d := s.dlane q dir p
    let x := readSlot p d.scr slot
    (d.locked = true → ∃ t, exec (.dieLinkSlotRx q dir p own slot) s = .next t ∧
      (t.dlane q dir p).slot = (if x.marker then 0 else d.slot + 1) ∧ (t.dlane q dir p).scr = x.scr ∧ (t.dlane q dir p).badSlot = !x.ok ∧
      (t.dlane q dir p).crcErrors = (if x.ok then d.crcErrors else (d.crcErrors + 1) % 2 ^ 32) ∧
      (x.ok = false → dir = 0 → t.get (Obj.QD_CRC_UP q) = (s.get (Obj.QD_CRC_UP q) + 1) % 2 ^ widthOf (Obj.QD_CRC_UP q)) ∧
      (x.ok = false → dir = 1 → t.get (Obj.QD_CRC_DOWN q) = (s.get (Obj.QD_CRC_DOWN q) + 1) % 2 ^ widthOf (Obj.QD_CRC_DOWN q)) ∧
      (x.ok = true → t.get (Obj.QD_LOST_SLOTS q) = s.get (Obj.QD_LOST_SLOTS q)) ∧
      (x.ok = true → d.misSync < 3 → x.marker = true ∨ d.slot ≠ 126 → ∀ r, s.mirrorOf q dir p = some r →
        (t.link q).mismatches = (s.link q).mismatches + b2n (r.pair p (if x.marker then 0 else d.slot + 1) x.body).1) ∧
      (x.ok = true → x.marker = false → d.slot = 126 → d.markerOk = true → d.misSync < 3 →
        (dir = 0 → (t.link q).stampUp = (2 * d.marker + b2n x.mkBit) % 2 ^ 64) ∧
        (dir = 1 → (t.link q).stampDown = (2 * d.marker + b2n x.mkBit) % 2 ^ 64))) ∧
    (d.locked = false → ∃ t, exec (.dieLinkSlotRx q dir p own slot) s = .next t ∧
      ((t.dlane q dir p).locked = true ↔ (x.syncOk = true ∧ d.goodSync = 63)) ∧ (t.dlane q dir p).crcErrors = d.crcErrors)) ∧
  (∀ (s : State) (q dir : Nat) (cell : Bytes) (ok : Bool), q < 8 → dir < 2 → s.links.length = 8 → cell.length = 16 →
    let n := fun (a : State) => if dir = 0 then (a.link q).resendUp else (a.link q).resendDown
    n s ≠ 0 → ∃ t, exec (.controlCellResend q dir cell ok) s = .next t ∧ n t = if ok then 0 else if n s < 4 then n s + 1 else 0)

/-- A margin below the threshold for 10 ms, the loss of lock of a lane, and every call for repair of a lane that carries traffic make its source
severe, and with a reaction time of 0 and a spare left the repair waits at its quoin's manager; a margin at the threshold or above clears the
time. The loss of a whole die-link fails it (R29, R203, R205, R482, R486). The manager of a quoin takes up its oldest repair with the spare of
R204; from slot n both lanes carry the logical lane; after 4,096 clean slots, or when p has lost lock, it is taken from s alone; at the stop slot
p is retired and the repair noted. A START on `QD_REPAIR` retires a spare at once, queues the repair of any other lane, and refuses a lane that
does not exist, is retired, or has no spare (R204 to R206, R210). -/
def Obligations.DieLinkLanesAreRepaired : Prop :=
  ((∀ (s : State) (q dir p margin : Nat), q < 8 → dir < 2 → p < 432 → s.links.length = 8 → (s.link q).state = 2 → (s.dlane q dir p).state < 3 →
    (s.get (Obj.QD_MARGIN_THRESH q) ≤ margin → margin ≤ 255 → ∃ t, exec (.marginMeasure q dir p margin) s = .next t ∧
      (t.dlane q dir p).margin = some margin ∧ (t.dlane q dir p).lowSince = none ∧ unchangedBut [.links] s t) ∧
    (margin < s.get (Obj.QD_MARGIN_THRESH q) → margin ≤ 255 → (s.dlane q dir p).lowSince = none → ∃ t, exec (.marginMeasure q dir p margin) s = .next t ∧
      (t.dlane q dir p).margin = some margin ∧ (t.dlane q dir p).lowSince = some s.now ∧ unchangedBut [.links] s t)) ∧
  (∀ (s : State) (q dir p margin t0 : Nat), q < 8 → dir < 2 → p < 432 → s.links.length = 8 → (s.link q).state = 2 → (s.dlane q dir p).state = 0 →
    (s.dlane q dir p).logical.isSome = true → (s.source (128 + 2 * q + dir)).status ≤ 1 → (s.srcCfg (128 + 2 * q + dir)).react = 0 →
    s.noSpare (128 + 2 * q + dir) = false →
    (∀ x ∈ s.flt.repairs, x.source ≠ some (128 + 2 * q + dir)) →
    let called := fun (t : State) => (t.source (128 + 2 * q + dir)).status = 3 ∧
      ∃ x ∈ t.flt.repairs, x.kind = .dieLink q dir p ∧ x.stack = 3 + q ∧ x.source = some (128 + 2 * q + dir)
    (margin < s.get (Obj.QD_MARGIN_THRESH q) → margin ≤ 255 → (s.dlane q dir p).lowSince = some t0 → t0 + 8000000 ≤ s.now →
      ∃ t, exec (.marginMeasure q dir p margin) s = .next t ∧ called t) ∧
    ((s.dlane q dir p).locked = true → ∃ t, exec (.dieLinkLockLoss q dir p false) s = .next t ∧ (t.dlane q dir p).locked = false ∧ called t)) ∧
  (∀ (s : State) (q : Nat), q < 8 → s.links.length = 8 → (s.link q).state = 2 → ∃ t, exec (.dieLinkLockLoss q 0 0 true) s = .next t ∧
    (t.link q).state = 4 ∧ (t.source (144 + q)).count = ((s.source (144 + q)).count + 1) % 2 ^ 64)) ∧
  ((∀ (s : State) (q dir p l x : Nat) (r : Repair), q < 8 → s.links.length = 8 → (s.link q).repair = none →
    s.flt.repairs.find? (fun r => decide (r.stack = 3 + q)) = some r → r.kind = .dieLink q dir p → (s.dlane q dir p).logical = some l →
    s.spareFor q dir p = some x → ∃ t, exec (.repairSpareChoice q) s = .next t ∧
      (t.link q).repair = some ⟨dir, l, p, x, r.reason, .chosen, r.source.isNone, r.source, 0, none⟩ ∧ (t.dlane q dir x).state = 2 ∧
      (t.dlane q dir x).logical = none) ∧
  (∀ (s : State) (q : Nat) (r : LinkRepair), q < 8 → s.links.length = 8 → (s.link q).repair = some r → r.p ≠ r.s →
    (r.stage = .chosen → ∃ t, exec (.mirrorStart q) s = .next t ∧ (t.link q).repair = some { r with stage := .mirroring, clean := 0, held := none } ∧
      (t.dlane q r.dir r.s).logical = some r.logical ∧ t.dlane q r.dir r.p = s.dlane q r.dir r.p) ∧
    (r.stage = .mirroring → 4096 ≤ r.clean ∨ (s.dlane q r.dir r.p).locked = false → ∃ t, exec (.mirrorSwitch q) s = .next t ∧
      (t.link q).repair = some { r with stage := .switched } ∧ (t.dlane q r.dir r.s).state = 0 ∧
      (t.dlane q r.dir r.s).logical = some r.logical ∧ (t.dlane q r.dir r.p).logical = none) ∧
    (r.stage = .mirroring → r.clean < 4096 → (s.dlane q r.dir r.p).locked = true → exec (.mirrorSwitch q) s = .next s) ∧
    (r.stage = .switched → ∃ t, exec (.repairStopSlot q) s = .next t ∧ (t.link q).repair = none ∧ (t.dlane q r.dir r.p).state = 3 ∧
      t.get (Obj.QD_LAST_REPAIR q) = r.reason * 2 ^ 56 + r.dir * 2 ^ 48 + r.logical * 2 ^ 32 + r.p * 2 ^ 16 + r.s ∧
      t.get (Obj.QD_REPAIRS q) = (s.get (Obj.QD_REPAIRS q) + 1) % 2 ^ widthOf (Obj.QD_REPAIRS q) ∧
      (r.commanded = true → t.get (Obj.QD_REPAIR q) = runRecord (s.get (Obj.QD_REPAIR q)) Res.ok 0))) ∧
  (∀ (s : State) (i : Nat) (r : Request) (q : Nat), q < 8 → s.links.length = 8 → s.readyToStart i r (Obj.QD_REPAIR q) = true →
    s.isBusy (Obj.QD_REPAIR q) = false → (∀ x ∈ s.flt.repairs, x.stack ≠ 3 + q) →
    let w := s.get (Obj.QD_REPAIR_LANE q)
    let dir := w / 2 ^ 15
    let p := w % 512
    let d := s.dlane q dir p
    let rec_ := fun (o det : Nat) => runRecord (s.get (Obj.QD_REPAIR q)) o det
    ∃ v : State, exec .qdRepair s = .next (v.started i r (Obj.QD_REPAIR q) Res.ok) ∧
      (431 < p → v.get (Obj.QD_REPAIR q) = rec_ Res.badValue 1) ∧
      (p ≤ 431 → d.state = 3 → v.get (Obj.QD_REPAIR q) = rec_ Res.badValue 2) ∧
      (p ≤ 431 → d.state ≠ 3 → d.logical = none → (v.dlane q dir p).state = 3 ∧ v.get (Obj.QD_REPAIR q) = rec_ Res.ok 0) ∧
      (p ≤ 431 → d.state ≠ 3 → d.logical.isSome = true → s.spareFor q dir p = none → s.gatedLane q dir = none →
        v.get (Obj.QD_REPAIR q) = rec_ Res.badValue 3) ∧
      (p ≤ 431 → d.state ≠ 3 → d.logical.isSome = true → (s.spareFor q dir p).isSome = true → v.isBusy (Obj.QD_REPAIR q) = true ∧
        v.flt.repairs = s.flt.repairs ++ [Repair.mk (3 + q) none (.dieLink q dir p) 4 s.now false])))

/-! ### Ports (08) -/

/-- A port comes up when its conditions have held, nothing holds it down and no flush runs; a port that is up goes down when a condition has
failed for its time, or it is held down or disabled: its transmission ends, its timers clear, its flush begins; at the end of the flush its
queues are empty (R215, R217, R357). -/
def Obligations.PortsComeUpAndGoDown : Prop :=
  (∀ (s : State) (p : Nat), (s.mayComeUp p = true → ∃ t, exec (.portUp p) s = .next t ∧ (t.port p).up = true ∧ (t.port p).idleSince = s.now ∧
      t.get (Obj.PT_LINK_CHANGES p) = (s.get (Obj.PT_LINK_CHANGES p) + 1) % 2 ^ widthOf (Obj.PT_LINK_CHANGES p)) ∧
    (s.mayComeUp p = false → exec (.portUp p) s = .next s)) ∧
  (∀ (s : State) (p : Nat), (s.port p).up = true →
    (s.portHeld p = true ∨ s.get (Obj.PT_ENABLE p) = 0 ∨
      (∃ b, (s.port p).badSince = some b ∧ b + s.get (Obj.PT_DOWN_HOLD p) * 800000 ≤ s.now) →
      ∃ t, exec (.portDown p) s = .next t ∧ (t.port p).up = false ∧ (t.port p).flushing = true ∧ (t.port p).writing = none ∧
        (t.port p).sending = none ∧ (t.port p).tx = [] ∧ (t.port p).timers = [] ∧ (t.port p).xoff = 0 ∧ (t.port p).txLpi = false ∧
        t.get (Obj.Q_FLUSH_STATE p) = 1 ∧
        t.get (Obj.PT_LINK_CHANGES p) = (s.get (Obj.PT_LINK_CHANGES p) + 1) % 2 ^ widthOf (Obj.PT_LINK_CHANGES p)) ∧
    (s.portHeld p = false → s.get (Obj.PT_ENABLE p) ≠ 0 → (s.port p).badSince = none → exec (.portDown p) s = .next s)) ∧
  (∀ (s : State) (p : Nat), (s.port p).flushing = true → ∃ t, exec (.flushComplete p) s = .next t ∧ (t.port p).flushing = false ∧
    t.get (Obj.Q_FLUSH_STATE p) = 0 ∧ ∀ q, q < 16 → (t.queue p q).entries = [])

/-- A received pause frame loads its timers 10 ns after it, a timer at its end is gone, XOFF is refreshed after half the pause time, and a
refused priority is released when its port has room again (R226, R227, R327). -/
def Obligations.PauseTimersLoadExpireAndRefresh : Prop :=
  (∀ (s : State) (p : Nat) (l : PauseLoad) (rest : List PauseLoad), (s.port p).loads = l :: rest →
    (s.now < l.at_ → exec (.pauseFrameRx p) s = .next s) ∧
    (l.at_ ≤ s.now → ∃ t, exec (.pauseFrameRx p) s = .next t ∧ (t.port p).loads = rest ∧
      (l.link = true → smGet 0 (t.port p).timers 8 =
        if listAt 0 l.times 0 = 0 then 0 else l.at_ + quantaTicks (s.ptSpeed p) (listAt 0 l.times 0)) ∧
      (l.link = false → ∀ i, i < 8 → smGet 0 (t.port p).timers i =
        if bitOf l.mask i ∧ bitOf (s.get (Obj.PT_PFC_ENABLE p)) i then
          (if listAt 0 l.times i = 0 then 0 else l.at_ + quantaTicks (s.ptSpeed p) (listAt 0 l.times i))
        else smGet 0 (s.port p).timers i))) ∧
  (∀ (s : State) (p k e : Nat), (s.port p).timers.find? (fun x => decide (x.1 = k)) = some (k, e) →
    (e ≤ s.now → ∃ t, exec (.pauseTimerExpiry p k) s = .next t ∧ smGet 0 (t.port p).timers k = 0 ∧
      ∀ j, j ≠ k → smGet 0 (t.port p).timers j = smGet 0 (s.port p).timers j) ∧
    (s.now < e → exec (.pauseTimerExpiry p k) s = .next s)) ∧
  (∀ (s : State) (p : Nat), s.portUp p = true → (s.port p).xoff ≠ 0 → s.get (Obj.PT_FC_MODE p) ≠ 0 →
    (s.port p).lastPause + quantaTicks (s.ptSpeed p) (s.get (Obj.PT_PAUSE_QUANTA p)) / 2 ≤ s.now →
    ((s.port p).sending = none → (s.port p).waking = none → (s.port p).txLpi = false →
      let b := s.pauseBytes p (s.get (Obj.PT_FC_MODE p)) (s.port p).xoff ((s.port p).pauseDue.getD 0)
      ∃ t, exec (.pauseRefresh p) s = .next t ∧ (t.port p).lastPause = s.now ∧ (t.port p).pauseDue = none ∧
        (s.nearLoop p = false → t.out = Out.pauseFrame p (b ++ fcsBytes b) :: s.out) ∧
        (s.nearLoop p = true → t.out = s.out ∧ (t.port p).loop = (s.port p).loop ++ [b ++ fcsBytes b]) ∧
        t.get (Obj.CTR_TX_PAUSE p) = (s.get (Obj.CTR_TX_PAUSE p) + 1) % 2 ^ widthOf (Obj.CTR_TX_PAUSE p)) ∧
    ((s.port p).sending.isSome = true → ∃ t, exec (.pauseRefresh p) s = .next t ∧ t.out = s.out ∧
      (t.port p).pauseDue = some ((s.port p).pauseDue.getD 0))) ∧
  (∀ (s : State) (p : Nat),
    let free := fun (e : Nat × Nat) =>
      decide (s.heldBytes p e.1 ≤ s.xonMark p e.1) && decide (4 * (s.port p).fifoBytes ≤ s.fifoSize p) && s.admits p e.2
    ∃ t, exec (.losslessRefusalCheck p) s = .next t ∧ (t.port p).refused = (s.port p).refused.filter fun e => !(free e))

/-- A port with nothing to send goes into low-power idle after its time, a wake ends after the wake time, and what the partner does is counted;
the LLDP agent sends every 30 s, takes the partner's wake time from a frame that carries it, and forgets it after 90 s (R230, R231). What an LLDP
frame holds besides is PRESUMED, notes/assumptions/34. -/
def Obligations.LowPowerIdleAndLldp : Prop :=
  (∀ (s : State) (p : Nat), s.portUp p = true → s.get (Obj.PT_LPI_ENABLE p) = 1 → (s.port p).sending = none → (s.port p).tx = [] →
    (s.port p).pauseDue = none → (s.port p).waking = none → (s.port p).txLpi = false → (∀ q, q < 16 → (s.queue p q).entries = []) →
    (s.port p).idleSince + nsTicks (s.get (Obj.PT_LPI_IDLE p)) ≤ s.now →
    ∃ t, exec (.lpiEntry p) s = .next t ∧ (t.port p).txLpi = true ∧ (t.port p).txLpiSince = s.now ∧ t.out = Out.lpi p true :: s.out ∧
      t.get (Obj.CTR_LPI_TX_ENTRIES p) = (s.get (Obj.CTR_LPI_TX_ENTRIES p) + 1) % 2 ^ widthOf (Obj.CTR_LPI_TX_ENTRIES p)) ∧
  (∀ (s : State) (p t0 : Nat), (s.port p).waking = some t0 →
    (s.now < t0 + s.lpiTw p * 800 → exec (.lpiWakeComplete p) s = .next s) ∧
    (t0 + s.lpiTw p * 800 ≤ s.now → ∃ t, exec (.lpiWakeComplete p) s = .next t ∧ (t.port p).waking = none ∧ (t.port p).idleSince = s.now ∧
      (t.port p).pauseDue = none)) ∧
  (∀ (s : State) (p : Nat), s.portUp p = true →
    ((s.port p).rxLpi = false → ∃ t, exec (.lpiRxChange p true) s = .next t ∧ (t.port p).rxLpi = true ∧ (t.port p).rxLpiSince = s.now ∧
      unchangedBut [.ports] s t) ∧
    ((s.port p).rxLpi = true → ∃ t, exec (.lpiRxChange p false) s = .next t ∧ (t.port p).rxLpi = false ∧
      (lpiDeep (s.ptType p) = true → (t.port p).wakeTs = s.now + 800) ∧
      t.get (Obj.CTR_LPI_RX_US p) = (s.get (Obj.CTR_LPI_RX_US p) + (s.now - (s.port p).rxLpiSince) / 800) % 2 ^ widthOf (Obj.CTR_LPI_RX_US p))) ∧
  (∀ (s : State) (p : Nat), s.portUp p = true → s.get (Obj.PT_LLDP p) = 1 →
    ((∀ t0, (s.port p).lldpSent = some t0 → t0 + 24000000000 ≤ s.now) →
      exec (.lldpSend p) s = .next ((s.modPort p fun x => { x with lldpSent := some s.now }).cmpSend p 15 (s.lldpFrame p))) ∧
    (∀ t0, (s.port p).lldpSent = some t0 → s.now < t0 + 24000000000 → exec (.lldpSend p) s = .next s)) ∧
  (∀ (s : State) (p : Nat) (f : Bytes) (rest : List Bytes), (s.port p).lldpRx = f :: rest → ∃ t, exec (.lldpRx p) s = .next t ∧
    (t.port p).lldpRx = rest ∧
    (∀ tw, lldpEee (f.drop 14) f.length = some tw → t.get (Obj.PT_LPI_TW p) = tw ∧ (t.port p).lldpHeard = s.now) ∧
    (lldpEee (f.drop 14) f.length = none → t.get (Obj.PT_LPI_TW p) = s.get (Obj.PT_LPI_TW p))) ∧
  (∀ (s : State) (p : Nat), s.portUp p = true → (s.port p).lldpHeard + 72000000000 ≤ s.now →
    exec (.lldpTimeout p) s = .next (s.put (Obj.PT_LPI_TW p) 0))

/-- A port that is not up receives nothing; under far-end loopback its balls carry the frame back, and under near-end loopback the oldest frame
it sent arrives in place of the balls' (R185). A frame shorter than 64 B is counted by its row of R218 and discarded; a good frame that no rule
sends elsewhere is counted and enters the receive FIFO whole, or finds no place and is counted by its priority's kind; one whose checks fail
enters marked bad and is counted by its row only (R218 to R222, R220). -/
def Obligations.ReceivedFramesEnterTheFifo : Prop :=
  ∀ (s : State) (p : Nat) (frame : Bytes) (pcsErr : Bool) (ts : RxStamp),
    let got := frame.take 10240
    let order := rxOrder got.length (s.get (Obj.PT_MAXLEN p)) pcsErr (decide (10240 < frame.length)) (fcsGood frame)
    let w := got.take (got.length - 4)
    let tag := s.tagOf p w
    (s.portUp p = false → s.farLoop p = false → exec (.frameRx p frame pcsErr ts) s = .next s) ∧
    (s.portUp p = false → s.farLoop p = true → exec (.frameRx p frame pcsErr ts) s = .next (s.emit (.frame p frame false))) ∧
    (s.portUp p = true → s.nearLoop p = true → ((s.port p).loop = [] → exec (.frameRx p frame pcsErr ts) s = .next s) ∧
      ∀ g rest, (s.port p).loop = g :: rest → exec (.frameRx p frame pcsErr ts) s =
        .next ((s.modPort p fun x => { x with loop := rest }).macReceive p g pcsErr ts)) ∧
    (s.portUp p = true → s.nearLoop p = false → exec (.frameRx p frame pcsErr ts) s = .next (s.macReceive p frame pcsErr ts)) ∧
    (s.portUp p = true → s.nearLoop p = false → got.length < 64 → exec (.frameRx p frame pcsErr ts) s = .next (s.bump (rxCounter p order))) ∧
    (s.portUp p = true → s.nearLoop p = false → 64 ≤ got.length → u w 12 2 ≠ 0x8808 → u w 12 2 ≠ 0x88CC → u w 0 6 ≠ s.get Obj.SES_MAC_ADDR →
      s.tagRefused p tag.2.2.1 tag.2.2.2 = false → ptpFind (s.get (Obj.PT_STAG_TPID p)) w = none →
      let f : RxFrame := ⟨w, decide (order ≠ 0), tag.2.1, tag.1, tag.2.2.1, s.lossless p tag.2.1, .pipeline, s.tRx p ts⟩
      let room := (s.port p).fifoBytes + s.get (Obj.PT_MAXLEN p) ≤ s.fifoSize p
      ∃ t, exec (.frameRx p frame pcsErr ts) s = .next t ∧
        (room → (t.port p).fifo = (s.port p).fifo ++ [f]) ∧
        (¬ room → (t.port p).fifo = (s.port p).fifo) ∧
        (order = 0 → t.get (Obj.CTR_RX_FRAMES p) = (s.get (Obj.CTR_RX_FRAMES p) + 1) % 2 ^ widthOf (Obj.CTR_RX_FRAMES p)) ∧
        (order ≠ 0 → t.get (Obj.CTR_RX_FRAMES p) = s.get (Obj.CTR_RX_FRAMES p)) ∧
        (order = 0 → ¬ room → f.lossless = true →
          t.get (Obj.CTR_RX_LOSSLESS_DROP p) = (s.get (Obj.CTR_RX_LOSSLESS_DROP p) + 1) % 2 ^ widthOf (Obj.CTR_RX_LOSSLESS_DROP p)) ∧
        (order = 0 → ¬ room → f.lossless = false →
          t.get (Obj.CTR_RX_OVERFLOW_DROP p) = (s.get (Obj.CTR_RX_OVERFLOW_DROP p) + 1) % 2 ^ widthOf (Obj.CTR_RX_OVERFLOW_DROP p)))

/-- A large send is refused and counted, or cut into segments of SEG bytes of payload, the last the rest, each sent from its queue in order. A
START on `CTR_CLEAR` returns the port's statistics to zero (R232 to R234, R237). -/
def Obligations.LargeSendsAreSegmentedAndStatisticsCleared : Prop :=
  (∀ (s : State) (record template payload : Bytes),
    let r := parseLarge record
    14 ≤ r.hdrLen → r.hdrLen ≤ 128 → 0 < r.seg → 0 < r.total → 8 + r.hdrLen + r.total ≤ 65536 → r.l3 ≤ 2 →
    let t := padTo r.hdrLen template
    let pay := padTo r.total payload
    (s.largeRefused r t = true → exec (.largeSend record template payload) s = .next (s.bump (Obj.CTR_TX_LSO_REFUSED r.port))) ∧
    (s.largeRefused r t = false → exec (.largeSend record template payload) s =
      .next ((segmentsFrom r t 0 pay pay.length).foldl (fun a f => a.cmpSend r.port r.queue f true) s)) ∧
    (segmentsFrom r t 0 pay pay.length).length = (r.total + r.seg - 1) / r.seg) ∧
  (∀ (s : State) (i : Nat) (r : Request) (p : Nat), p < 1024 → s.readyToStart i r (Obj.CTR_CLEAR p) = true → s.isBusy (Obj.CTR_CLEAR p) = false →
    ∃ v : State, exec .ctrClear s = .next (v.started i r (Obj.CTR_CLEAR p) Res.ok) ∧
      (∀ key, Obj.CTR_RX_FRAMES p ≤ key → key < Obj.CTR_CLEAR p → v.get key = dictDefault key) ∧
      v.get (Obj.CTR_CLEAR p) = runRecord (s.get (Obj.CTR_CLEAR p)) Res.ok 0)

/-- The oldest frame of a receive FIFO is taken when the port's writer is free: one that never enters the parser is stored as it is if its buffer
is granted, with what does not fit left to be written; one that enters it is counted by its pipeline. The writer asks for the next buffer as its
frame grows; a refused request leaves the frame bad. The tail of a good unicast frame completes it and puts it in its queue; a failed frame's
tail frees the writer (R264, R318, R327, R330). -/
def Obligations.FramesAreWrittenToTheGalley : Prop :=
  (∀ (s : State) (p : Nat) (f : RxFrame) (rest : List RxFrame), p < 1024 → s.inService = true → s.flt.safe = false → s.pipeGated (p / 32) = false →
    (s.port p).writing = none → (s.port p).fifo = f :: rest →
    let a := (s.modPort p fun x => { x with fifo := rest }).xoffEval p
    ∃ t, exec (.ingressPipeline p) s = .next t ∧ (t.port p).fifo = rest ∧
      (a.entersParser f = true →
        t.get (Obj.PLN_IN_PKTS (p / 32)) = (s.get (Obj.PLN_IN_PKTS (p / 32)) + 1) % 2 ^ widthOf (Obj.PLN_IN_PKTS (p / 32))) ∧
      (a.entersParser f = false → (a.askFirst p none f).1 = none → (t.port p).writing = none) ∧
      (a.entersParser f = false → ∀ b, (a.askFirst p none f).1 = some b →
        let part := firstPart (caseSize b.1) (plainMeta p f.bytes.length f ++ f.bytes)
        ∃ w, (t.port p).writing = some w ∧ w.rest = part.2 ∧ w.bad = f.bad ∧ w.dest = f.dest ∧ w.dtype = 3 ∧ w.failed = false ∧
          t.chainOf w.desc = [b] ∧ t.storedOf w.desc = part.1.length ∧ t.dstateOf w.desc = 0)) ∧
  (∀ (s : State) (p st src prio stored refs ip cle : Nat) (ll ct po : Bool) (bufs : List (Nat × Nat)) (w : Writing), (s.port p).writing = some w →
    s.descr w.desc = some (.frame st src prio ll ct po stored refs bufs ip cle) →
    (w.failed = false → w.rest ≠ [] →
      let x := s.ask p (nextCase w.iplen bufs) (some prio)
      ∃ t, exec (.growthRequest p) s = .next t ∧
        (x.1.1 = none → (t.port p).writing = some { w with failed := true }) ∧
        (∀ b, x.1.1 = some b → t.chainOf w.desc = bufs ++ [b] ∧
          (t.port p).writing = some { w with rest := (firstPart (chainCap (bufs ++ [b]) - stored) w.rest).2 })) ∧
    (w.failed = true → exec (.frameTailWritten p) s = .next (s.modPort p fun x => { x with writing := none })) ∧
    (w.failed = false → w.rest = [] → w.bad = false → w.enqueued = false → w.dtype = 1 → w.dest = .pipeline → w.toCmp = false →
      ∃ a : State, exec (.frameTailWritten p) s = .next (a.enqueue w.dval w.queue w.desc (chargedLen stored)) ∧
        (a.port p).writing = none ∧ a.descr w.desc = some (.frame 1 src prio ll ct po stored refs bufs ip cle) ∧ a.sched = s.sched))

/-! ### Pipelines' programs (09) -/

/-- `PLN_CHECK` names the first check that fails and its place, or the image's number; `PLN_INSTALL` writes the standby bank of every pipeline of
its mask from the staging area and leaves the active ones; `PLN_SWITCH` needs an image in every standby bank of its mask (R266 to R268). -/
def Obligations.ImagesAreCheckedInstalledAndSwitched : Prop :=
  (∀ (s : State) (i : Nat) (r : Request), s.readyToStart i r Obj.PLN_CHECK = true → s.plnBusy = false →
    ∃ v : State, exec .plnCheck s = .next (v.started i r Obj.PLN_CHECK Res.ok) ∧
      (∀ detail place, imageCheck s.pipes.staging s.pipes.stagedTotal = some (detail, place) →
        v.get Obj.PLN_CHECK_WHERE = place ∧ v.get Obj.PLN_CHECK_ID = s.get Obj.PLN_CHECK_ID ∧
        v.get Obj.PLN_CHECK = runRecord (s.get Obj.PLN_CHECK) Res.badValue detail) ∧
      (imageCheck s.pipes.staging s.pipes.stagedTotal = none →
        v.get Obj.PLN_CHECK_ID = imageId s.pipes.staging ∧ v.get Obj.PLN_CHECK = runRecord (s.get Obj.PLN_CHECK) Res.ok 0)) ∧
  (∀ (s : State) (i : Nat) (r : Request), s.readyToStart i r Obj.PLN_INSTALL = true → s.plnBusy = false →
    let id := s.get Obj.PLN_CHECK_ID
    let mask := s.get Obj.PLN_INSTALL_MASK
    ∃ v : State, exec .plnInstall s = .next (v.started i r Obj.PLN_INSTALL Res.ok) ∧
      (id = 0 → v.pipes = s.pipes ∧ v.get Obj.PLN_INSTALL = runRecord (s.get Obj.PLN_INSTALL) Res.badState 1) ∧
      (id ≠ 0 → mask = 0 → v.pipes = s.pipes ∧ v.get Obj.PLN_INSTALL = runRecord (s.get Obj.PLN_INSTALL) Res.badState 2) ∧
      (id ≠ 0 → mask ≠ 0 → v.get Obj.PLN_INSTALL = runRecord (s.get Obj.PLN_INSTALL) Res.ok 0 ∧
        ∀ k, k < 32 → (v.pipe k).ingress1 = (s.pipe k).ingress1 ∧ (v.pipe k).egress1 = (s.pipe k).egress1 ∧ v.activeId k = s.activeId k ∧
          v.standbyId k = (if bitOf mask k then id else s.standbyId k) ∧
          (v.pipe k).bank (!(s.pipe k).ingress1) = (if bitOf mask k then s.pipes.staging else (s.pipe k).bank (!(s.pipe k).ingress1)))) ∧
  (∀ (s : State) (i : Nat) (r : Request), s.readyToStart i r Obj.PLN_SWITCH = true → s.plnBusy = false →
    let mask := s.get Obj.PLN_SWITCH_MASK
    ∃ v : State, exec .plnSwitch s = .next (v.started i r Obj.PLN_SWITCH Res.ok) ∧
      ((∃ k, k < 32 ∧ bitOf mask k = true ∧ s.standbyId k = 0) → v.get Obj.PLN_SWITCH = runRecord (s.get Obj.PLN_SWITCH) Res.badState 1) ∧
      ((∀ k, k < 32 → bitOf mask k = true → s.standbyId k ≠ 0) → mask ≠ 0 → v.isBusy Obj.PLN_SWITCH = true ∧
        v.pipes.switch = some ⟨mask, s.get Obj.PLN_SWITCH_MODE, false, 0, 0, false⟩))

/-- At clock T every masked pipeline's ingress takes its other bank; in mode 0 egress takes it too and the run ends, in mode 1 the frames
enqueued before T drain first; the end of the drain brings egress over and gives how many were left (R268). -/
def Obligations.BankSwitchesDrainBeforeEgress : Prop :=
  (∀ (s : State) (x : PlnSwitch), s.pipes.switch = some x → x.passed = false → ∃ t, exec .ingressBankSwitch s = .next t ∧
    (∀ k, k < 32 → (t.pipe k).ingress1 = (if bitOf x.mask k then !(s.pipe k).ingress1 else (s.pipe k).ingress1) ∧
      (t.pipe k).egress1 = (if bitOf x.mask k = true ∧ x.mode = 0 then !(s.pipe k).ingress1 else (s.pipe k).egress1)) ∧
    (x.mode = 0 → t.pipes.switch = none ∧ t.get Obj.PLN_SWITCH = runRecord (s.get Obj.PLN_SWITCH) Res.ok 0) ∧
    (x.mode ≠ 0 → t.pipes.switch = some { x with passed := true, seqT := s.sched.enqSeq + 1,
                                                  deadline := s.now + s.get Obj.PLN_DRAIN_TIMEOUT * 800000 })) ∧
  (∀ (s : State) (x : PlnSwitch), s.pipes.switch = some x → x.passed = true →
    (x.abort = true ∨ s.drainLeft x = 0 ∨ x.deadline ≤ s.now → ∃ t, exec .egressBankSwitch s = .next t ∧ t.pipes.switch = none ∧
      t.get Obj.PLN_DRAIN_LEFT = s.drainLeft x ∧
      (∀ k, k < 32 → (t.pipe k).ingress1 = (s.pipe k).ingress1 ∧
        (t.pipe k).egress1 = (if bitOf x.mask k then (s.pipe k).ingress1 else (s.pipe k).egress1)) ∧
      t.get Obj.PLN_SWITCH = runRecord (s.get Obj.PLN_SWITCH) (if x.abort then Res.aborted else Res.ok)
        (if x.abort = false ∧ s.drainLeft x ≠ 0 then 1 else 0)) ∧
    (x.abort = false → s.drainLeft x ≠ 0 → s.now < x.deadline → exec .egressBankSwitch s = .next s))

/-! ### Tables and learning (10) -/

/-- The learn ring: a message is injected while the ring has room and goes to the next pipeline; one that arrives damaged is gone and counted,
one back at its origin is gone, a REMOVE is applied and any other installed, and it goes on. An install that creates an entry leaves the key's
entry in its bucket, marked active (R295 to R297). The ager visits a bucket when its time has come, and removes an entry that has not been seen
(R298). -/
def Obligations.LearnRingCarriesMessages : Prop :=
  (∀ (s : State) (k : Nat) (m : LMsg) (rest : List LMsg), k < 32 → (s.learner k).inj = m :: rest →
    (s.tables.ring.length < 32 → ∃ t, exec (.ringInject k) s = .next t ∧ t.tables.ring = s.tables.ring ++ [(m, (k + 1) % 32)] ∧
      (t.learner k).inj = rest ++ (s.learner k).waiting.take 1 ∧ (t.learner k).waiting = (s.learner k).waiting.drop 1 ∧
      (m.kind = 1 → t.get (Obj.TBL_LRN_EVENTS k) = (s.get (Obj.TBL_LRN_EVENTS k) + 1) % 2 ^ widthOf (Obj.TBL_LRN_EVENTS k))) ∧
    (32 ≤ s.tables.ring.length → exec (.ringInject k) s = .next s)) ∧
  (∀ (s : State) (k : Nat) (m : LMsg), s.tables.ring.find? (fun e => decide (e.2 = k)) = some (m, k) →
    let on := s.modTables fun t => { t with ring := t.ring.map fun x => if x = (m, k) then (m, (k + 1) % 32) else x }
    (∃ t, exec (.ringMessageArrival k true) s = .next t ∧ t.tables.ring = s.tables.ring.erase (m, k) ∧
      t.get (Obj.TBL_LRN_RING_ERR k) = (s.get (Obj.TBL_LRN_RING_ERR k) + 1) % 2 ^ widthOf (Obj.TBL_LRN_RING_ERR k)) ∧
    (m.origin = k → exec (.ringMessageArrival k false) s = .next (s.modTables fun t => { t with ring := t.ring.erase (m, k) })) ∧
    (m.origin ≠ k → s.pipeGated k = true → exec (.ringMessageArrival k false) s = .next on) ∧
    (m.origin ≠ k → s.pipeGated k = false → m.kind = 2 → exec (.ringMessageArrival k false) s = .next (on.lrnRemove k m)) ∧
    (m.origin ≠ k → s.pipeGated k = false → m.kind ≠ 2 → (on.install k m).1 = .nothing →
      exec (.ringMessageArrival k false) s = .next (on.install k m).2) ∧
    (m.origin ≠ k → s.pipeGated k = false → m.kind ≠ 2 → (on.install k m).1 = .created →
      exec (.ringMessageArrival k false) s = .next ((on.install k m).2.lrnLag k m))) ∧
  (∀ (s : State) (k : Nat) (m : LMsg), (s.install k m).1 = .created →
    ∃ slot, slot / 4 = s.bucket m.vid m.mac ∧ (s.install k m).2.lrn k slot = Lrn.entry m.static true false m.vid m.mac m.port m.stamp) ∧
  (∀ (s : State) (k : Nat), k < 32 → s.tim.running = true → s.pipeGated k = false → (s.learner k).passStart ≤ s.uptime →
    let t := if (s.learner k).ageTime = 0 then 1000000 else (s.learner k).ageTime
    let v := (s.learner k).visit
    (v * t * 1000000000 ≤ 32768 * (s.uptime - (s.learner k).passStart) → ∃ t', exec (.agerVisit k) s = .next t' ∧
      (v ≠ 32767 → (t'.learner k).visit = v + 1) ∧
      (v = 32767 → (t'.learner k).visit = 0 ∧ (t'.learner k).passStart = (s.learner k).passStart + t * 1000000000)) ∧
    (32768 * (s.uptime - (s.learner k).passStart) < v * t * 1000000000 → exec (.agerVisit k) s = .next s)) ∧
  (∀ (s : State) (k slot : Nat) (half : Bool), let e := (s.lrnRead k slot 1).1
    Lrn.valid e = true → Lrn.static e = false → Lrn.act e = false → decide (Lrn.port e / 32 = k) = half → (s.ageWay k slot half true).lrn k slot = 0)

/-- A static entry is installed at its port's pipeline, or refused for a bad key or a full bucket; a deletion removes the key's entry from the
pipeline that owns it, or finds none; a flush removes the dynamic entries that match it from their owners (R300). -/
def Obligations.ControllerChangesTheLearningTables : Prop :=
  (∀ (s : State) (i : Nat) (r : Request), s.readyToStart i r Obj.TBL_STATIC_ADD = true → s.isBusy Obj.TBL_STATIC_ADD = false →
    let key := s.tblKey
    let port := s.get Obj.TBL_KEY_PORT
    let bad := 1023 < port ∨ groupMac key.2 = true ∨ 4095 < key.1
    let m : LMsg := ⟨1, port / 32, true, false, key.1, key.2, port, s.uptime⟩
    let a := s.startTurn i Obj.TBL_STATIC_ADD
    ∃ v : State, exec .tblStaticAdd s = .next (v.started i r Obj.TBL_STATIC_ADD Res.ok) ∧
      (bad → v.get Obj.TBL_STATIC_ADD = runRecord (s.get Obj.TBL_STATIC_ADD) Res.badValue 1 ∧ v.tables = s.tables) ∧
      (¬ bad → (a.install (port / 32) m).1 = .full → v.get Obj.TBL_STATIC_ADD = runRecord (s.get Obj.TBL_STATIC_ADD) Res.badLength 2) ∧
      (¬ bad → (a.install (port / 32) m).1 = .created → v.get Obj.TBL_STATIC_ADD = runRecord (s.get Obj.TBL_STATIC_ADD) Res.ok 0 ∧
        m ∈ (v.learner (port / 32)).inj ++ (v.learner (port / 32)).waiting ∧
        ∃ slot, v.lrn (port / 32) slot = Lrn.entry true true false key.1 key.2 port s.uptime)) ∧
  (∀ (s : State) (i : Nat) (r : Request), s.readyToStart i r Obj.TBL_DELETE = true → s.isBusy Obj.TBL_DELETE = false →
    ∃ v : State, exec .tblDelete s = .next (v.started i r Obj.TBL_DELETE Res.ok) ∧
      (s.findKey s.tblKey.1 s.tblKey.2 = none → v.get Obj.TBL_DELETE = runRecord (s.get Obj.TBL_DELETE) Res.badValue 3) ∧
      (∀ e, s.findKey s.tblKey.1 s.tblKey.2 = some e → v.get Obj.TBL_DELETE = runRecord (s.get Obj.TBL_DELETE) Res.ok 0 ∧
        (⟨2, Lrn.port e / 32, false, true, s.tblKey.1, s.tblKey.2, Lrn.port e, Lrn.stamp e⟩ : LMsg) ∈
          (v.learner (Lrn.port e / 32)).inj ++ (v.learner (Lrn.port e / 32)).waiting)) ∧
  (∀ (s : State) (i : Nat) (r : Request), s.readyToStart i r Obj.TBL_FLUSH = true → s.isBusy Obj.TBL_FLUSH = false →
    let port := s.get Obj.TBL_FLUSH_PORT
    let vid := s.get Obj.TBL_FLUSH_VID
    ∃ v : State, exec .tblFlush s = .next (v.started i r Obj.TBL_FLUSH Res.ok) ∧
      v.get Obj.TBL_FLUSH = runRecord (s.get Obj.TBL_FLUSH) Res.ok 0 ∧
      ∀ e ∈ s.tables.learn, Lrn.valid e.2 = true → Lrn.static e.2 = false → Lrn.port e.2 / 32 = e.1 / 65536 →
        port = 0xFFFF ∨ Lrn.port e.2 = port → vid = 0xFFFF ∨ Lrn.vid e.2 = vid → v.lrn (e.1 / 65536) (e.1 % 65536) = 0)

/-- A route window is applied record by record: an apply needs a completed transfer; each record is applied whole and counted, a record that
fails ends the run with its OUTCOME and DETAIL and the tables as they were, an ABORT ends it behind the record that is done, and the last one
ends it OK; while the halt of a patch change lasts, nothing is applied (R289, R290, R451). -/
def Obligations.RoutesAreAppliedRecordByRecord : Prop :=
  (∀ (s : State) (i : Nat) (r : Request), s.readyToStart i r Obj.TBL_LPM_APPLY = true → s.isBusy Obj.TBL_LPM_APPLY = false →
    ∃ v : State, exec .tblLpmApply s = .next (v.started i r Obj.TBL_LPM_APPLY Res.ok) ∧ v.get Obj.TBL_LPM_DONE = 0 ∧
      (s.tables.opsTotal = none → v.get Obj.TBL_LPM_APPLY = runRecord (s.get Obj.TBL_LPM_APPLY) Res.badState 1) ∧
      (∀ n, s.tables.opsTotal = some n → v.isBusy Obj.TBL_LPM_APPLY = true ∧ v.tables.apply = some (0, n / 32, false))) ∧
  (∀ (s : State) (k n : Nat) (abort : Bool), s.tables.apply = some (k, n, abort) →
    (s.halted = true → exec .lpmRecordComplete s = .next s) ∧
    (s.halted = false → ∀ o d, parseRoute (s.routeRecord k) = .error (o, d) → ∃ t, exec .lpmRecordComplete s = .next t ∧
      t.tables = { s.tables with apply := none } ∧ t.get Obj.TBL_LPM_APPLY = runRecord (s.get Obj.TBL_LPM_APPLY) o d ∧ t.get (Obj.CMP_P_RESTART 3) = k) ∧
    (s.halted = false → ∀ op route o d, parseRoute (s.routeRecord k) = .ok (op, route) → s.tables.applyRoute op route = .error (o, d) →
      ∃ t, exec .lpmRecordComplete s = .next t ∧ t.tables = { s.tables with apply := none } ∧
        t.get Obj.TBL_LPM_APPLY = runRecord (s.get Obj.TBL_LPM_APPLY) o d) ∧
    (s.halted = false → ∀ op route t1 d, parseRoute (s.routeRecord k) = .ok (op, route) → s.tables.applyRoute op route = .ok (t1, d) →
      ∃ t, exec .lpmRecordComplete s = .next t ∧ t.get Obj.TBL_LPM_DONE = k + 1 ∧ t.tables.slots = t1.slots ∧ t.tables.dir4 = t1.dir4 ∧
        t.tables.dir6 = t1.dir6 ∧
        (k + 1 < n → abort = false → t.tables.apply = some (k + 1, n, false)) ∧
        (n ≤ k + 1 → t.tables.apply = none ∧ t.get Obj.TBL_LPM_APPLY = runRecord (s.get Obj.TBL_LPM_APPLY) Res.ok 0) ∧
        (k + 1 < n → abort = true → t.tables.apply = none ∧ t.get Obj.TBL_LPM_APPLY = runRecord (s.get Obj.TBL_LPM_APPLY) Res.aborted 0)))

/-- A label or next-hop entry that reads uncorrectable in a chase is taken from the first other chase; a slot is rewritten from its shadow; a
spare block is copied in and then serves the logical block (R302, R303, R305). -/
def Obligations.TableEntriesAreRestored : Prop :=
  (∀ (s : State) (c table e : Nat), c ≤ 7 → table ≤ 1 → s.flt.inj = none →
    (∃ w syn, w < 2 ∧ decodeKind (3 + table) (s.flipsAt (3 + table) (c * 2 ^ 24) (2 * e + w)) = .bad syn) →
    (∀ o w, o < 8 → o ≠ c → w < 2 → s.flipsAt (3 + table) (o * 2 ^ 24) (2 * e + w) = 0) → (∃ o, o < 8 ∧ o ≠ c ∧ s.chaseGated o = false) →
    ∃ t, exec (.entryRestoration c table e) s = .next t ∧ (∀ w, w < 2 → t.flipsAt (3 + table) (c * 2 ^ 24) (2 * e + w) = 0) ∧
      t.get (Obj.CHS_RESTORED c) = (s.get (Obj.CHS_RESTORED c) + 1) % 2 ^ widthOf (Obj.CHS_RESTORED c)) ∧
  (∀ (s : State) (c slot : Nat), c ≤ 7 → slot < 131072 → s.flt.inj = none → s.flipsAt 6 (c * 2 ^ 24) slot = 0 →
    ∃ t, exec (.lpmShadowRewrite c slot) s = .next t ∧
      t.flipsAt 5 (c * 2 ^ 24) (s.physBlock c (slot / 2048) * 2048 + slot % 2048) = 0 ∧ t.tables = s.tables) ∧
  (∀ (s : State) (i : Nat) (r : Request) (c : Nat), c < 8 → s.readyToStart i r (Obj.CHS_LPM_SPARE_IN c) = true → s.isBusy (Obj.CHS_LPM_SPARE_IN c) = false →
    s.flt.repairs = [] →
    ∃ v : State, exec .chsLpmSpareIn s = .next (v.started i r (Obj.CHS_LPM_SPARE_IN c) Res.ok) ∧
      (s.get (Obj.CHS_LPM_SPARE c) ≠ 0xFF → v.get (Obj.CHS_LPM_SPARE_IN c) = runRecord (s.get (Obj.CHS_LPM_SPARE_IN c)) Res.badState 1) ∧
      (s.get (Obj.CHS_LPM_SPARE c) = 0xFF → v.isBusy (Obj.CHS_LPM_SPARE_IN c) = true ∧
        ((s.ctx 0).state ≠ .parked → s.tables.spares = [] →
          v.tables.spares = [(c, ⟨s.get (Obj.CHS_LPM_SPARE_LBLOCK c), s.get (Obj.CHS_LPM_SPARE_LBLOCK c), none⟩)]))) ∧
  (∀ (s : State) (c : Nat) (x : LpmSpare), c < 8 → s.tables.spares = [(c, x)] → s.flt.repairs = [] → ∃ t, exec (.lpmSpareSwitch c) s = .next t ∧
    t.get (Obj.CHS_LPM_SPARE c) = x.logical ∧ (x.source = none → t.tables.spares = []) ∧
    (s.isBusy (Obj.CHS_LPM_SPARE_IN c) = true → x.source = none →
      t.get (Obj.CHS_LPM_SPARE_IN c) = runRecord (s.get (Obj.CHS_LPM_SPARE_IN c)) Res.ok 0))

/-! ### The galley (11) -/

/-- A hank's refill moves its head buffer to the prefetch while the link word is sound; a staged carving that passes R315 is applied whole, one
that fails names the check; a bank remap is queued with a spare, and at its switch the logical bank is served by the spare, the old bank is
retired and the remap noted (R312, R315, R320, R335, R337). -/
def Obligations.GalleyIsRefilledCarvedAndRemapped : Prop :=
  (∀ (s : State) (c h : Nat), c < 4 → h < 64 → s.boot.phase = .service → (s.galley.hank c h).headV = true → (s.galley.hank c h).pf.length < 16 →
    let k := s.galley.hank c h
    let w := (s.galleyRaw (8 * k.head) 1).data / 2 ^ 192
    (s.galleyRaw (8 * k.head) 1).poison = false → field w 63 56 = 0xA5 → field w 55 54 = c → field w 53 48 = h →
    (bitOf w 47 = true → s.galley.ptrOk c (w % 2 ^ 22) = true) → (s.galleyRaw (8 * k.head) 1).state.galley = s.galley →
    ∃ t, exec (.hankRefill c h) s = .next t ∧ (t.galley.hank c h).pf = k.pf ++ [k.head] ∧ (t.galley.hank c h).len = k.len - 1 ∧
      (t.galley.hank c h).headV = bitOf w 47 ∧ (bitOf w 47 = true → (t.galley.hank c h).head = w % 2 ^ 22) ∧ t.galley.free = s.galley.free) ∧
  (∀ (s : State) (i : Nat) (r : Request), s.readyToStart i r Obj.GAL_CARVE_APPLY = true → s.isBusy Obj.GAL_CARVE_APPLY = false →
    ∃ v : State, exec .galCarveApply s = .next (v.started i r Obj.GAL_CARVE_APPLY Res.ok) ∧
      (∀ o d, s.carveCheck = some (o, d) → v.galley = s.galley ∧ v.get Obj.GAL_CARVE_APPLY = runRecord (s.get Obj.GAL_CARVE_APPLY) o d) ∧
      (s.carveCheck = none → v.galley.groups = s.stagedCarve.1 ∧ v.galley.counts = s.stagedCarve.2 ∧ v.galley.free = s.stagedCarve.2 ∧
        v.galley.words = [] ∧ v.galley.remap = s.galley.remap ∧ v.get Obj.GAL_CAPACITY = 32 * s.stagedCarve.1 ∧
        v.get Obj.GAL_CARVE_APPLY = runRecord (s.get Obj.GAL_CARVE_APPLY) Res.ok 0)) ∧
  (∀ (s : State) (i : Nat) (r : Request), s.readyToStart i r Obj.GAL_REMAP = true → s.isBusy Obj.GAL_REMAP = false → s.flt.repairs = [] →
    let w := s.get Obj.GAL_REMAP_BANK
    let die := w / 2 ^ 15
    let group := w / 2 ^ 11 % 16
    let bank := w % 128
    let rec_ := fun (o d : Nat) => runRecord (s.get Obj.GAL_REMAP) o d
    ∃ v : State, exec .galRemap s = .next (v.started i r Obj.GAL_REMAP Res.ok) ∧
      (65 < bank → v.get Obj.GAL_REMAP = rec_ Res.badValue 1) ∧
      (bank ≤ 65 → s.galley.groups / 2 ≤ group → v.get Obj.GAL_REMAP = rec_ Res.badState 0) ∧
      (bank ≤ 65 → group < s.galley.groups / 2 → (die * 16 + group) * 66 + bank ∈ s.galley.retired → v.get Obj.GAL_REMAP = rec_ Res.badValue 2) ∧
      (bank ≤ 65 → group < s.galley.groups / 2 → (die * 16 + group) * 66 + bank ∉ s.galley.retired → s.bankLogical die group bank = none →
        (die * 16 + group) * 66 + bank ∈ v.galley.retired ∧ v.get Obj.GAL_REMAP = rec_ Res.ok 0) ∧
      (bank ≤ 65 → group < s.galley.groups / 2 → (die * 16 + group) * 66 + bank ∉ s.galley.retired → ∀ lb sp l,
        s.bankLogical die group bank = some lb → s.bankSpares die group = sp :: l → v.isBusy Obj.GAL_REMAP = true ∧
        ((s.ctx 0).state ≠ .parked → v.galley.copying = some ⟨die, group, lb, bank, sp, 2⟩))) ∧
  (∀ (s : State) (b : BankRemap), s.galley.copying = some b → s.flt.repairs = [] → ∃ t, exec .bankRemapSwitch s = .next t ∧
    (s.mem.flips = [] → t.galley.copying = none) ∧
    smGet 0 t.galley.remap (b.die * 1024 + b.group * 64 + b.logical) = (if b.toBank = b.logical then 0 else b.toBank + 1) ∧
    (b.die * 16 + b.group) * 66 + b.fromBank ∈ t.galley.retired ∧
    t.get Obj.GAL_LAST_REMAP = lastRemap b.reason b.die b.group b.logical b.fromBank b.toBank ∧
    t.get Obj.GAL_REMAPS = (s.get Obj.GAL_REMAPS + 1) % 2 ^ widthOf Obj.GAL_REMAPS ∧
    (s.isBusy Obj.GAL_REMAP = true → b.reason = 2 → t.get Obj.GAL_REMAP = runRecord (s.get Obj.GAL_REMAP) Res.ok 0))

/-! ### Queues, transmission and shaping (12, 08, 14) -/

/-- The scheduler serves the highest eligible queue of the strict tier, and only without one a queue of the weighted-fair tier; a head whose
window has come leaves its queue, is charged to its shaper and to the bytes in flight, and goes through egress to the transmit MAC, or is
discarded there and counted (R343 to R347, R349, R264). The MAC of a port that is up, awake and free starts its next frame, with a PTP message
corrected or its departure fixed ahead for an authenticated one, which goes out with its ICV, is tried again when the ICV is late, and is given
up after the fourth time (R223, R411, R419, R428). The end of a frame sends its bytes with their FCS, inverted in a stomped frame, and counts it
(R223, R333). -/
def Obligations.FramesLeaveTheirQueues : Prop :=
  (∀ (s : State) (p q : Nat), s.pick p = some q → q < 16 ∧ s.queueEligible p q = true ∧
    ∀ r, r < 16 → s.wfq p r = false → s.queueEligible p r = true → s.wfq p q = false ∧ r ≤ q) ∧
  (∀ (s : State) (p q : Nat) (e : QEntry) (rest : List QEntry), p < 1024 → s.mem.flips = [] → s.flt.inj = none → s.pick p = some q →
    (s.queue p q).entries = e :: rest → s.headWanted e.desc ≤ s.storedOf e.desc →
    (s.portEligible p = false → exec (.dequeue p) s = .next s) ∧
    (s.portEligible p = true → ∃ t, exec (.dequeue p) s = .next t ∧ (t.queue p q).entries = rest ∧
      ((s.queue p q).shaped = true → (t.queue p q).credit = (s.queue p q).credit - 8000 * s.chargeOf e) ∧
      (s.portShaped p = true → t.portCredit p = s.portCredit p - 8000 * s.chargeOf e) ∧
      t.get (Obj.Q_DEQ p q) = (s.get (Obj.Q_DEQ p q) + 1) % 2 ^ widthOf (Obj.Q_DEQ p q) ∧
      ((t.inflight p = s.inflight p + s.chargeOf e ∧ (∃ f, (t.port p).tx = (s.port p).tx ++ [f] ∧ f.desc = e.desc ∧ f.queue = q ∧ f.cl = s.chargeOf e) ∧
          t.get (Obj.PLN_OUT_PKTS (p / 32)) = (s.get (Obj.PLN_OUT_PKTS (p / 32)) + 1) % 2 ^ widthOf (Obj.PLN_OUT_PKTS (p / 32))) ∨
        (t.inflight p = s.inflight p ∧
          t.get (Obj.PLN_DROPS (p / 32)) = (s.get (Obj.PLN_DROPS (p / 32)) + 1) % 2 ^ widthOf (Obj.PLN_DROPS (p / 32)))))) ∧
  (∀ (s : State) (p : Nat) (ts : TxStamp) (f : TxFrame) (rest : List TxFrame), (s.port p).tx = f :: rest → s.portUp p = true →
    (s.port p).sending = none → (s.port p).waking = none → (s.port p).txLpi = false → (∀ h, (p, h) ∉ s.ptp.auth) →
    (s.txPtp p f = none → ∃ t, exec (.frameTransmit p ts) s = .next t ∧ (t.port p).tx = rest ∧ (t.port p).idleSince = s.now ∧
      (t.port p).sending = some { f with win := f.colophon f.win (s.tTx p ts) } ∧ unchangedBut [.ports] s t) ∧
    (∀ x, s.txPtp p f = some x →
      (ptpEvent (ptpType f.win x) = true → s.txValid p ts = false → s.txWaits p f = false → ∃ t, exec (.frameTransmit p ts) s = .next t ∧
        (t.port p).tx = rest ∧ (t.port p).sending = none ∧
        t.get Obj.TIM_TS_INVALID = (s.get Obj.TIM_TS_INVALID + 1) % 2 ^ widthOf Obj.TIM_TS_INVALID) ∧
      ((ptpEvent (ptpType f.win x) = true → s.txValid p ts = true) →
        (s.txAuth f x = none → ∃ t, exec (.frameTransmit p ts) s = .next t ∧ (t.port p).tx = rest ∧
          (t.port p).sending = some { f with win := f.colophon (s.txMessage f x (s.tTx p ts)) (s.tTx p ts) } ∧
          (f.fromCmp = false → s.get Obj.TIM_TC_ENABLE = 1 → ptpCorrected (ptpType f.win x) = true →
            t.get Obj.TIM_TC_CORRECTED = (s.get Obj.TIM_TC_CORRECTED + 1) % 2 ^ widthOf Obj.TIM_TC_CORRECTED)) ∧
        (∀ page icv level, s.txAuth f x = some (page, icv, level) → f.stomp = false →
          (s.dstateOf f.desc = 0 → exec (.frameTransmit p ts) s = .next s) ∧
          (s.dstateOf f.desc = 1 → (s.page page).serves 1 = true → ∃ t h, exec (.frameTransmit p ts) s = .next t ∧ (t.port p).tx = rest ∧
            (t.port p).sending = none ∧ (p, h) ∈ t.ptp.auth ∧ h.departure = s.now + nsTicks (s.get Obj.TIM_AUTH_HOLD) ∧ h.attempts = 1 ∧ h.frame = f))))) ∧
  (∀ (s : State) (p : Nat) (h : AuthTx) (x : PtpAt) (page icv level : Nat), s.ptp.auth.find? (fun e => decide (e.1 = p)) = some (p, h) →
    s.txPtp p h.frame = some x → s.txAuth h.frame x = some (page, icv, level) →
    let result := s.kce.results.find? fun e => decide (e.1 = authHandle p h.attempts)
    (s.now < h.departure → exec (.authDeparture p) s = .next s) ∧
    (h.departure ≤ s.now →
      (∀ n tag, result = some (n, tag, true) → ∃ t, exec (.authDeparture p) s = .next t ∧ t.ptp.auth = smErase s.ptp.auth p ∧
        (t.port p).sending = some { h.frame with
          win := h.frame.colophon (ptpPatch h.formed x (icv - x.hdr) (tag.take 8)) (h.tTx + (h.departure - h.commit) * 81920) }) ∧
      (∀ n tag, result = some (n, tag, false) → ∃ t, exec (.authDeparture p) s = .next t ∧ t.ptp.auth = smErase s.ptp.auth p ∧
        t.get Obj.TIM_AUTH_REFUSED = (s.get Obj.TIM_AUTH_REFUSED + 1) % 2 ^ widthOf Obj.TIM_AUTH_REFUSED) ∧
      (result = none → ∃ t, exec (.authDeparture p) s = .next t ∧
        t.get Obj.TIM_AUTH_LATE = (s.get Obj.TIM_AUTH_LATE + 1) % 2 ^ widthOf Obj.TIM_AUTH_LATE ∧
        (4 ≤ h.attempts → t.ptp.auth = smErase s.ptp.auth p) ∧
        (h.attempts < 4 → (s.page page).serves 1 = true → ∃ k, (p, k) ∈ t.ptp.auth ∧ k.departure = h.departure + nsTicks (s.get Obj.TIM_AUTH_HOLD) ∧
          k.attempts = h.attempts + 1 ∧ k.frame = h.frame)))) ∧
  (∀ (s : State) (p : Nat), ((s.port p).sending = none → exec (.transmitComplete p) s = .next s) ∧
    (∀ f, (s.port p).sending = some f →
      let n := s.storedOf f.desc - f.restOff
      let rd := s.readWords (s.srcOf f.desc) (s.chainOf f.desc) (f.restOff / 32) ((n + 31) / 32)
      let stomp := f.stomp || decide (s.dstateOf f.desc = 0) || decide (s.dstateOf f.desc = 2) || decide (0 < rd.1.2)
      let b := padTo 60 (f.win ++ rd.1.1.take n)
      let body := if (f.win ++ rd.1.1.take n).length < 60 then b else f.win ++ rd.1.1.take n
      ∃ (t a : State) (more : List Out) (later : List Bytes), exec (.transmitComplete p) s = .next t ∧ (t.port p).sending = none ∧
        (s.nearLoop p = false → t.out = more ++ Out.frame p (body ++ wireFcs stomp body) stomp :: a.out) ∧
        (s.nearLoop p = true → (t.port p).loop = (s.port p).loop ++ (body ++ wireFcs stomp body) :: later) ∧ a.out = (rd.2.poisonRead (s.origOf f.desc) rd.1.2).out ∧
        (s.dstateOf f.desc = 0 → t.get Obj.GAL_CT_UNDERRUN = (s.get Obj.GAL_CT_UNDERRUN + 1) % 2 ^ widthOf Obj.GAL_CT_UNDERRUN)))

/-- Every 1,600 clocks the policers take what is theirs and every shaper of a selected profile its credit, an active one no more than its burst,
a new one its whole burst, one of rate 0 none (R349, R350, R352, R353). The replication engine serves its oldest frame: a member port that is
down, full or without a descriptor is counted, any other gets a copy at the end of its queue, and a frame without a copy is counted (R359, R360).
-/
def Obligations.ShapersRefillAndCopiesAreMade : Prop :=
  (∀ s : State, s.tim.running = true →
    (s.clock16 < (s.sched.lastRefill + 1) * 1600 → exec .shaperRefill s = .next s) ∧
    ((s.sched.lastRefill + 1) * 1600 ≤ s.clock16 → ∃ t, exec .shaperRefill s = .next t ∧ t.sched.lastRefill = s.sched.lastRefill + 1 ∧
      (∀ k, k < 128 → t.get (Obj.SCH_SP_PENDING k) = 0) ∧
      (smWf (fun _ => ({} : Policer)) s.sched.policers = true →
        ∀ k, smGet {} t.sched.policers k = (smGet {} s.sched.policers k).refill) ∧
      (s.mem.flips = [] → s.flt.inj = none → ∀ p q, q < 16 → 16 * p + q ∈ s.shapedQueues → s.get (Obj.Q_SHAPER p q) < 128 →
        let param := s.get (Obj.SCH_SP_PARAM (s.get (Obj.Q_SHAPER p q)))
        (t.queue p q).entries = (s.queue p q).entries ∧ (t.queue p q).shaper = s.get (Obj.Q_SHAPER p q) ∧
        (param / 2 ^ 32 = 0 → (t.queue p q).shaped = false ∧ (t.queue p q).credit = 0) ∧
        (param / 2 ^ 32 ≠ 0 → (t.queue p q).shaped = true ∧ (t.queue p q).credit =
          if (s.queue p q).shaped then min ((s.queue p q).credit + (param / 2 ^ 32 : Nat)) ((param % 2 ^ 32 * 8000 : Nat) : Int)
          else ((param % 2 ^ 32 * 8000 : Nat) : Int))))) ∧
  (∀ (x : Policer), x.pending = false → x.refill = { x with tc := min (x.tc + x.cir) (x.cbs * 8000), tp := min (x.tp + x.pir) (x.pbs * 8000) }) ∧
  (∀ (s : State) (desc group queue inPort : Nat) (rest : List (Nat × Nat × Nat × Nat)), s.sched.mcQueue = (desc, group, queue, inPort) :: rest →
    queue < 16 → s.flt.safe = false → s.mem.flips = [] → s.flt.inj = none →
    let g := smGet 0 s.sched.groups group
    let member := fun p => octBit 128 (g % 2 ^ 1024) p && !(bitOf (g / 2 ^ (8 * 131)) 0 && decide (p = inPort))
    ∃ t, exec .multicastReplication s = .next t ∧ t.sched.mcQueue = rest ∧
      t.get Obj.SCH_MC_FRAMES = (s.get Obj.SCH_MC_FRAMES + 1) % 2 ^ widthOf Obj.SCH_MC_FRAMES ∧
      ((∀ p, p < 1024 → member p = false) → t.get Obj.SCH_MC_NONE = (s.get Obj.SCH_MC_NONE + 1) % 2 ^ widthOf Obj.SCH_MC_NONE) ∧
      ∀ p, p < 1024 →
        (member p = false → (t.queue p queue).entries = (s.queue p queue).entries) ∧
        (member p = true → s.portUp p = false → (t.queue p queue).entries = (s.queue p queue).entries ∧
          t.get (Obj.Q_MC_DOWN p) = (s.get (Obj.Q_MC_DOWN p) + 1) % 2 ^ widthOf (Obj.Q_MC_DOWN p)) ∧
        (member p = true → s.portUp p = true →
          ((t.queue p queue).entries = (s.queue p queue).entries ∧
            (t.get (Obj.Q_MC_FULL p) = (s.get (Obj.Q_MC_FULL p) + 1) % 2 ^ widthOf (Obj.Q_MC_FULL p) ∨
              t.get (Obj.Q_MC_NODESC p) = (s.get (Obj.Q_MC_NODESC p) + 1) % 2 ^ widthOf (Obj.Q_MC_NODESC p))) ∨
          ∃ e, (t.queue p queue).entries = (s.queue p queue).entries ++ [e] ∧ t.descr e.desc = some (.copy desc p queue) ∧
            t.get (Obj.Q_MC_COPIES p) = (s.get (Obj.Q_MC_COPIES p) + 1) % 2 ^ widthOf (Obj.Q_MC_COPIES p)))

/-! ### Telemetry (13) -/

/-- A proof whose bytes are there is written to its buffer and joins the queue of proofs, or is refused for want of a buffer, or lost at a full
queue; a batch closes when it is full or its first proof has waited; a channel sends its next unit and counts its datagrams; a sweep gives its
number and the time, and every queue's depth and delay (R355, R366, R368, R370, R372). A snapshot is due at the instant asked for or at a
multiple of the interval, takes every block's record at once and clears the wrap flags; a clear returns the selected block's counters to zero
(R378 to R380). -/
def Obligations.TelemetryCapturesAndExports : Prop :=
  (∀ (s : State) (k : Nat) (x : ProofSel), s.telem.engine.find? (fun y => decide (y.sampler = k) && s.proofReady y) = some x →
    ∃ t, exec (.proofCapture k) s = .next t ∧ t.telem.engine = s.telem.engine.erase x ∧
      let rlen := 32 + (min (s.get (Obj.PMC_PS_TRUNC k)) (s.storedOf x.desc - 32) + 3) / 4 * 4
      (t.telem.proofs = s.telem.proofs ∧ t.get (Obj.PMC_PS_REFUSED k) = (s.get (Obj.PMC_PS_REFUSED k) + 1) % 2 ^ widthOf (Obj.PMC_PS_REFUSED k)) ∨
      (t.get (Obj.PMC_PS_MADE k) = (s.get (Obj.PMC_PS_MADE k) + 1) % 2 ^ widthOf (Obj.PMC_PS_MADE k) ∧
        (s.telem.proofs.length < 4096 → ∃ b, t.telem.proofs = s.telem.proofs ++ [⟨b, rlen, s.now⟩]) ∧
        (4096 ≤ s.telem.proofs.length → t.telem.proofs = s.telem.proofs ∧
          t.get Obj.PMC_PROOF_LOST = (s.get Obj.PMC_PROOF_LOST + 1) % 2 ^ widthOf Obj.PMC_PROOF_LOST))) ∧
  (∀ (s : State) (c : Nat) (p : Proof) (rest : List Proof), s.streamChan 0 = some c → s.telem.proofs = p :: rest → s.chanOn c = true →
    let k := batchCount (s.get (Obj.PMC_CH_SEG c)) (s.get Obj.PMC_PROOF_BATCH) (s.telem.proofs.map fun x => x.rlen) 0 s.telem.proofs.length
    (k < s.telem.proofs.length ∨ p.at_ + usTicks (s.get Obj.PMC_PROOF_HOLD) ≤ s.now → ∃ t x, exec .proofBatchClose s = .next t ∧
      t.telem.proofs = s.telem.proofs.drop k ∧ t.telem.units = s.telem.units ++ [x] ∧ x.stream = 1 ∧ x.proofs = s.telem.proofs.take k) ∧
    (s.telem.proofs.length ≤ k → s.now < p.at_ + usTicks (s.get Obj.PMC_PROOF_HOLD) → exec .proofBatchClose s = .next s)) ∧
  (∀ (s : State) (c : Nat) (x : ExportUnit), c < 4 → s.chanOn c = true →
    s.telem.units.find? (fun y => decide (s.streamChan (y.stream - 1) = some c)) = some x →
    let n := (packRecords (s.get (Obj.PMC_CH_SEG c)) 0 (s.get (Obj.PMC_CH_SEG c) - 24) [] 0
      (({ s with telem := { s.telem with units := s.telem.units.erase x } } : State).unitRecords x).1).length
    ∃ t, exec (.exportSend c) s = .next t ∧ t.telem.units = s.telem.units.erase x ∧
      (0 < n → t.get (Obj.PMC_CH_DATAGRAMS c) = (s.get (Obj.PMC_CH_DATAGRAMS c) + n) % 2 ^ widthOf (Obj.PMC_CH_DATAGRAMS c))) ∧
  (∀ s : State, let i := s.get Obj.SCH_SAMPLE_INTERVAL
    (i = 0 ∨ s.uptime / (i * 1000) * (i * 1000) ≤ s.sched.lastSweep → exec .queueSampleSweep s = .next s) ∧
    (i ≠ 0 → s.sched.lastSweep < s.uptime / (i * 1000) * (i * 1000) → ∃ t w, exec .queueSampleSweep s = .next t ∧
      t.get Obj.SCH_SAMPLE_SEQ = s.get Obj.SCH_SAMPLE_SEQ + 1 ∧ t.sched.lastSweep = s.uptime ∧
      (s.get Obj.SCH_SAMPLE_SEQ % 8, w) ∈ t.sched.ring ∧ w.seq = s.get Obj.SCH_SAMPLE_SEQ + 1 ∧ w.time = s.uptime ∧ w.interval = i ∧
      (smWf (fun _ => ({} : Queue)) s.sched.queues = true → ∀ p q, q < 16 → s.ptType p ≠ 0 → (s.queue p q).entries ≠ [] →
        smGet 0 w.entries (16 * p + q) = min (s.depth p q) (2 ^ 32 - 1) * 2 ^ 32 + min (s.holDelay p q) (2 ^ 32 - 1)))) ∧
  (∀ (s : State) (i : Nat) (r : Request), s.readyToStart i r Obj.PMC_SNAP = true → s.isBusy Obj.PMC_SNAP = false →
    let at_ := s.get Obj.PMC_SNAP_AT
    (s.telem.snapAt.isSome = true → ∃ v : State, exec .pmcSnap s = .next (v.started i r Obj.PMC_SNAP Res.busy) ∧ v.telem.snapAt = s.telem.snapAt) ∧
    (s.telem.snapAt = none → ∃ v : State, exec .pmcSnap s = .next (v.started i r Obj.PMC_SNAP Res.ok) ∧
      (at_ = 0 → v.telem.snapAt = some ((s.uptime + 5000 + 999) / 1000 * 1000, true) ∧ v.isBusy Obj.PMC_SNAP = true) ∧
      (at_ ≠ 0 → s.uptime + 5000 ≤ at_ → at_ ≤ s.uptime + 10000000000 → v.telem.snapAt = some (at_, true) ∧ v.isBusy Obj.PMC_SNAP = true) ∧
      (at_ ≠ 0 → at_ < s.uptime + 5000 ∨ s.uptime + 10000000000 < at_ → v.telem.snapAt = none ∧
        v.get Obj.PMC_SNAP = runRecord (s.get Obj.PMC_SNAP) Res.badValue 1))) ∧
  (∀ s : State, let i := s.get Obj.PMC_SNAP_INTERVAL * 1000
    (i = 0 ∨ s.uptime / i * i ≤ s.telem.lastSnap → exec .periodicSnapshot s = .next s) ∧
    (i ≠ 0 → s.telem.lastSnap < s.uptime / i * i → ∃ t, exec .periodicSnapshot s = .next t ∧ t.telem.lastSnap = s.uptime ∧
      (s.telem.snapAt = none → t.telem.snapAt = some (s.uptime / i * i, false)) ∧
      (s.telem.snapAt.isSome = true → t.telem.snapAt = s.telem.snapAt ∧
        t.get Obj.PMC_SNAP_SKIPPED = (s.get Obj.PMC_SNAP_SKIPPED + 1) % 2 ^ widthOf Obj.PMC_SNAP_SKIPPED))) ∧
  (∀ (s : State) (at_ : Nat) (start : Bool), s.telem.snapAt = some (at_, start) →
    (s.uptime < at_ → exec .snapshotCapture s = .next s) ∧
    (at_ ≤ s.uptime → ∃ t, exec .snapshotCapture s = .next t ∧ t.telem.snapAt = none ∧ t.telem.snap.seq = s.get Obj.PMC_SNAP_SEQ + 1 ∧
      t.telem.snap.time = at_ ∧ t.get Obj.PMC_SNAP_SEQ = s.get Obj.PMC_SNAP_SEQ + 1 ∧ t.get Obj.PMC_SNAP_TIME = at_ ∧
      (∀ b, b < 1202 → smGet 0 t.telem.snap.records b = s.blockRecord b) ∧
      (smWf (fun _ => ({} : CtrSet)) s.telem.sets = true → ∀ b k, listAt 0 (t.ctrSet b).ctr k = listAt 0 (s.ctrSet b).ctr k % 2 ^ 63) ∧
      (start = true → t.get Obj.PMC_SNAP = runRecord (s.get Obj.PMC_SNAP) Res.ok 0))) ∧
  (∀ (s : State) (i : Nat) (r : Request), s.readyToStart i r Obj.PMC_B_CLEAR = true → s.isBusy Obj.PMC_B_CLEAR = false →
    let b := (s.session i).pmcSel
    ∃ v : State, exec .pmcBClear s = .next (v.started i r Obj.PMC_B_CLEAR Res.ok) ∧
      (v.ctrSet b).ctr = List.replicate 8 0 ∧ (v.ctrSet b).since = s.now ∧ (v.ctrSet b).cfg = (s.ctrSet b).cfg ∧
      v.get Obj.PMC_B_CLEAR = runRecord (s.get Obj.PMC_B_CLEAR) Res.ok 0)

/-! ### Time (14, 15) -/

/-- A measurement beyond the step threshold steps an unlocked domain by as much, one within it sets a rate and keeps the domain continuous, and
the sixteenth small one in a row locks it; none is handled before the segment in force is 1 ms old (R387, R388, R391); a pulse source silent for
1.5 s leaves it in holdover at its mean rate (R392); a splice ends when its residue is gone (R395). A pulse is driven at the clock and fine step
of its edge, and a rising edge too near the last pulse is skipped and counted; a one-pulse output is done with its fall (R397 to R399). An edge
at an input is counted and captured unless it comes within 100 ns of the last, and measures the domain that it feeds (R401 to R403). That a
measurement which waits goes before the one given is the model's choice, DESIGN CHOICE, notes/assumptions/27. -/
def Obligations.DomainsFollowTheirServos : Prop :=
  (∀ (s : State) (d : Nat) (m : Int), d < 2 → s.tim.domains.length = 2 → s.get (Obj.TIM_D_SOURCE d) ≠ 0 → s.halted = false → (s.inst d).measured = [] →
    (s.domain d).segBusy s.now = false → s.dstate d = 1 ∨ s.dstate d = 2 → (s.domain d).anc ≤ s.frc →
    let big := s.get (Obj.TIM_D_STEP_THRESH d) * 65536 < m.natAbs
    ∃ t, exec (.servoMeasurement d m) s = .next t ∧ t.get (Obj.TIM_D_LAST_OFFSET d) = sat64 m ∧
      (big → s.dstate d = 1 → domainValid ((s.domain d).time s.frc - m) = true → (t.domain d).time s.frc = (s.domain d).time s.frc - m ∧
        (t.domain d).rate = (s.domain d).rate ∧ t.dstate d = 1 ∧
        t.get (Obj.TIM_D_STEPS d) = (s.get (Obj.TIM_D_STEPS d) + 1) % 2 ^ widthOf (Obj.TIM_D_STEPS d)) ∧
      (big → s.dstate d = 2 → (s.domain d).bad < 2 → t.dstate d = 2 ∧ (t.domain d).time s.frc = (s.domain d).time s.frc ∧ (t.domain d).bad = (s.domain d).bad + 1 ∧
        t.get (Obj.TIM_D_OUTLIERS d) = (s.get (Obj.TIM_D_OUTLIERS d) + 1) % 2 ^ widthOf (Obj.TIM_D_OUTLIERS d)) ∧
      (¬ big → let good := if m.natAbs < s.get (Obj.TIM_D_LOCK_THRESH d) * 65536 then (s.domain d).good + 1 else 0
        (t.domain d).time s.frc = (s.domain d).time s.frc ∧ (t.domain d).good = good ∧ (t.domain d).bad = 0 ∧
        (t.domain d).acc = (s.domain d).acc + (s.get (Obj.TIM_D_BW d) : Int) * s.get (Obj.TIM_D_BW d) * s.tau128 d * m ∧
        (s.dstate d = 1 → t.dstate d = if 16 ≤ good then 2 else 1) ∧ (s.dstate d = 2 → t.dstate d = 2))) ∧
  (∀ (s : State) (d : Nat) (m : Int), d < 2 → s.get (Obj.TIM_D_SOURCE d) = 0 → exec (.servoMeasurement d m) s = .next s) ∧
  (∀ (s : State) (d : Nat) (m : Int), d < 2 → s.ptp.insts.length = 2 → s.get (Obj.TIM_D_SOURCE d) ≠ 0 → s.halted = false → (s.domain d).segBusy s.now = true →
    ∃ t, exec (.servoMeasurement d m) s = .next t ∧ t.tim = s.tim ∧ t.dict = s.dict ∧
      (t.inst d).measured = if (s.inst d).measured = [] then [m] else (s.inst d).measured) ∧
  (∀ (s : State) (d t0 : Nat), d < 2 → s.tim.domains.length = 2 → (s.domain d).lastPps = some t0 →
    (s.now < t0 + msTicks 1500 → exec (.tciSourceTimeout d) s = .next s) ∧
    (t0 + msTicks 1500 ≤ s.now → s.get (Obj.TIM_D_SOURCE d) = 2 → s.dstate d = 1 ∨ s.dstate d = 2 → (s.domain d).anc ≤ s.frc →
      ∃ t, exec (.tciSourceTimeout d) s = .next t ∧ t.dstate d = 3 ∧ (t.domain d).holdSince = some s.now ∧
        (t.domain d).rate = clampRate (s.domain d).freq ∧ (t.domain d).time s.frc = (s.domain d).time s.frc ∧
        t.get (Obj.TIM_D_HOLDOVERS d) = (s.get (Obj.TIM_D_HOLDOVERS d) + 1) % 2 ^ widthOf (Obj.TIM_D_HOLDOVERS d))) ∧
  (∀ s : State, (s.tim.splicing = true → s.residual s.frc = 0 → ∃ t, exec .spliceEnd s = .next t ∧ t.tim.splicing = false ∧ t.tim.res0 = 0 ∧
      t.get Obj.TIM_SPLICE_STATE = 0 ∧ (s.tim.events.length < 1024 → t.tim.events.length = s.tim.events.length + 1)) ∧
    (s.tim.splicing = false ∨ s.residual s.frc ≠ 0 → exec .spliceEnd s = .next s)) ∧
  (∀ (s : State) (i : Nat), i < s.tim.tpo.length →
    let x := s.tpo i
    let fe := s.edgeFE x.target x.comp
    (s.tpoHeldLow = true ∨ x.mode = 0 ∨ (x.mode = 1 ∧ x.nextK ≠ 0) ∨ s.frc + 81919 < fe → exec (.tpoRisingEdge i) s = .next s) ∧
    (s.tpoHeldLow = false → x.mode ≠ 0 → (x.mode = 1 → x.nextK = 0) → fe ≤ s.frc + 81919 →
      (x.fall = none → x.lastFall + 10 * 65536 ≤ fe → ∃ t, exec (.tpoRisingEdge i) s = .next t ∧
        t.out = Out.tpo i true (s.tim.start + fe / 81920 + (fe % 81920 + 640) / 1280 / 64) ((fe % 81920 + 640) / 1280 % 64) :: s.out ∧
        (t.tpo i).nextK = x.nextK + 1 ∧ (t.tpo i).fall = some (s.edgeFE (x.target + x.width) x.comp) ∧ t.get (Obj.TIM_TPO_STATE i) = 2 ∧
        t.get (Obj.TIM_TPO_EDGES i) = (s.get (Obj.TIM_TPO_EDGES i) + 1) % 2 ^ widthOf (Obj.TIM_TPO_EDGES i)) ∧
      (x.fall.isSome = true ∨ fe < x.lastFall + 10 * 65536 → ∃ t, exec (.tpoRisingEdge i) s = .next t ∧ t.out = s.out ∧
        t.get (Obj.TIM_TPO_SKIPPED i) = (s.get (Obj.TIM_TPO_SKIPPED i) + 1) % 2 ^ widthOf (Obj.TIM_TPO_SKIPPED i) ∧
        (x.mode = 2 → (t.tpo i).nextK = x.nextK + 1) ∧ (x.mode ≠ 2 → (t.tpo i).mode = 0 ∧ t.get (Obj.TIM_TPO_MODE i) = 0))) ∧
    (∀ f, x.fall = some f → f ≤ s.frc + 81919 → ∃ t, exec (.tpoFallingEdge i) s = .next t ∧
      t.out = Out.tpo i false (s.tim.start + f / 81920 + (f % 81920 + 640) / 1280 / 64) ((f % 81920 + 640) / 1280 % 64) :: s.out ∧ (t.tpo i).fall = none ∧
      (t.tpo i).lastFall = f ∧ (x.mode = 1 → 0 < x.nextK → (t.tpo i).mode = 0 ∧ t.get (Obj.TIM_TPO_MODE i) = 0 ∧ t.get (Obj.TIM_TPO_STATE i) = 3))) ∧
  (∀ (s : State) (i : Nat) (rising : Bool) (fine : Nat), i < 16 →
    let x := listAt {} s.tim.tci i
    let cap := ((s.frc : Int) + ((fine / 1280) * 1280 : Nat) - psUnits (toSigned 32 (s.get (Obj.TIM_TCI_COMP i)))).toNat
    (s.tim.running = false → exec (.tciEdge i rising fine) s = .next s) ∧
    (s.boot.resetN = true → s.power.thermtrip = false → s.tim.running = true → bitOf (s.get (Obj.TIM_TCI_EDGE i)) (if rising then 0 else 1) = true →
      (∀ l, x.last = some l → s.frc + fine < l + 100 * 65536 → ∃ t, exec (.tciEdge i rising fine) s = .next t ∧ t.tim.events = s.tim.events ∧
        t.get (Obj.TIM_TCI_COUNT i) = s.get (Obj.TIM_TCI_COUNT i) ∧
        t.get (Obj.TIM_TCI_OVERRUN i) = (s.get (Obj.TIM_TCI_OVERRUN i) + 1) % 2 ^ widthOf (Obj.TIM_TCI_OVERRUN i)) ∧
      ((∀ l, x.last = some l → l + 100 * 65536 ≤ s.frc + fine) → x.seen % s.get (Obj.TIM_TCI_DIVIDE i) = 0 → ∃ t, exec (.tciEdge i rising fine) s = .next t ∧
        t.get (Obj.TIM_TCI_COUNT i) = (s.get (Obj.TIM_TCI_COUNT i) + 1) % 2 ^ widthOf (Obj.TIM_TCI_COUNT i) ∧
        (s.get (Obj.TIM_TCI_QUEUE i) = 1 → s.tim.events.length < 1024 →
          t.tim.events = s.tim.events ++ [s.timeRecord 1 i (if rising then 0 else 2) ((s.tim.seq + 1) % 2 ^ 32) cap 0]) ∧
        (s.tim.domains.length = 2 → s.ptp.insts.length = 2 → ∀ d, d < 2 → s.get (Obj.TIM_D_SOURCE d) = 2 → s.get (Obj.TIM_D_TCI d) = i →
          (t.domain d).lastPps = some s.now ∧ ∃ off, (t.inst d).measured = (s.inst d).measured ++ [off] ∧
            ((s.domain d).time cap - off) % (1000000000 * 65536) = 0 ∧ off.natAbs ≤ 500000000 * 65536))))

/-- An instance takes the oldest message terminated for it: one of an instance that is off goes no further, a replayed one is counted, a one-step
Sync of the parent is a measurement once a mean path delay exists, a Delay_Req waits at a MASTER port; while the Compositor is halted messages
wait (R417, R422, R423, R429, R451). A message that is due goes out with the next sequenceId and its interval begins anew; a Follow_Up and a
Delay_Resp answer what waits for them (R422). A grant is renewed from half its duration on (R425). When the parent is lost and no other master is
left, the domain enters holdover (R392, R423). -/
def Obligations.InstancesTakeAndSendMessages : Prop :=
  (∀ (s : State) (d : Nat) (r : PtpRx), d < 2 → s.ptp.insts.length = 2 → s.ptp.rx.find? (fun y => decide (y.inst = d)) = some r →
    let n := smGet 0 s.ptp.rxCount r.port
    (s.halted = true → exec (.ptpMessageTerminated d) s = .next s) ∧
    (s.halted = false → ∃ t, exec (.ptpMessageTerminated d) s = .next t ∧ t.ptp.rx = s.ptp.rx.erase r ∧ smGet 0 t.ptp.rxCount r.port = (n + 1) % 2 ^ 32 ∧
      (s.instOn d = false → t.ptp.insts = s.ptp.insts ∧ objectsBut [] s t) ∧
      (s.instOn d = true → s.replayOk d r.msg = false → t.ptp.insts = s.ptp.insts ∧
        t.get Obj.TIM_AUTH_REPLAY = (s.get Obj.TIM_AUTH_REPLAY + 1) % 2 ^ widthOf Obj.TIM_AUTH_REPLAY) ∧
      (s.instOn d = true → s.replayOk d r.msg = true →
        (u r.msg 0 1 % 16 = 0 → s.fromParent d r = true → (t.inst d).syncAt = s.now ∧
          (bitOf (u r.msg 6 1) 1 = false → (s.inst d).delays ≠ [] → (t.inst d).measured = (s.inst d).measured ++
            [s.toDomain d r.time - (stampUnits r.msg 34 + corrOf r.msg) - (s.inst d).pathDelay]) ∧
          (bitOf (u r.msg 6 1) 1 = true → (t.inst d).sync = some (u r.msg 30 2, r.time, corrOf r.msg) ∧ (t.inst d).measured = (s.inst d).measured)) ∧
        (u r.msg 0 1 % 16 = 1 → s.portStateOf d r.port = 6 → (t.inst d).reqs = (s.inst d).reqs ++ [r]) ∧
        (u r.msg 0 1 % 16 = 1 → s.portStateOf d r.port ≠ 6 → (t.inst d).reqs = (s.inst d).reqs)))) ∧
  (∀ (s : State) (d p kind : Nat), d < 2 → s.ptp.insts.length = 2 →
    (s.halted = true ∨ s.instOn d = false ∨ s.member d p = false ∨ s.portUp p = false → exec (.ptpMessageSend d p kind) s = .next s) ∧
    (s.halted = false → s.instOn d = true → s.member d p = true → s.portUp p = true →
      (kind = 0 ∨ kind = 0xB → s.portStateOf d p = 6 →
        (s.sendDue d p kind = false → exec (.ptpMessageSend d p kind) s = .next s) ∧
        (s.sendDue d p kind = true → ∃ t, exec (.ptpMessageSend d p kind) s = .next t ∧ (p * 16 + kind, s.now) ∈ (t.inst d).sentAt ∧
          smGet 0 (t.inst d).seqIds (p * 16 + kind) = (smGet 0 (s.inst d).seqIds (p * 16 + kind) + 1) % 65536 ∧
          (s.get (Obj.TIM_P_PROFILE d) = 0 → kind = 0 →
            let a := s.modInst d fun x => { x with seqIds := smSet 0 x.seqIds (p * 16) ((smGet 0 (s.inst d).seqIds (p * 16) + 1) % 65536),
                                                   sentAt := smInsert x.sentAt (p * 16) s.now }
            t = a.ptpSend d p 0 [] 0 (s.ptpMessage d p 0 (smGet 0 (s.inst d).seqIds (p * 16))
              (if s.get (Obj.TIM_P_STEP d) = 1 then 0x0200 else 0) (s.get (Obj.TIM_P_SYNC_LOG d)) 0 (zeros 10))))) ∧
      (kind = 8 → ∀ e, s.ptp.tx.find? (fun (y : PtpTx) => decide (y.inst = d) && decide (y.port = p) && decide (y.kind = 0)) = some e →
        ∃ t, exec (.ptpMessageSend d p kind) s = .next t ∧ t.ptp.tx = s.ptp.tx.erase e) ∧
      (kind = 9 → ∀ r, (s.inst d).reqs.find? (fun y => decide (y.port = p)) = some r →
        ∃ t, exec (.ptpMessageSend d p kind) s = .next t ∧ (t.inst d).reqs = (s.inst d).reqs.erase r))) ∧
  (∀ (s : State) (d : Nat), d < 2 → s.ptp.insts.length = 2 → s.halted = false → s.instOn d = true → s.get (Obj.TIM_P_PROFILE d) ≠ 0 →
    (s.ptp.ports.map Prod.fst).Nodup → ∃ t, exec (.unicastGrantRenewal d) s = .next t ∧ (t.inst d).grants = (s.inst d).grants ∧
      ∀ p, p < 1024 → smGet 0 (t.inst d).seqIds (p * 16 + 0xC) =
        if p ∈ s.memberPorts d ∧ s.portUp p = true ∧ s.masterOnly d p = false ∧ s.wants d p ≠ [] then
          (smGet 0 (s.inst d).seqIds (p * 16 + 0xC) + 1) % 65536
        else smGet 0 (s.inst d).seqIds (p * 16 + 0xC)) ∧
  (∀ (s : State) (d : Nat) (g : Foreign), d < 2 → s.ptp.insts.length = 2 → s.tim.domains.length = 2 → s.instOn d = true →
    s.get (Obj.TIM_D_SOURCE d) = 1 → (s.inst d).parent = some g →
    (s.parentLost d = false → exec (.ptpMasterLost d) s = .next s) ∧
    (s.parentLost d = true → (∀ f, f ∈ (s.inst d).foreign → s.qualified d f = true → f.port = g.port ∧ f.sender = g.sender) →
      s.dstate d = 1 ∨ s.dstate d = 2 → ∃ t, exec (.ptpMasterLost d) s = .next t ∧ (t.inst d).parent = none ∧ t.dstate d = 3 ∧
        t.get (Obj.TIM_P_GM d) = 0 ∧ t.get (Obj.TIM_P_SLAVE_PORT d) = 0xFFFF ∧
        t.get (Obj.TIM_D_HOLDOVERS d) = (s.get (Obj.TIM_D_HOLDOVERS d) + 1) % 2 ^ widthOf (Obj.TIM_D_HOLDOVERS d)))

/-! ### The Compositor (16) -/

/-- The sequencer goes from a line to the next as its SEQ_OP says, on the condition, stack, loop counter and register of the context at the
line's start; a call without room and a return without a call restart the context; a wait lasts until its condition is true; an ended context is
ready again when its queue holds a word. The D register takes the ALU's result, and the flags with F_WE set (R433, R437 to R440). A command for
another SEQ_OP than the line's does nothing (DEDUCED, notes/assumptions/41). -/
def Obligations.SequencerFollowsItsLines : Prop :=
  ∀ (s : State) (c op : Nat) (cmd : Instr), (op, cmd) ∈ [(0, Instr.seqNext), (1, .seqJump), (2, .seqBrt), (3, .seqBrf), (4, .seqCall), (5, .seqRet),
      (6, .seqLoop), (7, .seqWait), (8, .seqDisp), (9, .seqEnd)] →
    s.cmp.current = some c → c < 16 → s.cmp.ctxs.length = 16 →
    let x := s.ctx c
    let n := (x.line + 1) % 2 ^ 17
    let l := microline (s.lineAt (s.linePlace x.line))
    (l.seqOp ≠ op → exec cmd s = .next s) ∧
    (l.seqOp = op → x.state = .running → x.pend = [] → s.mem.flips = [] → s.flt.inj = none → s.cmp.patchRun = none →
      l.memOp = 0 → l.netOp = 0 → l.evtOp = 0 → l.safe = true ∨ x.gap < 1023 →
      ∃ t, exec cmd s = .next t ∧
        (op = 0 → (t.ctx c).line = n) ∧ (op = 1 → (t.ctx c).line = l.target) ∧
        (op = 2 → (t.ctx c).line = if s.condOf c l.cond then l.target else n) ∧
        (op = 3 → (t.ctx c).line = if s.condOf c l.cond then n else l.target) ∧
        (op = 4 → x.stack.length < 8 → (t.ctx c).line = l.target ∧ (t.ctx c).stack = n :: x.stack) ∧
        (op = 4 → 8 ≤ x.stack.length → (t.ctx c).line = c ∧ (t.ctx c).stack = []) ∧
        (op = 5 → ∀ r rest, x.stack = r :: rest → (t.ctx c).line = r ∧ (t.ctx c).stack = rest) ∧
        (op = 5 → x.stack = [] → (t.ctx c).line = c ∧ (t.ctx c).stack = []) ∧
        (op = 6 → x.lc ≠ 0 → (t.ctx c).line = l.target ∧ (l.dSrc = 0 → (t.ctx c).lc = x.lc - 1)) ∧
        (op = 6 → x.lc = 0 → (t.ctx c).line = n) ∧
        (op = 7 → l.aluOp = 0 → l.dSrc = 0 → t.cmp.current = none ∧
          (s.condOf c l.cond = false → (t.ctx c).state = .waiting ∧ (t.ctx c).line = x.line) ∧
          (s.condOf c l.cond = true → (t.ctx c).state = .ready ∧ (t.ctx c).line = x.line + 1)) ∧
        (op = 8 → (t.ctx c).line = (l.target + x.reg l.a % 256) % 2 ^ 17) ∧
        (op = 9 → t.cmp.current = none ∧ (t.ctx c).line = c ∧ (t.ctx c).state = if x.queue.isEmpty then .idle else .ready) ∧
        (op = 0 → l.dSrc = 1 → l.d ≠ 0 → ∀ r cf vf, cmpAlu l.aluOp (x.reg l.a) (if l.bImm then immExt l.imm else x.reg l.b) = some (r, cf, vf) →
          (t.ctx c).reg l.d = r ∧ (l.fWe = true → (t.ctx c).z = decide (r = 0) ∧ (t.ctx c).n = bitOf r 63 ∧ (t.ctx c).c = cf ∧ (t.ctx c).v = vf) ∧
          (l.fWe = false → (t.ctx c).z = x.z ∧ (t.ctx c).n = x.n ∧ (t.ctx c).c = x.c ∧ (t.ctx c).v = x.v)) ∧
        t.get Obj.CMP_LINES = (s.get Obj.CMP_LINES + 1) % 2 ^ widthOf Obj.CMP_LINES)

/-- The free sequencer takes the ready context of the highest priority; a read's response fills its register, a timer that ends is noted, an
uncorrectable fetch restarts its context (R433, R434, R440, R442, R447). A patch is checked in the order of R449; an activation needs a checked
image, a removal a patch, and both park the contexts they touch; with every context parked the overlay changes, touched contexts begin again and
the rest go on (R449 to R452). -/
def Obligations.ContextsAndPatchesChange : Prop :=
  (∀ (s : State) (c : Nat), s.chooseCtx = some c → c < 16 ∧ (s.ctx c).state = .ready ∧
    ∀ i, i < 16 → (s.ctx i).state = .ready → ctxPriority c ≤ ctxPriority i) ∧
  (∀ (s : State) (c : Nat), s.cmp.ctxs.length = 16 →
    (s.cmp.current.isSome = true ∨ s.readyCtxs.chooseCtx ≠ some c → exec (.contextWake c) s = .next s.readyCtxs) ∧
    (s.cmp.current = none → s.readyCtxs.chooseCtx = some c → ∃ t, exec (.contextWake c) s = .next t ∧ t.cmp.current = some c ∧
      (t.ctx c).state = .running ∧ (t.ctx c).line = (s.readyCtxs.ctx c).line ∧ ∀ i, i ≠ c → t.ctx i = s.readyCtxs.ctx i)) ∧
  (∀ (s : State) (c : Nat), c < s.cmp.ctxs.length →
    (∀ (r : Nat) (v : BitVec 64), (s.ctx c).pend.find? (fun e => decide (e.2 = none)) = some (r, none) → ∃ t, exec (.netReadResponse c v) s = .next t ∧
      (t.ctx c).pend = (s.ctx c).pend.erase (r, none) ∧ (r ≠ 0 → (t.ctx c).reg r = v.toNat) ∧ (r = 0 → (t.ctx c).lc = v.toNat % 2 ^ 32)) ∧
    (∀ t0, (s.ctx c).timer = some t0 →
      (s.now < t0 → exec (.contextTimerExpiry c) s = .next s) ∧
      (t0 ≤ s.now → ∃ t, exec (.contextTimerExpiry c) s = .next t ∧ (t.ctx c).timer = none ∧ (t.ctx c).expired = true)) ∧
    (∀ patch, s.cmp.current = some c → (s.linePlace (s.ctx c).line).1 = patch → ∃ t, exec (.fetchUncorrectable patch) s = .next t ∧
      (t.ctx c).line = c ∧ (t.ctx c).stack = [] ∧ t.get Obj.CMP_FETCH_UE = (s.get Obj.CMP_FETCH_UE + 1) % 2 ^ widthOf Obj.CMP_FETCH_UE ∧
      t.get (Obj.CMP_C_RESTARTS c) = (s.get (Obj.CMP_C_RESTARTS c) + 1) % 2 ^ widthOf (Obj.CMP_C_RESTARTS c))) ∧
  (∀ (s : State) (i : Nat) (r : Request), s.readyToStart i r Obj.CMP_PATCH_CHECK = true →
    let p := s.page 0
    let key : Option (Bytes × Bool) := if p.state = 1 ∨ p.state = 2 then some (p.key, decide (p.state = 2)) else none
    let x := patchCheck s.stagedImage s.cmp.stagedTotal (s.get Obj.ID_ROM_VERSION) (s.get Obj.ID_DICT_VERSION) key
    (s.get Obj.LCY_STATE = 0 ∨ s.get Obj.LCY_STATE = 3 ∨ s.boot.bootSel = 2 ∨ s.boot.bootSel = 3 →
      exec .cmpPatchCheck s = .next ((s.startTurn i Obj.CMP_PATCH_CHECK).started i r Obj.CMP_PATCH_CHECK Res.badState)) ∧
    (s.get Obj.LCY_STATE ≠ 0 → s.get Obj.LCY_STATE ≠ 3 → s.boot.bootSel < 2 → s.patchBusy = false →
      ∃ v : State, exec .cmpPatchCheck s = .next (v.started i r Obj.CMP_PATCH_CHECK Res.ok) ∧
        v.get Obj.CMP_PATCH_CHECK = runRecord (s.get Obj.CMP_PATCH_CHECK) x.1 x.2 ∧
        (x = (Res.ok, 0) → v.get Obj.CMP_PATCH_STAGED_ID = u s.stagedImage 12 4) ∧
        (x ≠ (Res.ok, 0) → v.get Obj.CMP_PATCH_STAGED_ID = s.get Obj.CMP_PATCH_STAGED_ID))) ∧
  (∀ (s : State) (i : Nat) (r : Request) (remove : Bool), s.get Obj.LCY_STATE ≠ 0 → s.get Obj.LCY_STATE ≠ 3 → s.patchBusy = false →
    let key := if remove then Obj.CMP_PATCH_REMOVE else Obj.CMP_PATCH_ACTIVATE
    s.readyToStart i r key = true → s.isBusy key = false →
      ∃ v : State, exec (if remove then .cmpPatchRemove else .cmpPatchActivate) s = .next (v.started i r key Res.ok) ∧
        (remove = false → s.get Obj.CMP_PATCH_STAGED_ID = 0 → v.get key = runRecord (s.get key) Res.badState 1 ∧ v.cmp.patchRun = none) ∧
        (remove = true → s.get Obj.CMP_PATCH_ID = 0 → v.get key = runRecord (s.get key) Res.ok 0 ∧ v.cmp.patchRun = none) ∧
        ((if remove then s.get Obj.CMP_PATCH_ID else s.get Obj.CMP_PATCH_STAGED_ID) ≠ 0 → v.isBusy key = true ∧
          (∃ h, v.cmp.patchRun = some ⟨remove, false, h⟩) ∧
          ∀ c, c < 16 → (v.ctx c).touched = true → (v.ctx c).state ≠ .idle ∧ (v.ctx c).state ≠ .waiting)) ∧
  (∀ (s : State) (p : PatchRun), s.cmp.patchRun = some p → s.cmp.ctxs.length = 16 →
    (p.halted = none ∨ (∃ c, c < 16 ∧ (s.ctx c).state ≠ .parked) → exec .patchHaltLoad s = .next s) ∧
    (p.halted.isSome = true → (∀ c, c < 16 → (s.ctx c).state = .parked ∧ (s.ctx c).was ≠ .parked) →
      ∃ t, exec .patchHaltLoad s = .next t ∧ t.cmp.patchRun = none ∧
        (p.remove = true → t.cmp.overlay = [] ∧ t.get Obj.CMP_PATCH_ID = 0 ∧ t.cmp.ram = s.cmp.ram) ∧
        (p.remove = false → let im := s.stagedBytes 0 (u (s.stagedBytes 8 4) 0 4)
          t.get Obj.CMP_PATCH_ID = u im 12 4 ∧ t.get Obj.CMP_PATCH_SEGS = u im 26 2 ∧ t.get Obj.CMP_PATCH_MAPS = u im 24 2 ∧
          ∀ k, k < 16 * u im 26 2 → smGet 0 t.cmp.ram k = u im (64 + 4 * u im 24 2 + 18 * k) 18) ∧
        (∀ c, c < 16 → (t.ctx c).state ≠ .parked ∧ (t.ctx c).touched = false ∧
          ((s.ctx c).touched = true → (t.ctx c).line = c ∧ (t.ctx c).stack = []) ∧
          ((s.ctx c).touched = false → (t.ctx c).line = (s.ctx c).line ∧ (t.ctx c).stack = (s.ctx c).stack)) ∧
        (p.own = false → t.get (if p.remove then Obj.CMP_PATCH_REMOVE else Obj.CMP_PATCH_ACTIVATE) =
          runRecord (s.get (if p.remove then Obj.CMP_PATCH_REMOVE else Obj.CMP_PATCH_ACTIVATE)) Res.ok 0)))

/-- What a line's COND asks of its context: true, the flags Z, N, C and V, LC = 0, an event queue that is not empty, the ABORT flag, the timer,
no read pending, a result of the KCE, every write acknowledged; a patch line with any other code fails the patch check (R438). -/
def Obligations.ConditionsAreJudgedOnTheContext : Prop :=
  (∀ (s : State) (c k : Nat), let x := s.ctx c
    (s.condOf c k = true ↔ k = 0 ∨ (k = 1 ∧ x.z = true) ∨ (k = 2 ∧ x.n = true) ∨ (k = 3 ∧ x.c = true) ∨ (k = 4 ∧ x.v = true) ∨ (k = 5 ∧ x.lc = 0) ∨
      (k = 6 ∧ x.queue ≠ []) ∨ (k = 7 ∧ x.abort = true) ∨ (k = 8 ∧ x.expired = true) ∨ (k = 9 ∧ x.pend = []) ∨
      (k = 10 ∧ ∃ e, e ∈ s.kce.results ∧ e.1 = 0x20000 + c) ∨ (k = 11 ∧ x.netWrites = 0))) ∧
  (∀ (im : Bytes) (total rom dict : Nat) (key : Option (Bytes × Bool)) (e : Nat × Nat), e ∈ patchLines im →
    12 ≤ (microline e.2).cond → patchCheck im total rom dict key ≠ (Res.ok, 0))

/-! ### Memory integrity (17) -/

/-- A write-back leaves the word as its correction gave it, or a galley word as it was read with POISON, is counted, and is no longer pending. A
scrub read goes to the next word, and reports and schedules the write-back of what it finds (R463, R465, R469). A diagnostic read gives the
stored data and check bits, a diagnostic write stores what is given and logs the word, each only in the mode and within the memory (R475, R476;
an address beyond it is DESIGN CHOICE, notes/assumptions/44). -/
def Obligations.WordsAreScrubbedWrittenBackAndDiagnosed : Prop :=
  (∀ (s : State) (kind inst addr : Nat), let key := memKey kind inst addr
    (s.mem.backs.find? (fun b => decide (b.key = key)) = none → exec (.writeBack kind inst addr) s = .next s) ∧
    (∀ b, s.mem.backs.find? (fun b => decide (b.key = key)) = some b → kind < 14 →
      (b.poison = false → (∀ syn, decodeKind kind (s.flipsAt kind inst addr) ≠ .bad syn) → ∃ t, exec (.writeBack kind inst addr) s = .next t ∧
        t.flipsAt kind inst addr = afterBack kind (s.flipsAt kind inst addr) ∧ (∀ y, y ∈ t.mem.backs → y.key ≠ key) ∧ t.galley = s.galley ∧
        t.get (Obj.FLT_MI_WRITEBACKS kind) = (s.get (Obj.FLT_MI_WRITEBACKS kind) + 1) % 2 ^ widthOf (Obj.FLT_MI_WRITEBACKS kind)) ∧
      (b.poison = true → ∀ w, s.galleyWord inst addr = some w → ∃ t, exec (.writeBack kind inst addr) s = .next t ∧
        t.flipsAt kind inst addr = 0 ∧ (∀ y, y ∈ t.mem.backs → y.key ≠ key) ∧
        t.galley.word w = (s.galley.word w ^^^ dataBits 0 (s.flipsAt kind inst addr)) % 2 ^ 256 + 2 ^ 256))) ∧
  (∀ (s : State) (kind inst flips : Nat), kind < 13 → scrubSize kind inst ≠ 0 → s.boot.phase = .service → s.wiping = false → s.scrubGated kind inst = false →
    s.scrubSkips kind inst = false → s.get Obj.FLT_DIAG_ENABLE = 0 → s.flt.inj = none →
    let k := kind * 2 ^ 32 + inst
    let n := smGet 0 s.mem.scrub k
    let addr := scrubAddr kind n
    s.flipsAt kind inst addr = 0 → ∃ t, exec (.scrubRead kind inst flips) s = .next t ∧
      smGet 0 t.mem.scrub k = (if n + 1 < scrubSize kind inst then n + 1 else 0) ∧
      (flips = 0 → unchangedBut [.mem, .dict] s t) ∧
      (∀ p q syn, decodeKind kind flips = .fix p q syn → ¬ (kind = 11 ∧ inst = 0) → (∃ b, b ∈ t.mem.backs ∧ b.key = memKey kind inst addr) ∧
        t.get (Obj.FLT_MI_CE kind) = (s.get (Obj.FLT_MI_CE kind) + 1) % 2 ^ widthOf (Obj.FLT_MI_CE kind)) ∧
      (∀ syn, decodeKind kind flips = .bad syn → kind ≠ 5 →
        t.get (Obj.FLT_MI_UE kind) = (s.get (Obj.FLT_MI_UE kind) + 1) % 2 ^ widthOf (Obj.FLT_MI_UE kind))) ∧
  (∀ (s : State) (i : Nat) (r : Request), s.readyToStart i r Obj.FLT_DIAG_READ = true → s.isBusy Obj.FLT_DIAG_READ = false →
    ∃ v : State, exec .fltDiagRead s = .next (v.started i r Obj.FLT_DIAG_READ Res.ok) ∧ v.mem = s.mem ∧ v.tables = s.tables ∧
      (s.get Obj.FLT_DIAG_ENABLE = 0 → v.get Obj.FLT_DIAG_READ = runRecord (s.get Obj.FLT_DIAG_READ) Res.badState 3) ∧
      (s.get Obj.FLT_DIAG_ENABLE ≠ 0 → s.diagWord = none → v.get Obj.FLT_DIAG_READ = runRecord (s.get Obj.FLT_DIAG_READ) Res.badValue 0) ∧
      (s.get Obj.FLT_DIAG_ENABLE ≠ 0 → ∀ kind inst a data, s.diagWord = some (kind, inst, a, data) →
        let pat := s.flipsAt kind inst a
        v.get Obj.FLT_DIAG_DATA = data ^^^ (pat % 2 ^ (diagShape kind).2) ∧
        v.get Obj.FLT_DIAG_CHECK = diagCheck kind data ^^^ ((pat / 2 ^ (diagShape kind).1) % 2 ^ (if kind = 5 then 2 else 8)) ∧
        v.get Obj.FLT_DIAG_READ = runRecord (s.get Obj.FLT_DIAG_READ) Res.ok 0)) ∧
  (∀ (s : State) (i : Nat) (r : Request), s.readyToStart i r Obj.FLT_DIAG_WRITE = true → s.isBusy Obj.FLT_DIAG_WRITE = false →
    ∃ v : State, exec .fltDiagWrite s = .next (v.started i r Obj.FLT_DIAG_WRITE Res.ok) ∧
      (s.get Obj.FLT_DIAG_ENABLE = 0 → v.mem = s.mem ∧ v.get Obj.FLT_DIAG_WRITE = runRecord (s.get Obj.FLT_DIAG_WRITE) Res.badState 3) ∧
      (s.get Obj.FLT_DIAG_ENABLE ≠ 0 → ∀ kind inst a data, s.diagWord = some (kind, inst, a, data) →
        let key := memKey kind inst a
        let w := (diagShape kind).2
        (s.scrubGated kind inst = true → v.mem = s.mem ∧ v.get Obj.FLT_DIAG_WRITE = runRecord (s.get Obj.FLT_DIAG_WRITE) Res.badState 1) ∧
        (s.scrubGated kind inst = false → key ∉ s.mem.log → 64 ≤ s.mem.log.length → v.mem = s.mem ∧
          v.get Obj.FLT_DIAG_WRITE = runRecord (s.get Obj.FLT_DIAG_WRITE) Res.badState 2) ∧
        (s.scrubGated kind inst = false → key ∈ s.mem.log ∨ s.mem.log.length < 64 → key ∈ v.mem.log ∧
          (data % 2 ^ w) ^^^ (v.flipsAt kind inst a % 2 ^ w) = s.get Obj.FLT_DIAG_DATA % 2 ^ w ∧
          v.get Obj.FLT_DIAG_LOGGED = v.mem.log.length ∧ v.get Obj.FLT_DIAG_WRITE = runRecord (s.get Obj.FLT_DIAG_WRITE) Res.ok 0)))

/-! ### Faults (18) -/

/-- An event is counted for its source and queued as its class says, and a failure makes a quiet source pending, or a source that is not yet
severe severe, with the timer of its reaction time. An expired timer takes the lowest rung of its row: the octet of an octet source, the octets
of a quoin-stack source, or the safe state for a source of the Forme stack that has no rung 1 or no spare left; a die-link source whose lane
carries nothing retires it without a rung; a rung that context 0 has not begun within 1 ms takes source 249 to the safe state; the end of a
supply-island difference is an event of its own, DESIGN CHOICE, notes/assumptions/55 (R480 to R486, R489). -/
def Obligations.SourcesCountBecomeSevereAndReact : Prop :=
  (∀ (s : State) (src cause tile detail : Nat) (failure : Bool),
    (324 ≤ src → exec (.faultEvent src cause tile detail failure) s = .next s) ∧
    (src = 259 → failure = false → ∃ t, exec (.faultEvent src cause tile detail failure) s = .next t ∧ (t.source 259).level = false ∧
      (t.source 259).count = (s.source 259).count ∧ (t.source 259).status = (s.source 259).status) ∧
    (src < 324 → src ≠ 259 ∨ failure = true →
      let cls := reportClass cause failure
      let now_ := reportImmediate src cause failure || (decide (cls = Cls.failure) && decide ((s.srcCfg src).n = 1))
      ∃ t, exec (.faultEvent src cause tile detail failure) s = .next t ∧
        (2 ≤ (s.source src).status ∨ (cls ≠ Cls.corrected ∧ cls ≠ Cls.failure) →
          t.get Obj.FLT_EVENTS = (s.get Obj.FLT_EVENTS + 1) % 2 ^ widthOf Obj.FLT_EVENTS) ∧
        (t.source src).count = ((s.source src).count + 1) % 2 ^ 64 ∧ (t.source src).last = s.uptime ∧
        (cls ≠ Cls.corrected ∨ bitOf (s.srcCfg src).flags 0 = true → s.flt.queue.length < 1024 → ∃ more, t.flt.queue = s.flt.queue ++
          ⟨src, cls, if now_ then 8 else 0, scopeOf src cause tile, cause, 0, detail, (s.flt.seq + 1) % 2 ^ 32, s.uptime⟩ :: more) ∧
        (cls = Cls.failure → (s.source src).status = 0 → (s.srcCfg src).react ≠ 0 → (t.source src).status ≠ 0) ∧
        (cls = Cls.failure → (s.source src).status ≤ 1 → now_ = true → (s.srcCfg src).react ≠ 0 →
          (t.source src).status = 2 ∧ (t.source src).sevTile = tile ∧
          (t.source src).timer = if (s.srcCfg src).react = 0xFFFFFFFF then none else some (s.now + msTicks (s.srcCfg src).react)) ∧
        (cls ≠ Cls.corrected → cls ≠ Cls.failure → (t.source src).status = (s.source src).status))) ∧
  (∀ (s : State) (src : Nat), src < 324 →
    ((s.source src).timer = none ∨ (s.source src).status ≠ 2 → exec (.reactionTimerExpiry src) s = .next s) ∧
    (∀ t0, (s.source src).timer = some t0 → (s.source src).status = 2 →
      (s.now < t0 → exec (.reactionTimerExpiry src) s = .next s) ∧
      (t0 ≤ s.now →
        (src < 128 → ∃ t, exec (.reactionTimerExpiry src) s = .next t ∧ (t.source src).status = 4 ∧ (t.source src).timer = none ∧ t.octetShed src = true ∧
          t.flt.safe = s.flt.safe) ∧
        (144 ≤ src → src < 152 → ∃ t, exec (.reactionTimerExpiry src) s = .next t ∧ (t.source src).status = 4 ∧
          (∀ o, o < 16 → t.octetShed (16 * (src - 144) + o) = true) ∧ t.flt.safe = s.flt.safe) ∧
        (128 ≤ src → src < 144 → s.idleLane src = true → s.links.length = 8 → ∃ t, exec (.reactionTimerExpiry src) s = .next t ∧
          (t.source src).status = 0 ∧ (t.dlane ((src - 128) / 2) ((src - 128) % 2) ((s.source src).sevTile % 512)).state = 3 ∧ t.dict = s.dict) ∧
        (152 ≤ src → src < 192 → s.noSpare src = true → ∃ t, exec (.reactionTimerExpiry src) s = .next t ∧
          (t.source src).status = 5 ∧ t.flt.safe = true) ∧
        (192 ≤ src → src < 258 → src ≠ 248 → src ≠ 251 → src ≠ 252 → ∃ t, exec (.reactionTimerExpiry src) s = .next t ∧
          (t.source src).status = 5 ∧ t.flt.safe = true ∧ (s.flt.safe = false → t.get Obj.ID_SAFE_CAUSE = src))))) ∧
  (∀ (s : State) (src : Nat),
    ((∃ r, r ∈ s.flt.repairs ∧ r.source = some src ∧ r.begun = false ∧ r.stack = 0 ∧ r.dueAt + 800000 ≤ s.now) → s.repairRuns 0 = false →
      (s.source 249).status ≤ 2 → ∃ t, exec (.rungNotBegun src) s = .next t ∧ t.flt.safe = true ∧ (t.source 249).status = 5) ∧
    ((∀ r, r ∈ s.flt.repairs → r.source = some src → r.begun = false → s.now < r.dueAt + 800000) → exec (.rungNotBegun src) s = .next s))

/-- `FLT_CLEAR` ends with the outcome of the first condition that holds and clears a source, or every one whose cause is gone, with its trackers
kept; `FLT_SAFE_ENTER` enters the safe state; `FLT_INJ_ARM` arms the injection that its objects describe, or says which of them it refuses (R488,
R490, R492). -/
def Obligations.CollectorStartsClearEnterAndArm : Prop :=
  (∀ (s : State) (i : Nat) (r : Request), s.readyToStart i r Obj.FLT_CLEAR = true → s.isBusy Obj.FLT_CLEAR = false →
    let n := s.get Obj.FLT_CLEAR_SRC
    let record := fun (o d : Nat) => runRecord (s.get Obj.FLT_CLEAR) o d
    ∃ v : State, exec .fltClear s = .next (v.started i r Obj.FLT_CLEAR Res.ok) ∧
      (323 < n → n ≠ 0xFFFF → v.get Obj.FLT_CLEAR = record Res.badValue 1 ∧ v.flt = s.flt) ∧
      (n ≤ 323 → 3 ≤ (s.source n).status → v.get Obj.FLT_CLEAR = record Res.badState 2 ∧ v.flt = s.flt) ∧
      (n ≤ 323 → (s.source n).status < 3 → s.causePresent n = true → v.get Obj.FLT_CLEAR = record Res.causePresent 0 ∧ v.flt = s.flt) ∧
      (n ≤ 323 → (s.source n).status < 3 → s.causePresent n = false → v.get Obj.FLT_CLEAR = record Res.ok 0 ∧ (v.source n).status = 0 ∧
        ((s.source n).status ≠ 0 → (v.source n).timer = none) ∧ (v.source n).trackers = (s.source n).trackers ∧
        ∀ k, k ≠ n → v.source k = s.source k) ∧
      (n = 0xFFFF → v.get Obj.FLT_CLEAR = record Res.ok v.sourcesLeft ∧ ∀ k, k < 324 → (v.source k).trackers = (s.source k).trackers ∧
        (v.source k).status = (if (s.source k).status ≤ 2 ∧ s.causePresent k = false then 0 else (s.source k).status))) ∧
  (∀ (s : State) (i : Nat) (r : Request), s.readyToStart i r Obj.FLT_SAFE_ENTER = true → s.isBusy Obj.FLT_SAFE_ENTER = false →
    ∃ v : State, exec .fltSafeEnter s = .next (v.started i r Obj.FLT_SAFE_ENTER Res.ok) ∧ v.flt.safe = true ∧
      v.get Obj.FLT_SAFE_ENTER = runRecord (s.get Obj.FLT_SAFE_ENTER) Res.ok 0 ∧
      (s.flt.safe = false → v.get Obj.FLT_STATE = 1 ∧ v.get Obj.ID_SAFE_CAUSE = 0xFFFE ∧ ∀ k, k < 16 → Out.tpo k false s.now 0 ∈ v.out)) ∧
  (∀ (s : State) (i : Nat) (r : Request), s.readyToStart i r Obj.FLT_INJ_ARM = true →
    let kind := s.get Obj.FLT_INJ_KIND
    let path := s.get Obj.FLT_INJ_PATH
    let lcy := s.get Obj.LCY_STATE
    let record := fun (o d : Nat) => runRecord (s.get Obj.FLT_INJ_ARM) o d
    let a := s.startTurn i Obj.FLT_INJ_ARM
    (s.flt.inj.isSome = true → exec .fltInjArm s = .next (a.started i r Obj.FLT_INJ_ARM Res.busy)) ∧
    (s.flt.inj = none → lcy = 0 ∨ lcy = 3 ∨ (path = 1 ∧ lcy ≠ 1) → exec .fltInjArm s = .next (a.started i r Obj.FLT_INJ_ARM Res.badState)) ∧
    (s.flt.inj = none → s.isBusy Obj.FLT_INJ_ARM = false → lcy ≠ 0 → lcy ≠ 3 → (path = 1 → lcy = 1) →
      ∃ v : State, exec .fltInjArm s = .next (v.started i r Obj.FLT_INJ_ARM Res.ok) ∧
        (injRefused kind (s.get Obj.FLT_INJ_TYPE) = true → v.get Obj.FLT_INJ_ARM = record Res.badValue 1 ∧ v.flt.inj = none) ∧
        (injRefused kind (s.get Obj.FLT_INJ_TYPE) = false → path = 0 → kind = 12 ∨ kind = 13 → v.get Obj.FLT_INJ_ARM = record Res.badValue 2 ∧ v.flt.inj = none) ∧
        (injRefused kind (s.get Obj.FLT_INJ_TYPE) = false → (path = 0 → kind < 12) → injBits kind ≤ s.get Obj.FLT_INJ_BIT →
          v.get Obj.FLT_INJ_ARM = record Res.badValue 3 ∧ v.flt.inj = none) ∧
        (injRefused kind (s.get Obj.FLT_INJ_TYPE) = false → (path = 0 → kind < 12) → s.get Obj.FLT_INJ_BIT < injBits kind →
          v.isBusy Obj.FLT_INJ_ARM = true ∧ v.get Obj.FLT_INJ_LEFT = s.get Obj.FLT_INJ_COUNT ∧
          ∃ j, v.flt.inj = some j ∧ j.kind = kind ∧ j.inst = s.get Obj.FLT_INJ_INSTANCE ∧ j.type = s.get Obj.FLT_INJ_TYPE ∧ j.path = path ∧
            j.left = s.get Obj.FLT_INJ_COUNT ∧ j.bit = s.get Obj.FLT_INJ_BIT)))

/-! ### Power (19) -/

/-- A regulator's status word with a fault bit is a failure event of its rail and is cleared and read again every 1 ms, a good one ends that; an
alert reads all five; a transaction that fails is reported and tried again after 1 ms (R52, R501; the places of the bits are PRESUMED,
notes/assumptions/31). A reading enters a sensor's object, its maximum and its warning, and one out of range marks the sensor failed; a trip in
hardware drives THERMTRIP_N, records the sensor and stops a commit; a shutdown is answered, then the device is safe with its rails off (R50, R79,
R500, R507, R508). -/
def Obligations.RegulatorsAndSensorsAreWatched : Prop :=
  (∀ (s : State) (rail vout iout : Nat) (st : BitVec 16), s.polled = true → rail < 5 → s.power.rails.length = 5 →
    ∃ t, exec (.regulatorPoll rail vout iout st) s = .next t ∧ (t.rail rail).vout = vout ∧ (t.rail rail).iout = iout ∧
      t.get (Obj.PWR_R_STATUS rail) = st.toNat ∧
      (statusBad st = true → (s.rail rail).rereadAt = none → (t.source (253 + rail)).count = ((s.source (253 + rail)).count + 1) % 2 ^ 64 ∧
        (t.rail rail).rereadAt = some (s.now + msTicks 1) ∧ Out.pmbus rail 0x03 0 ∈ t.out) ∧
      (statusBad st = false → (s.rail rail).rereadAt = none → (t.rail rail).rereadAt = none ∧ t.flt = s.flt)) ∧
  (∀ (s : State) (rail t0 : Nat) (st : BitVec 16), rail < 5 → s.power.rails.length = 5 → (s.rail rail).rereadAt = some t0 →
    (s.now < t0 → exec (.regulatorFaultReread rail st) s = .next s) ∧
    (s.polled = true → t0 ≤ s.now → ∃ t, exec (.regulatorFaultReread rail st) s = .next t ∧ t.get (Obj.PWR_R_STATUS rail) = st.toNat ∧
      (statusBad st = true → (t.source (253 + rail)).count = ((s.source (253 + rail)).count + 1) % 2 ^ 64 ∧
        (t.rail rail).rereadAt = some (s.now + msTicks 1)) ∧
      (statusBad st = false → (t.rail rail).rereadAt = none ∧ t.flt = s.flt))) ∧
  (∀ (s : State) (sts : List (BitVec 16)), s.polled = true → s.power.rails.length = 5 → ∃ t, exec (.pmbAlert sts) s = .next t ∧
    t.get Obj.PWR_ALERTS = (s.get Obj.PWR_ALERTS + 1) % 2 ^ widthOf Obj.PWR_ALERTS ∧
    ∀ rail st, rail < 5 → sts[rail]? = some st → t.get (Obj.PWR_R_STATUS rail) = st.toNat ∧
      (statusBad st = true → (s.rail rail).rereadAt = none → (t.rail rail).rereadAt = some (s.now + msTicks 1))) ∧
  (∀ (s : State) (rail : Nat), s.busOn = true → rail < 5 → s.power.rails.length = 5 →
    (∃ t, exec (.pmbusTransactionFailure rail) s = .next t ∧ (t.rail rail).fails = 1 ∧ (t.rail rail).retryAt = some (s.now + msTicks 1) ∧
      (s.flt.running = true → (t.source (253 + rail)).count = ((s.source (253 + rail)).count + 1) % 2 ^ 64) ∧
      (s.flt.running = false → t.boot.heldFaults = s.boot.heldFaults ++ [(253 + rail, 0x21)])) ∧
    (∀ t0, (s.rail rail).retryAt = some t0 →
      (s.now < t0 → ∀ ok, exec (.pmbusRetry rail ok) s = .next s) ∧
      (t0 ≤ s.now → (∃ t, exec (.pmbusRetry rail true) s = .next t ∧ (t.rail rail).fails = 0 ∧ (t.rail rail).retryAt = none ∧ unchangedBut [.power, .flt, .wonel, .dict] s t ∧
          objectsBut [Obj.FLT_EVENTS, Obj.FLT_EVENT_LOST] s t) ∧
        ∃ t, exec (.pmbusRetry rail false) s = .next t ∧ (t.rail rail).fails = (s.rail rail).fails + 1 ∧
          (t.rail rail).retryAt = some (s.now + msTicks 1)))) ∧
  (∀ (s : State) (k : Nat) (temp : Int), k < 64 → s.flt.running = true → s.boot.resetN = true → ∃ t, exec (.sensorRead k temp) s = .next t ∧
    (t.sensor k).own = temp ∧
    (temp < -480 ∨ 1600 < temp → (t.sensor k).failed = true ∧
      ((s.sensor k).failed = false → s.flt.queue.length < 1024 → ∃ e, e ∈ t.flt.queue ∧ e.source = 260 + k ∧ e.cls = Cls.failure ∧ e.cause = 0x23 ∧
        e.time = s.uptime)) ∧
    (-480 ≤ temp → temp ≤ 1600 → temp ≠ (s.sensor k).own → (s.sensor k).failed = false → (t.sensor k).failed = false ∧ (t.sensor k).temp = temp ∧
      (let lim := toSigned 32 (s.get (Obj.PWR_S_WARN k))
       (t.sensor k).warn = if (s.sensor k).warn then decide (lim - 40 < temp) else decide (lim < temp)) ∧
      t.get (Obj.PWR_S_MAX k) = if toSigned 32 (s.get (Obj.PWR_S_MAX k)) < temp then ofSigned 32 temp else s.get (Obj.PWR_S_MAX k))) ∧
  (∀ (s : State) (k : Nat), (s.boot.vstby = false → exec (.thermalTrip k) s = .next s) ∧
    (s.boot.vstby = true → k < 64 → ∃ t, exec (.thermalTrip k) s = .next t ∧ t.power.thermtrip = true ∧ t.power.tripSensor = k ∧
      t.store = s.store.stopCommit ∧ Out.pin "THERMTRIP_N" false ∈ t.out ∧ t.busOn = false ∧ t.power.rails = s.power.rails ∧
      (s.boot.resetN = true → t.flt.safe = true))) ∧
  (∀ (s : State) (i : Nat) (r : Request), s.readyToStart i r Obj.PWR_SHUTDOWN = true → s.isBusy Obj.PWR_SHUTDOWN = false → s.power.rails.length = 5 →
    ∃ t, exec .pwrShutdown s = .next t ∧ t.boot.phase = .shutDown ∧ t.flt.safe = true ∧ t.get Obj.PWR_STATE = 3 ∧
      ∀ rail, rail < 5 → (t.rail rail).state = 0)

/-- A rail that is on and lies below its set point less 5% for 1 µs or longer is a droop: a failure event of its source, counted; on VCORE it
also raises the set point by 10 mV, up to 0.85 V, while the bus is driven, and the loop then lowers it again: 5 mV down after 100 readings above
25 ps in a row, 5 mV up below 10 ps, and in mode 1 to the fixed value (R502; R503 for the loop). -/
def Obligations.DroopsRaiseTheCoreVoltage : Prop :=
  (∀ (s : State) (rail ns : Nat), rail < 5 → s.power.rails.length = 5 → (s.rail rail).state = 2 → s.flt.running = true →
    (ns < 1000 → exec (.railDroop rail ns) s = .next s) ∧
    (1000 ≤ ns → ∃ t, exec (.railDroop rail ns) s = .next t ∧
      t.get (Obj.PWR_R_DROOPS rail) = (s.get (Obj.PWR_R_DROOPS rail) + 1) % 2 ^ widthOf (Obj.PWR_R_DROOPS rail) ∧
      (t.source (253 + rail)).count = ((s.source (253 + rail)).count + 1) % 2 ^ 64 ∧ (t.source (253 + rail)).status ≠ 0 ∧
      (rail ≠ 0 → t.power = s.power) ∧
      (rail = 0 → s.busOn = true → (s.rail 0).set < 850 → (t.rail 0).set = min 850 ((s.rail 0).set + 10) ∧ Out.avs (min 850 ((s.rail 0).set + 10)) ∈ t.out) ∧
      (rail = 0 → 850 ≤ (s.rail 0).set → t.power = s.power))) ∧
  (∀ (s : State) (m : Int), s.power.rails.length = 5 →
    (s.polled = false ∨ s.inService = false → exec (.avsLoop m) s = .next s) ∧
    (s.polled = true → s.inService = true → ∃ t, exec (.avsLoop m) s = .next t ∧ t.get Obj.PWR_AVS_MARGIN = ofSigned 32 m ∧ t.power.margin = m ∧
      (m < 0 → (t.source 253).count = ((s.source 253).count + 1) % 2 ^ 64) ∧
      (s.get Obj.PWR_AVS_MODE = 1 → (t.rail 0).set = s.get Obj.PWR_AVS_FIXED) ∧
      (s.get Obj.PWR_AVS_MODE ≠ 1 →
        (m < 10 → (s.rail 0).set < 850 → (t.rail 0).set = min 850 ((s.rail 0).set + 5)) ∧
        (m < 10 → 850 ≤ (s.rail 0).set → (t.rail 0).set = (s.rail 0).set) ∧
        (10 ≤ m → m ≤ 25 → (t.rail 0).set = (s.rail 0).set ∧ t.power.marginRun = 0) ∧
        (25 < m → s.power.marginRun < 99 → (t.rail 0).set = (s.rail 0).set ∧ t.power.marginRun = s.power.marginRun + 1) ∧
        (25 < m → 99 ≤ s.power.marginRun → 650 < (s.rail 0).set → (t.rail 0).set = max 650 ((s.rail 0).set - 5) ∧ t.power.marginRun = 0))))
end

