-- ==== Sys2Proof/Laws/State.lean ====
section
/-! SUPPORT. What each update of the state leaves as it was, field by field, and reading an object after a write. -/

namespace Sys2Proof.Machine
open Sys2Proof

/-! ### Sparse maps -/

theorem smGet_insert {α : Type} (d : α) (m : List (Nat × α)) (k : Nat) (x : α) (j : Nat) :
    smGet d (smInsert m k x) j = if k = j then x else smGet d m j := by
  induction m with
  | nil => simp [smInsert, smGet]
  | cons e t ih =>
    obtain ⟨k', v⟩ := e
    simp only [smInsert]
    split
    · subst k; simp only [smGet]; split <;> simp_all
    · split
      · simp only [smGet]
      · simp only [smGet, ih]; split <;> split <;> first | rfl | omega

theorem smGet_erase {α : Type} (d : α) (m : List (Nat × α)) (k j : Nat) :
    smGet d (smErase m k) j = if k = j then d else smGet d m j := by
  induction m with
  | nil => simp [smErase, smGet]
  | cons e t ih =>
    obtain ⟨k', v⟩ := e
    simp only [smErase]
    split
    · subst k'; rw [ih]; simp only [smGet]; split <;> rfl
    · simp only [smGet, ih]; split <;> split <;> first | rfl | omega

/-- Reading a sparse map after a write. -/
theorem smGet_set {α : Type} [DecidableEq α] (d : α) (m : List (Nat × α)) (k : Nat) (x : α) (j : Nat) :
    smGet d (smSet d m k x) j = if k = j then x else smGet d m j := by
  unfold smSet
  split
  · subst x; rw [smGet_erase]
  · exact smGet_insert d m k x j

/-- Reading another key, whatever each unlisted key reads as. -/
theorem smGet_set_ne {α : Type} [DecidableEq α] (d e : α) (m : List (Nat × α)) (k : Nat) (x : α) (j : Nat) (h : k ≠ j) :
    smGet d (smSet e m k x) j = smGet d m j := by
  unfold smSet
  split
  · rw [smGet_erase, if_neg h]
  · rw [smGet_insert, if_neg h]

theorem State.get_put (s : State) (k v j : Nat) : (s.put k v).get j = if k = j then v else s.get j := by
  simp only [State.get, State.put]
  split
  · subst k; rw [smGet_set, if_pos rfl]
  · rename_i h; exact smGet_set_ne _ _ _ _ _ _ h

@[simp] theorem State.get_put_same (s : State) (k v : Nat) : (s.put k v).get k = v := by rw [State.get_put, if_pos rfl]

theorem State.get_put_ne (s : State) (k v j : Nat) (h : k ≠ j) : (s.put k v).get j = s.get j := by rw [State.get_put, if_neg h]

/-! ### `State.put` -/

@[simp] theorem State.now_put (s : State) (key : Nat) (v : Nat) : (s.put key v).now = s.now := rfl
@[simp] theorem State.boot_put (s : State) (key : Nat) (v : Nat) : (s.put key v).boot = s.boot := rfl
@[simp] theorem State.store_put (s : State) (key : Nat) (v : Nat) : (s.put key v).store = s.store := rfl
@[simp] theorem State.wonel_put (s : State) (key : Nat) (v : Nat) : (s.put key v).wonel = s.wonel := rfl
@[simp] theorem State.kce_put (s : State) (key : Nat) (v : Nat) : (s.put key v).kce = s.kce := rfl
@[simp] theorem State.flt_put (s : State) (key : Nat) (v : Nat) : (s.put key v).flt = s.flt := rfl
@[simp] theorem State.power_put (s : State) (key : Nat) (v : Nat) : (s.put key v).power = s.power := rfl
@[simp] theorem State.lanes_put (s : State) (key : Nat) (v : Nat) : (s.put key v).lanes = s.lanes := rfl
@[simp] theorem State.links_put (s : State) (key : Nat) (v : Nat) : (s.put key v).links = s.links := rfl
@[simp] theorem State.pipes_put (s : State) (key : Nat) (v : Nat) : (s.put key v).pipes = s.pipes := rfl
@[simp] theorem State.galley_put (s : State) (key : Nat) (v : Nat) : (s.put key v).galley = s.galley := rfl
@[simp] theorem State.sched_put (s : State) (key : Nat) (v : Nat) : (s.put key v).sched = s.sched := rfl
@[simp] theorem State.ports_put (s : State) (key : Nat) (v : Nat) : (s.put key v).ports = s.ports := rfl
@[simp] theorem State.tables_put (s : State) (key : Nat) (v : Nat) : (s.put key v).tables = s.tables := rfl
@[simp] theorem State.telem_put (s : State) (key : Nat) (v : Nat) : (s.put key v).telem = s.telem := rfl
@[simp] theorem State.tim_put (s : State) (key : Nat) (v : Nat) : (s.put key v).tim = s.tim := rfl
@[simp] theorem State.ptp_put (s : State) (key : Nat) (v : Nat) : (s.put key v).ptp = s.ptp := rfl
@[simp] theorem State.cmp_put (s : State) (key : Nat) (v : Nat) : (s.put key v).cmp = s.cmp := rfl
@[simp] theorem State.mem_put (s : State) (key : Nat) (v : Nat) : (s.put key v).mem = s.mem := rfl
@[simp] theorem State.busy_put (s : State) (key : Nat) (v : Nat) : (s.put key v).busy = s.busy := rfl
@[simp] theorem State.out_put (s : State) (key : Nat) (v : Nat) : (s.put key v).out = s.out := rfl
@[simp] theorem State.fresh_put (s : State) (key : Nat) (v : Nat) : (s.put key v).fresh = s.fresh := rfl
@[simp] theorem State.pending_put (s : State) (key : Nat) (v : Nat) : (s.put key v).pending = s.pending := rfl

/-! ### `State.clearKeys` -/

@[simp] theorem State.now_clearKeys (s : State) (lo : Nat) (hi : Nat) : (s.clearKeys lo hi).now = s.now := rfl
@[simp] theorem State.boot_clearKeys (s : State) (lo : Nat) (hi : Nat) : (s.clearKeys lo hi).boot = s.boot := rfl
@[simp] theorem State.store_clearKeys (s : State) (lo : Nat) (hi : Nat) : (s.clearKeys lo hi).store = s.store := rfl
@[simp] theorem State.wonel_clearKeys (s : State) (lo : Nat) (hi : Nat) : (s.clearKeys lo hi).wonel = s.wonel := rfl
@[simp] theorem State.kce_clearKeys (s : State) (lo : Nat) (hi : Nat) : (s.clearKeys lo hi).kce = s.kce := rfl
@[simp] theorem State.flt_clearKeys (s : State) (lo : Nat) (hi : Nat) : (s.clearKeys lo hi).flt = s.flt := rfl
@[simp] theorem State.power_clearKeys (s : State) (lo : Nat) (hi : Nat) : (s.clearKeys lo hi).power = s.power := rfl
@[simp] theorem State.lanes_clearKeys (s : State) (lo : Nat) (hi : Nat) : (s.clearKeys lo hi).lanes = s.lanes := rfl
@[simp] theorem State.links_clearKeys (s : State) (lo : Nat) (hi : Nat) : (s.clearKeys lo hi).links = s.links := rfl
@[simp] theorem State.pipes_clearKeys (s : State) (lo : Nat) (hi : Nat) : (s.clearKeys lo hi).pipes = s.pipes := rfl
@[simp] theorem State.galley_clearKeys (s : State) (lo : Nat) (hi : Nat) : (s.clearKeys lo hi).galley = s.galley := rfl
@[simp] theorem State.sched_clearKeys (s : State) (lo : Nat) (hi : Nat) : (s.clearKeys lo hi).sched = s.sched := rfl
@[simp] theorem State.ports_clearKeys (s : State) (lo : Nat) (hi : Nat) : (s.clearKeys lo hi).ports = s.ports := rfl
@[simp] theorem State.tables_clearKeys (s : State) (lo : Nat) (hi : Nat) : (s.clearKeys lo hi).tables = s.tables := rfl
@[simp] theorem State.telem_clearKeys (s : State) (lo : Nat) (hi : Nat) : (s.clearKeys lo hi).telem = s.telem := rfl
@[simp] theorem State.tim_clearKeys (s : State) (lo : Nat) (hi : Nat) : (s.clearKeys lo hi).tim = s.tim := rfl
@[simp] theorem State.ptp_clearKeys (s : State) (lo : Nat) (hi : Nat) : (s.clearKeys lo hi).ptp = s.ptp := rfl
@[simp] theorem State.cmp_clearKeys (s : State) (lo : Nat) (hi : Nat) : (s.clearKeys lo hi).cmp = s.cmp := rfl
@[simp] theorem State.mem_clearKeys (s : State) (lo : Nat) (hi : Nat) : (s.clearKeys lo hi).mem = s.mem := rfl
@[simp] theorem State.busy_clearKeys (s : State) (lo : Nat) (hi : Nat) : (s.clearKeys lo hi).busy = s.busy := rfl
@[simp] theorem State.out_clearKeys (s : State) (lo : Nat) (hi : Nat) : (s.clearKeys lo hi).out = s.out := rfl
@[simp] theorem State.fresh_clearKeys (s : State) (lo : Nat) (hi : Nat) : (s.clearKeys lo hi).fresh = s.fresh := rfl
@[simp] theorem State.pending_clearKeys (s : State) (lo : Nat) (hi : Nat) : (s.clearKeys lo hi).pending = s.pending := rfl

/-! ### `State.emit` -/

@[simp] theorem State.now_emit (s : State) (o : Out) : (s.emit o).now = s.now := rfl
@[simp] theorem State.boot_emit (s : State) (o : Out) : (s.emit o).boot = s.boot := rfl
@[simp] theorem State.store_emit (s : State) (o : Out) : (s.emit o).store = s.store := rfl
@[simp] theorem State.wonel_emit (s : State) (o : Out) : (s.emit o).wonel = s.wonel := rfl
@[simp] theorem State.kce_emit (s : State) (o : Out) : (s.emit o).kce = s.kce := rfl
@[simp] theorem State.flt_emit (s : State) (o : Out) : (s.emit o).flt = s.flt := rfl
@[simp] theorem State.power_emit (s : State) (o : Out) : (s.emit o).power = s.power := rfl
@[simp] theorem State.lanes_emit (s : State) (o : Out) : (s.emit o).lanes = s.lanes := rfl
@[simp] theorem State.links_emit (s : State) (o : Out) : (s.emit o).links = s.links := rfl
@[simp] theorem State.pipes_emit (s : State) (o : Out) : (s.emit o).pipes = s.pipes := rfl
@[simp] theorem State.galley_emit (s : State) (o : Out) : (s.emit o).galley = s.galley := rfl
@[simp] theorem State.sched_emit (s : State) (o : Out) : (s.emit o).sched = s.sched := rfl
@[simp] theorem State.ports_emit (s : State) (o : Out) : (s.emit o).ports = s.ports := rfl
@[simp] theorem State.tables_emit (s : State) (o : Out) : (s.emit o).tables = s.tables := rfl
@[simp] theorem State.telem_emit (s : State) (o : Out) : (s.emit o).telem = s.telem := rfl
@[simp] theorem State.tim_emit (s : State) (o : Out) : (s.emit o).tim = s.tim := rfl
@[simp] theorem State.ptp_emit (s : State) (o : Out) : (s.emit o).ptp = s.ptp := rfl
@[simp] theorem State.cmp_emit (s : State) (o : Out) : (s.emit o).cmp = s.cmp := rfl
@[simp] theorem State.mem_emit (s : State) (o : Out) : (s.emit o).mem = s.mem := rfl
@[simp] theorem State.dict_emit (s : State) (o : Out) : (s.emit o).dict = s.dict := rfl
@[simp] theorem State.busy_emit (s : State) (o : Out) : (s.emit o).busy = s.busy := rfl
@[simp] theorem State.fresh_emit (s : State) (o : Out) : (s.emit o).fresh = s.fresh := rfl
@[simp] theorem State.pending_emit (s : State) (o : Out) : (s.emit o).pending = s.pending := rfl
@[simp] theorem State.get_emit (s : State) (o : Out) (k : Nat) : (s.emit o).get k = s.get k := rfl

/-! ### `State.useFree` -/

@[simp] theorem State.now_useFree (s : State) : (s.useFree).now = s.now := rfl
@[simp] theorem State.boot_useFree (s : State) : (s.useFree).boot = s.boot := rfl
@[simp] theorem State.store_useFree (s : State) : (s.useFree).store = s.store := rfl
@[simp] theorem State.wonel_useFree (s : State) : (s.useFree).wonel = s.wonel := rfl
@[simp] theorem State.kce_useFree (s : State) : (s.useFree).kce = s.kce := rfl
@[simp] theorem State.flt_useFree (s : State) : (s.useFree).flt = s.flt := rfl
@[simp] theorem State.power_useFree (s : State) : (s.useFree).power = s.power := rfl
@[simp] theorem State.lanes_useFree (s : State) : (s.useFree).lanes = s.lanes := rfl
@[simp] theorem State.links_useFree (s : State) : (s.useFree).links = s.links := rfl
@[simp] theorem State.pipes_useFree (s : State) : (s.useFree).pipes = s.pipes := rfl
@[simp] theorem State.galley_useFree (s : State) : (s.useFree).galley = s.galley := rfl
@[simp] theorem State.sched_useFree (s : State) : (s.useFree).sched = s.sched := rfl
@[simp] theorem State.ports_useFree (s : State) : (s.useFree).ports = s.ports := rfl
@[simp] theorem State.tables_useFree (s : State) : (s.useFree).tables = s.tables := rfl
@[simp] theorem State.telem_useFree (s : State) : (s.useFree).telem = s.telem := rfl
@[simp] theorem State.tim_useFree (s : State) : (s.useFree).tim = s.tim := rfl
@[simp] theorem State.ptp_useFree (s : State) : (s.useFree).ptp = s.ptp := rfl
@[simp] theorem State.cmp_useFree (s : State) : (s.useFree).cmp = s.cmp := rfl
@[simp] theorem State.mem_useFree (s : State) : (s.useFree).mem = s.mem := rfl
@[simp] theorem State.dict_useFree (s : State) : (s.useFree).dict = s.dict := rfl
@[simp] theorem State.busy_useFree (s : State) : (s.useFree).busy = s.busy := rfl
@[simp] theorem State.out_useFree (s : State) : (s.useFree).out = s.out := rfl
@[simp] theorem State.pending_useFree (s : State) : (s.useFree).pending = s.pending := rfl
@[simp] theorem State.get_useFree (s : State) (k : Nat) : (s.useFree).get k = s.get k := rfl

/-! ### `State.modSession` -/

@[simp] theorem State.now_modSession (s : State) (i : Nat) (f : Session → Session) : (s.modSession i f).now = s.now := rfl
@[simp] theorem State.boot_modSession (s : State) (i : Nat) (f : Session → Session) : (s.modSession i f).boot = s.boot := rfl
@[simp] theorem State.store_modSession (s : State) (i : Nat) (f : Session → Session) : (s.modSession i f).store = s.store := rfl
@[simp] theorem State.kce_modSession (s : State) (i : Nat) (f : Session → Session) : (s.modSession i f).kce = s.kce := rfl
@[simp] theorem State.flt_modSession (s : State) (i : Nat) (f : Session → Session) : (s.modSession i f).flt = s.flt := rfl
@[simp] theorem State.power_modSession (s : State) (i : Nat) (f : Session → Session) : (s.modSession i f).power = s.power := rfl
@[simp] theorem State.lanes_modSession (s : State) (i : Nat) (f : Session → Session) : (s.modSession i f).lanes = s.lanes := rfl
@[simp] theorem State.links_modSession (s : State) (i : Nat) (f : Session → Session) : (s.modSession i f).links = s.links := rfl
@[simp] theorem State.pipes_modSession (s : State) (i : Nat) (f : Session → Session) : (s.modSession i f).pipes = s.pipes := rfl
@[simp] theorem State.galley_modSession (s : State) (i : Nat) (f : Session → Session) : (s.modSession i f).galley = s.galley := rfl
@[simp] theorem State.sched_modSession (s : State) (i : Nat) (f : Session → Session) : (s.modSession i f).sched = s.sched := rfl
@[simp] theorem State.ports_modSession (s : State) (i : Nat) (f : Session → Session) : (s.modSession i f).ports = s.ports := rfl
@[simp] theorem State.tables_modSession (s : State) (i : Nat) (f : Session → Session) : (s.modSession i f).tables = s.tables := rfl
@[simp] theorem State.telem_modSession (s : State) (i : Nat) (f : Session → Session) : (s.modSession i f).telem = s.telem := rfl
@[simp] theorem State.tim_modSession (s : State) (i : Nat) (f : Session → Session) : (s.modSession i f).tim = s.tim := rfl
@[simp] theorem State.ptp_modSession (s : State) (i : Nat) (f : Session → Session) : (s.modSession i f).ptp = s.ptp := rfl
@[simp] theorem State.cmp_modSession (s : State) (i : Nat) (f : Session → Session) : (s.modSession i f).cmp = s.cmp := rfl
@[simp] theorem State.mem_modSession (s : State) (i : Nat) (f : Session → Session) : (s.modSession i f).mem = s.mem := rfl
@[simp] theorem State.dict_modSession (s : State) (i : Nat) (f : Session → Session) : (s.modSession i f).dict = s.dict := rfl
@[simp] theorem State.busy_modSession (s : State) (i : Nat) (f : Session → Session) : (s.modSession i f).busy = s.busy := rfl
@[simp] theorem State.out_modSession (s : State) (i : Nat) (f : Session → Session) : (s.modSession i f).out = s.out := rfl
@[simp] theorem State.fresh_modSession (s : State) (i : Nat) (f : Session → Session) : (s.modSession i f).fresh = s.fresh := rfl
@[simp] theorem State.pending_modSession (s : State) (i : Nat) (f : Session → Session) : (s.modSession i f).pending = s.pending := rfl
@[simp] theorem State.get_modSession (s : State) (i : Nat) (f : Session → Session) (k : Nat) : (s.modSession i f).get k = s.get k := rfl

/-! ### `State.modPage` -/

@[simp] theorem State.now_modPage (s : State) (i : Nat) (f : KeyPage → KeyPage) : (s.modPage i f).now = s.now := rfl
@[simp] theorem State.boot_modPage (s : State) (i : Nat) (f : KeyPage → KeyPage) : (s.modPage i f).boot = s.boot := rfl
@[simp] theorem State.store_modPage (s : State) (i : Nat) (f : KeyPage → KeyPage) : (s.modPage i f).store = s.store := rfl
@[simp] theorem State.wonel_modPage (s : State) (i : Nat) (f : KeyPage → KeyPage) : (s.modPage i f).wonel = s.wonel := rfl
@[simp] theorem State.flt_modPage (s : State) (i : Nat) (f : KeyPage → KeyPage) : (s.modPage i f).flt = s.flt := rfl
@[simp] theorem State.power_modPage (s : State) (i : Nat) (f : KeyPage → KeyPage) : (s.modPage i f).power = s.power := rfl
@[simp] theorem State.lanes_modPage (s : State) (i : Nat) (f : KeyPage → KeyPage) : (s.modPage i f).lanes = s.lanes := rfl
@[simp] theorem State.links_modPage (s : State) (i : Nat) (f : KeyPage → KeyPage) : (s.modPage i f).links = s.links := rfl
@[simp] theorem State.pipes_modPage (s : State) (i : Nat) (f : KeyPage → KeyPage) : (s.modPage i f).pipes = s.pipes := rfl
@[simp] theorem State.galley_modPage (s : State) (i : Nat) (f : KeyPage → KeyPage) : (s.modPage i f).galley = s.galley := rfl
@[simp] theorem State.sched_modPage (s : State) (i : Nat) (f : KeyPage → KeyPage) : (s.modPage i f).sched = s.sched := rfl
@[simp] theorem State.ports_modPage (s : State) (i : Nat) (f : KeyPage → KeyPage) : (s.modPage i f).ports = s.ports := rfl
@[simp] theorem State.tables_modPage (s : State) (i : Nat) (f : KeyPage → KeyPage) : (s.modPage i f).tables = s.tables := rfl
@[simp] theorem State.telem_modPage (s : State) (i : Nat) (f : KeyPage → KeyPage) : (s.modPage i f).telem = s.telem := rfl
@[simp] theorem State.tim_modPage (s : State) (i : Nat) (f : KeyPage → KeyPage) : (s.modPage i f).tim = s.tim := rfl
@[simp] theorem State.ptp_modPage (s : State) (i : Nat) (f : KeyPage → KeyPage) : (s.modPage i f).ptp = s.ptp := rfl
@[simp] theorem State.cmp_modPage (s : State) (i : Nat) (f : KeyPage → KeyPage) : (s.modPage i f).cmp = s.cmp := rfl
@[simp] theorem State.mem_modPage (s : State) (i : Nat) (f : KeyPage → KeyPage) : (s.modPage i f).mem = s.mem := rfl
@[simp] theorem State.dict_modPage (s : State) (i : Nat) (f : KeyPage → KeyPage) : (s.modPage i f).dict = s.dict := rfl
@[simp] theorem State.busy_modPage (s : State) (i : Nat) (f : KeyPage → KeyPage) : (s.modPage i f).busy = s.busy := rfl
@[simp] theorem State.out_modPage (s : State) (i : Nat) (f : KeyPage → KeyPage) : (s.modPage i f).out = s.out := rfl
@[simp] theorem State.fresh_modPage (s : State) (i : Nat) (f : KeyPage → KeyPage) : (s.modPage i f).fresh = s.fresh := rfl
@[simp] theorem State.pending_modPage (s : State) (i : Nat) (f : KeyPage → KeyPage) : (s.modPage i f).pending = s.pending := rfl
@[simp] theorem State.get_modPage (s : State) (i : Nat) (f : KeyPage → KeyPage) (k : Nat) : (s.modPage i f).get k = s.get k := rfl

/-! ### `State.modCtx` -/

@[simp] theorem State.now_modCtx (s : State) (c : Nat) (f : Ctx → Ctx) : (s.modCtx c f).now = s.now := rfl
@[simp] theorem State.boot_modCtx (s : State) (c : Nat) (f : Ctx → Ctx) : (s.modCtx c f).boot = s.boot := rfl
@[simp] theorem State.store_modCtx (s : State) (c : Nat) (f : Ctx → Ctx) : (s.modCtx c f).store = s.store := rfl
@[simp] theorem State.wonel_modCtx (s : State) (c : Nat) (f : Ctx → Ctx) : (s.modCtx c f).wonel = s.wonel := rfl
@[simp] theorem State.kce_modCtx (s : State) (c : Nat) (f : Ctx → Ctx) : (s.modCtx c f).kce = s.kce := rfl
@[simp] theorem State.flt_modCtx (s : State) (c : Nat) (f : Ctx → Ctx) : (s.modCtx c f).flt = s.flt := rfl
@[simp] theorem State.power_modCtx (s : State) (c : Nat) (f : Ctx → Ctx) : (s.modCtx c f).power = s.power := rfl
@[simp] theorem State.lanes_modCtx (s : State) (c : Nat) (f : Ctx → Ctx) : (s.modCtx c f).lanes = s.lanes := rfl
@[simp] theorem State.links_modCtx (s : State) (c : Nat) (f : Ctx → Ctx) : (s.modCtx c f).links = s.links := rfl
@[simp] theorem State.pipes_modCtx (s : State) (c : Nat) (f : Ctx → Ctx) : (s.modCtx c f).pipes = s.pipes := rfl
@[simp] theorem State.galley_modCtx (s : State) (c : Nat) (f : Ctx → Ctx) : (s.modCtx c f).galley = s.galley := rfl
@[simp] theorem State.sched_modCtx (s : State) (c : Nat) (f : Ctx → Ctx) : (s.modCtx c f).sched = s.sched := rfl
@[simp] theorem State.ports_modCtx (s : State) (c : Nat) (f : Ctx → Ctx) : (s.modCtx c f).ports = s.ports := rfl
@[simp] theorem State.tables_modCtx (s : State) (c : Nat) (f : Ctx → Ctx) : (s.modCtx c f).tables = s.tables := rfl
@[simp] theorem State.telem_modCtx (s : State) (c : Nat) (f : Ctx → Ctx) : (s.modCtx c f).telem = s.telem := rfl
@[simp] theorem State.tim_modCtx (s : State) (c : Nat) (f : Ctx → Ctx) : (s.modCtx c f).tim = s.tim := rfl
@[simp] theorem State.ptp_modCtx (s : State) (c : Nat) (f : Ctx → Ctx) : (s.modCtx c f).ptp = s.ptp := rfl
@[simp] theorem State.mem_modCtx (s : State) (c : Nat) (f : Ctx → Ctx) : (s.modCtx c f).mem = s.mem := rfl
@[simp] theorem State.dict_modCtx (s : State) (c : Nat) (f : Ctx → Ctx) : (s.modCtx c f).dict = s.dict := rfl
@[simp] theorem State.busy_modCtx (s : State) (c : Nat) (f : Ctx → Ctx) : (s.modCtx c f).busy = s.busy := rfl
@[simp] theorem State.out_modCtx (s : State) (c : Nat) (f : Ctx → Ctx) : (s.modCtx c f).out = s.out := rfl
@[simp] theorem State.fresh_modCtx (s : State) (c : Nat) (f : Ctx → Ctx) : (s.modCtx c f).fresh = s.fresh := rfl
@[simp] theorem State.pending_modCtx (s : State) (c : Nat) (f : Ctx → Ctx) : (s.modCtx c f).pending = s.pending := rfl
@[simp] theorem State.get_modCtx (s : State) (c : Nat) (f : Ctx → Ctx) (k : Nat) : (s.modCtx c f).get k = s.get k := rfl

/-! ### `State.modPort` -/

@[simp] theorem State.now_modPort (s : State) (p : Nat) (f : Port → Port) : (s.modPort p f).now = s.now := rfl
@[simp] theorem State.boot_modPort (s : State) (p : Nat) (f : Port → Port) : (s.modPort p f).boot = s.boot := rfl
@[simp] theorem State.store_modPort (s : State) (p : Nat) (f : Port → Port) : (s.modPort p f).store = s.store := rfl
@[simp] theorem State.wonel_modPort (s : State) (p : Nat) (f : Port → Port) : (s.modPort p f).wonel = s.wonel := rfl
@[simp] theorem State.kce_modPort (s : State) (p : Nat) (f : Port → Port) : (s.modPort p f).kce = s.kce := rfl
@[simp] theorem State.flt_modPort (s : State) (p : Nat) (f : Port → Port) : (s.modPort p f).flt = s.flt := rfl
@[simp] theorem State.power_modPort (s : State) (p : Nat) (f : Port → Port) : (s.modPort p f).power = s.power := rfl
@[simp] theorem State.lanes_modPort (s : State) (p : Nat) (f : Port → Port) : (s.modPort p f).lanes = s.lanes := rfl
@[simp] theorem State.links_modPort (s : State) (p : Nat) (f : Port → Port) : (s.modPort p f).links = s.links := rfl
@[simp] theorem State.pipes_modPort (s : State) (p : Nat) (f : Port → Port) : (s.modPort p f).pipes = s.pipes := rfl
@[simp] theorem State.galley_modPort (s : State) (p : Nat) (f : Port → Port) : (s.modPort p f).galley = s.galley := rfl
@[simp] theorem State.sched_modPort (s : State) (p : Nat) (f : Port → Port) : (s.modPort p f).sched = s.sched := rfl
@[simp] theorem State.tables_modPort (s : State) (p : Nat) (f : Port → Port) : (s.modPort p f).tables = s.tables := rfl
@[simp] theorem State.telem_modPort (s : State) (p : Nat) (f : Port → Port) : (s.modPort p f).telem = s.telem := rfl
@[simp] theorem State.tim_modPort (s : State) (p : Nat) (f : Port → Port) : (s.modPort p f).tim = s.tim := rfl
@[simp] theorem State.ptp_modPort (s : State) (p : Nat) (f : Port → Port) : (s.modPort p f).ptp = s.ptp := rfl
@[simp] theorem State.cmp_modPort (s : State) (p : Nat) (f : Port → Port) : (s.modPort p f).cmp = s.cmp := rfl
@[simp] theorem State.mem_modPort (s : State) (p : Nat) (f : Port → Port) : (s.modPort p f).mem = s.mem := rfl
@[simp] theorem State.dict_modPort (s : State) (p : Nat) (f : Port → Port) : (s.modPort p f).dict = s.dict := rfl
@[simp] theorem State.busy_modPort (s : State) (p : Nat) (f : Port → Port) : (s.modPort p f).busy = s.busy := rfl
@[simp] theorem State.out_modPort (s : State) (p : Nat) (f : Port → Port) : (s.modPort p f).out = s.out := rfl
@[simp] theorem State.fresh_modPort (s : State) (p : Nat) (f : Port → Port) : (s.modPort p f).fresh = s.fresh := rfl
@[simp] theorem State.pending_modPort (s : State) (p : Nat) (f : Port → Port) : (s.modPort p f).pending = s.pending := rfl
@[simp] theorem State.get_modPort (s : State) (p : Nat) (f : Port → Port) (k : Nat) : (s.modPort p f).get k = s.get k := rfl

/-! ### `State.modLane` -/

@[simp] theorem State.now_modLane (s : State) (n : Nat) (f : Lane → Lane) : (s.modLane n f).now = s.now := rfl
@[simp] theorem State.boot_modLane (s : State) (n : Nat) (f : Lane → Lane) : (s.modLane n f).boot = s.boot := rfl
@[simp] theorem State.store_modLane (s : State) (n : Nat) (f : Lane → Lane) : (s.modLane n f).store = s.store := rfl
@[simp] theorem State.wonel_modLane (s : State) (n : Nat) (f : Lane → Lane) : (s.modLane n f).wonel = s.wonel := rfl
@[simp] theorem State.kce_modLane (s : State) (n : Nat) (f : Lane → Lane) : (s.modLane n f).kce = s.kce := rfl
@[simp] theorem State.flt_modLane (s : State) (n : Nat) (f : Lane → Lane) : (s.modLane n f).flt = s.flt := rfl
@[simp] theorem State.power_modLane (s : State) (n : Nat) (f : Lane → Lane) : (s.modLane n f).power = s.power := rfl
@[simp] theorem State.links_modLane (s : State) (n : Nat) (f : Lane → Lane) : (s.modLane n f).links = s.links := rfl
@[simp] theorem State.pipes_modLane (s : State) (n : Nat) (f : Lane → Lane) : (s.modLane n f).pipes = s.pipes := rfl
@[simp] theorem State.galley_modLane (s : State) (n : Nat) (f : Lane → Lane) : (s.modLane n f).galley = s.galley := rfl
@[simp] theorem State.sched_modLane (s : State) (n : Nat) (f : Lane → Lane) : (s.modLane n f).sched = s.sched := rfl
@[simp] theorem State.ports_modLane (s : State) (n : Nat) (f : Lane → Lane) : (s.modLane n f).ports = s.ports := rfl
@[simp] theorem State.tables_modLane (s : State) (n : Nat) (f : Lane → Lane) : (s.modLane n f).tables = s.tables := rfl
@[simp] theorem State.telem_modLane (s : State) (n : Nat) (f : Lane → Lane) : (s.modLane n f).telem = s.telem := rfl
@[simp] theorem State.tim_modLane (s : State) (n : Nat) (f : Lane → Lane) : (s.modLane n f).tim = s.tim := rfl
@[simp] theorem State.ptp_modLane (s : State) (n : Nat) (f : Lane → Lane) : (s.modLane n f).ptp = s.ptp := rfl
@[simp] theorem State.cmp_modLane (s : State) (n : Nat) (f : Lane → Lane) : (s.modLane n f).cmp = s.cmp := rfl
@[simp] theorem State.mem_modLane (s : State) (n : Nat) (f : Lane → Lane) : (s.modLane n f).mem = s.mem := rfl
@[simp] theorem State.dict_modLane (s : State) (n : Nat) (f : Lane → Lane) : (s.modLane n f).dict = s.dict := rfl
@[simp] theorem State.busy_modLane (s : State) (n : Nat) (f : Lane → Lane) : (s.modLane n f).busy = s.busy := rfl
@[simp] theorem State.out_modLane (s : State) (n : Nat) (f : Lane → Lane) : (s.modLane n f).out = s.out := rfl
@[simp] theorem State.fresh_modLane (s : State) (n : Nat) (f : Lane → Lane) : (s.modLane n f).fresh = s.fresh := rfl
@[simp] theorem State.pending_modLane (s : State) (n : Nat) (f : Lane → Lane) : (s.modLane n f).pending = s.pending := rfl
@[simp] theorem State.get_modLane (s : State) (n : Nat) (f : Lane → Lane) (k : Nat) : (s.modLane n f).get k = s.get k := rfl

/-! ### `State.modLink` -/

@[simp] theorem State.now_modLink (s : State) (q : Nat) (f : Link → Link) : (s.modLink q f).now = s.now := rfl
@[simp] theorem State.boot_modLink (s : State) (q : Nat) (f : Link → Link) : (s.modLink q f).boot = s.boot := rfl
@[simp] theorem State.store_modLink (s : State) (q : Nat) (f : Link → Link) : (s.modLink q f).store = s.store := rfl
@[simp] theorem State.wonel_modLink (s : State) (q : Nat) (f : Link → Link) : (s.modLink q f).wonel = s.wonel := rfl
@[simp] theorem State.kce_modLink (s : State) (q : Nat) (f : Link → Link) : (s.modLink q f).kce = s.kce := rfl
@[simp] theorem State.flt_modLink (s : State) (q : Nat) (f : Link → Link) : (s.modLink q f).flt = s.flt := rfl
@[simp] theorem State.power_modLink (s : State) (q : Nat) (f : Link → Link) : (s.modLink q f).power = s.power := rfl
@[simp] theorem State.lanes_modLink (s : State) (q : Nat) (f : Link → Link) : (s.modLink q f).lanes = s.lanes := rfl
@[simp] theorem State.pipes_modLink (s : State) (q : Nat) (f : Link → Link) : (s.modLink q f).pipes = s.pipes := rfl
@[simp] theorem State.galley_modLink (s : State) (q : Nat) (f : Link → Link) : (s.modLink q f).galley = s.galley := rfl
@[simp] theorem State.sched_modLink (s : State) (q : Nat) (f : Link → Link) : (s.modLink q f).sched = s.sched := rfl
@[simp] theorem State.ports_modLink (s : State) (q : Nat) (f : Link → Link) : (s.modLink q f).ports = s.ports := rfl
@[simp] theorem State.tables_modLink (s : State) (q : Nat) (f : Link → Link) : (s.modLink q f).tables = s.tables := rfl
@[simp] theorem State.telem_modLink (s : State) (q : Nat) (f : Link → Link) : (s.modLink q f).telem = s.telem := rfl
@[simp] theorem State.tim_modLink (s : State) (q : Nat) (f : Link → Link) : (s.modLink q f).tim = s.tim := rfl
@[simp] theorem State.ptp_modLink (s : State) (q : Nat) (f : Link → Link) : (s.modLink q f).ptp = s.ptp := rfl
@[simp] theorem State.cmp_modLink (s : State) (q : Nat) (f : Link → Link) : (s.modLink q f).cmp = s.cmp := rfl
@[simp] theorem State.mem_modLink (s : State) (q : Nat) (f : Link → Link) : (s.modLink q f).mem = s.mem := rfl
@[simp] theorem State.dict_modLink (s : State) (q : Nat) (f : Link → Link) : (s.modLink q f).dict = s.dict := rfl
@[simp] theorem State.busy_modLink (s : State) (q : Nat) (f : Link → Link) : (s.modLink q f).busy = s.busy := rfl
@[simp] theorem State.out_modLink (s : State) (q : Nat) (f : Link → Link) : (s.modLink q f).out = s.out := rfl
@[simp] theorem State.fresh_modLink (s : State) (q : Nat) (f : Link → Link) : (s.modLink q f).fresh = s.fresh := rfl
@[simp] theorem State.pending_modLink (s : State) (q : Nat) (f : Link → Link) : (s.modLink q f).pending = s.pending := rfl
@[simp] theorem State.get_modLink (s : State) (q : Nat) (f : Link → Link) (k : Nat) : (s.modLink q f).get k = s.get k := rfl

/-! ### `State.modRail` -/

@[simp] theorem State.now_modRail (s : State) (r : Nat) (f : Rail → Rail) : (s.modRail r f).now = s.now := rfl
@[simp] theorem State.boot_modRail (s : State) (r : Nat) (f : Rail → Rail) : (s.modRail r f).boot = s.boot := rfl
@[simp] theorem State.store_modRail (s : State) (r : Nat) (f : Rail → Rail) : (s.modRail r f).store = s.store := rfl
@[simp] theorem State.wonel_modRail (s : State) (r : Nat) (f : Rail → Rail) : (s.modRail r f).wonel = s.wonel := rfl
@[simp] theorem State.kce_modRail (s : State) (r : Nat) (f : Rail → Rail) : (s.modRail r f).kce = s.kce := rfl
@[simp] theorem State.flt_modRail (s : State) (r : Nat) (f : Rail → Rail) : (s.modRail r f).flt = s.flt := rfl
@[simp] theorem State.lanes_modRail (s : State) (r : Nat) (f : Rail → Rail) : (s.modRail r f).lanes = s.lanes := rfl
@[simp] theorem State.links_modRail (s : State) (r : Nat) (f : Rail → Rail) : (s.modRail r f).links = s.links := rfl
@[simp] theorem State.pipes_modRail (s : State) (r : Nat) (f : Rail → Rail) : (s.modRail r f).pipes = s.pipes := rfl
@[simp] theorem State.galley_modRail (s : State) (r : Nat) (f : Rail → Rail) : (s.modRail r f).galley = s.galley := rfl
@[simp] theorem State.sched_modRail (s : State) (r : Nat) (f : Rail → Rail) : (s.modRail r f).sched = s.sched := rfl
@[simp] theorem State.ports_modRail (s : State) (r : Nat) (f : Rail → Rail) : (s.modRail r f).ports = s.ports := rfl
@[simp] theorem State.tables_modRail (s : State) (r : Nat) (f : Rail → Rail) : (s.modRail r f).tables = s.tables := rfl
@[simp] theorem State.telem_modRail (s : State) (r : Nat) (f : Rail → Rail) : (s.modRail r f).telem = s.telem := rfl
@[simp] theorem State.tim_modRail (s : State) (r : Nat) (f : Rail → Rail) : (s.modRail r f).tim = s.tim := rfl
@[simp] theorem State.ptp_modRail (s : State) (r : Nat) (f : Rail → Rail) : (s.modRail r f).ptp = s.ptp := rfl
@[simp] theorem State.cmp_modRail (s : State) (r : Nat) (f : Rail → Rail) : (s.modRail r f).cmp = s.cmp := rfl
@[simp] theorem State.mem_modRail (s : State) (r : Nat) (f : Rail → Rail) : (s.modRail r f).mem = s.mem := rfl
@[simp] theorem State.dict_modRail (s : State) (r : Nat) (f : Rail → Rail) : (s.modRail r f).dict = s.dict := rfl
@[simp] theorem State.busy_modRail (s : State) (r : Nat) (f : Rail → Rail) : (s.modRail r f).busy = s.busy := rfl
@[simp] theorem State.out_modRail (s : State) (r : Nat) (f : Rail → Rail) : (s.modRail r f).out = s.out := rfl
@[simp] theorem State.fresh_modRail (s : State) (r : Nat) (f : Rail → Rail) : (s.modRail r f).fresh = s.fresh := rfl
@[simp] theorem State.pending_modRail (s : State) (r : Nat) (f : Rail → Rail) : (s.modRail r f).pending = s.pending := rfl
@[simp] theorem State.get_modRail (s : State) (r : Nat) (f : Rail → Rail) (k : Nat) : (s.modRail r f).get k = s.get k := rfl

/-! ### `State.modSource` -/

@[simp] theorem State.now_modSource (s : State) (src : Nat) (f : Source → Source) : (s.modSource src f).now = s.now := rfl
@[simp] theorem State.boot_modSource (s : State) (src : Nat) (f : Source → Source) : (s.modSource src f).boot = s.boot := rfl
@[simp] theorem State.store_modSource (s : State) (src : Nat) (f : Source → Source) : (s.modSource src f).store = s.store := rfl
@[simp] theorem State.wonel_modSource (s : State) (src : Nat) (f : Source → Source) : (s.modSource src f).wonel = s.wonel := rfl
@[simp] theorem State.kce_modSource (s : State) (src : Nat) (f : Source → Source) : (s.modSource src f).kce = s.kce := rfl
@[simp] theorem State.power_modSource (s : State) (src : Nat) (f : Source → Source) : (s.modSource src f).power = s.power := rfl
@[simp] theorem State.lanes_modSource (s : State) (src : Nat) (f : Source → Source) : (s.modSource src f).lanes = s.lanes := rfl
@[simp] theorem State.links_modSource (s : State) (src : Nat) (f : Source → Source) : (s.modSource src f).links = s.links := rfl
@[simp] theorem State.pipes_modSource (s : State) (src : Nat) (f : Source → Source) : (s.modSource src f).pipes = s.pipes := rfl
@[simp] theorem State.galley_modSource (s : State) (src : Nat) (f : Source → Source) : (s.modSource src f).galley = s.galley := rfl
@[simp] theorem State.sched_modSource (s : State) (src : Nat) (f : Source → Source) : (s.modSource src f).sched = s.sched := rfl
@[simp] theorem State.ports_modSource (s : State) (src : Nat) (f : Source → Source) : (s.modSource src f).ports = s.ports := rfl
@[simp] theorem State.tables_modSource (s : State) (src : Nat) (f : Source → Source) : (s.modSource src f).tables = s.tables := rfl
@[simp] theorem State.telem_modSource (s : State) (src : Nat) (f : Source → Source) : (s.modSource src f).telem = s.telem := rfl
@[simp] theorem State.tim_modSource (s : State) (src : Nat) (f : Source → Source) : (s.modSource src f).tim = s.tim := rfl
@[simp] theorem State.ptp_modSource (s : State) (src : Nat) (f : Source → Source) : (s.modSource src f).ptp = s.ptp := rfl
@[simp] theorem State.cmp_modSource (s : State) (src : Nat) (f : Source → Source) : (s.modSource src f).cmp = s.cmp := rfl
@[simp] theorem State.mem_modSource (s : State) (src : Nat) (f : Source → Source) : (s.modSource src f).mem = s.mem := rfl
@[simp] theorem State.dict_modSource (s : State) (src : Nat) (f : Source → Source) : (s.modSource src f).dict = s.dict := rfl
@[simp] theorem State.busy_modSource (s : State) (src : Nat) (f : Source → Source) : (s.modSource src f).busy = s.busy := rfl
@[simp] theorem State.out_modSource (s : State) (src : Nat) (f : Source → Source) : (s.modSource src f).out = s.out := rfl
@[simp] theorem State.fresh_modSource (s : State) (src : Nat) (f : Source → Source) : (s.modSource src f).fresh = s.fresh := rfl
@[simp] theorem State.pending_modSource (s : State) (src : Nat) (f : Source → Source) : (s.modSource src f).pending = s.pending := rfl
@[simp] theorem State.get_modSource (s : State) (src : Nat) (f : Source → Source) (k : Nat) : (s.modSource src f).get k = s.get k := rfl

/-! ### `State.modSensor` -/

@[simp] theorem State.now_modSensor (s : State) (k : Nat) (f : Sensor → Sensor) : (s.modSensor k f).now = s.now := rfl
@[simp] theorem State.boot_modSensor (s : State) (k : Nat) (f : Sensor → Sensor) : (s.modSensor k f).boot = s.boot := rfl
@[simp] theorem State.store_modSensor (s : State) (k : Nat) (f : Sensor → Sensor) : (s.modSensor k f).store = s.store := rfl
@[simp] theorem State.wonel_modSensor (s : State) (k : Nat) (f : Sensor → Sensor) : (s.modSensor k f).wonel = s.wonel := rfl
@[simp] theorem State.kce_modSensor (s : State) (k : Nat) (f : Sensor → Sensor) : (s.modSensor k f).kce = s.kce := rfl
@[simp] theorem State.flt_modSensor (s : State) (k : Nat) (f : Sensor → Sensor) : (s.modSensor k f).flt = s.flt := rfl
@[simp] theorem State.lanes_modSensor (s : State) (k : Nat) (f : Sensor → Sensor) : (s.modSensor k f).lanes = s.lanes := rfl
@[simp] theorem State.links_modSensor (s : State) (k : Nat) (f : Sensor → Sensor) : (s.modSensor k f).links = s.links := rfl
@[simp] theorem State.pipes_modSensor (s : State) (k : Nat) (f : Sensor → Sensor) : (s.modSensor k f).pipes = s.pipes := rfl
@[simp] theorem State.galley_modSensor (s : State) (k : Nat) (f : Sensor → Sensor) : (s.modSensor k f).galley = s.galley := rfl
@[simp] theorem State.sched_modSensor (s : State) (k : Nat) (f : Sensor → Sensor) : (s.modSensor k f).sched = s.sched := rfl
@[simp] theorem State.ports_modSensor (s : State) (k : Nat) (f : Sensor → Sensor) : (s.modSensor k f).ports = s.ports := rfl
@[simp] theorem State.tables_modSensor (s : State) (k : Nat) (f : Sensor → Sensor) : (s.modSensor k f).tables = s.tables := rfl
@[simp] theorem State.telem_modSensor (s : State) (k : Nat) (f : Sensor → Sensor) : (s.modSensor k f).telem = s.telem := rfl
@[simp] theorem State.tim_modSensor (s : State) (k : Nat) (f : Sensor → Sensor) : (s.modSensor k f).tim = s.tim := rfl
@[simp] theorem State.ptp_modSensor (s : State) (k : Nat) (f : Sensor → Sensor) : (s.modSensor k f).ptp = s.ptp := rfl
@[simp] theorem State.cmp_modSensor (s : State) (k : Nat) (f : Sensor → Sensor) : (s.modSensor k f).cmp = s.cmp := rfl
@[simp] theorem State.mem_modSensor (s : State) (k : Nat) (f : Sensor → Sensor) : (s.modSensor k f).mem = s.mem := rfl
@[simp] theorem State.dict_modSensor (s : State) (k : Nat) (f : Sensor → Sensor) : (s.modSensor k f).dict = s.dict := rfl
@[simp] theorem State.busy_modSensor (s : State) (k : Nat) (f : Sensor → Sensor) : (s.modSensor k f).busy = s.busy := rfl
@[simp] theorem State.out_modSensor (s : State) (k : Nat) (f : Sensor → Sensor) : (s.modSensor k f).out = s.out := rfl
@[simp] theorem State.fresh_modSensor (s : State) (k : Nat) (f : Sensor → Sensor) : (s.modSensor k f).fresh = s.fresh := rfl
@[simp] theorem State.pending_modSensor (s : State) (k : Nat) (f : Sensor → Sensor) : (s.modSensor k f).pending = s.pending := rfl
@[simp] theorem State.get_modSensor (s : State) (k : Nat) (f : Sensor → Sensor) (j : Nat) : (s.modSensor k f).get j = s.get j := rfl

/-! ### `State.modGalley` -/

@[simp] theorem State.now_modGalley (s : State) (f : Galley → Galley) : (s.modGalley f).now = s.now := rfl
@[simp] theorem State.boot_modGalley (s : State) (f : Galley → Galley) : (s.modGalley f).boot = s.boot := rfl
@[simp] theorem State.store_modGalley (s : State) (f : Galley → Galley) : (s.modGalley f).store = s.store := rfl
@[simp] theorem State.wonel_modGalley (s : State) (f : Galley → Galley) : (s.modGalley f).wonel = s.wonel := rfl
@[simp] theorem State.kce_modGalley (s : State) (f : Galley → Galley) : (s.modGalley f).kce = s.kce := rfl
@[simp] theorem State.flt_modGalley (s : State) (f : Galley → Galley) : (s.modGalley f).flt = s.flt := rfl
@[simp] theorem State.power_modGalley (s : State) (f : Galley → Galley) : (s.modGalley f).power = s.power := rfl
@[simp] theorem State.lanes_modGalley (s : State) (f : Galley → Galley) : (s.modGalley f).lanes = s.lanes := rfl
@[simp] theorem State.links_modGalley (s : State) (f : Galley → Galley) : (s.modGalley f).links = s.links := rfl
@[simp] theorem State.pipes_modGalley (s : State) (f : Galley → Galley) : (s.modGalley f).pipes = s.pipes := rfl
@[simp] theorem State.sched_modGalley (s : State) (f : Galley → Galley) : (s.modGalley f).sched = s.sched := rfl
@[simp] theorem State.ports_modGalley (s : State) (f : Galley → Galley) : (s.modGalley f).ports = s.ports := rfl
@[simp] theorem State.tables_modGalley (s : State) (f : Galley → Galley) : (s.modGalley f).tables = s.tables := rfl
@[simp] theorem State.telem_modGalley (s : State) (f : Galley → Galley) : (s.modGalley f).telem = s.telem := rfl
@[simp] theorem State.tim_modGalley (s : State) (f : Galley → Galley) : (s.modGalley f).tim = s.tim := rfl
@[simp] theorem State.ptp_modGalley (s : State) (f : Galley → Galley) : (s.modGalley f).ptp = s.ptp := rfl
@[simp] theorem State.cmp_modGalley (s : State) (f : Galley → Galley) : (s.modGalley f).cmp = s.cmp := rfl
@[simp] theorem State.mem_modGalley (s : State) (f : Galley → Galley) : (s.modGalley f).mem = s.mem := rfl
@[simp] theorem State.dict_modGalley (s : State) (f : Galley → Galley) : (s.modGalley f).dict = s.dict := rfl
@[simp] theorem State.busy_modGalley (s : State) (f : Galley → Galley) : (s.modGalley f).busy = s.busy := rfl
@[simp] theorem State.out_modGalley (s : State) (f : Galley → Galley) : (s.modGalley f).out = s.out := rfl
@[simp] theorem State.fresh_modGalley (s : State) (f : Galley → Galley) : (s.modGalley f).fresh = s.fresh := rfl
@[simp] theorem State.pending_modGalley (s : State) (f : Galley → Galley) : (s.modGalley f).pending = s.pending := rfl
@[simp] theorem State.get_modGalley (s : State) (f : Galley → Galley) (k : Nat) : (s.modGalley f).get k = s.get k := rfl

/-! ### `State.modTables` -/

@[simp] theorem State.now_modTables (s : State) (f : Tables → Tables) : (s.modTables f).now = s.now := rfl
@[simp] theorem State.boot_modTables (s : State) (f : Tables → Tables) : (s.modTables f).boot = s.boot := rfl
@[simp] theorem State.store_modTables (s : State) (f : Tables → Tables) : (s.modTables f).store = s.store := rfl
@[simp] theorem State.wonel_modTables (s : State) (f : Tables → Tables) : (s.modTables f).wonel = s.wonel := rfl
@[simp] theorem State.kce_modTables (s : State) (f : Tables → Tables) : (s.modTables f).kce = s.kce := rfl
@[simp] theorem State.flt_modTables (s : State) (f : Tables → Tables) : (s.modTables f).flt = s.flt := rfl
@[simp] theorem State.power_modTables (s : State) (f : Tables → Tables) : (s.modTables f).power = s.power := rfl
@[simp] theorem State.lanes_modTables (s : State) (f : Tables → Tables) : (s.modTables f).lanes = s.lanes := rfl
@[simp] theorem State.links_modTables (s : State) (f : Tables → Tables) : (s.modTables f).links = s.links := rfl
@[simp] theorem State.pipes_modTables (s : State) (f : Tables → Tables) : (s.modTables f).pipes = s.pipes := rfl
@[simp] theorem State.galley_modTables (s : State) (f : Tables → Tables) : (s.modTables f).galley = s.galley := rfl
@[simp] theorem State.sched_modTables (s : State) (f : Tables → Tables) : (s.modTables f).sched = s.sched := rfl
@[simp] theorem State.ports_modTables (s : State) (f : Tables → Tables) : (s.modTables f).ports = s.ports := rfl
@[simp] theorem State.telem_modTables (s : State) (f : Tables → Tables) : (s.modTables f).telem = s.telem := rfl
@[simp] theorem State.tim_modTables (s : State) (f : Tables → Tables) : (s.modTables f).tim = s.tim := rfl
@[simp] theorem State.ptp_modTables (s : State) (f : Tables → Tables) : (s.modTables f).ptp = s.ptp := rfl
@[simp] theorem State.cmp_modTables (s : State) (f : Tables → Tables) : (s.modTables f).cmp = s.cmp := rfl
@[simp] theorem State.mem_modTables (s : State) (f : Tables → Tables) : (s.modTables f).mem = s.mem := rfl
@[simp] theorem State.dict_modTables (s : State) (f : Tables → Tables) : (s.modTables f).dict = s.dict := rfl
@[simp] theorem State.busy_modTables (s : State) (f : Tables → Tables) : (s.modTables f).busy = s.busy := rfl
@[simp] theorem State.out_modTables (s : State) (f : Tables → Tables) : (s.modTables f).out = s.out := rfl
@[simp] theorem State.fresh_modTables (s : State) (f : Tables → Tables) : (s.modTables f).fresh = s.fresh := rfl
@[simp] theorem State.pending_modTables (s : State) (f : Tables → Tables) : (s.modTables f).pending = s.pending := rfl
@[simp] theorem State.get_modTables (s : State) (f : Tables → Tables) (k : Nat) : (s.modTables f).get k = s.get k := rfl

/-! ### `State.modDomain` -/

@[simp] theorem State.now_modDomain (s : State) (d : Nat) (f : Domain → Domain) : (s.modDomain d f).now = s.now := rfl
@[simp] theorem State.boot_modDomain (s : State) (d : Nat) (f : Domain → Domain) : (s.modDomain d f).boot = s.boot := rfl
@[simp] theorem State.store_modDomain (s : State) (d : Nat) (f : Domain → Domain) : (s.modDomain d f).store = s.store := rfl
@[simp] theorem State.wonel_modDomain (s : State) (d : Nat) (f : Domain → Domain) : (s.modDomain d f).wonel = s.wonel := rfl
@[simp] theorem State.kce_modDomain (s : State) (d : Nat) (f : Domain → Domain) : (s.modDomain d f).kce = s.kce := rfl
@[simp] theorem State.flt_modDomain (s : State) (d : Nat) (f : Domain → Domain) : (s.modDomain d f).flt = s.flt := rfl
@[simp] theorem State.power_modDomain (s : State) (d : Nat) (f : Domain → Domain) : (s.modDomain d f).power = s.power := rfl
@[simp] theorem State.lanes_modDomain (s : State) (d : Nat) (f : Domain → Domain) : (s.modDomain d f).lanes = s.lanes := rfl
@[simp] theorem State.links_modDomain (s : State) (d : Nat) (f : Domain → Domain) : (s.modDomain d f).links = s.links := rfl
@[simp] theorem State.pipes_modDomain (s : State) (d : Nat) (f : Domain → Domain) : (s.modDomain d f).pipes = s.pipes := rfl
@[simp] theorem State.galley_modDomain (s : State) (d : Nat) (f : Domain → Domain) : (s.modDomain d f).galley = s.galley := rfl
@[simp] theorem State.sched_modDomain (s : State) (d : Nat) (f : Domain → Domain) : (s.modDomain d f).sched = s.sched := rfl
@[simp] theorem State.ports_modDomain (s : State) (d : Nat) (f : Domain → Domain) : (s.modDomain d f).ports = s.ports := rfl
@[simp] theorem State.tables_modDomain (s : State) (d : Nat) (f : Domain → Domain) : (s.modDomain d f).tables = s.tables := rfl
@[simp] theorem State.telem_modDomain (s : State) (d : Nat) (f : Domain → Domain) : (s.modDomain d f).telem = s.telem := rfl
@[simp] theorem State.ptp_modDomain (s : State) (d : Nat) (f : Domain → Domain) : (s.modDomain d f).ptp = s.ptp := rfl
@[simp] theorem State.cmp_modDomain (s : State) (d : Nat) (f : Domain → Domain) : (s.modDomain d f).cmp = s.cmp := rfl
@[simp] theorem State.mem_modDomain (s : State) (d : Nat) (f : Domain → Domain) : (s.modDomain d f).mem = s.mem := rfl
@[simp] theorem State.dict_modDomain (s : State) (d : Nat) (f : Domain → Domain) : (s.modDomain d f).dict = s.dict := rfl
@[simp] theorem State.busy_modDomain (s : State) (d : Nat) (f : Domain → Domain) : (s.modDomain d f).busy = s.busy := rfl
@[simp] theorem State.out_modDomain (s : State) (d : Nat) (f : Domain → Domain) : (s.modDomain d f).out = s.out := rfl
@[simp] theorem State.fresh_modDomain (s : State) (d : Nat) (f : Domain → Domain) : (s.modDomain d f).fresh = s.fresh := rfl
@[simp] theorem State.pending_modDomain (s : State) (d : Nat) (f : Domain → Domain) : (s.modDomain d f).pending = s.pending := rfl
@[simp] theorem State.get_modDomain (s : State) (d : Nat) (f : Domain → Domain) (k : Nat) : (s.modDomain d f).get k = s.get k := rfl

/-! ### `State.modTpo` -/

@[simp] theorem State.now_modTpo (s : State) (t : Nat) (f : Tpo → Tpo) : (s.modTpo t f).now = s.now := rfl
@[simp] theorem State.boot_modTpo (s : State) (t : Nat) (f : Tpo → Tpo) : (s.modTpo t f).boot = s.boot := rfl
@[simp] theorem State.store_modTpo (s : State) (t : Nat) (f : Tpo → Tpo) : (s.modTpo t f).store = s.store := rfl
@[simp] theorem State.wonel_modTpo (s : State) (t : Nat) (f : Tpo → Tpo) : (s.modTpo t f).wonel = s.wonel := rfl
@[simp] theorem State.kce_modTpo (s : State) (t : Nat) (f : Tpo → Tpo) : (s.modTpo t f).kce = s.kce := rfl
@[simp] theorem State.flt_modTpo (s : State) (t : Nat) (f : Tpo → Tpo) : (s.modTpo t f).flt = s.flt := rfl
@[simp] theorem State.power_modTpo (s : State) (t : Nat) (f : Tpo → Tpo) : (s.modTpo t f).power = s.power := rfl
@[simp] theorem State.lanes_modTpo (s : State) (t : Nat) (f : Tpo → Tpo) : (s.modTpo t f).lanes = s.lanes := rfl
@[simp] theorem State.links_modTpo (s : State) (t : Nat) (f : Tpo → Tpo) : (s.modTpo t f).links = s.links := rfl
@[simp] theorem State.pipes_modTpo (s : State) (t : Nat) (f : Tpo → Tpo) : (s.modTpo t f).pipes = s.pipes := rfl
@[simp] theorem State.galley_modTpo (s : State) (t : Nat) (f : Tpo → Tpo) : (s.modTpo t f).galley = s.galley := rfl
@[simp] theorem State.sched_modTpo (s : State) (t : Nat) (f : Tpo → Tpo) : (s.modTpo t f).sched = s.sched := rfl
@[simp] theorem State.ports_modTpo (s : State) (t : Nat) (f : Tpo → Tpo) : (s.modTpo t f).ports = s.ports := rfl
@[simp] theorem State.tables_modTpo (s : State) (t : Nat) (f : Tpo → Tpo) : (s.modTpo t f).tables = s.tables := rfl
@[simp] theorem State.telem_modTpo (s : State) (t : Nat) (f : Tpo → Tpo) : (s.modTpo t f).telem = s.telem := rfl
@[simp] theorem State.ptp_modTpo (s : State) (t : Nat) (f : Tpo → Tpo) : (s.modTpo t f).ptp = s.ptp := rfl
@[simp] theorem State.cmp_modTpo (s : State) (t : Nat) (f : Tpo → Tpo) : (s.modTpo t f).cmp = s.cmp := rfl
@[simp] theorem State.mem_modTpo (s : State) (t : Nat) (f : Tpo → Tpo) : (s.modTpo t f).mem = s.mem := rfl
@[simp] theorem State.dict_modTpo (s : State) (t : Nat) (f : Tpo → Tpo) : (s.modTpo t f).dict = s.dict := rfl
@[simp] theorem State.busy_modTpo (s : State) (t : Nat) (f : Tpo → Tpo) : (s.modTpo t f).busy = s.busy := rfl
@[simp] theorem State.out_modTpo (s : State) (t : Nat) (f : Tpo → Tpo) : (s.modTpo t f).out = s.out := rfl
@[simp] theorem State.fresh_modTpo (s : State) (t : Nat) (f : Tpo → Tpo) : (s.modTpo t f).fresh = s.fresh := rfl
@[simp] theorem State.pending_modTpo (s : State) (t : Nat) (f : Tpo → Tpo) : (s.modTpo t f).pending = s.pending := rfl
@[simp] theorem State.get_modTpo (s : State) (t : Nat) (f : Tpo → Tpo) (k : Nat) : (s.modTpo t f).get k = s.get k := rfl

/-! ### `State.modInst` -/

@[simp] theorem State.now_modInst (s : State) (d : Nat) (f : PtpInst → PtpInst) : (s.modInst d f).now = s.now := rfl
@[simp] theorem State.boot_modInst (s : State) (d : Nat) (f : PtpInst → PtpInst) : (s.modInst d f).boot = s.boot := rfl
@[simp] theorem State.store_modInst (s : State) (d : Nat) (f : PtpInst → PtpInst) : (s.modInst d f).store = s.store := rfl
@[simp] theorem State.wonel_modInst (s : State) (d : Nat) (f : PtpInst → PtpInst) : (s.modInst d f).wonel = s.wonel := rfl
@[simp] theorem State.kce_modInst (s : State) (d : Nat) (f : PtpInst → PtpInst) : (s.modInst d f).kce = s.kce := rfl
@[simp] theorem State.flt_modInst (s : State) (d : Nat) (f : PtpInst → PtpInst) : (s.modInst d f).flt = s.flt := rfl
@[simp] theorem State.power_modInst (s : State) (d : Nat) (f : PtpInst → PtpInst) : (s.modInst d f).power = s.power := rfl
@[simp] theorem State.lanes_modInst (s : State) (d : Nat) (f : PtpInst → PtpInst) : (s.modInst d f).lanes = s.lanes := rfl
@[simp] theorem State.links_modInst (s : State) (d : Nat) (f : PtpInst → PtpInst) : (s.modInst d f).links = s.links := rfl
@[simp] theorem State.pipes_modInst (s : State) (d : Nat) (f : PtpInst → PtpInst) : (s.modInst d f).pipes = s.pipes := rfl
@[simp] theorem State.galley_modInst (s : State) (d : Nat) (f : PtpInst → PtpInst) : (s.modInst d f).galley = s.galley := rfl
@[simp] theorem State.sched_modInst (s : State) (d : Nat) (f : PtpInst → PtpInst) : (s.modInst d f).sched = s.sched := rfl
@[simp] theorem State.ports_modInst (s : State) (d : Nat) (f : PtpInst → PtpInst) : (s.modInst d f).ports = s.ports := rfl
@[simp] theorem State.tables_modInst (s : State) (d : Nat) (f : PtpInst → PtpInst) : (s.modInst d f).tables = s.tables := rfl
@[simp] theorem State.telem_modInst (s : State) (d : Nat) (f : PtpInst → PtpInst) : (s.modInst d f).telem = s.telem := rfl
@[simp] theorem State.tim_modInst (s : State) (d : Nat) (f : PtpInst → PtpInst) : (s.modInst d f).tim = s.tim := rfl
@[simp] theorem State.cmp_modInst (s : State) (d : Nat) (f : PtpInst → PtpInst) : (s.modInst d f).cmp = s.cmp := rfl
@[simp] theorem State.mem_modInst (s : State) (d : Nat) (f : PtpInst → PtpInst) : (s.modInst d f).mem = s.mem := rfl
@[simp] theorem State.dict_modInst (s : State) (d : Nat) (f : PtpInst → PtpInst) : (s.modInst d f).dict = s.dict := rfl
@[simp] theorem State.busy_modInst (s : State) (d : Nat) (f : PtpInst → PtpInst) : (s.modInst d f).busy = s.busy := rfl
@[simp] theorem State.out_modInst (s : State) (d : Nat) (f : PtpInst → PtpInst) : (s.modInst d f).out = s.out := rfl
@[simp] theorem State.fresh_modInst (s : State) (d : Nat) (f : PtpInst → PtpInst) : (s.modInst d f).fresh = s.fresh := rfl
@[simp] theorem State.pending_modInst (s : State) (d : Nat) (f : PtpInst → PtpInst) : (s.modInst d f).pending = s.pending := rfl
@[simp] theorem State.get_modInst (s : State) (d : Nat) (f : PtpInst → PtpInst) (k : Nat) : (s.modInst d f).get k = s.get k := rfl

/-! ### `State.modQueue` -/

@[simp] theorem State.now_modQueue (s : State) (p : Nat) (q : Nat) (f : Queue → Queue) : (s.modQueue p q f).now = s.now := rfl
@[simp] theorem State.boot_modQueue (s : State) (p : Nat) (q : Nat) (f : Queue → Queue) : (s.modQueue p q f).boot = s.boot := rfl
@[simp] theorem State.store_modQueue (s : State) (p : Nat) (q : Nat) (f : Queue → Queue) : (s.modQueue p q f).store = s.store := rfl
@[simp] theorem State.wonel_modQueue (s : State) (p : Nat) (q : Nat) (f : Queue → Queue) : (s.modQueue p q f).wonel = s.wonel := rfl
@[simp] theorem State.kce_modQueue (s : State) (p : Nat) (q : Nat) (f : Queue → Queue) : (s.modQueue p q f).kce = s.kce := rfl
@[simp] theorem State.flt_modQueue (s : State) (p : Nat) (q : Nat) (f : Queue → Queue) : (s.modQueue p q f).flt = s.flt := rfl
@[simp] theorem State.power_modQueue (s : State) (p : Nat) (q : Nat) (f : Queue → Queue) : (s.modQueue p q f).power = s.power := rfl
@[simp] theorem State.lanes_modQueue (s : State) (p : Nat) (q : Nat) (f : Queue → Queue) : (s.modQueue p q f).lanes = s.lanes := rfl
@[simp] theorem State.links_modQueue (s : State) (p : Nat) (q : Nat) (f : Queue → Queue) : (s.modQueue p q f).links = s.links := rfl
@[simp] theorem State.pipes_modQueue (s : State) (p : Nat) (q : Nat) (f : Queue → Queue) : (s.modQueue p q f).pipes = s.pipes := rfl
@[simp] theorem State.galley_modQueue (s : State) (p : Nat) (q : Nat) (f : Queue → Queue) : (s.modQueue p q f).galley = s.galley := rfl
@[simp] theorem State.ports_modQueue (s : State) (p : Nat) (q : Nat) (f : Queue → Queue) : (s.modQueue p q f).ports = s.ports := rfl
@[simp] theorem State.tables_modQueue (s : State) (p : Nat) (q : Nat) (f : Queue → Queue) : (s.modQueue p q f).tables = s.tables := rfl
@[simp] theorem State.telem_modQueue (s : State) (p : Nat) (q : Nat) (f : Queue → Queue) : (s.modQueue p q f).telem = s.telem := rfl
@[simp] theorem State.tim_modQueue (s : State) (p : Nat) (q : Nat) (f : Queue → Queue) : (s.modQueue p q f).tim = s.tim := rfl
@[simp] theorem State.ptp_modQueue (s : State) (p : Nat) (q : Nat) (f : Queue → Queue) : (s.modQueue p q f).ptp = s.ptp := rfl
@[simp] theorem State.cmp_modQueue (s : State) (p : Nat) (q : Nat) (f : Queue → Queue) : (s.modQueue p q f).cmp = s.cmp := rfl
@[simp] theorem State.mem_modQueue (s : State) (p : Nat) (q : Nat) (f : Queue → Queue) : (s.modQueue p q f).mem = s.mem := rfl
@[simp] theorem State.dict_modQueue (s : State) (p : Nat) (q : Nat) (f : Queue → Queue) : (s.modQueue p q f).dict = s.dict := rfl
@[simp] theorem State.busy_modQueue (s : State) (p : Nat) (q : Nat) (f : Queue → Queue) : (s.modQueue p q f).busy = s.busy := rfl
@[simp] theorem State.out_modQueue (s : State) (p : Nat) (q : Nat) (f : Queue → Queue) : (s.modQueue p q f).out = s.out := rfl
@[simp] theorem State.fresh_modQueue (s : State) (p : Nat) (q : Nat) (f : Queue → Queue) : (s.modQueue p q f).fresh = s.fresh := rfl
@[simp] theorem State.pending_modQueue (s : State) (p : Nat) (q : Nat) (f : Queue → Queue) : (s.modQueue p q f).pending = s.pending := rfl
@[simp] theorem State.get_modQueue (s : State) (p : Nat) (q : Nat) (f : Queue → Queue) (k : Nat) : (s.modQueue p q f).get k = s.get k := rfl

/-! ### `State.modPipe` -/

@[simp] theorem State.now_modPipe (s : State) (k : Nat) (f : Pipe → Pipe) : (s.modPipe k f).now = s.now := rfl
@[simp] theorem State.boot_modPipe (s : State) (k : Nat) (f : Pipe → Pipe) : (s.modPipe k f).boot = s.boot := rfl
@[simp] theorem State.store_modPipe (s : State) (k : Nat) (f : Pipe → Pipe) : (s.modPipe k f).store = s.store := rfl
@[simp] theorem State.wonel_modPipe (s : State) (k : Nat) (f : Pipe → Pipe) : (s.modPipe k f).wonel = s.wonel := rfl
@[simp] theorem State.kce_modPipe (s : State) (k : Nat) (f : Pipe → Pipe) : (s.modPipe k f).kce = s.kce := rfl
@[simp] theorem State.flt_modPipe (s : State) (k : Nat) (f : Pipe → Pipe) : (s.modPipe k f).flt = s.flt := rfl
@[simp] theorem State.power_modPipe (s : State) (k : Nat) (f : Pipe → Pipe) : (s.modPipe k f).power = s.power := rfl
@[simp] theorem State.lanes_modPipe (s : State) (k : Nat) (f : Pipe → Pipe) : (s.modPipe k f).lanes = s.lanes := rfl
@[simp] theorem State.links_modPipe (s : State) (k : Nat) (f : Pipe → Pipe) : (s.modPipe k f).links = s.links := rfl
@[simp] theorem State.galley_modPipe (s : State) (k : Nat) (f : Pipe → Pipe) : (s.modPipe k f).galley = s.galley := rfl
@[simp] theorem State.sched_modPipe (s : State) (k : Nat) (f : Pipe → Pipe) : (s.modPipe k f).sched = s.sched := rfl
@[simp] theorem State.ports_modPipe (s : State) (k : Nat) (f : Pipe → Pipe) : (s.modPipe k f).ports = s.ports := rfl
@[simp] theorem State.tables_modPipe (s : State) (k : Nat) (f : Pipe → Pipe) : (s.modPipe k f).tables = s.tables := rfl
@[simp] theorem State.telem_modPipe (s : State) (k : Nat) (f : Pipe → Pipe) : (s.modPipe k f).telem = s.telem := rfl
@[simp] theorem State.tim_modPipe (s : State) (k : Nat) (f : Pipe → Pipe) : (s.modPipe k f).tim = s.tim := rfl
@[simp] theorem State.ptp_modPipe (s : State) (k : Nat) (f : Pipe → Pipe) : (s.modPipe k f).ptp = s.ptp := rfl
@[simp] theorem State.cmp_modPipe (s : State) (k : Nat) (f : Pipe → Pipe) : (s.modPipe k f).cmp = s.cmp := rfl
@[simp] theorem State.mem_modPipe (s : State) (k : Nat) (f : Pipe → Pipe) : (s.modPipe k f).mem = s.mem := rfl
@[simp] theorem State.dict_modPipe (s : State) (k : Nat) (f : Pipe → Pipe) : (s.modPipe k f).dict = s.dict := rfl
@[simp] theorem State.busy_modPipe (s : State) (k : Nat) (f : Pipe → Pipe) : (s.modPipe k f).busy = s.busy := rfl
@[simp] theorem State.out_modPipe (s : State) (k : Nat) (f : Pipe → Pipe) : (s.modPipe k f).out = s.out := rfl
@[simp] theorem State.fresh_modPipe (s : State) (k : Nat) (f : Pipe → Pipe) : (s.modPipe k f).fresh = s.fresh := rfl
@[simp] theorem State.pending_modPipe (s : State) (k : Nat) (f : Pipe → Pipe) : (s.modPipe k f).pending = s.pending := rfl
@[simp] theorem State.get_modPipe (s : State) (k : Nat) (f : Pipe → Pipe) (j : Nat) : (s.modPipe k f).get j = s.get j := rfl

/-! ### `State.modMg` -/

@[simp] theorem State.now_modMg (s : State) (mg : Nat) (f : MgPort → MgPort) : (s.modMg mg f).now = s.now := rfl
@[simp] theorem State.boot_modMg (s : State) (mg : Nat) (f : MgPort → MgPort) : (s.modMg mg f).boot = s.boot := rfl
@[simp] theorem State.store_modMg (s : State) (mg : Nat) (f : MgPort → MgPort) : (s.modMg mg f).store = s.store := rfl
@[simp] theorem State.kce_modMg (s : State) (mg : Nat) (f : MgPort → MgPort) : (s.modMg mg f).kce = s.kce := rfl
@[simp] theorem State.flt_modMg (s : State) (mg : Nat) (f : MgPort → MgPort) : (s.modMg mg f).flt = s.flt := rfl
@[simp] theorem State.power_modMg (s : State) (mg : Nat) (f : MgPort → MgPort) : (s.modMg mg f).power = s.power := rfl
@[simp] theorem State.lanes_modMg (s : State) (mg : Nat) (f : MgPort → MgPort) : (s.modMg mg f).lanes = s.lanes := rfl
@[simp] theorem State.links_modMg (s : State) (mg : Nat) (f : MgPort → MgPort) : (s.modMg mg f).links = s.links := rfl
@[simp] theorem State.pipes_modMg (s : State) (mg : Nat) (f : MgPort → MgPort) : (s.modMg mg f).pipes = s.pipes := rfl
@[simp] theorem State.galley_modMg (s : State) (mg : Nat) (f : MgPort → MgPort) : (s.modMg mg f).galley = s.galley := rfl
@[simp] theorem State.sched_modMg (s : State) (mg : Nat) (f : MgPort → MgPort) : (s.modMg mg f).sched = s.sched := rfl
@[simp] theorem State.ports_modMg (s : State) (mg : Nat) (f : MgPort → MgPort) : (s.modMg mg f).ports = s.ports := rfl
@[simp] theorem State.tables_modMg (s : State) (mg : Nat) (f : MgPort → MgPort) : (s.modMg mg f).tables = s.tables := rfl
@[simp] theorem State.telem_modMg (s : State) (mg : Nat) (f : MgPort → MgPort) : (s.modMg mg f).telem = s.telem := rfl
@[simp] theorem State.tim_modMg (s : State) (mg : Nat) (f : MgPort → MgPort) : (s.modMg mg f).tim = s.tim := rfl
@[simp] theorem State.ptp_modMg (s : State) (mg : Nat) (f : MgPort → MgPort) : (s.modMg mg f).ptp = s.ptp := rfl
@[simp] theorem State.cmp_modMg (s : State) (mg : Nat) (f : MgPort → MgPort) : (s.modMg mg f).cmp = s.cmp := rfl
@[simp] theorem State.mem_modMg (s : State) (mg : Nat) (f : MgPort → MgPort) : (s.modMg mg f).mem = s.mem := rfl
@[simp] theorem State.dict_modMg (s : State) (mg : Nat) (f : MgPort → MgPort) : (s.modMg mg f).dict = s.dict := rfl
@[simp] theorem State.busy_modMg (s : State) (mg : Nat) (f : MgPort → MgPort) : (s.modMg mg f).busy = s.busy := rfl
@[simp] theorem State.out_modMg (s : State) (mg : Nat) (f : MgPort → MgPort) : (s.modMg mg f).out = s.out := rfl
@[simp] theorem State.fresh_modMg (s : State) (mg : Nat) (f : MgPort → MgPort) : (s.modMg mg f).fresh = s.fresh := rfl
@[simp] theorem State.pending_modMg (s : State) (mg : Nat) (f : MgPort → MgPort) : (s.modMg mg f).pending = s.pending := rfl
@[simp] theorem State.get_modMg (s : State) (mg : Nat) (f : MgPort → MgPort) (k : Nat) : (s.modMg mg f).get k = s.get k := rfl

/-! ### `State.runBegin` -/

@[simp] theorem State.now_runBegin (s : State) (key : Nat) : (s.runBegin key).now = s.now := rfl
@[simp] theorem State.boot_runBegin (s : State) (key : Nat) : (s.runBegin key).boot = s.boot := rfl
@[simp] theorem State.store_runBegin (s : State) (key : Nat) : (s.runBegin key).store = s.store := rfl
@[simp] theorem State.wonel_runBegin (s : State) (key : Nat) : (s.runBegin key).wonel = s.wonel := rfl
@[simp] theorem State.kce_runBegin (s : State) (key : Nat) : (s.runBegin key).kce = s.kce := rfl
@[simp] theorem State.flt_runBegin (s : State) (key : Nat) : (s.runBegin key).flt = s.flt := rfl
@[simp] theorem State.power_runBegin (s : State) (key : Nat) : (s.runBegin key).power = s.power := rfl
@[simp] theorem State.lanes_runBegin (s : State) (key : Nat) : (s.runBegin key).lanes = s.lanes := rfl
@[simp] theorem State.links_runBegin (s : State) (key : Nat) : (s.runBegin key).links = s.links := rfl
@[simp] theorem State.pipes_runBegin (s : State) (key : Nat) : (s.runBegin key).pipes = s.pipes := rfl
@[simp] theorem State.galley_runBegin (s : State) (key : Nat) : (s.runBegin key).galley = s.galley := rfl
@[simp] theorem State.sched_runBegin (s : State) (key : Nat) : (s.runBegin key).sched = s.sched := rfl
@[simp] theorem State.ports_runBegin (s : State) (key : Nat) : (s.runBegin key).ports = s.ports := rfl
@[simp] theorem State.tables_runBegin (s : State) (key : Nat) : (s.runBegin key).tables = s.tables := rfl
@[simp] theorem State.telem_runBegin (s : State) (key : Nat) : (s.runBegin key).telem = s.telem := rfl
@[simp] theorem State.tim_runBegin (s : State) (key : Nat) : (s.runBegin key).tim = s.tim := rfl
@[simp] theorem State.ptp_runBegin (s : State) (key : Nat) : (s.runBegin key).ptp = s.ptp := rfl
@[simp] theorem State.cmp_runBegin (s : State) (key : Nat) : (s.runBegin key).cmp = s.cmp := rfl
@[simp] theorem State.mem_runBegin (s : State) (key : Nat) : (s.runBegin key).mem = s.mem := rfl
@[simp] theorem State.dict_runBegin (s : State) (key : Nat) : (s.runBegin key).dict = s.dict := rfl
@[simp] theorem State.out_runBegin (s : State) (key : Nat) : (s.runBegin key).out = s.out := rfl
@[simp] theorem State.fresh_runBegin (s : State) (key : Nat) : (s.runBegin key).fresh = s.fresh := rfl
@[simp] theorem State.pending_runBegin (s : State) (key : Nat) : (s.runBegin key).pending = s.pending := rfl
@[simp] theorem State.get_runBegin (s : State) (key : Nat) (k : Nat) : (s.runBegin key).get k = s.get k := rfl

/-! ### `State.runStop` -/

@[simp] theorem State.now_runStop (s : State) (key : Nat) : (s.runStop key).now = s.now := rfl
@[simp] theorem State.boot_runStop (s : State) (key : Nat) : (s.runStop key).boot = s.boot := rfl
@[simp] theorem State.store_runStop (s : State) (key : Nat) : (s.runStop key).store = s.store := rfl
@[simp] theorem State.wonel_runStop (s : State) (key : Nat) : (s.runStop key).wonel = s.wonel := rfl
@[simp] theorem State.kce_runStop (s : State) (key : Nat) : (s.runStop key).kce = s.kce := rfl
@[simp] theorem State.flt_runStop (s : State) (key : Nat) : (s.runStop key).flt = s.flt := rfl
@[simp] theorem State.power_runStop (s : State) (key : Nat) : (s.runStop key).power = s.power := rfl
@[simp] theorem State.lanes_runStop (s : State) (key : Nat) : (s.runStop key).lanes = s.lanes := rfl
@[simp] theorem State.links_runStop (s : State) (key : Nat) : (s.runStop key).links = s.links := rfl
@[simp] theorem State.pipes_runStop (s : State) (key : Nat) : (s.runStop key).pipes = s.pipes := rfl
@[simp] theorem State.galley_runStop (s : State) (key : Nat) : (s.runStop key).galley = s.galley := rfl
@[simp] theorem State.sched_runStop (s : State) (key : Nat) : (s.runStop key).sched = s.sched := rfl
@[simp] theorem State.ports_runStop (s : State) (key : Nat) : (s.runStop key).ports = s.ports := rfl
@[simp] theorem State.tables_runStop (s : State) (key : Nat) : (s.runStop key).tables = s.tables := rfl
@[simp] theorem State.telem_runStop (s : State) (key : Nat) : (s.runStop key).telem = s.telem := rfl
@[simp] theorem State.tim_runStop (s : State) (key : Nat) : (s.runStop key).tim = s.tim := rfl
@[simp] theorem State.ptp_runStop (s : State) (key : Nat) : (s.runStop key).ptp = s.ptp := rfl
@[simp] theorem State.cmp_runStop (s : State) (key : Nat) : (s.runStop key).cmp = s.cmp := rfl
@[simp] theorem State.mem_runStop (s : State) (key : Nat) : (s.runStop key).mem = s.mem := rfl
@[simp] theorem State.dict_runStop (s : State) (key : Nat) : (s.runStop key).dict = s.dict := rfl
@[simp] theorem State.out_runStop (s : State) (key : Nat) : (s.runStop key).out = s.out := rfl
@[simp] theorem State.fresh_runStop (s : State) (key : Nat) : (s.runStop key).fresh = s.fresh := rfl
@[simp] theorem State.pending_runStop (s : State) (key : Nat) : (s.runStop key).pending = s.pending := rfl
@[simp] theorem State.get_runStop (s : State) (key : Nat) (k : Nat) : (s.runStop key).get k = s.get k := rfl

/-! ### `State.latchIf` -/

@[simp] theorem State.now_latchIf (s : State) (bit : Nat) (p : Nat → Bool) : (s.latchIf bit p).now = s.now := rfl
@[simp] theorem State.boot_latchIf (s : State) (bit : Nat) (p : Nat → Bool) : (s.latchIf bit p).boot = s.boot := rfl
@[simp] theorem State.store_latchIf (s : State) (bit : Nat) (p : Nat → Bool) : (s.latchIf bit p).store = s.store := rfl
@[simp] theorem State.kce_latchIf (s : State) (bit : Nat) (p : Nat → Bool) : (s.latchIf bit p).kce = s.kce := rfl
@[simp] theorem State.flt_latchIf (s : State) (bit : Nat) (p : Nat → Bool) : (s.latchIf bit p).flt = s.flt := rfl
@[simp] theorem State.power_latchIf (s : State) (bit : Nat) (p : Nat → Bool) : (s.latchIf bit p).power = s.power := rfl
@[simp] theorem State.lanes_latchIf (s : State) (bit : Nat) (p : Nat → Bool) : (s.latchIf bit p).lanes = s.lanes := rfl
@[simp] theorem State.links_latchIf (s : State) (bit : Nat) (p : Nat → Bool) : (s.latchIf bit p).links = s.links := rfl
@[simp] theorem State.pipes_latchIf (s : State) (bit : Nat) (p : Nat → Bool) : (s.latchIf bit p).pipes = s.pipes := rfl
@[simp] theorem State.galley_latchIf (s : State) (bit : Nat) (p : Nat → Bool) : (s.latchIf bit p).galley = s.galley := rfl
@[simp] theorem State.sched_latchIf (s : State) (bit : Nat) (p : Nat → Bool) : (s.latchIf bit p).sched = s.sched := rfl
@[simp] theorem State.ports_latchIf (s : State) (bit : Nat) (p : Nat → Bool) : (s.latchIf bit p).ports = s.ports := rfl
@[simp] theorem State.tables_latchIf (s : State) (bit : Nat) (p : Nat → Bool) : (s.latchIf bit p).tables = s.tables := rfl
@[simp] theorem State.telem_latchIf (s : State) (bit : Nat) (p : Nat → Bool) : (s.latchIf bit p).telem = s.telem := rfl
@[simp] theorem State.tim_latchIf (s : State) (bit : Nat) (p : Nat → Bool) : (s.latchIf bit p).tim = s.tim := rfl
@[simp] theorem State.ptp_latchIf (s : State) (bit : Nat) (p : Nat → Bool) : (s.latchIf bit p).ptp = s.ptp := rfl
@[simp] theorem State.cmp_latchIf (s : State) (bit : Nat) (p : Nat → Bool) : (s.latchIf bit p).cmp = s.cmp := rfl
@[simp] theorem State.mem_latchIf (s : State) (bit : Nat) (p : Nat → Bool) : (s.latchIf bit p).mem = s.mem := rfl
@[simp] theorem State.dict_latchIf (s : State) (bit : Nat) (p : Nat → Bool) : (s.latchIf bit p).dict = s.dict := rfl
@[simp] theorem State.busy_latchIf (s : State) (bit : Nat) (p : Nat → Bool) : (s.latchIf bit p).busy = s.busy := rfl
@[simp] theorem State.out_latchIf (s : State) (bit : Nat) (p : Nat → Bool) : (s.latchIf bit p).out = s.out := rfl
@[simp] theorem State.fresh_latchIf (s : State) (bit : Nat) (p : Nat → Bool) : (s.latchIf bit p).fresh = s.fresh := rfl
@[simp] theorem State.pending_latchIf (s : State) (bit : Nat) (p : Nat → Bool) : (s.latchIf bit p).pending = s.pending := rfl
@[simp] theorem State.get_latchIf (s : State) (bit : Nat) (p : Nat → Bool) (k : Nat) : (s.latchIf bit p).get k = s.get k := rfl

/-! ### `State.bumpBy` -/

@[simp] theorem State.now_bumpBy (s : State) (key : Nat) (n : Nat) : (s.bumpBy key n).now = s.now := by unfold State.bumpBy; simp only [State.now_put]
@[simp] theorem State.boot_bumpBy (s : State) (key : Nat) (n : Nat) : (s.bumpBy key n).boot = s.boot := by unfold State.bumpBy; simp only [State.boot_put]
@[simp] theorem State.store_bumpBy (s : State) (key : Nat) (n : Nat) : (s.bumpBy key n).store = s.store := by unfold State.bumpBy; simp only [State.store_put]
@[simp] theorem State.wonel_bumpBy (s : State) (key : Nat) (n : Nat) : (s.bumpBy key n).wonel = s.wonel := by unfold State.bumpBy; simp only [State.wonel_put]
@[simp] theorem State.kce_bumpBy (s : State) (key : Nat) (n : Nat) : (s.bumpBy key n).kce = s.kce := by unfold State.bumpBy; simp only [State.kce_put]
@[simp] theorem State.flt_bumpBy (s : State) (key : Nat) (n : Nat) : (s.bumpBy key n).flt = s.flt := by unfold State.bumpBy; simp only [State.flt_put]
@[simp] theorem State.power_bumpBy (s : State) (key : Nat) (n : Nat) : (s.bumpBy key n).power = s.power := by unfold State.bumpBy; simp only [State.power_put]
@[simp] theorem State.lanes_bumpBy (s : State) (key : Nat) (n : Nat) : (s.bumpBy key n).lanes = s.lanes := by unfold State.bumpBy; simp only [State.lanes_put]
@[simp] theorem State.links_bumpBy (s : State) (key : Nat) (n : Nat) : (s.bumpBy key n).links = s.links := by unfold State.bumpBy; simp only [State.links_put]
@[simp] theorem State.pipes_bumpBy (s : State) (key : Nat) (n : Nat) : (s.bumpBy key n).pipes = s.pipes := by unfold State.bumpBy; simp only [State.pipes_put]
@[simp] theorem State.galley_bumpBy (s : State) (key : Nat) (n : Nat) : (s.bumpBy key n).galley = s.galley := by unfold State.bumpBy; simp only [State.galley_put]
@[simp] theorem State.sched_bumpBy (s : State) (key : Nat) (n : Nat) : (s.bumpBy key n).sched = s.sched := by unfold State.bumpBy; simp only [State.sched_put]
@[simp] theorem State.ports_bumpBy (s : State) (key : Nat) (n : Nat) : (s.bumpBy key n).ports = s.ports := by unfold State.bumpBy; simp only [State.ports_put]
@[simp] theorem State.tables_bumpBy (s : State) (key : Nat) (n : Nat) : (s.bumpBy key n).tables = s.tables := by unfold State.bumpBy; simp only [State.tables_put]
@[simp] theorem State.telem_bumpBy (s : State) (key : Nat) (n : Nat) : (s.bumpBy key n).telem = s.telem := by unfold State.bumpBy; simp only [State.telem_put]
@[simp] theorem State.tim_bumpBy (s : State) (key : Nat) (n : Nat) : (s.bumpBy key n).tim = s.tim := by unfold State.bumpBy; simp only [State.tim_put]
@[simp] theorem State.ptp_bumpBy (s : State) (key : Nat) (n : Nat) : (s.bumpBy key n).ptp = s.ptp := by unfold State.bumpBy; simp only [State.ptp_put]
@[simp] theorem State.cmp_bumpBy (s : State) (key : Nat) (n : Nat) : (s.bumpBy key n).cmp = s.cmp := by unfold State.bumpBy; simp only [State.cmp_put]
@[simp] theorem State.mem_bumpBy (s : State) (key : Nat) (n : Nat) : (s.bumpBy key n).mem = s.mem := by unfold State.bumpBy; simp only [State.mem_put]
@[simp] theorem State.busy_bumpBy (s : State) (key : Nat) (n : Nat) : (s.bumpBy key n).busy = s.busy := by unfold State.bumpBy; simp only [State.busy_put]
@[simp] theorem State.out_bumpBy (s : State) (key : Nat) (n : Nat) : (s.bumpBy key n).out = s.out := by unfold State.bumpBy; simp only [State.out_put]
@[simp] theorem State.fresh_bumpBy (s : State) (key : Nat) (n : Nat) : (s.bumpBy key n).fresh = s.fresh := by unfold State.bumpBy; simp only [State.fresh_put]
@[simp] theorem State.pending_bumpBy (s : State) (key : Nat) (n : Nat) : (s.bumpBy key n).pending = s.pending := by unfold State.bumpBy; simp only [State.pending_put]

/-! ### `State.bump` -/

@[simp] theorem State.now_bump (s : State) (key : Nat) : (s.bump key).now = s.now := by unfold State.bump; simp only [State.now_bumpBy]
@[simp] theorem State.boot_bump (s : State) (key : Nat) : (s.bump key).boot = s.boot := by unfold State.bump; simp only [State.boot_bumpBy]
@[simp] theorem State.store_bump (s : State) (key : Nat) : (s.bump key).store = s.store := by unfold State.bump; simp only [State.store_bumpBy]
@[simp] theorem State.wonel_bump (s : State) (key : Nat) : (s.bump key).wonel = s.wonel := by unfold State.bump; simp only [State.wonel_bumpBy]
@[simp] theorem State.kce_bump (s : State) (key : Nat) : (s.bump key).kce = s.kce := by unfold State.bump; simp only [State.kce_bumpBy]
@[simp] theorem State.flt_bump (s : State) (key : Nat) : (s.bump key).flt = s.flt := by unfold State.bump; simp only [State.flt_bumpBy]
@[simp] theorem State.power_bump (s : State) (key : Nat) : (s.bump key).power = s.power := by unfold State.bump; simp only [State.power_bumpBy]
@[simp] theorem State.lanes_bump (s : State) (key : Nat) : (s.bump key).lanes = s.lanes := by unfold State.bump; simp only [State.lanes_bumpBy]
@[simp] theorem State.links_bump (s : State) (key : Nat) : (s.bump key).links = s.links := by unfold State.bump; simp only [State.links_bumpBy]
@[simp] theorem State.pipes_bump (s : State) (key : Nat) : (s.bump key).pipes = s.pipes := by unfold State.bump; simp only [State.pipes_bumpBy]
@[simp] theorem State.galley_bump (s : State) (key : Nat) : (s.bump key).galley = s.galley := by unfold State.bump; simp only [State.galley_bumpBy]
@[simp] theorem State.sched_bump (s : State) (key : Nat) : (s.bump key).sched = s.sched := by unfold State.bump; simp only [State.sched_bumpBy]
@[simp] theorem State.ports_bump (s : State) (key : Nat) : (s.bump key).ports = s.ports := by unfold State.bump; simp only [State.ports_bumpBy]
@[simp] theorem State.tables_bump (s : State) (key : Nat) : (s.bump key).tables = s.tables := by unfold State.bump; simp only [State.tables_bumpBy]
@[simp] theorem State.telem_bump (s : State) (key : Nat) : (s.bump key).telem = s.telem := by unfold State.bump; simp only [State.telem_bumpBy]
@[simp] theorem State.tim_bump (s : State) (key : Nat) : (s.bump key).tim = s.tim := by unfold State.bump; simp only [State.tim_bumpBy]
@[simp] theorem State.ptp_bump (s : State) (key : Nat) : (s.bump key).ptp = s.ptp := by unfold State.bump; simp only [State.ptp_bumpBy]
@[simp] theorem State.cmp_bump (s : State) (key : Nat) : (s.bump key).cmp = s.cmp := by unfold State.bump; simp only [State.cmp_bumpBy]
@[simp] theorem State.mem_bump (s : State) (key : Nat) : (s.bump key).mem = s.mem := by unfold State.bump; simp only [State.mem_bumpBy]
@[simp] theorem State.busy_bump (s : State) (key : Nat) : (s.bump key).busy = s.busy := by unfold State.bump; simp only [State.busy_bumpBy]
@[simp] theorem State.out_bump (s : State) (key : Nat) : (s.bump key).out = s.out := by unfold State.bump; simp only [State.out_bumpBy]
@[simp] theorem State.fresh_bump (s : State) (key : Nat) : (s.bump key).fresh = s.fresh := by unfold State.bump; simp only [State.fresh_bumpBy]
@[simp] theorem State.pending_bump (s : State) (key : Nat) : (s.bump key).pending = s.pending := by unfold State.bump; simp only [State.pending_bumpBy]

/-! ### `State.putBit` -/

@[simp] theorem State.now_putBit (s : State) (key : Nat) (i : Nat) (b : Bool) : (s.putBit key i b).now = s.now := by unfold State.putBit; simp only [State.now_put]
@[simp] theorem State.boot_putBit (s : State) (key : Nat) (i : Nat) (b : Bool) : (s.putBit key i b).boot = s.boot := by unfold State.putBit; simp only [State.boot_put]
@[simp] theorem State.store_putBit (s : State) (key : Nat) (i : Nat) (b : Bool) : (s.putBit key i b).store = s.store := by unfold State.putBit; simp only [State.store_put]
@[simp] theorem State.wonel_putBit (s : State) (key : Nat) (i : Nat) (b : Bool) : (s.putBit key i b).wonel = s.wonel := by unfold State.putBit; simp only [State.wonel_put]
@[simp] theorem State.kce_putBit (s : State) (key : Nat) (i : Nat) (b : Bool) : (s.putBit key i b).kce = s.kce := by unfold State.putBit; simp only [State.kce_put]
@[simp] theorem State.flt_putBit (s : State) (key : Nat) (i : Nat) (b : Bool) : (s.putBit key i b).flt = s.flt := by unfold State.putBit; simp only [State.flt_put]
@[simp] theorem State.power_putBit (s : State) (key : Nat) (i : Nat) (b : Bool) : (s.putBit key i b).power = s.power := by unfold State.putBit; simp only [State.power_put]
@[simp] theorem State.lanes_putBit (s : State) (key : Nat) (i : Nat) (b : Bool) : (s.putBit key i b).lanes = s.lanes := by unfold State.putBit; simp only [State.lanes_put]
@[simp] theorem State.links_putBit (s : State) (key : Nat) (i : Nat) (b : Bool) : (s.putBit key i b).links = s.links := by unfold State.putBit; simp only [State.links_put]
@[simp] theorem State.pipes_putBit (s : State) (key : Nat) (i : Nat) (b : Bool) : (s.putBit key i b).pipes = s.pipes := by unfold State.putBit; simp only [State.pipes_put]
@[simp] theorem State.galley_putBit (s : State) (key : Nat) (i : Nat) (b : Bool) : (s.putBit key i b).galley = s.galley := by unfold State.putBit; simp only [State.galley_put]
@[simp] theorem State.sched_putBit (s : State) (key : Nat) (i : Nat) (b : Bool) : (s.putBit key i b).sched = s.sched := by unfold State.putBit; simp only [State.sched_put]
@[simp] theorem State.ports_putBit (s : State) (key : Nat) (i : Nat) (b : Bool) : (s.putBit key i b).ports = s.ports := by unfold State.putBit; simp only [State.ports_put]
@[simp] theorem State.tables_putBit (s : State) (key : Nat) (i : Nat) (b : Bool) : (s.putBit key i b).tables = s.tables := by unfold State.putBit; simp only [State.tables_put]
@[simp] theorem State.telem_putBit (s : State) (key : Nat) (i : Nat) (b : Bool) : (s.putBit key i b).telem = s.telem := by unfold State.putBit; simp only [State.telem_put]
@[simp] theorem State.tim_putBit (s : State) (key : Nat) (i : Nat) (b : Bool) : (s.putBit key i b).tim = s.tim := by unfold State.putBit; simp only [State.tim_put]
@[simp] theorem State.ptp_putBit (s : State) (key : Nat) (i : Nat) (b : Bool) : (s.putBit key i b).ptp = s.ptp := by unfold State.putBit; simp only [State.ptp_put]
@[simp] theorem State.cmp_putBit (s : State) (key : Nat) (i : Nat) (b : Bool) : (s.putBit key i b).cmp = s.cmp := by unfold State.putBit; simp only [State.cmp_put]
@[simp] theorem State.mem_putBit (s : State) (key : Nat) (i : Nat) (b : Bool) : (s.putBit key i b).mem = s.mem := by unfold State.putBit; simp only [State.mem_put]
@[simp] theorem State.busy_putBit (s : State) (key : Nat) (i : Nat) (b : Bool) : (s.putBit key i b).busy = s.busy := by unfold State.putBit; simp only [State.busy_put]
@[simp] theorem State.out_putBit (s : State) (key : Nat) (i : Nat) (b : Bool) : (s.putBit key i b).out = s.out := by unfold State.putBit; simp only [State.out_put]
@[simp] theorem State.fresh_putBit (s : State) (key : Nat) (i : Nat) (b : Bool) : (s.putBit key i b).fresh = s.fresh := by unfold State.putBit; simp only [State.fresh_put]
@[simp] theorem State.pending_putBit (s : State) (key : Nat) (i : Nat) (b : Bool) : (s.putBit key i b).pending = s.pending := by unfold State.putBit; simp only [State.pending_put]

/-! ### `State.runEnd` -/

@[simp] theorem State.now_runEnd (s : State) (key : Nat) (outcome : Nat) (detail : Nat) : (s.runEnd key outcome detail).now = s.now := 
  (State.now_runStop (s.put key (runRecord (s.get key) outcome detail)) key).trans (State.now_put s key (runRecord (s.get key) outcome detail))
@[simp] theorem State.boot_runEnd (s : State) (key : Nat) (outcome : Nat) (detail : Nat) : (s.runEnd key outcome detail).boot = s.boot := 
  (State.boot_runStop (s.put key (runRecord (s.get key) outcome detail)) key).trans (State.boot_put s key (runRecord (s.get key) outcome detail))
@[simp] theorem State.store_runEnd (s : State) (key : Nat) (outcome : Nat) (detail : Nat) : (s.runEnd key outcome detail).store = s.store := 
  (State.store_runStop (s.put key (runRecord (s.get key) outcome detail)) key).trans (State.store_put s key (runRecord (s.get key) outcome detail))
@[simp] theorem State.wonel_runEnd (s : State) (key : Nat) (outcome : Nat) (detail : Nat) : (s.runEnd key outcome detail).wonel = s.wonel := 
  (State.wonel_runStop (s.put key (runRecord (s.get key) outcome detail)) key).trans (State.wonel_put s key (runRecord (s.get key) outcome detail))
@[simp] theorem State.kce_runEnd (s : State) (key : Nat) (outcome : Nat) (detail : Nat) : (s.runEnd key outcome detail).kce = s.kce := 
  (State.kce_runStop (s.put key (runRecord (s.get key) outcome detail)) key).trans (State.kce_put s key (runRecord (s.get key) outcome detail))
@[simp] theorem State.flt_runEnd (s : State) (key : Nat) (outcome : Nat) (detail : Nat) : (s.runEnd key outcome detail).flt = s.flt := 
  (State.flt_runStop (s.put key (runRecord (s.get key) outcome detail)) key).trans (State.flt_put s key (runRecord (s.get key) outcome detail))
@[simp] theorem State.power_runEnd (s : State) (key : Nat) (outcome : Nat) (detail : Nat) : (s.runEnd key outcome detail).power = s.power := 
  (State.power_runStop (s.put key (runRecord (s.get key) outcome detail)) key).trans (State.power_put s key (runRecord (s.get key) outcome detail))
@[simp] theorem State.lanes_runEnd (s : State) (key : Nat) (outcome : Nat) (detail : Nat) : (s.runEnd key outcome detail).lanes = s.lanes := 
  (State.lanes_runStop (s.put key (runRecord (s.get key) outcome detail)) key).trans (State.lanes_put s key (runRecord (s.get key) outcome detail))
@[simp] theorem State.links_runEnd (s : State) (key : Nat) (outcome : Nat) (detail : Nat) : (s.runEnd key outcome detail).links = s.links := 
  (State.links_runStop (s.put key (runRecord (s.get key) outcome detail)) key).trans (State.links_put s key (runRecord (s.get key) outcome detail))
@[simp] theorem State.pipes_runEnd (s : State) (key : Nat) (outcome : Nat) (detail : Nat) : (s.runEnd key outcome detail).pipes = s.pipes := 
  (State.pipes_runStop (s.put key (runRecord (s.get key) outcome detail)) key).trans (State.pipes_put s key (runRecord (s.get key) outcome detail))
@[simp] theorem State.galley_runEnd (s : State) (key : Nat) (outcome : Nat) (detail : Nat) : (s.runEnd key outcome detail).galley = s.galley := 
  (State.galley_runStop (s.put key (runRecord (s.get key) outcome detail)) key).trans (State.galley_put s key (runRecord (s.get key) outcome detail))
@[simp] theorem State.sched_runEnd (s : State) (key : Nat) (outcome : Nat) (detail : Nat) : (s.runEnd key outcome detail).sched = s.sched := 
  (State.sched_runStop (s.put key (runRecord (s.get key) outcome detail)) key).trans (State.sched_put s key (runRecord (s.get key) outcome detail))
@[simp] theorem State.ports_runEnd (s : State) (key : Nat) (outcome : Nat) (detail : Nat) : (s.runEnd key outcome detail).ports = s.ports := 
  (State.ports_runStop (s.put key (runRecord (s.get key) outcome detail)) key).trans (State.ports_put s key (runRecord (s.get key) outcome detail))
@[simp] theorem State.tables_runEnd (s : State) (key : Nat) (outcome : Nat) (detail : Nat) : (s.runEnd key outcome detail).tables = s.tables := 
  (State.tables_runStop (s.put key (runRecord (s.get key) outcome detail)) key).trans (State.tables_put s key (runRecord (s.get key) outcome detail))
@[simp] theorem State.telem_runEnd (s : State) (key : Nat) (outcome : Nat) (detail : Nat) : (s.runEnd key outcome detail).telem = s.telem := 
  (State.telem_runStop (s.put key (runRecord (s.get key) outcome detail)) key).trans (State.telem_put s key (runRecord (s.get key) outcome detail))
@[simp] theorem State.tim_runEnd (s : State) (key : Nat) (outcome : Nat) (detail : Nat) : (s.runEnd key outcome detail).tim = s.tim := 
  (State.tim_runStop (s.put key (runRecord (s.get key) outcome detail)) key).trans (State.tim_put s key (runRecord (s.get key) outcome detail))
@[simp] theorem State.ptp_runEnd (s : State) (key : Nat) (outcome : Nat) (detail : Nat) : (s.runEnd key outcome detail).ptp = s.ptp := 
  (State.ptp_runStop (s.put key (runRecord (s.get key) outcome detail)) key).trans (State.ptp_put s key (runRecord (s.get key) outcome detail))
@[simp] theorem State.cmp_runEnd (s : State) (key : Nat) (outcome : Nat) (detail : Nat) : (s.runEnd key outcome detail).cmp = s.cmp := 
  (State.cmp_runStop (s.put key (runRecord (s.get key) outcome detail)) key).trans (State.cmp_put s key (runRecord (s.get key) outcome detail))
@[simp] theorem State.mem_runEnd (s : State) (key : Nat) (outcome : Nat) (detail : Nat) : (s.runEnd key outcome detail).mem = s.mem := 
  (State.mem_runStop (s.put key (runRecord (s.get key) outcome detail)) key).trans (State.mem_put s key (runRecord (s.get key) outcome detail))
@[simp] theorem State.out_runEnd (s : State) (key : Nat) (outcome : Nat) (detail : Nat) : (s.runEnd key outcome detail).out = s.out := 
  (State.out_runStop (s.put key (runRecord (s.get key) outcome detail)) key).trans (State.out_put s key (runRecord (s.get key) outcome detail))
@[simp] theorem State.fresh_runEnd (s : State) (key : Nat) (outcome : Nat) (detail : Nat) : (s.runEnd key outcome detail).fresh = s.fresh := 
  (State.fresh_runStop (s.put key (runRecord (s.get key) outcome detail)) key).trans (State.fresh_put s key (runRecord (s.get key) outcome detail))
@[simp] theorem State.pending_runEnd (s : State) (key : Nat) (outcome : Nat) (detail : Nat) : (s.runEnd key outcome detail).pending = s.pending := 
  (State.pending_runStop (s.put key (runRecord (s.get key) outcome detail)) key).trans (State.pending_put s key (runRecord (s.get key) outcome detail))

/-! ### `State.runOnce` -/

@[simp] theorem State.now_runOnce (s : State) (key : Nat) (outcome : Nat) (detail : Nat) : (s.runOnce key outcome detail).now = s.now := by unfold State.runOnce; simp only [State.now_runEnd]
@[simp] theorem State.boot_runOnce (s : State) (key : Nat) (outcome : Nat) (detail : Nat) : (s.runOnce key outcome detail).boot = s.boot := by unfold State.runOnce; simp only [State.boot_runEnd]
@[simp] theorem State.store_runOnce (s : State) (key : Nat) (outcome : Nat) (detail : Nat) : (s.runOnce key outcome detail).store = s.store := by unfold State.runOnce; simp only [State.store_runEnd]
@[simp] theorem State.wonel_runOnce (s : State) (key : Nat) (outcome : Nat) (detail : Nat) : (s.runOnce key outcome detail).wonel = s.wonel := by unfold State.runOnce; simp only [State.wonel_runEnd]
@[simp] theorem State.kce_runOnce (s : State) (key : Nat) (outcome : Nat) (detail : Nat) : (s.runOnce key outcome detail).kce = s.kce := by unfold State.runOnce; simp only [State.kce_runEnd]
@[simp] theorem State.flt_runOnce (s : State) (key : Nat) (outcome : Nat) (detail : Nat) : (s.runOnce key outcome detail).flt = s.flt := by unfold State.runOnce; simp only [State.flt_runEnd]
@[simp] theorem State.power_runOnce (s : State) (key : Nat) (outcome : Nat) (detail : Nat) : (s.runOnce key outcome detail).power = s.power := by unfold State.runOnce; simp only [State.power_runEnd]
@[simp] theorem State.lanes_runOnce (s : State) (key : Nat) (outcome : Nat) (detail : Nat) : (s.runOnce key outcome detail).lanes = s.lanes := by unfold State.runOnce; simp only [State.lanes_runEnd]
@[simp] theorem State.links_runOnce (s : State) (key : Nat) (outcome : Nat) (detail : Nat) : (s.runOnce key outcome detail).links = s.links := by unfold State.runOnce; simp only [State.links_runEnd]
@[simp] theorem State.pipes_runOnce (s : State) (key : Nat) (outcome : Nat) (detail : Nat) : (s.runOnce key outcome detail).pipes = s.pipes := by unfold State.runOnce; simp only [State.pipes_runEnd]
@[simp] theorem State.galley_runOnce (s : State) (key : Nat) (outcome : Nat) (detail : Nat) : (s.runOnce key outcome detail).galley = s.galley := by unfold State.runOnce; simp only [State.galley_runEnd]
@[simp] theorem State.sched_runOnce (s : State) (key : Nat) (outcome : Nat) (detail : Nat) : (s.runOnce key outcome detail).sched = s.sched := by unfold State.runOnce; simp only [State.sched_runEnd]
@[simp] theorem State.ports_runOnce (s : State) (key : Nat) (outcome : Nat) (detail : Nat) : (s.runOnce key outcome detail).ports = s.ports := by unfold State.runOnce; simp only [State.ports_runEnd]
@[simp] theorem State.tables_runOnce (s : State) (key : Nat) (outcome : Nat) (detail : Nat) : (s.runOnce key outcome detail).tables = s.tables := by unfold State.runOnce; simp only [State.tables_runEnd]
@[simp] theorem State.telem_runOnce (s : State) (key : Nat) (outcome : Nat) (detail : Nat) : (s.runOnce key outcome detail).telem = s.telem := by unfold State.runOnce; simp only [State.telem_runEnd]
@[simp] theorem State.tim_runOnce (s : State) (key : Nat) (outcome : Nat) (detail : Nat) : (s.runOnce key outcome detail).tim = s.tim := by unfold State.runOnce; simp only [State.tim_runEnd]
@[simp] theorem State.ptp_runOnce (s : State) (key : Nat) (outcome : Nat) (detail : Nat) : (s.runOnce key outcome detail).ptp = s.ptp := by unfold State.runOnce; simp only [State.ptp_runEnd]
@[simp] theorem State.cmp_runOnce (s : State) (key : Nat) (outcome : Nat) (detail : Nat) : (s.runOnce key outcome detail).cmp = s.cmp := by unfold State.runOnce; simp only [State.cmp_runEnd]
@[simp] theorem State.mem_runOnce (s : State) (key : Nat) (outcome : Nat) (detail : Nat) : (s.runOnce key outcome detail).mem = s.mem := by unfold State.runOnce; simp only [State.mem_runEnd]
@[simp] theorem State.out_runOnce (s : State) (key : Nat) (outcome : Nat) (detail : Nat) : (s.runOnce key outcome detail).out = s.out := by unfold State.runOnce; simp only [State.out_runEnd]
@[simp] theorem State.fresh_runOnce (s : State) (key : Nat) (outcome : Nat) (detail : Nat) : (s.runOnce key outcome detail).fresh = s.fresh := by unfold State.runOnce; simp only [State.fresh_runEnd]
@[simp] theorem State.pending_runOnce (s : State) (key : Nat) (outcome : Nat) (detail : Nat) : (s.runOnce key outcome detail).pending = s.pending := by unfold State.runOnce; simp only [State.pending_runEnd]

/-! ### `State.progBegin` -/

@[simp] theorem State.now_progBegin (s : State) (k : Nat) (total : Nat) : (s.progBegin k total).now = s.now := by unfold State.progBegin; simp only [State.now_bump, State.now_put]
@[simp] theorem State.boot_progBegin (s : State) (k : Nat) (total : Nat) : (s.progBegin k total).boot = s.boot := by unfold State.progBegin; simp only [State.boot_bump, State.boot_put]
@[simp] theorem State.store_progBegin (s : State) (k : Nat) (total : Nat) : (s.progBegin k total).store = s.store := by unfold State.progBegin; simp only [State.store_bump, State.store_put]
@[simp] theorem State.wonel_progBegin (s : State) (k : Nat) (total : Nat) : (s.progBegin k total).wonel = s.wonel := by unfold State.progBegin; simp only [State.wonel_bump, State.wonel_put]
@[simp] theorem State.kce_progBegin (s : State) (k : Nat) (total : Nat) : (s.progBegin k total).kce = s.kce := by unfold State.progBegin; simp only [State.kce_bump, State.kce_put]
@[simp] theorem State.flt_progBegin (s : State) (k : Nat) (total : Nat) : (s.progBegin k total).flt = s.flt := by unfold State.progBegin; simp only [State.flt_bump, State.flt_put]
@[simp] theorem State.power_progBegin (s : State) (k : Nat) (total : Nat) : (s.progBegin k total).power = s.power := by unfold State.progBegin; simp only [State.power_bump, State.power_put]
@[simp] theorem State.lanes_progBegin (s : State) (k : Nat) (total : Nat) : (s.progBegin k total).lanes = s.lanes := by unfold State.progBegin; simp only [State.lanes_bump, State.lanes_put]
@[simp] theorem State.links_progBegin (s : State) (k : Nat) (total : Nat) : (s.progBegin k total).links = s.links := by unfold State.progBegin; simp only [State.links_bump, State.links_put]
@[simp] theorem State.pipes_progBegin (s : State) (k : Nat) (total : Nat) : (s.progBegin k total).pipes = s.pipes := by unfold State.progBegin; simp only [State.pipes_bump, State.pipes_put]
@[simp] theorem State.galley_progBegin (s : State) (k : Nat) (total : Nat) : (s.progBegin k total).galley = s.galley := by unfold State.progBegin; simp only [State.galley_bump, State.galley_put]
@[simp] theorem State.sched_progBegin (s : State) (k : Nat) (total : Nat) : (s.progBegin k total).sched = s.sched := by unfold State.progBegin; simp only [State.sched_bump, State.sched_put]
@[simp] theorem State.ports_progBegin (s : State) (k : Nat) (total : Nat) : (s.progBegin k total).ports = s.ports := by unfold State.progBegin; simp only [State.ports_bump, State.ports_put]
@[simp] theorem State.tables_progBegin (s : State) (k : Nat) (total : Nat) : (s.progBegin k total).tables = s.tables := by unfold State.progBegin; simp only [State.tables_bump, State.tables_put]
@[simp] theorem State.telem_progBegin (s : State) (k : Nat) (total : Nat) : (s.progBegin k total).telem = s.telem := by unfold State.progBegin; simp only [State.telem_bump, State.telem_put]
@[simp] theorem State.tim_progBegin (s : State) (k : Nat) (total : Nat) : (s.progBegin k total).tim = s.tim := by unfold State.progBegin; simp only [State.tim_bump, State.tim_put]
@[simp] theorem State.ptp_progBegin (s : State) (k : Nat) (total : Nat) : (s.progBegin k total).ptp = s.ptp := by unfold State.progBegin; simp only [State.ptp_bump, State.ptp_put]
@[simp] theorem State.cmp_progBegin (s : State) (k : Nat) (total : Nat) : (s.progBegin k total).cmp = s.cmp := by unfold State.progBegin; simp only [State.cmp_bump, State.cmp_put]
@[simp] theorem State.mem_progBegin (s : State) (k : Nat) (total : Nat) : (s.progBegin k total).mem = s.mem := by unfold State.progBegin; simp only [State.mem_bump, State.mem_put]
@[simp] theorem State.busy_progBegin (s : State) (k : Nat) (total : Nat) : (s.progBegin k total).busy = s.busy := by unfold State.progBegin; simp only [State.busy_bump, State.busy_put]
@[simp] theorem State.out_progBegin (s : State) (k : Nat) (total : Nat) : (s.progBegin k total).out = s.out := by unfold State.progBegin; simp only [State.out_bump, State.out_put]
@[simp] theorem State.fresh_progBegin (s : State) (k : Nat) (total : Nat) : (s.progBegin k total).fresh = s.fresh := by unfold State.progBegin; simp only [State.fresh_bump, State.fresh_put]
@[simp] theorem State.pending_progBegin (s : State) (k : Nat) (total : Nat) : (s.progBegin k total).pending = s.pending := by unfold State.progBegin; simp only [State.pending_bump, State.pending_put]

/-! ### `State.progDone` -/

@[simp] theorem State.now_progDone (s : State) (k : Nat) (n : Nat) : (s.progDone k n).now = s.now := by unfold State.progDone; simp only [State.now_bumpBy]
@[simp] theorem State.boot_progDone (s : State) (k : Nat) (n : Nat) : (s.progDone k n).boot = s.boot := by unfold State.progDone; simp only [State.boot_bumpBy]
@[simp] theorem State.store_progDone (s : State) (k : Nat) (n : Nat) : (s.progDone k n).store = s.store := by unfold State.progDone; simp only [State.store_bumpBy]
@[simp] theorem State.wonel_progDone (s : State) (k : Nat) (n : Nat) : (s.progDone k n).wonel = s.wonel := by unfold State.progDone; simp only [State.wonel_bumpBy]
@[simp] theorem State.kce_progDone (s : State) (k : Nat) (n : Nat) : (s.progDone k n).kce = s.kce := by unfold State.progDone; simp only [State.kce_bumpBy]
@[simp] theorem State.flt_progDone (s : State) (k : Nat) (n : Nat) : (s.progDone k n).flt = s.flt := by unfold State.progDone; simp only [State.flt_bumpBy]
@[simp] theorem State.power_progDone (s : State) (k : Nat) (n : Nat) : (s.progDone k n).power = s.power := by unfold State.progDone; simp only [State.power_bumpBy]
@[simp] theorem State.lanes_progDone (s : State) (k : Nat) (n : Nat) : (s.progDone k n).lanes = s.lanes := by unfold State.progDone; simp only [State.lanes_bumpBy]
@[simp] theorem State.links_progDone (s : State) (k : Nat) (n : Nat) : (s.progDone k n).links = s.links := by unfold State.progDone; simp only [State.links_bumpBy]
@[simp] theorem State.pipes_progDone (s : State) (k : Nat) (n : Nat) : (s.progDone k n).pipes = s.pipes := by unfold State.progDone; simp only [State.pipes_bumpBy]
@[simp] theorem State.galley_progDone (s : State) (k : Nat) (n : Nat) : (s.progDone k n).galley = s.galley := by unfold State.progDone; simp only [State.galley_bumpBy]
@[simp] theorem State.sched_progDone (s : State) (k : Nat) (n : Nat) : (s.progDone k n).sched = s.sched := by unfold State.progDone; simp only [State.sched_bumpBy]
@[simp] theorem State.ports_progDone (s : State) (k : Nat) (n : Nat) : (s.progDone k n).ports = s.ports := by unfold State.progDone; simp only [State.ports_bumpBy]
@[simp] theorem State.tables_progDone (s : State) (k : Nat) (n : Nat) : (s.progDone k n).tables = s.tables := by unfold State.progDone; simp only [State.tables_bumpBy]
@[simp] theorem State.telem_progDone (s : State) (k : Nat) (n : Nat) : (s.progDone k n).telem = s.telem := by unfold State.progDone; simp only [State.telem_bumpBy]
@[simp] theorem State.tim_progDone (s : State) (k : Nat) (n : Nat) : (s.progDone k n).tim = s.tim := by unfold State.progDone; simp only [State.tim_bumpBy]
@[simp] theorem State.ptp_progDone (s : State) (k : Nat) (n : Nat) : (s.progDone k n).ptp = s.ptp := by unfold State.progDone; simp only [State.ptp_bumpBy]
@[simp] theorem State.cmp_progDone (s : State) (k : Nat) (n : Nat) : (s.progDone k n).cmp = s.cmp := by unfold State.progDone; simp only [State.cmp_bumpBy]
@[simp] theorem State.mem_progDone (s : State) (k : Nat) (n : Nat) : (s.progDone k n).mem = s.mem := by unfold State.progDone; simp only [State.mem_bumpBy]
@[simp] theorem State.busy_progDone (s : State) (k : Nat) (n : Nat) : (s.progDone k n).busy = s.busy := by unfold State.progDone; simp only [State.busy_bumpBy]
@[simp] theorem State.out_progDone (s : State) (k : Nat) (n : Nat) : (s.progDone k n).out = s.out := by unfold State.progDone; simp only [State.out_bumpBy]
@[simp] theorem State.fresh_progDone (s : State) (k : Nat) (n : Nat) : (s.progDone k n).fresh = s.fresh := by unfold State.progDone; simp only [State.fresh_bumpBy]
@[simp] theorem State.pending_progDone (s : State) (k : Nat) (n : Nat) : (s.progDone k n).pending = s.pending := by unfold State.progDone; simp only [State.pending_bumpBy]

/-! ### `State.progEnd` -/

@[simp] theorem State.now_progEnd (s : State) (k : Nat) (outcome : Nat) (restart : Nat) : (s.progEnd k outcome restart).now = s.now := by unfold State.progEnd; simp only [State.now_put]
@[simp] theorem State.boot_progEnd (s : State) (k : Nat) (outcome : Nat) (restart : Nat) : (s.progEnd k outcome restart).boot = s.boot := by unfold State.progEnd; simp only [State.boot_put]
@[simp] theorem State.store_progEnd (s : State) (k : Nat) (outcome : Nat) (restart : Nat) : (s.progEnd k outcome restart).store = s.store := by unfold State.progEnd; simp only [State.store_put]
@[simp] theorem State.wonel_progEnd (s : State) (k : Nat) (outcome : Nat) (restart : Nat) : (s.progEnd k outcome restart).wonel = s.wonel := by unfold State.progEnd; simp only [State.wonel_put]
@[simp] theorem State.kce_progEnd (s : State) (k : Nat) (outcome : Nat) (restart : Nat) : (s.progEnd k outcome restart).kce = s.kce := by unfold State.progEnd; simp only [State.kce_put]
@[simp] theorem State.flt_progEnd (s : State) (k : Nat) (outcome : Nat) (restart : Nat) : (s.progEnd k outcome restart).flt = s.flt := by unfold State.progEnd; simp only [State.flt_put]
@[simp] theorem State.power_progEnd (s : State) (k : Nat) (outcome : Nat) (restart : Nat) : (s.progEnd k outcome restart).power = s.power := by unfold State.progEnd; simp only [State.power_put]
@[simp] theorem State.lanes_progEnd (s : State) (k : Nat) (outcome : Nat) (restart : Nat) : (s.progEnd k outcome restart).lanes = s.lanes := by unfold State.progEnd; simp only [State.lanes_put]
@[simp] theorem State.links_progEnd (s : State) (k : Nat) (outcome : Nat) (restart : Nat) : (s.progEnd k outcome restart).links = s.links := by unfold State.progEnd; simp only [State.links_put]
@[simp] theorem State.pipes_progEnd (s : State) (k : Nat) (outcome : Nat) (restart : Nat) : (s.progEnd k outcome restart).pipes = s.pipes := by unfold State.progEnd; simp only [State.pipes_put]
@[simp] theorem State.galley_progEnd (s : State) (k : Nat) (outcome : Nat) (restart : Nat) : (s.progEnd k outcome restart).galley = s.galley := by unfold State.progEnd; simp only [State.galley_put]
@[simp] theorem State.sched_progEnd (s : State) (k : Nat) (outcome : Nat) (restart : Nat) : (s.progEnd k outcome restart).sched = s.sched := by unfold State.progEnd; simp only [State.sched_put]
@[simp] theorem State.ports_progEnd (s : State) (k : Nat) (outcome : Nat) (restart : Nat) : (s.progEnd k outcome restart).ports = s.ports := by unfold State.progEnd; simp only [State.ports_put]
@[simp] theorem State.tables_progEnd (s : State) (k : Nat) (outcome : Nat) (restart : Nat) : (s.progEnd k outcome restart).tables = s.tables := by unfold State.progEnd; simp only [State.tables_put]
@[simp] theorem State.telem_progEnd (s : State) (k : Nat) (outcome : Nat) (restart : Nat) : (s.progEnd k outcome restart).telem = s.telem := by unfold State.progEnd; simp only [State.telem_put]
@[simp] theorem State.tim_progEnd (s : State) (k : Nat) (outcome : Nat) (restart : Nat) : (s.progEnd k outcome restart).tim = s.tim := by unfold State.progEnd; simp only [State.tim_put]
@[simp] theorem State.ptp_progEnd (s : State) (k : Nat) (outcome : Nat) (restart : Nat) : (s.progEnd k outcome restart).ptp = s.ptp := by unfold State.progEnd; simp only [State.ptp_put]
@[simp] theorem State.cmp_progEnd (s : State) (k : Nat) (outcome : Nat) (restart : Nat) : (s.progEnd k outcome restart).cmp = s.cmp := by unfold State.progEnd; simp only [State.cmp_put]
@[simp] theorem State.mem_progEnd (s : State) (k : Nat) (outcome : Nat) (restart : Nat) : (s.progEnd k outcome restart).mem = s.mem := by unfold State.progEnd; simp only [State.mem_put]
@[simp] theorem State.busy_progEnd (s : State) (k : Nat) (outcome : Nat) (restart : Nat) : (s.progEnd k outcome restart).busy = s.busy := by unfold State.progEnd; simp only [State.busy_put]
@[simp] theorem State.out_progEnd (s : State) (k : Nat) (outcome : Nat) (restart : Nat) : (s.progEnd k outcome restart).out = s.out := by unfold State.progEnd; simp only [State.out_put]
@[simp] theorem State.fresh_progEnd (s : State) (k : Nat) (outcome : Nat) (restart : Nat) : (s.progEnd k outcome restart).fresh = s.fresh := by unfold State.progEnd; simp only [State.fresh_put]
@[simp] theorem State.pending_progEnd (s : State) (k : Nat) (outcome : Nat) (restart : Nat) : (s.progEnd k outcome restart).pending = s.pending := by unfold State.progEnd; simp only [State.pending_put]

/-! ### `State.latch` -/

@[simp] theorem State.now_latch (s : State) (bit : Nat) : (s.latch bit).now = s.now := by unfold State.latch; simp only [State.now_latchIf]
@[simp] theorem State.boot_latch (s : State) (bit : Nat) : (s.latch bit).boot = s.boot := by unfold State.latch; simp only [State.boot_latchIf]
@[simp] theorem State.store_latch (s : State) (bit : Nat) : (s.latch bit).store = s.store := by unfold State.latch; simp only [State.store_latchIf]
@[simp] theorem State.kce_latch (s : State) (bit : Nat) : (s.latch bit).kce = s.kce := by unfold State.latch; simp only [State.kce_latchIf]
@[simp] theorem State.flt_latch (s : State) (bit : Nat) : (s.latch bit).flt = s.flt := by unfold State.latch; simp only [State.flt_latchIf]
@[simp] theorem State.power_latch (s : State) (bit : Nat) : (s.latch bit).power = s.power := by unfold State.latch; simp only [State.power_latchIf]
@[simp] theorem State.lanes_latch (s : State) (bit : Nat) : (s.latch bit).lanes = s.lanes := by unfold State.latch; simp only [State.lanes_latchIf]
@[simp] theorem State.links_latch (s : State) (bit : Nat) : (s.latch bit).links = s.links := by unfold State.latch; simp only [State.links_latchIf]
@[simp] theorem State.pipes_latch (s : State) (bit : Nat) : (s.latch bit).pipes = s.pipes := by unfold State.latch; simp only [State.pipes_latchIf]
@[simp] theorem State.galley_latch (s : State) (bit : Nat) : (s.latch bit).galley = s.galley := by unfold State.latch; simp only [State.galley_latchIf]
@[simp] theorem State.sched_latch (s : State) (bit : Nat) : (s.latch bit).sched = s.sched := by unfold State.latch; simp only [State.sched_latchIf]
@[simp] theorem State.ports_latch (s : State) (bit : Nat) : (s.latch bit).ports = s.ports := by unfold State.latch; simp only [State.ports_latchIf]
@[simp] theorem State.tables_latch (s : State) (bit : Nat) : (s.latch bit).tables = s.tables := by unfold State.latch; simp only [State.tables_latchIf]
@[simp] theorem State.telem_latch (s : State) (bit : Nat) : (s.latch bit).telem = s.telem := by unfold State.latch; simp only [State.telem_latchIf]
@[simp] theorem State.tim_latch (s : State) (bit : Nat) : (s.latch bit).tim = s.tim := by unfold State.latch; simp only [State.tim_latchIf]
@[simp] theorem State.ptp_latch (s : State) (bit : Nat) : (s.latch bit).ptp = s.ptp := by unfold State.latch; simp only [State.ptp_latchIf]
@[simp] theorem State.cmp_latch (s : State) (bit : Nat) : (s.latch bit).cmp = s.cmp := by unfold State.latch; simp only [State.cmp_latchIf]
@[simp] theorem State.mem_latch (s : State) (bit : Nat) : (s.latch bit).mem = s.mem := by unfold State.latch; simp only [State.mem_latchIf]
@[simp] theorem State.dict_latch (s : State) (bit : Nat) : (s.latch bit).dict = s.dict := by unfold State.latch; simp only [State.dict_latchIf]
@[simp] theorem State.busy_latch (s : State) (bit : Nat) : (s.latch bit).busy = s.busy := by unfold State.latch; simp only [State.busy_latchIf]
@[simp] theorem State.out_latch (s : State) (bit : Nat) : (s.latch bit).out = s.out := by unfold State.latch; simp only [State.out_latchIf]
@[simp] theorem State.fresh_latch (s : State) (bit : Nat) : (s.latch bit).fresh = s.fresh := by unfold State.latch; simp only [State.fresh_latchIf]
@[simp] theorem State.pending_latch (s : State) (bit : Nat) : (s.latch bit).pending = s.pending := by unfold State.latch; simp only [State.pending_latchIf]
@[simp] theorem State.get_latch (s : State) (bit : Nat) (k : Nat) : (s.latch bit).get k = s.get k := by simp only [State.get, State.dict_latch]

/-! ### `State.latchLost` -/

@[simp] theorem State.now_latchLost (s : State) (bit : Nat) : (s.latchLost bit).now = s.now := by unfold State.latchLost; simp only [State.now_latchIf]
@[simp] theorem State.boot_latchLost (s : State) (bit : Nat) : (s.latchLost bit).boot = s.boot := by unfold State.latchLost; simp only [State.boot_latchIf]
@[simp] theorem State.store_latchLost (s : State) (bit : Nat) : (s.latchLost bit).store = s.store := by unfold State.latchLost; simp only [State.store_latchIf]
@[simp] theorem State.kce_latchLost (s : State) (bit : Nat) : (s.latchLost bit).kce = s.kce := by unfold State.latchLost; simp only [State.kce_latchIf]
@[simp] theorem State.flt_latchLost (s : State) (bit : Nat) : (s.latchLost bit).flt = s.flt := by unfold State.latchLost; simp only [State.flt_latchIf]
@[simp] theorem State.power_latchLost (s : State) (bit : Nat) : (s.latchLost bit).power = s.power := by unfold State.latchLost; simp only [State.power_latchIf]
@[simp] theorem State.lanes_latchLost (s : State) (bit : Nat) : (s.latchLost bit).lanes = s.lanes := by unfold State.latchLost; simp only [State.lanes_latchIf]
@[simp] theorem State.links_latchLost (s : State) (bit : Nat) : (s.latchLost bit).links = s.links := by unfold State.latchLost; simp only [State.links_latchIf]
@[simp] theorem State.pipes_latchLost (s : State) (bit : Nat) : (s.latchLost bit).pipes = s.pipes := by unfold State.latchLost; simp only [State.pipes_latchIf]
@[simp] theorem State.galley_latchLost (s : State) (bit : Nat) : (s.latchLost bit).galley = s.galley := by unfold State.latchLost; simp only [State.galley_latchIf]
@[simp] theorem State.sched_latchLost (s : State) (bit : Nat) : (s.latchLost bit).sched = s.sched := by unfold State.latchLost; simp only [State.sched_latchIf]
@[simp] theorem State.ports_latchLost (s : State) (bit : Nat) : (s.latchLost bit).ports = s.ports := by unfold State.latchLost; simp only [State.ports_latchIf]
@[simp] theorem State.tables_latchLost (s : State) (bit : Nat) : (s.latchLost bit).tables = s.tables := by unfold State.latchLost; simp only [State.tables_latchIf]
@[simp] theorem State.telem_latchLost (s : State) (bit : Nat) : (s.latchLost bit).telem = s.telem := by unfold State.latchLost; simp only [State.telem_latchIf]
@[simp] theorem State.tim_latchLost (s : State) (bit : Nat) : (s.latchLost bit).tim = s.tim := by unfold State.latchLost; simp only [State.tim_latchIf]
@[simp] theorem State.ptp_latchLost (s : State) (bit : Nat) : (s.latchLost bit).ptp = s.ptp := by unfold State.latchLost; simp only [State.ptp_latchIf]
@[simp] theorem State.cmp_latchLost (s : State) (bit : Nat) : (s.latchLost bit).cmp = s.cmp := by unfold State.latchLost; simp only [State.cmp_latchIf]
@[simp] theorem State.mem_latchLost (s : State) (bit : Nat) : (s.latchLost bit).mem = s.mem := by unfold State.latchLost; simp only [State.mem_latchIf]
@[simp] theorem State.dict_latchLost (s : State) (bit : Nat) : (s.latchLost bit).dict = s.dict := by unfold State.latchLost; simp only [State.dict_latchIf]
@[simp] theorem State.busy_latchLost (s : State) (bit : Nat) : (s.latchLost bit).busy = s.busy := by unfold State.latchLost; simp only [State.busy_latchIf]
@[simp] theorem State.out_latchLost (s : State) (bit : Nat) : (s.latchLost bit).out = s.out := by unfold State.latchLost; simp only [State.out_latchIf]
@[simp] theorem State.fresh_latchLost (s : State) (bit : Nat) : (s.latchLost bit).fresh = s.fresh := by unfold State.latchLost; simp only [State.fresh_latchIf]
@[simp] theorem State.pending_latchLost (s : State) (bit : Nat) : (s.latchLost bit).pending = s.pending := by unfold State.latchLost; simp only [State.pending_latchIf]
@[simp] theorem State.get_latchLost (s : State) (bit : Nat) (k : Nat) : (s.latchLost bit).get k = s.get k := by simp only [State.get, State.dict_latchLost]

/-! ### `State.cmpPush` -/

@[simp] theorem State.now_cmpPush (s : State) (c : Nat) : (s.cmpPush c).now = s.now := by unfold State.cmpPush; simp only [State.now_modCtx, State.now_useFree]
@[simp] theorem State.boot_cmpPush (s : State) (c : Nat) : (s.cmpPush c).boot = s.boot := by unfold State.cmpPush; simp only [State.boot_modCtx, State.boot_useFree]
@[simp] theorem State.store_cmpPush (s : State) (c : Nat) : (s.cmpPush c).store = s.store := by unfold State.cmpPush; simp only [State.store_modCtx, State.store_useFree]
@[simp] theorem State.wonel_cmpPush (s : State) (c : Nat) : (s.cmpPush c).wonel = s.wonel := by unfold State.cmpPush; simp only [State.wonel_modCtx, State.wonel_useFree]
@[simp] theorem State.kce_cmpPush (s : State) (c : Nat) : (s.cmpPush c).kce = s.kce := by unfold State.cmpPush; simp only [State.kce_modCtx, State.kce_useFree]
@[simp] theorem State.flt_cmpPush (s : State) (c : Nat) : (s.cmpPush c).flt = s.flt := by unfold State.cmpPush; simp only [State.flt_modCtx, State.flt_useFree]
@[simp] theorem State.power_cmpPush (s : State) (c : Nat) : (s.cmpPush c).power = s.power := by unfold State.cmpPush; simp only [State.power_modCtx, State.power_useFree]
@[simp] theorem State.lanes_cmpPush (s : State) (c : Nat) : (s.cmpPush c).lanes = s.lanes := by unfold State.cmpPush; simp only [State.lanes_modCtx, State.lanes_useFree]
@[simp] theorem State.links_cmpPush (s : State) (c : Nat) : (s.cmpPush c).links = s.links := by unfold State.cmpPush; simp only [State.links_modCtx, State.links_useFree]
@[simp] theorem State.pipes_cmpPush (s : State) (c : Nat) : (s.cmpPush c).pipes = s.pipes := by unfold State.cmpPush; simp only [State.pipes_modCtx, State.pipes_useFree]
@[simp] theorem State.galley_cmpPush (s : State) (c : Nat) : (s.cmpPush c).galley = s.galley := by unfold State.cmpPush; simp only [State.galley_modCtx, State.galley_useFree]
@[simp] theorem State.sched_cmpPush (s : State) (c : Nat) : (s.cmpPush c).sched = s.sched := by unfold State.cmpPush; simp only [State.sched_modCtx, State.sched_useFree]
@[simp] theorem State.ports_cmpPush (s : State) (c : Nat) : (s.cmpPush c).ports = s.ports := by unfold State.cmpPush; simp only [State.ports_modCtx, State.ports_useFree]
@[simp] theorem State.tables_cmpPush (s : State) (c : Nat) : (s.cmpPush c).tables = s.tables := by unfold State.cmpPush; simp only [State.tables_modCtx, State.tables_useFree]
@[simp] theorem State.telem_cmpPush (s : State) (c : Nat) : (s.cmpPush c).telem = s.telem := by unfold State.cmpPush; simp only [State.telem_modCtx, State.telem_useFree]
@[simp] theorem State.tim_cmpPush (s : State) (c : Nat) : (s.cmpPush c).tim = s.tim := by unfold State.cmpPush; simp only [State.tim_modCtx, State.tim_useFree]
@[simp] theorem State.ptp_cmpPush (s : State) (c : Nat) : (s.cmpPush c).ptp = s.ptp := by unfold State.cmpPush; simp only [State.ptp_modCtx, State.ptp_useFree]
@[simp] theorem State.mem_cmpPush (s : State) (c : Nat) : (s.cmpPush c).mem = s.mem := by unfold State.cmpPush; simp only [State.mem_modCtx, State.mem_useFree]
@[simp] theorem State.dict_cmpPush (s : State) (c : Nat) : (s.cmpPush c).dict = s.dict := by unfold State.cmpPush; simp only [State.dict_modCtx, State.dict_useFree]
@[simp] theorem State.busy_cmpPush (s : State) (c : Nat) : (s.cmpPush c).busy = s.busy := by unfold State.cmpPush; simp only [State.busy_modCtx, State.busy_useFree]
@[simp] theorem State.out_cmpPush (s : State) (c : Nat) : (s.cmpPush c).out = s.out := by unfold State.cmpPush; simp only [State.out_modCtx, State.out_useFree]
@[simp] theorem State.pending_cmpPush (s : State) (c : Nat) : (s.cmpPush c).pending = s.pending := by unfold State.cmpPush; simp only [State.pending_modCtx, State.pending_useFree]
@[simp] theorem State.get_cmpPush (s : State) (c : Nat) (k : Nat) : (s.cmpPush c).get k = s.get k := by simp only [State.get, State.dict_cmpPush]

/-! ### `State.cmpTake` -/

@[simp] theorem State.now_cmpTake (s : State) (c : Nat) : (s.cmpTake c).now = s.now := by unfold State.cmpTake; simp only [State.now_modCtx]
@[simp] theorem State.boot_cmpTake (s : State) (c : Nat) : (s.cmpTake c).boot = s.boot := by unfold State.cmpTake; simp only [State.boot_modCtx]
@[simp] theorem State.store_cmpTake (s : State) (c : Nat) : (s.cmpTake c).store = s.store := by unfold State.cmpTake; simp only [State.store_modCtx]
@[simp] theorem State.wonel_cmpTake (s : State) (c : Nat) : (s.cmpTake c).wonel = s.wonel := by unfold State.cmpTake; simp only [State.wonel_modCtx]
@[simp] theorem State.kce_cmpTake (s : State) (c : Nat) : (s.cmpTake c).kce = s.kce := by unfold State.cmpTake; simp only [State.kce_modCtx]
@[simp] theorem State.flt_cmpTake (s : State) (c : Nat) : (s.cmpTake c).flt = s.flt := by unfold State.cmpTake; simp only [State.flt_modCtx]
@[simp] theorem State.power_cmpTake (s : State) (c : Nat) : (s.cmpTake c).power = s.power := by unfold State.cmpTake; simp only [State.power_modCtx]
@[simp] theorem State.lanes_cmpTake (s : State) (c : Nat) : (s.cmpTake c).lanes = s.lanes := by unfold State.cmpTake; simp only [State.lanes_modCtx]
@[simp] theorem State.links_cmpTake (s : State) (c : Nat) : (s.cmpTake c).links = s.links := by unfold State.cmpTake; simp only [State.links_modCtx]
@[simp] theorem State.pipes_cmpTake (s : State) (c : Nat) : (s.cmpTake c).pipes = s.pipes := by unfold State.cmpTake; simp only [State.pipes_modCtx]
@[simp] theorem State.galley_cmpTake (s : State) (c : Nat) : (s.cmpTake c).galley = s.galley := by unfold State.cmpTake; simp only [State.galley_modCtx]
@[simp] theorem State.sched_cmpTake (s : State) (c : Nat) : (s.cmpTake c).sched = s.sched := by unfold State.cmpTake; simp only [State.sched_modCtx]
@[simp] theorem State.ports_cmpTake (s : State) (c : Nat) : (s.cmpTake c).ports = s.ports := by unfold State.cmpTake; simp only [State.ports_modCtx]
@[simp] theorem State.tables_cmpTake (s : State) (c : Nat) : (s.cmpTake c).tables = s.tables := by unfold State.cmpTake; simp only [State.tables_modCtx]
@[simp] theorem State.telem_cmpTake (s : State) (c : Nat) : (s.cmpTake c).telem = s.telem := by unfold State.cmpTake; simp only [State.telem_modCtx]
@[simp] theorem State.tim_cmpTake (s : State) (c : Nat) : (s.cmpTake c).tim = s.tim := by unfold State.cmpTake; simp only [State.tim_modCtx]
@[simp] theorem State.ptp_cmpTake (s : State) (c : Nat) : (s.cmpTake c).ptp = s.ptp := by unfold State.cmpTake; simp only [State.ptp_modCtx]
@[simp] theorem State.mem_cmpTake (s : State) (c : Nat) : (s.cmpTake c).mem = s.mem := by unfold State.cmpTake; simp only [State.mem_modCtx]
@[simp] theorem State.dict_cmpTake (s : State) (c : Nat) : (s.cmpTake c).dict = s.dict := by unfold State.cmpTake; simp only [State.dict_modCtx]
@[simp] theorem State.busy_cmpTake (s : State) (c : Nat) : (s.cmpTake c).busy = s.busy := by unfold State.cmpTake; simp only [State.busy_modCtx]
@[simp] theorem State.out_cmpTake (s : State) (c : Nat) : (s.cmpTake c).out = s.out := by unfold State.cmpTake; simp only [State.out_modCtx]
@[simp] theorem State.fresh_cmpTake (s : State) (c : Nat) : (s.cmpTake c).fresh = s.fresh := by unfold State.cmpTake; simp only [State.fresh_modCtx]
@[simp] theorem State.pending_cmpTake (s : State) (c : Nat) : (s.cmpTake c).pending = s.pending := by unfold State.cmpTake; simp only [State.pending_modCtx]
@[simp] theorem State.get_cmpTake (s : State) (c : Nat) (k : Nat) : (s.cmpTake c).get k = s.get k := by simp only [State.get, State.dict_cmpTake]

/-! ### `State.modDlane` -/

@[simp] theorem State.now_modDlane (s : State) (q : Nat) (dir : Nat) (lane : Nat) (f : DLane → DLane) : (s.modDlane q dir lane f).now = s.now := by unfold State.modDlane; simp only [State.now_modLink]
@[simp] theorem State.boot_modDlane (s : State) (q : Nat) (dir : Nat) (lane : Nat) (f : DLane → DLane) : (s.modDlane q dir lane f).boot = s.boot := by unfold State.modDlane; simp only [State.boot_modLink]
@[simp] theorem State.store_modDlane (s : State) (q : Nat) (dir : Nat) (lane : Nat) (f : DLane → DLane) : (s.modDlane q dir lane f).store = s.store := by unfold State.modDlane; simp only [State.store_modLink]
@[simp] theorem State.wonel_modDlane (s : State) (q : Nat) (dir : Nat) (lane : Nat) (f : DLane → DLane) : (s.modDlane q dir lane f).wonel = s.wonel := by unfold State.modDlane; simp only [State.wonel_modLink]
@[simp] theorem State.kce_modDlane (s : State) (q : Nat) (dir : Nat) (lane : Nat) (f : DLane → DLane) : (s.modDlane q dir lane f).kce = s.kce := by unfold State.modDlane; simp only [State.kce_modLink]
@[simp] theorem State.flt_modDlane (s : State) (q : Nat) (dir : Nat) (lane : Nat) (f : DLane → DLane) : (s.modDlane q dir lane f).flt = s.flt := by unfold State.modDlane; simp only [State.flt_modLink]
@[simp] theorem State.power_modDlane (s : State) (q : Nat) (dir : Nat) (lane : Nat) (f : DLane → DLane) : (s.modDlane q dir lane f).power = s.power := by unfold State.modDlane; simp only [State.power_modLink]
@[simp] theorem State.lanes_modDlane (s : State) (q : Nat) (dir : Nat) (lane : Nat) (f : DLane → DLane) : (s.modDlane q dir lane f).lanes = s.lanes := by unfold State.modDlane; simp only [State.lanes_modLink]
@[simp] theorem State.pipes_modDlane (s : State) (q : Nat) (dir : Nat) (lane : Nat) (f : DLane → DLane) : (s.modDlane q dir lane f).pipes = s.pipes := by unfold State.modDlane; simp only [State.pipes_modLink]
@[simp] theorem State.galley_modDlane (s : State) (q : Nat) (dir : Nat) (lane : Nat) (f : DLane → DLane) : (s.modDlane q dir lane f).galley = s.galley := by unfold State.modDlane; simp only [State.galley_modLink]
@[simp] theorem State.sched_modDlane (s : State) (q : Nat) (dir : Nat) (lane : Nat) (f : DLane → DLane) : (s.modDlane q dir lane f).sched = s.sched := by unfold State.modDlane; simp only [State.sched_modLink]
@[simp] theorem State.ports_modDlane (s : State) (q : Nat) (dir : Nat) (lane : Nat) (f : DLane → DLane) : (s.modDlane q dir lane f).ports = s.ports := by unfold State.modDlane; simp only [State.ports_modLink]
@[simp] theorem State.tables_modDlane (s : State) (q : Nat) (dir : Nat) (lane : Nat) (f : DLane → DLane) : (s.modDlane q dir lane f).tables = s.tables := by unfold State.modDlane; simp only [State.tables_modLink]
@[simp] theorem State.telem_modDlane (s : State) (q : Nat) (dir : Nat) (lane : Nat) (f : DLane → DLane) : (s.modDlane q dir lane f).telem = s.telem := by unfold State.modDlane; simp only [State.telem_modLink]
@[simp] theorem State.tim_modDlane (s : State) (q : Nat) (dir : Nat) (lane : Nat) (f : DLane → DLane) : (s.modDlane q dir lane f).tim = s.tim := by unfold State.modDlane; simp only [State.tim_modLink]
@[simp] theorem State.ptp_modDlane (s : State) (q : Nat) (dir : Nat) (lane : Nat) (f : DLane → DLane) : (s.modDlane q dir lane f).ptp = s.ptp := by unfold State.modDlane; simp only [State.ptp_modLink]
@[simp] theorem State.cmp_modDlane (s : State) (q : Nat) (dir : Nat) (lane : Nat) (f : DLane → DLane) : (s.modDlane q dir lane f).cmp = s.cmp := by unfold State.modDlane; simp only [State.cmp_modLink]
@[simp] theorem State.mem_modDlane (s : State) (q : Nat) (dir : Nat) (lane : Nat) (f : DLane → DLane) : (s.modDlane q dir lane f).mem = s.mem := by unfold State.modDlane; simp only [State.mem_modLink]
@[simp] theorem State.dict_modDlane (s : State) (q : Nat) (dir : Nat) (lane : Nat) (f : DLane → DLane) : (s.modDlane q dir lane f).dict = s.dict := by unfold State.modDlane; simp only [State.dict_modLink]
@[simp] theorem State.busy_modDlane (s : State) (q : Nat) (dir : Nat) (lane : Nat) (f : DLane → DLane) : (s.modDlane q dir lane f).busy = s.busy := by unfold State.modDlane; simp only [State.busy_modLink]
@[simp] theorem State.out_modDlane (s : State) (q : Nat) (dir : Nat) (lane : Nat) (f : DLane → DLane) : (s.modDlane q dir lane f).out = s.out := by unfold State.modDlane; simp only [State.out_modLink]
@[simp] theorem State.fresh_modDlane (s : State) (q : Nat) (dir : Nat) (lane : Nat) (f : DLane → DLane) : (s.modDlane q dir lane f).fresh = s.fresh := by unfold State.modDlane; simp only [State.fresh_modLink]
@[simp] theorem State.pending_modDlane (s : State) (q : Nat) (dir : Nat) (lane : Nat) (f : DLane → DLane) : (s.modDlane q dir lane f).pending = s.pending := by unfold State.modDlane; simp only [State.pending_modLink]
@[simp] theorem State.get_modDlane (s : State) (q : Nat) (dir : Nat) (lane : Nat) (f : DLane → DLane) (k : Nat) : (s.modDlane q dir lane f).get k = s.get k := by simp only [State.get, State.dict_modDlane]

/-! ### `State.modLearner` -/

@[simp] theorem State.now_modLearner (s : State) (k : Nat) (f : Learner → Learner) : (s.modLearner k f).now = s.now := by unfold State.modLearner; simp only [State.now_modTables]
@[simp] theorem State.boot_modLearner (s : State) (k : Nat) (f : Learner → Learner) : (s.modLearner k f).boot = s.boot := by unfold State.modLearner; simp only [State.boot_modTables]
@[simp] theorem State.store_modLearner (s : State) (k : Nat) (f : Learner → Learner) : (s.modLearner k f).store = s.store := by unfold State.modLearner; simp only [State.store_modTables]
@[simp] theorem State.wonel_modLearner (s : State) (k : Nat) (f : Learner → Learner) : (s.modLearner k f).wonel = s.wonel := by unfold State.modLearner; simp only [State.wonel_modTables]
@[simp] theorem State.kce_modLearner (s : State) (k : Nat) (f : Learner → Learner) : (s.modLearner k f).kce = s.kce := by unfold State.modLearner; simp only [State.kce_modTables]
@[simp] theorem State.flt_modLearner (s : State) (k : Nat) (f : Learner → Learner) : (s.modLearner k f).flt = s.flt := by unfold State.modLearner; simp only [State.flt_modTables]
@[simp] theorem State.power_modLearner (s : State) (k : Nat) (f : Learner → Learner) : (s.modLearner k f).power = s.power := by unfold State.modLearner; simp only [State.power_modTables]
@[simp] theorem State.lanes_modLearner (s : State) (k : Nat) (f : Learner → Learner) : (s.modLearner k f).lanes = s.lanes := by unfold State.modLearner; simp only [State.lanes_modTables]
@[simp] theorem State.links_modLearner (s : State) (k : Nat) (f : Learner → Learner) : (s.modLearner k f).links = s.links := by unfold State.modLearner; simp only [State.links_modTables]
@[simp] theorem State.pipes_modLearner (s : State) (k : Nat) (f : Learner → Learner) : (s.modLearner k f).pipes = s.pipes := by unfold State.modLearner; simp only [State.pipes_modTables]
@[simp] theorem State.galley_modLearner (s : State) (k : Nat) (f : Learner → Learner) : (s.modLearner k f).galley = s.galley := by unfold State.modLearner; simp only [State.galley_modTables]
@[simp] theorem State.sched_modLearner (s : State) (k : Nat) (f : Learner → Learner) : (s.modLearner k f).sched = s.sched := by unfold State.modLearner; simp only [State.sched_modTables]
@[simp] theorem State.ports_modLearner (s : State) (k : Nat) (f : Learner → Learner) : (s.modLearner k f).ports = s.ports := by unfold State.modLearner; simp only [State.ports_modTables]
@[simp] theorem State.telem_modLearner (s : State) (k : Nat) (f : Learner → Learner) : (s.modLearner k f).telem = s.telem := by unfold State.modLearner; simp only [State.telem_modTables]
@[simp] theorem State.tim_modLearner (s : State) (k : Nat) (f : Learner → Learner) : (s.modLearner k f).tim = s.tim := by unfold State.modLearner; simp only [State.tim_modTables]
@[simp] theorem State.ptp_modLearner (s : State) (k : Nat) (f : Learner → Learner) : (s.modLearner k f).ptp = s.ptp := by unfold State.modLearner; simp only [State.ptp_modTables]
@[simp] theorem State.cmp_modLearner (s : State) (k : Nat) (f : Learner → Learner) : (s.modLearner k f).cmp = s.cmp := by unfold State.modLearner; simp only [State.cmp_modTables]
@[simp] theorem State.mem_modLearner (s : State) (k : Nat) (f : Learner → Learner) : (s.modLearner k f).mem = s.mem := by unfold State.modLearner; simp only [State.mem_modTables]
@[simp] theorem State.dict_modLearner (s : State) (k : Nat) (f : Learner → Learner) : (s.modLearner k f).dict = s.dict := by unfold State.modLearner; simp only [State.dict_modTables]
@[simp] theorem State.busy_modLearner (s : State) (k : Nat) (f : Learner → Learner) : (s.modLearner k f).busy = s.busy := by unfold State.modLearner; simp only [State.busy_modTables]
@[simp] theorem State.out_modLearner (s : State) (k : Nat) (f : Learner → Learner) : (s.modLearner k f).out = s.out := by unfold State.modLearner; simp only [State.out_modTables]
@[simp] theorem State.fresh_modLearner (s : State) (k : Nat) (f : Learner → Learner) : (s.modLearner k f).fresh = s.fresh := by unfold State.modLearner; simp only [State.fresh_modTables]
@[simp] theorem State.pending_modLearner (s : State) (k : Nat) (f : Learner → Learner) : (s.modLearner k f).pending = s.pending := by unfold State.modLearner; simp only [State.pending_modTables]
@[simp] theorem State.get_modLearner (s : State) (k : Nat) (f : Learner → Learner) (j : Nat) : (s.modLearner k f).get j = s.get j := by simp only [State.get, State.dict_modLearner]

/-! ### `State.pmb` -/

@[simp] theorem State.now_pmb (s : State) (r : Nat) (cmd : Nat) (data : Nat) : (s.pmb r cmd data).now = s.now := by unfold State.pmb; simp only [State.now_emit]
@[simp] theorem State.boot_pmb (s : State) (r : Nat) (cmd : Nat) (data : Nat) : (s.pmb r cmd data).boot = s.boot := by unfold State.pmb; simp only [State.boot_emit]
@[simp] theorem State.store_pmb (s : State) (r : Nat) (cmd : Nat) (data : Nat) : (s.pmb r cmd data).store = s.store := by unfold State.pmb; simp only [State.store_emit]
@[simp] theorem State.wonel_pmb (s : State) (r : Nat) (cmd : Nat) (data : Nat) : (s.pmb r cmd data).wonel = s.wonel := by unfold State.pmb; simp only [State.wonel_emit]
@[simp] theorem State.kce_pmb (s : State) (r : Nat) (cmd : Nat) (data : Nat) : (s.pmb r cmd data).kce = s.kce := by unfold State.pmb; simp only [State.kce_emit]
@[simp] theorem State.flt_pmb (s : State) (r : Nat) (cmd : Nat) (data : Nat) : (s.pmb r cmd data).flt = s.flt := by unfold State.pmb; simp only [State.flt_emit]
@[simp] theorem State.power_pmb (s : State) (r : Nat) (cmd : Nat) (data : Nat) : (s.pmb r cmd data).power = s.power := by unfold State.pmb; simp only [State.power_emit]
@[simp] theorem State.lanes_pmb (s : State) (r : Nat) (cmd : Nat) (data : Nat) : (s.pmb r cmd data).lanes = s.lanes := by unfold State.pmb; simp only [State.lanes_emit]
@[simp] theorem State.links_pmb (s : State) (r : Nat) (cmd : Nat) (data : Nat) : (s.pmb r cmd data).links = s.links := by unfold State.pmb; simp only [State.links_emit]
@[simp] theorem State.pipes_pmb (s : State) (r : Nat) (cmd : Nat) (data : Nat) : (s.pmb r cmd data).pipes = s.pipes := by unfold State.pmb; simp only [State.pipes_emit]
@[simp] theorem State.galley_pmb (s : State) (r : Nat) (cmd : Nat) (data : Nat) : (s.pmb r cmd data).galley = s.galley := by unfold State.pmb; simp only [State.galley_emit]
@[simp] theorem State.sched_pmb (s : State) (r : Nat) (cmd : Nat) (data : Nat) : (s.pmb r cmd data).sched = s.sched := by unfold State.pmb; simp only [State.sched_emit]
@[simp] theorem State.ports_pmb (s : State) (r : Nat) (cmd : Nat) (data : Nat) : (s.pmb r cmd data).ports = s.ports := by unfold State.pmb; simp only [State.ports_emit]
@[simp] theorem State.tables_pmb (s : State) (r : Nat) (cmd : Nat) (data : Nat) : (s.pmb r cmd data).tables = s.tables := by unfold State.pmb; simp only [State.tables_emit]
@[simp] theorem State.telem_pmb (s : State) (r : Nat) (cmd : Nat) (data : Nat) : (s.pmb r cmd data).telem = s.telem := by unfold State.pmb; simp only [State.telem_emit]
@[simp] theorem State.tim_pmb (s : State) (r : Nat) (cmd : Nat) (data : Nat) : (s.pmb r cmd data).tim = s.tim := by unfold State.pmb; simp only [State.tim_emit]
@[simp] theorem State.ptp_pmb (s : State) (r : Nat) (cmd : Nat) (data : Nat) : (s.pmb r cmd data).ptp = s.ptp := by unfold State.pmb; simp only [State.ptp_emit]
@[simp] theorem State.cmp_pmb (s : State) (r : Nat) (cmd : Nat) (data : Nat) : (s.pmb r cmd data).cmp = s.cmp := by unfold State.pmb; simp only [State.cmp_emit]
@[simp] theorem State.mem_pmb (s : State) (r : Nat) (cmd : Nat) (data : Nat) : (s.pmb r cmd data).mem = s.mem := by unfold State.pmb; simp only [State.mem_emit]
@[simp] theorem State.dict_pmb (s : State) (r : Nat) (cmd : Nat) (data : Nat) : (s.pmb r cmd data).dict = s.dict := by unfold State.pmb; simp only [State.dict_emit]
@[simp] theorem State.busy_pmb (s : State) (r : Nat) (cmd : Nat) (data : Nat) : (s.pmb r cmd data).busy = s.busy := by unfold State.pmb; simp only [State.busy_emit]
@[simp] theorem State.fresh_pmb (s : State) (r : Nat) (cmd : Nat) (data : Nat) : (s.pmb r cmd data).fresh = s.fresh := by unfold State.pmb; simp only [State.fresh_emit]
@[simp] theorem State.pending_pmb (s : State) (r : Nat) (cmd : Nat) (data : Nat) : (s.pmb r cmd data).pending = s.pending := by unfold State.pmb; simp only [State.pending_emit]
@[simp] theorem State.get_pmb (s : State) (r : Nat) (cmd : Nat) (data : Nat) (k : Nat) : (s.pmb r cmd data).get k = s.get k := by simp only [State.get, State.dict_pmb]

end Sys2Proof.Machine
end

