-- ==== Sys2Proof/Laws/Kept.lean ====
section
/-! SUPPORT. What a change of the state keeps, in one relation: every part outside a list, the number of units, and the bounded form. The lemma
`<name>_kept` of each operation says once everything the operation can change. -/

namespace Sys2Proof.Machine
open Sys2Proof

/-! ### Lists and canonical maps -/

@[simp] theorem listMod_length {α : Type} (l : List α) (i : Nat) (f : α → α) : (listMod l i f).length = l.length := by
  induction l generalizing i with
  | nil => rfl
  | cons x t ih => cases i with
    | zero => rfl
    | succ n => simp [listMod, ih]

@[simp] theorem listSet_length {α : Type} (l : List α) (i : Nat) (x : α) : (listSet l i x).length = l.length := by simp [listSet]

theorem smWfFrom_mono {α : Type} [DecidableEq α] (d : Nat → α) (m : List (Nat × α)) {lo lo' : Nat} (h : lo' ≤ lo)
    (w : smWfFrom d lo m = true) : smWfFrom d lo' m = true := by
  cases m with
  | nil => rfl
  | cons e t =>
    obtain ⟨k, v⟩ := e
    simp only [smWfFrom, Bool.and_eq_true, decide_eq_true_eq] at *
    exact ⟨⟨by omega, w.1.2⟩, w.2⟩

theorem smWfFrom_insert {α : Type} [DecidableEq α] (d : Nat → α) (k : Nat) (x : α) (hx : x ≠ d k) (m : List (Nat × α)) (lo : Nat) (hl : lo ≤ k)
    (w : smWfFrom d lo m = true) : smWfFrom d lo (smInsert m k x) = true := by
  induction m generalizing lo with
  | nil => simp [smInsert, smWfFrom, hl, hx]
  | cons e t ih =>
    obtain ⟨k', v⟩ := e
    simp only [smWfFrom, Bool.and_eq_true, decide_eq_true_eq] at w
    simp only [smInsert]
    split
    · subst k; simp [smWfFrom, hl, hx, w.2]
    · split
      · simp only [smWfFrom, Bool.and_eq_true, decide_eq_true_eq]
        exact ⟨⟨hl, hx⟩, ⟨by omega, w.1.2⟩, w.2⟩
      · simp only [smWfFrom, Bool.and_eq_true, decide_eq_true_eq]
        exact ⟨w.1, ih (k' + 1) (by omega) w.2⟩

theorem smWfFrom_erase {α : Type} [DecidableEq α] (d : Nat → α) (k : Nat) (m : List (Nat × α)) (lo : Nat)
    (w : smWfFrom d lo m = true) : smWfFrom d lo (smErase m k) = true := by
  induction m generalizing lo with
  | nil => rfl
  | cons e t ih =>
    obtain ⟨k', v⟩ := e
    simp only [smWfFrom, Bool.and_eq_true, decide_eq_true_eq] at w
    simp only [smErase]
    split
    · exact smWfFrom_mono d _ (by omega) (ih (k' + 1) w.2)
    · simp only [smWfFrom, Bool.and_eq_true, decide_eq_true_eq]
      exact ⟨w.1, ih (k' + 1) w.2⟩

theorem smWf_set {α : Type} [DecidableEq α] (d : Nat → α) (k : Nat) (x : α) (m : List (Nat × α)) (w : smWf d m = true) :
    smWf d (smSet (d k) m k x) = true := by
  unfold smSet
  split
  · exact smWfFrom_erase d k m 0 w
  · rename_i h
    exact smWfFrom_insert d k x h m 0 (by omega) w

theorem smWfFrom_filter {α : Type} [DecidableEq α] (d : Nat → α) (p : Nat × α → Bool) (m : List (Nat × α)) (lo : Nat)
    (w : smWfFrom d lo m = true) : smWfFrom d lo (m.filter p) = true := by
  induction m generalizing lo with
  | nil => rfl
  | cons e t ih =>
    obtain ⟨k', v⟩ := e
    simp only [smWfFrom, Bool.and_eq_true, decide_eq_true_eq] at w
    simp only [List.filter]
    split
    · simp only [smWfFrom, Bool.and_eq_true, decide_eq_true_eq]; exact ⟨w.1, ih _ w.2⟩
    · exact smWfFrom_mono d _ (by omega) (ih _ w.2)

/-! ### The relation -/

/-- From `z` to `x` every part outside `l` is kept, every object outside `K` reads as it did, no unit is lost, and the bounded form is kept. -/
def Kept (l : List Part) (K : Nat → Prop) (z x : State) : Prop :=
  unchangedBut l z x ∧ (∀ k, ¬ K k → x.get k = z.get k) ∧ x.units = z.units ∧ (z.bounded = true → x.bounded = true)

/-- The same of an operation that answers a state only sometimes. -/
def KeptSome {α : Type} (l : List Part) (K : Nat → Prop) (z : State) (e : Option α) (f : α → State) : Prop := ∀ y, e = some y → Kept l K z (f y)

/-- The objects that the ladder of reactions may change are in `K` (R480 to R486). -/
structure ReactKeys (K : Nat → Prop) : Prop where
  events : K Obj.FLT_EVENTS
  lost : K Obj.FLT_EVENT_LOST
  rungs : K Obj.FLT_RUNGS
  state : K Obj.FLT_STATE
  cause : K Obj.ID_SAFE_CAUSE
  shed (q : Nat) : K (Obj.QD_OCTETS_SHED q)

/-- The objects that a read under a code may change are in `K` (R457 to R470, R490). -/
structure CodedKeys (K : Nat → Prop) : Prop extends ReactKeys K where
  ue (k : Nat) : K (Obj.FLT_MI_UE k)
  ce (k : Nat) : K (Obj.FLT_MI_CE k)
  last (k : Nat) : K (Obj.FLT_MI_LAST k)
  labelUe (c : Nat) : K (Obj.CHS_LABEL_UE c)
  labelCe (c : Nat) : K (Obj.CHS_LABEL_CE c)
  nhUe (c : Nat) : K (Obj.CHS_NH_UE c)
  nhCe (c : Nat) : K (Obj.CHS_NH_CE c)
  mismatch (c : Nat) : K (Obj.CHS_LPM_MISMATCH c)
  parity (c : Nat) : K (Obj.CHS_LPM_PARITY c)
  lrn (k : Nat) : K (Obj.TBL_LRN_UNCORR k)
  fetchUe : K Obj.CMP_FETCH_UE
  fetchCe : K Obj.CMP_FETCH_CE
  injArm : K Obj.FLT_INJ_ARM
  injDone : K Obj.FLT_INJ_DONE
  injLeft : K Obj.FLT_INJ_LEFT
  injCoincident : K Obj.FLT_INJ_COINCIDENT

/-- The objects that taking and returning buffers may change are in `K` (R320 to R327). -/
structure BufferKeys (K : Nat → Prop) : Prop extends CodedKeys K where
  logged : K Obj.FLT_DIAG_LOGGED
  galLost : K Obj.GAL_LOST
  ptrFaults : K Obj.GAL_PTR_FAULTS
  quarantined : K Obj.GAL_QUARANTINED
  quarLast : K Obj.GAL_QUAR_LAST

theorem BufferKeys.ofAll {K : Nat → Prop} (h : ∀ k, K k) : BufferKeys K := by
  constructor <;> first | exact h _ | (constructor <;> first | exact h _ | (constructor <;> first | exact h _ | intro _; exact h _) | intro _; exact h _)

namespace Kept

variable {l : List Part} {K : Nat → Prop} {z x : State}

theorem refl (l : List Part) (K : Nat → Prop) (z : State) : Kept l K z z := ⟨fun p _ => by cases p <;> rfl, fun _ _ => rfl, rfl, id⟩

theorem trans {y : State} (h1 : Kept l K z y) (h2 : Kept l K y x) : Kept l K z x := by
  obtain ⟨a, d, b, c⟩ := h1
  obtain ⟨a', d', b', c'⟩ := h2
  refine ⟨fun p hp => ?_, fun k hk => (d' k hk).trans (d k hk), b'.trans b, fun h => c' (c h)⟩
  have h1 := a p hp
  have h2 := a' p hp
  cases p <;> exact Eq.trans h2 h1

/-- Parts that are not in the list are the same. -/
theorem same (h : Kept l K z x) (p : Part) (hp : p ∉ l) : p.same z x := h.1 p hp

theorem foldl {α : Type} (f : State → α → State) (xs : List α) (hf : ∀ a e, Kept l K z a → Kept l K z (f a e)) (y : State) (h : Kept l K z y) :
    Kept l K z (xs.foldl f y) := by
  induction xs generalizing y with
  | nil => exact h
  | cons e t ih => exact ih (f y e) (hf y e h)

theorem foldl_snd {α β : Type} (f : β × State → α → β × State) (xs : List α) (hf : ∀ a e, Kept l K z a.2 → Kept l K z (f a e).2) (y : β × State)
    (h : Kept l K z y.2) : Kept l K z (xs.foldl f y).2 := by
  induction xs generalizing y with
  | nil => exact h
  | cons e t ih => exact ih (f y e) (hf y e h)

/-- A change of parts of the list at once. A part that holds units has as many of them after. -/
theorem all (h : Kept l K z x) {boot : Boot} {store : Store} {wonel : Wonel} {kce : Kce} {flt : Flt} {power : Power} {lanes : List (Nat × Lane)} {links : List Link} {pipes : Pipes} {galley : Galley} {sched : Sched} {ports : List (Nat × Port)} {tables : Tables} {telem : Telem} {tim : Tim} {ptp : Ptp} {cmp : Cmp} {mem : Mem} {dict : List (Nat × Nat)} {busy : List Nat} {out : List Out} {fresh : Nat}
    (hboot : Part.boot ∈ l ∨ boot = x.boot) (hstore : Part.store ∈ l ∨ store = x.store) (hwonel : Part.wonel ∈ l ∨ wonel = x.wonel) (hkce : Part.kce ∈ l ∨ kce = x.kce) (hflt : Part.flt ∈ l ∨ flt = x.flt) (hpower : Part.power ∈ l ∨ power = x.power) (hlanes : Part.lanes ∈ l ∨ lanes = x.lanes) (hlinks : Part.links ∈ l ∨ links = x.links) (hpipes : Part.pipes ∈ l ∨ pipes = x.pipes) (hgalley : Part.galley ∈ l ∨ galley = x.galley) (hsched : Part.sched ∈ l ∨ sched = x.sched) (hports : Part.ports ∈ l ∨ ports = x.ports) (htables : Part.tables ∈ l ∨ tables = x.tables) (htelem : Part.telem ∈ l ∨ telem = x.telem) (htim : Part.tim ∈ l ∨ tim = x.tim) (hptp : Part.ptp ∈ l ∨ ptp = x.ptp) (hcmp : Part.cmp ∈ l ∨ cmp = x.cmp) (hmem : Part.mem ∈ l ∨ mem = x.mem) (hdict : Part.dict ∈ l ∨ dict = x.dict) (hbusy : Part.busy ∈ l ∨ busy = x.busy) (hout : Part.out ∈ l ∨ out = x.out) (hfresh : Part.fresh ∈ l ∨ fresh = x.fresh)
    (uw : wonel.sessions.length = x.wonel.sessions.length) (uk : kce.pages.length = x.kce.pages.length) (uc : cmp.ctxs.length = x.cmp.ctxs.length)
    (ul : links.length = x.links.length) (up : power.rails.length = x.power.rails.length) (ut : tim.domains.length = x.tim.domains.length)
    (ui : ptp.insts.length = x.ptp.insts.length) (hd : smWf dictDefault x.dict = true → smWf dictDefault dict = true)
    (hq : flt.queue.length ≤ max 1024 x.flt.queue.length)
    (hg : dict = x.dict ∨ ∀ k, ¬ K k → smGet (dictDefault k) dict k = smGet (dictDefault k) x.dict k) :
    Kept l K z ⟨x.now, boot, store, wonel, kce, flt, power, lanes, links, pipes, galley, sched, ports, tables, telem, tim, ptp, cmp, mem, dict, busy, out, fresh, x.pending⟩ := by
  refine h.trans ⟨fun p hp => ?_, fun k hk => ?_, ?_, ?_⟩
  · cases p
    case now => exact rfl
    case boot => exact hboot.resolve_left hp
    case store => exact hstore.resolve_left hp
    case wonel => exact hwonel.resolve_left hp
    case kce => exact hkce.resolve_left hp
    case flt => exact hflt.resolve_left hp
    case power => exact hpower.resolve_left hp
    case lanes => exact hlanes.resolve_left hp
    case links => exact hlinks.resolve_left hp
    case pipes => exact hpipes.resolve_left hp
    case galley => exact hgalley.resolve_left hp
    case sched => exact hsched.resolve_left hp
    case ports => exact hports.resolve_left hp
    case tables => exact htables.resolve_left hp
    case telem => exact htelem.resolve_left hp
    case tim => exact htim.resolve_left hp
    case ptp => exact hptp.resolve_left hp
    case cmp => exact hcmp.resolve_left hp
    case mem => exact hmem.resolve_left hp
    case dict => exact hdict.resolve_left hp
    case busy => exact hbusy.resolve_left hp
    case out => exact hout.resolve_left hp
    case fresh => exact hfresh.resolve_left hp
    case pending => exact rfl
  · obtain e | e := hg
    · exact congrArg (fun m => smGet (dictDefault k) m k) e
    · exact e k hk
  · simp [State.units, uw, uk, uc, ul, up, ut, ui]
  · simp only [State.bounded, Bool.and_eq_true, decide_eq_true_eq]
    rintro ⟨a, b⟩
    exact ⟨hd a, by omega⟩

/-- The state beside the result of an operation, after its result has been taken apart. -/
theorem ofEq {α : Type} {e : α × State} {a : α} (q : e = (a, x)) (h : Kept l K z e.2) : Kept l K z x := by
  rw [q] at h; exact h

theorem ofEq2 {α β : Type} {e : α × β × State} {a : α} {b : β} (q : e = (a, b, x)) (h : Kept l K z e.2.2) : Kept l K z x := by
  rw [q] at h; exact h

theorem ite {c : Prop} [Decidable c] {a b : State} (ha : Kept l K z a) (hb : Kept l K z b) : Kept l K z (if c then a else b) := by
  split <;> assumption

theorem ite_snd {α : Type} {c : Prop} [Decidable c] {a b : α × State} (ha : Kept l K z a.2) (hb : Kept l K z b.2) :
    Kept l K z (if c then a else b).2 := by
  split <;> assumption

theorem ite_snd2 {α β : Type} {c : Prop} [Decidable c] {a b : α × β × State} (ha : Kept l K z a.2.2) (hb : Kept l K z b.2.2) :
    Kept l K z (if c then a else b).2.2 := by
  split <;> assumption

theorem ite_snd3 {α β γ : Type} {c : Prop} [Decidable c] {a b : α × β × γ × State} (ha : Kept l K z a.2.2.2) (hb : Kept l K z b.2.2.2) :
    Kept l K z (if c then a else b).2.2.2 := by
  split <;> assumption

theorem ofSome {e : Option State} (q : e = some x) (h : KeptSome l K z e fun y => y) : Kept l K z x := h x q

theorem ofSome2 {α : Type} {e : Option (α × State)} {a : α} (q : e = some (a, x)) (h : KeptSome l K z e fun y => y.2) : Kept l K z x := h _ q

theorem ofSome3 {α β : Type} {e : Option (α × β × State)} {a : α} {b : β} (q : e = some (a, b, x)) (h : KeptSome l K z e fun y => y.2.2) :
    Kept l K z x := h _ q

end Kept

end Sys2Proof.Machine
end

