-- ==== Sys2Proof/Laws/KeptOps.lean ====
section
/-! SUPPORT. What the operations of Machine/Ops.lean keep (Laws/Kept.lean). -/

namespace Sys2Proof.Machine
open Sys2Proof

theorem State.put_kept {ps : List Part} {K : Nat → Prop} {z0 : State} (s : State) (key : Nat) (v : Nat) (hdict : Part.dict ∈ ps) (okey : K key) (hK
    : Kept ps K z0 s) : Kept ps K z0 (State.put s key v) := by
  unfold State.put
  repeat' (first | exact smWf_set dictDefault key v s.dict | exact Or.inr (fun k hk => smGet_set_ne _ _ _ _ _ _ (fun e => hk (e ▸ okey)))
                 | with_reducible assumption | exact Or.inl ‹_› | with_reducible exact Or.inr rfl | dsimp only
                 | with_reducible exact Nat.le_max_right _ _ | with_reducible apply Kept.all)

theorem State.bumpBy_kept {ps : List Part} {K : Nat → Prop} {z0 : State} (s : State) (key : Nat) (n : Nat) (hdict : Part.dict ∈ ps) (okey : K key) (hK
    : Kept ps K z0 s) : Kept ps K z0 (State.bumpBy s key n) := by
  unfold State.bumpBy
  repeat' (first | with_reducible assumption | with_reducible apply State.put_kept)

theorem State.bump_kept {ps : List Part} {K : Nat → Prop} {z0 : State} (s : State) (key : Nat) (hdict : Part.dict ∈ ps) (okey : K key) (hK
    : Kept ps K z0 s) : Kept ps K z0 (State.bump s key) := by
  unfold State.bump
  repeat' (first | with_reducible assumption | with_reducible apply State.bumpBy_kept)

theorem State.raiseTo_kept {ps : List Part} {K : Nat → Prop} {z0 : State} (s : State) (key : Nat) (v : Nat) (hdict : Part.dict ∈ ps) (okey : K key)
    (hK : Kept ps K z0 s) : Kept ps K z0 (State.raiseTo s key v) := by
  unfold State.raiseTo
  repeat' (first | with_reducible assumption | with_reducible apply State.put_kept | with_reducible apply Kept.ite)

theorem State.putBit_kept {ps : List Part} {K : Nat → Prop} {z0 : State} (s : State) (key : Nat) (i : Nat) (b : Bool) (hdict : Part.dict ∈ ps)
    (okey : K key) (hK : Kept ps K z0 s) : Kept ps K z0 (State.putBit s key i b) := by
  unfold State.putBit
  repeat' (first | with_reducible assumption | with_reducible apply State.put_kept)

theorem State.clearKeys_kept {ps : List Part} {K : Nat → Prop} {z0 : State} (s : State) (lo : Nat) (hi : Nat) (hdict : Part.dict ∈ ps)
    (hall : ∀ k, K k) (hK : Kept ps K z0 s) : Kept ps K z0 (State.clearKeys s lo hi) := by
  unfold State.clearKeys
  repeat' (first | exact smWfFrom_filter dictDefault _ s.dict 0 | exact Or.inr (fun k hk => absurd (hall k) hk) | with_reducible assumption
                 | exact Or.inl ‹_› | with_reducible exact Or.inr rfl | dsimp only | with_reducible exact Nat.le_max_right _ _
                 | with_reducible apply Kept.all)

theorem State.emit_kept {ps : List Part} {K : Nat → Prop} {z0 : State} (s : State) (o : Out) (hout : Part.out ∈ ps) (hK : Kept ps K z0 s)
    : Kept ps K z0 (State.emit s o) := by
  unfold State.emit
  repeat' (first | with_reducible intro _ | with_reducible assumption | exact Or.inl ‹_› | with_reducible exact Or.inr rfl
                 | with_reducible exact Or.inl rfl | dsimp only | with_reducible exact Nat.le_max_right _ _ | with_reducible apply Kept.all)

theorem State.useFree_kept {ps : List Part} {K : Nat → Prop} {z0 : State} (s : State) (hfresh : Part.fresh ∈ ps) (hK : Kept ps K z0 s)
    : Kept ps K z0 (State.useFree s) := by
  unfold State.useFree
  repeat' (first | with_reducible intro _ | with_reducible assumption | exact Or.inl ‹_› | with_reducible exact Or.inr rfl
                 | with_reducible exact Or.inl rfl | dsimp only | with_reducible exact Nat.le_max_right _ _ | with_reducible apply Kept.all)

theorem State.modSession_kept {ps : List Part} {K : Nat → Prop} {z0 : State} (s : State) (i : Nat) (f : Session → Session) (hwonel : Part.wonel ∈ ps)
    (hK : Kept ps K z0 s) : Kept ps K z0 (State.modSession s i f) := by
  unfold State.modSession
  repeat' (first | with_reducible intro _ | with_reducible assumption | exact Or.inl ‹_› | with_reducible exact Or.inr rfl
                 | with_reducible exact Or.inl rfl | dsimp only | with_reducible exact Nat.le_max_right _ _ | with_reducible apply Kept.all)
  all_goals (simp [Nat.le_max_right]; done)

theorem State.modPage_kept {ps : List Part} {K : Nat → Prop} {z0 : State} (s : State) (i : Nat) (f : KeyPage → KeyPage) (hkce : Part.kce ∈ ps) (hK
    : Kept ps K z0 s) : Kept ps K z0 (State.modPage s i f) := by
  unfold State.modPage
  repeat' (first | with_reducible intro _ | with_reducible assumption | exact Or.inl ‹_› | with_reducible exact Or.inr rfl
                 | with_reducible exact Or.inl rfl | dsimp only | with_reducible exact Nat.le_max_right _ _ | with_reducible apply Kept.all)
  all_goals (simp [Nat.le_max_right]; done)

theorem State.latchIf_kept {ps : List Part} {K : Nat → Prop} {z0 : State} (s : State) (bit : Nat) (p : Nat → Bool) (hwonel : Part.wonel ∈ ps) (hK
    : Kept ps K z0 s) : Kept ps K z0 (State.latchIf s bit p) := by
  unfold State.latchIf
  repeat' (first | with_reducible intro _ | with_reducible assumption | exact Or.inl ‹_› | with_reducible exact Or.inr rfl
                 | with_reducible exact Or.inl rfl | dsimp only | with_reducible exact Nat.le_max_right _ _ | with_reducible apply Kept.all)
  all_goals (simp [Nat.le_max_right]; done)

theorem State.latch_kept {ps : List Part} {K : Nat → Prop} {z0 : State} (s : State) (bit : Nat) (hwonel : Part.wonel ∈ ps) (hK : Kept ps K z0 s)
    : Kept ps K z0 (State.latch s bit) := by
  unfold State.latch
  repeat' (first | with_reducible assumption | with_reducible apply State.latchIf_kept)

theorem State.latchLost_kept {ps : List Part} {K : Nat → Prop} {z0 : State} (s : State) (bit : Nat) (hwonel : Part.wonel ∈ ps) (hK : Kept ps K z0 s)
    : Kept ps K z0 (State.latchLost s bit) := by
  unfold State.latchLost
  repeat' (first | with_reducible assumption | with_reducible apply State.latchIf_kept)

theorem State.runBegin_kept {ps : List Part} {K : Nat → Prop} {z0 : State} (s : State) (key : Nat) (hbusy : Part.busy ∈ ps) (hK : Kept ps K z0 s)
    : Kept ps K z0 (State.runBegin s key) := by
  unfold State.runBegin
  repeat' (first | with_reducible intro _ | with_reducible assumption | exact Or.inl ‹_› | with_reducible exact Or.inr rfl
                 | with_reducible exact Or.inl rfl | dsimp only | with_reducible exact Nat.le_max_right _ _ | with_reducible apply Kept.all)

theorem State.runStop_kept {ps : List Part} {K : Nat → Prop} {z0 : State} (s : State) (key : Nat) (hbusy : Part.busy ∈ ps) (hK : Kept ps K z0 s)
    : Kept ps K z0 (State.runStop s key) := by
  unfold State.runStop
  repeat' (first | with_reducible intro _ | with_reducible assumption | exact Or.inl ‹_› | with_reducible exact Or.inr rfl
                 | with_reducible exact Or.inl rfl | dsimp only | with_reducible exact Nat.le_max_right _ _ | with_reducible apply Kept.all)

theorem State.runEnd_kept {ps : List Part} {K : Nat → Prop} {z0 : State} (s : State) (key : Nat) (outcome : Nat) (detail : Nat)
    (hdict : Part.dict ∈ ps) (hbusy : Part.busy ∈ ps) (okey : K key) (hK : Kept ps K z0 s) : Kept ps K z0 (State.runEnd s key outcome detail) := by
  unfold State.runEnd
  repeat' (first | with_reducible assumption | with_reducible apply State.runStop_kept | with_reducible apply State.put_kept)

theorem State.runOnce_kept {ps : List Part} {K : Nat → Prop} {z0 : State} (s : State) (key : Nat) (outcome : Nat) (detail : Nat)
    (hdict : Part.dict ∈ ps) (hbusy : Part.busy ∈ ps) (okey : K key) (hK : Kept ps K z0 s) : Kept ps K z0 (State.runOnce s key outcome detail) := by
  unfold State.runOnce
  repeat' (first | with_reducible assumption | with_reducible apply State.runEnd_kept)

theorem State.modCtx_kept {ps : List Part} {K : Nat → Prop} {z0 : State} (s : State) (c : Nat) (f : Ctx → Ctx) (hcmp : Part.cmp ∈ ps) (hK
    : Kept ps K z0 s) : Kept ps K z0 (State.modCtx s c f) := by
  unfold State.modCtx
  repeat' (first | with_reducible intro _ | with_reducible assumption | exact Or.inl ‹_› | with_reducible exact Or.inr rfl
                 | with_reducible exact Or.inl rfl | dsimp only | with_reducible exact Nat.le_max_right _ _ | with_reducible apply Kept.all)
  all_goals (simp [Nat.le_max_right]; done)

theorem State.cmpPush_kept {ps : List Part} {K : Nat → Prop} {z0 : State} (s : State) (c : Nat) (hcmp : Part.cmp ∈ ps) (hfresh : Part.fresh ∈ ps) (hK
    : Kept ps K z0 s) : Kept ps K z0 (State.cmpPush s c) := by
  unfold State.cmpPush
  repeat' (first | with_reducible assumption | with_reducible apply State.useFree_kept | with_reducible apply State.modCtx_kept)

theorem State.cmpTake_kept {ps : List Part} {K : Nat → Prop} {z0 : State} (s : State) (c : Nat) (hcmp : Part.cmp ∈ ps) (hK : Kept ps K z0 s)
    : Kept ps K z0 (State.cmpTake s c) := by
  unfold State.cmpTake
  repeat' (first | with_reducible assumption | with_reducible apply State.modCtx_kept)

theorem State.progBegin_kept {ps : List Part} {K : Nat → Prop} {z0 : State} (s : State) (k : Nat) (total : Nat) (hdict : Part.dict ∈ ps)
    (oCMP_P_DONE : ∀ i, K (Obj.CMP_P_DONE i)) (oCMP_P_RESTART : ∀ i, K (Obj.CMP_P_RESTART i)) (oCMP_P_RUN : ∀ i, K (Obj.CMP_P_RUN i))
    (oCMP_P_STATE : ∀ i, K (Obj.CMP_P_STATE i)) (oCMP_P_TOTAL : ∀ i, K (Obj.CMP_P_TOTAL i)) (hK : Kept ps K z0 s)
    : Kept ps K z0 (State.progBegin s k total) := by
  unfold State.progBegin
  repeat' (first | with_reducible assumption | with_reducible exact oCMP_P_DONE _ | with_reducible exact oCMP_P_RESTART _
                 | with_reducible exact oCMP_P_RUN _ | with_reducible exact oCMP_P_STATE _ | with_reducible exact oCMP_P_TOTAL _
                 | with_reducible apply State.put_kept | with_reducible apply State.bump_kept)

theorem State.progDone_kept {ps : List Part} {K : Nat → Prop} {z0 : State} (s : State) (k : Nat) (n : Nat) (hdict : Part.dict ∈ ps)
    (oCMP_P_DONE : ∀ i, K (Obj.CMP_P_DONE i)) (hK : Kept ps K z0 s) : Kept ps K z0 (State.progDone s k n) := by
  unfold State.progDone
  repeat' (first | with_reducible assumption | with_reducible exact oCMP_P_DONE _ | with_reducible apply State.bumpBy_kept)

theorem State.progEnd_kept {ps : List Part} {K : Nat → Prop} {z0 : State} (s : State) (k : Nat) (outcome : Nat) (restart : Nat)
    (hdict : Part.dict ∈ ps) (oCMP_P_RESTART : ∀ i, K (Obj.CMP_P_RESTART i)) (oCMP_P_STATE : ∀ i, K (Obj.CMP_P_STATE i)) (hK : Kept ps K z0 s)
    : Kept ps K z0 (State.progEnd s k outcome restart) := by
  unfold State.progEnd
  repeat' (first | with_reducible assumption | with_reducible exact oCMP_P_RESTART _ | with_reducible exact oCMP_P_STATE _
                 | with_reducible apply State.put_kept)

theorem State.modPort_kept {ps : List Part} {K : Nat → Prop} {z0 : State} (s : State) (p : Nat) (f : Port → Port) (hports : Part.ports ∈ ps) (hK
    : Kept ps K z0 s) : Kept ps K z0 (State.modPort s p f) := by
  unfold State.modPort
  repeat' (first | with_reducible intro _ | with_reducible assumption | exact Or.inl ‹_› | with_reducible exact Or.inr rfl
                 | with_reducible exact Or.inl rfl | dsimp only | with_reducible exact Nat.le_max_right _ _ | with_reducible apply Kept.all)

theorem State.modLane_kept {ps : List Part} {K : Nat → Prop} {z0 : State} (s : State) (n : Nat) (f : Lane → Lane) (hlanes : Part.lanes ∈ ps) (hK
    : Kept ps K z0 s) : Kept ps K z0 (State.modLane s n f) := by
  unfold State.modLane
  repeat' (first | with_reducible intro _ | with_reducible assumption | exact Or.inl ‹_› | with_reducible exact Or.inr rfl
                 | with_reducible exact Or.inl rfl | dsimp only | with_reducible exact Nat.le_max_right _ _ | with_reducible apply Kept.all)

theorem State.modLink_kept {ps : List Part} {K : Nat → Prop} {z0 : State} (s : State) (q : Nat) (f : Link → Link) (hlinks : Part.links ∈ ps) (hK
    : Kept ps K z0 s) : Kept ps K z0 (State.modLink s q f) := by
  unfold State.modLink
  repeat' (first | with_reducible intro _ | with_reducible assumption | exact Or.inl ‹_› | with_reducible exact Or.inr rfl
                 | with_reducible exact Or.inl rfl | dsimp only | with_reducible exact Nat.le_max_right _ _ | with_reducible apply Kept.all)
  all_goals (simp [Nat.le_max_right]; done)

theorem State.pmc_kept {ps : List Part} {K : Nat → Prop} {z0 : State} (s : State) (block : Nat) (code : Nat) (n : Nat) (a : optParam PmcAttr { })
    (htelem : Part.telem ∈ ps) (hK : Kept ps K z0 s) : Kept ps K z0 (State.pmc s block code n a) := by
  unfold State.pmc
  repeat' (first | with_reducible intro _ | with_reducible assumption | exact Or.inl ‹_› | with_reducible exact Or.inr rfl
                 | with_reducible exact Or.inl rfl | split | dsimp only | with_reducible exact Nat.le_max_right _ _ | with_reducible apply Kept.all)

theorem State.pmcPulse_kept {ps : List Part} {K : Nat → Prop} {z0 : State} (s : State) (block : Nat) (code : Nat) (htelem : Part.telem ∈ ps)
    (hK : Kept ps K z0 s) : Kept ps K z0 (State.pmcPulse s block code) := by
  unfold State.pmcPulse
  repeat' (first | with_reducible intro _ | with_reducible assumption | exact Or.inl ‹_› | with_reducible exact Or.inr rfl
                 | with_reducible exact Or.inl rfl | split | dsimp only | with_reducible exact Nat.le_max_right _ _ | with_reducible apply Kept.all)

end Sys2Proof.Machine
end

