-- ==== Sys2Proof/Laws/KeptFaults.lean ====
section
/-! SUPPORT. What the operations of Machine/Faults.lean keep (Laws/Kept.lean). -/

namespace Sys2Proof.Machine
open Sys2Proof

theorem State.modSource_kept {ps : List Part} {K : Nat → Prop} {z0 : State} (s : State) (src : Nat) (f : Source → Source) (hflt : Part.flt ∈ ps) (hK
    : Kept ps K z0 s) : Kept ps K z0 (State.modSource s src f) := by
  unfold State.modSource
  repeat' (first | with_reducible intro _ | with_reducible assumption | exact Or.inl ‹_› | with_reducible exact Or.inr rfl
                 | with_reducible exact Or.inl rfl | dsimp only | with_reducible exact Nat.le_max_right _ _ | with_reducible apply Kept.all)

theorem State.queueRec_kept {ps : List Part} {K : Nat → Prop} {z0 : State} (s : State) (src : Nat) (cls : Nat) (flags : Nat) (scope : Scope)
    (cause : Nat) (rung : Nat) (detail : Nat) (hwonel : Part.wonel ∈ ps) (hflt : Part.flt ∈ ps) (hdict : Part.dict ∈ ps)
    (oFLT_EVENT_LOST : K Obj.FLT_EVENT_LOST) (hK : Kept ps K z0 s) : Kept ps K z0 (State.queueRec s src cls flags scope cause rung detail) := by
  unfold State.queueRec
  repeat' (first | with_reducible intro _ | with_reducible assumption | with_reducible apply State.latchLost_kept
                 | with_reducible apply State.bump_kept | exact Or.inl ‹_› | with_reducible exact Or.inr rfl | with_reducible exact Or.inl rfl
                 | split | dsimp only | with_reducible apply Kept.all)
  all_goals (simp only [List.length_append, List.length_cons, List.length_nil]; omega)

theorem State.event_kept {ps : List Part} {K : Nat → Prop} {z0 : State} (s : State) (src : Nat) (cls : Nat) (flags : Nat) (scope : Scope)
    (cause : Nat) (rung : Nat) (detail : Nat) (hwonel : Part.wonel ∈ ps) (hflt : Part.flt ∈ ps) (hdict : Part.dict ∈ ps)
    (oFLT_EVENTS : K Obj.FLT_EVENTS) (oFLT_EVENT_LOST : K Obj.FLT_EVENT_LOST) (hK : Kept ps K z0 s)
    : Kept ps K z0 (State.event s src cls flags scope cause rung detail) := by
  unfold State.event
  repeat' (first | with_reducible assumption | with_reducible apply State.latch_kept | with_reducible apply State.queueRec_kept
                 | with_reducible apply State.bump_kept)

theorem State.note_kept {ps : List Part} {K : Nat → Prop} {z0 : State} (s : State) (src : Nat) (cls : Nat) (cause : Nat) (rung : Nat) (detail : Nat)
    (tile : Nat) (hwonel : Part.wonel ∈ ps) (hflt : Part.flt ∈ ps) (hdict : Part.dict ∈ ps) (oFLT_EVENTS : K Obj.FLT_EVENTS)
    (oFLT_EVENT_LOST : K Obj.FLT_EVENT_LOST) (hK : Kept ps K z0 s) : Kept ps K z0 (State.note s src cls cause rung detail tile) := by
  unfold State.note
  repeat' (first | with_reducible assumption | with_reducible apply State.event_kept)

theorem State.rungEvent_kept {ps : List Part} {K : Nat → Prop} {z0 : State} (s : State) (src : Nat) (cls : Nat) (rung : Nat)
    (hwonel : Part.wonel ∈ ps) (hflt : Part.flt ∈ ps) (hdict : Part.dict ∈ ps) (oFLT_EVENTS : K Obj.FLT_EVENTS)
    (oFLT_EVENT_LOST : K Obj.FLT_EVENT_LOST) (hK : Kept ps K z0 s) : Kept ps K z0 (State.rungEvent s src cls rung) := by
  unfold State.rungEvent
  repeat' (first | with_reducible assumption | with_reducible apply State.note_kept)

theorem State.modDlane_kept {ps : List Part} {K : Nat → Prop} {z0 : State} (s : State) (q : Nat) (dir : Nat) (lane : Nat) (f : DLane → DLane)
    (hlinks : Part.links ∈ ps) (hK : Kept ps K z0 s) : Kept ps K z0 (State.modDlane s q dir lane f) := by
  unfold State.modDlane
  repeat' (first | with_reducible assumption | with_reducible apply State.modLink_kept)

theorem State.enterSafe_kept {ps : List Part} {K : Nat → Prop} {z0 : State} (s : State) (cause : Nat) (hflt : Part.flt ∈ ps) (htim : Part.tim ∈ ps) (hdict : Part.dict ∈ ps) (hout : Part.out ∈ ps) (oFLT_STATE : K Obj.FLT_STATE)
    (oID_SAFE_CAUSE : K Obj.ID_SAFE_CAUSE) (hK : Kept ps K z0 s) : Kept ps K z0 (State.enterSafe s cause) := by
  unfold State.enterSafe
  repeat' (first | with_reducible intro _ | with_reducible assumption | with_reducible apply State.put_kept | with_reducible apply State.emit_kept | with_reducible apply Kept.foldl
                 | with_reducible apply Kept.ite | exact Or.inl ‹_› | with_reducible exact Or.inr rfl | with_reducible exact Or.inl rfl
                 | dsimp only | with_reducible exact Nat.le_max_right _ _ | with_reducible apply Kept.all)
  all_goals rfl

theorem State.shedOctet_kept {ps : List Part} {K : Nat → Prop} {z0 : State} (s : State) (q : Nat) (o : Nat) (hwonel : Part.wonel ∈ ps)
    (hlinks : Part.links ∈ ps) (hdict : Part.dict ∈ ps) (oQD_OCTETS_SHED : ∀ i, K (Obj.QD_OCTETS_SHED i)) (hK : Kept ps K z0 s)
    : Kept ps K z0 (State.shedOctet s q o) := by
  unfold State.shedOctet
  repeat' (first | with_reducible assumption | with_reducible exact oQD_OCTETS_SHED _ | with_reducible apply State.latch_kept
                 | with_reducible apply State.putBit_kept | with_reducible apply State.modLink_kept | with_reducible apply Kept.ite)

theorem State.rung2_kept {ps : List Part} {K : Nat → Prop} {z0 : State} (s : State) (src : Nat) (hwonel : Part.wonel ∈ ps) (hflt : Part.flt ∈ ps)
    (hlinks : Part.links ∈ ps) (hdict : Part.dict ∈ ps) (oFLT_EVENTS : K Obj.FLT_EVENTS) (oFLT_EVENT_LOST : K Obj.FLT_EVENT_LOST) (oFLT_RUNGS : K Obj.FLT_RUNGS)
    (oQD_OCTETS_SHED : ∀ i, K (Obj.QD_OCTETS_SHED i)) (hK : Kept ps K z0 s) : Kept ps K z0 (State.rung2 s src) := by
  unfold State.rung2
  repeat' (first | with_reducible intro _ | with_reducible assumption | with_reducible exact oQD_OCTETS_SHED _
                 | with_reducible apply State.latch_kept | with_reducible apply State.rungEvent_kept | with_reducible apply State.bump_kept
                 | with_reducible apply State.modSource_kept | with_reducible apply State.shedOctet_kept | with_reducible apply Kept.foldl
                 | with_reducible apply Kept.ite)

theorem State.rung3_kept {ps : List Part} {K : Nat → Prop} {z0 : State} (s : State) (src : Nat) (hwonel : Part.wonel ∈ ps) (hflt : Part.flt ∈ ps)
    (htim : Part.tim ∈ ps) (hdict : Part.dict ∈ ps) (hout : Part.out ∈ ps) (oFLT_EVENTS : K Obj.FLT_EVENTS) (oFLT_EVENT_LOST : K Obj.FLT_EVENT_LOST) (oFLT_RUNGS : K Obj.FLT_RUNGS)
    (oFLT_STATE : K Obj.FLT_STATE) (oID_SAFE_CAUSE : K Obj.ID_SAFE_CAUSE) (hK : Kept ps K z0 s) : Kept ps K z0 (State.rung3 s src) := by
  unfold State.rung3
  repeat' (first | with_reducible intro _ | with_reducible assumption | with_reducible apply State.enterSafe_kept | with_reducible apply State.modSource_kept
                 | with_reducible apply State.rungEvent_kept | with_reducible apply State.bump_kept)

theorem State.rungAfter1_kept {ps : List Part} {K : Nat → Prop} {z0 : State} (s : State) (src : Nat) (hwonel : Part.wonel ∈ ps) (hflt : Part.flt ∈ ps)
    (hlinks : Part.links ∈ ps) (htim : Part.tim ∈ ps) (hdict : Part.dict ∈ ps) (hout : Part.out ∈ ps) (oFLT_EVENTS : K Obj.FLT_EVENTS) (oFLT_EVENT_LOST : K Obj.FLT_EVENT_LOST)
    (oFLT_RUNGS : K Obj.FLT_RUNGS) (oFLT_STATE : K Obj.FLT_STATE) (oID_SAFE_CAUSE : K Obj.ID_SAFE_CAUSE)
    (oQD_OCTETS_SHED : ∀ i, K (Obj.QD_OCTETS_SHED i)) (hK : Kept ps K z0 s) : Kept ps K z0 (State.rungAfter1 s src) := by
  unfold State.rungAfter1
  repeat' (first | with_reducible intro _ | with_reducible assumption | with_reducible exact oQD_OCTETS_SHED _
                 | with_reducible apply State.latch_kept | with_reducible apply State.rungEvent_kept | with_reducible apply State.rung2_kept
                 | with_reducible apply State.rung3_kept | with_reducible apply Kept.ite)

theorem State.dispatchForme_kept {ps : List Part} {K : Nat → Prop} {z0 : State} (s : State) (hwonel : Part.wonel ∈ ps) (hflt : Part.flt ∈ ps)
    (hlinks : Part.links ∈ ps) (hgalley : Part.galley ∈ ps) (htables : Part.tables ∈ ps) (htim : Part.tim ∈ ps) (hdict : Part.dict ∈ ps)
    (hout : Part.out ∈ ps) (oFLT_EVENTS : K Obj.FLT_EVENTS) (oFLT_EVENT_LOST : K Obj.FLT_EVENT_LOST) (oFLT_RUNGS : K Obj.FLT_RUNGS) (oFLT_STATE : K Obj.FLT_STATE)
    (oID_SAFE_CAUSE : K Obj.ID_SAFE_CAUSE) (oQD_OCTETS_SHED : ∀ i, K (Obj.QD_OCTETS_SHED i)) (hK : Kept ps K z0 s)
    : Kept ps K z0 (State.dispatchForme s) := by
  unfold State.dispatchForme
  repeat' (first | with_reducible intro _ | with_reducible assumption | with_reducible exact oQD_OCTETS_SHED _
                 | with_reducible apply State.rungAfter1_kept | with_reducible apply Kept.ite | exact Or.inl ‹_›
                 | with_reducible exact Or.inr rfl | with_reducible exact Or.inl rfl | split | dsimp only
                 | with_reducible exact Nat.le_max_right _ _ | with_reducible apply Kept.all)

theorem State.rung1_kept {ps : List Part} {K : Nat → Prop} {z0 : State} (s : State) (src : Nat) (hwonel : Part.wonel ∈ ps) (hflt : Part.flt ∈ ps)
    (hlinks : Part.links ∈ ps) (hgalley : Part.galley ∈ ps) (htables : Part.tables ∈ ps) (htim : Part.tim ∈ ps) (hdict : Part.dict ∈ ps)
    (hout : Part.out ∈ ps) (oFLT_EVENTS : K Obj.FLT_EVENTS) (oFLT_EVENT_LOST : K Obj.FLT_EVENT_LOST) (oFLT_RUNGS : K Obj.FLT_RUNGS) (oFLT_STATE : K Obj.FLT_STATE)
    (oID_SAFE_CAUSE : K Obj.ID_SAFE_CAUSE) (oQD_OCTETS_SHED : ∀ i, K (Obj.QD_OCTETS_SHED i)) (hK : Kept ps K z0 s) : Kept ps K z0 (State.rung1 s src)
    := by
  unfold State.rung1
  repeat' (first | with_reducible intro _ | with_reducible assumption | with_reducible exact oQD_OCTETS_SHED _
                 | with_reducible apply State.latch_kept | with_reducible apply State.rungEvent_kept | with_reducible apply State.bump_kept
                 | with_reducible apply State.modSource_kept | with_reducible apply State.dispatchForme_kept | exact Or.inl ‹_›
                 | with_reducible exact Or.inr rfl | with_reducible exact Or.inl rfl | split | dsimp only
                 | with_reducible exact Nat.le_max_right _ _ | with_reducible apply Kept.all)

theorem State.retireIdle_kept {ps : List Part} {K : Nat → Prop} {z0 : State} (s : State) (src : Nat) (hflt : Part.flt ∈ ps)
    (hlinks : Part.links ∈ ps) (hK : Kept ps K z0 s) : Kept ps K z0 (State.retireIdle s src) := by
  unfold State.retireIdle
  repeat' (first | with_reducible intro _ | with_reducible assumption | with_reducible apply State.modSource_kept
                 | with_reducible apply State.modDlane_kept)

theorem State.takeRung_kept {ps : List Part} {K : Nat → Prop} {z0 : State} (s : State) (src : Nat) (hwonel : Part.wonel ∈ ps) (hflt : Part.flt ∈ ps)
    (hlinks : Part.links ∈ ps) (hgalley : Part.galley ∈ ps) (htables : Part.tables ∈ ps) (htim : Part.tim ∈ ps) (hdict : Part.dict ∈ ps)
    (hout : Part.out ∈ ps) (oFLT_EVENTS : K Obj.FLT_EVENTS) (oFLT_EVENT_LOST : K Obj.FLT_EVENT_LOST) (oFLT_RUNGS : K Obj.FLT_RUNGS) (oFLT_STATE : K Obj.FLT_STATE)
    (oID_SAFE_CAUSE : K Obj.ID_SAFE_CAUSE) (oQD_OCTETS_SHED : ∀ i, K (Obj.QD_OCTETS_SHED i)) (hK : Kept ps K z0 s)
    : Kept ps K z0 (State.takeRung s src) := by
  unfold State.takeRung
  repeat' (first | with_reducible intro _ | with_reducible assumption | with_reducible exact oQD_OCTETS_SHED _
                 | with_reducible apply State.rung1_kept | with_reducible apply State.rung2_kept | with_reducible apply State.rung3_kept
                 | with_reducible apply State.rungAfter1_kept
                 | with_reducible apply State.retireIdle_kept | with_reducible apply Kept.ite)

theorem State.becomeSevere_kept {ps : List Part} {K : Nat → Prop} {z0 : State} (s : State) (src : Nat) (tile : Nat) (scope : Scope) (cause : Nat)
    (flags : Nat) (hwonel : Part.wonel ∈ ps) (hflt : Part.flt ∈ ps) (hlinks : Part.links ∈ ps) (hgalley : Part.galley ∈ ps)
    (htables : Part.tables ∈ ps) (htim : Part.tim ∈ ps) (hcmp : Part.cmp ∈ ps) (hdict : Part.dict ∈ ps) (hout : Part.out ∈ ps)
    (hfresh : Part.fresh ∈ ps) (oFLT_EVENTS : K Obj.FLT_EVENTS) (oFLT_EVENT_LOST : K Obj.FLT_EVENT_LOST) (oFLT_RUNGS : K Obj.FLT_RUNGS) (oFLT_STATE : K Obj.FLT_STATE)
    (oID_SAFE_CAUSE : K Obj.ID_SAFE_CAUSE) (oQD_OCTETS_SHED : ∀ i, K (Obj.QD_OCTETS_SHED i)) (hK : Kept ps K z0 s)
    : Kept ps K z0 (State.becomeSevere s src tile scope cause flags) := by
  unfold State.becomeSevere
  repeat' (first | with_reducible intro _ | with_reducible assumption | with_reducible exact oQD_OCTETS_SHED _
                 | with_reducible apply State.modSource_kept | with_reducible apply State.cmpPush_kept | with_reducible apply State.event_kept
                 | with_reducible apply State.takeRung_kept | with_reducible apply Kept.ite)

theorem State.report_kept {ps : List Part} {K : Nat → Prop} {z0 : State} (s : State) (r : Report) (hwonel : Part.wonel ∈ ps) (hflt : Part.flt ∈ ps)
    (hlinks : Part.links ∈ ps) (hgalley : Part.galley ∈ ps) (htables : Part.tables ∈ ps) (htim : Part.tim ∈ ps) (hcmp : Part.cmp ∈ ps)
    (hdict : Part.dict ∈ ps) (hout : Part.out ∈ ps) (hfresh : Part.fresh ∈ ps) (ko : ReactKeys K) (hK : Kept ps K z0 s)
    : Kept ps K z0 (State.report s r) := by
  unfold State.report
  repeat' (first | with_reducible intro _ | with_reducible assumption | with_reducible exact ko.events | with_reducible exact ko.lost
                 | with_reducible exact ko.rungs | with_reducible exact ko.state | with_reducible exact ko.cause | with_reducible exact ko.shed _
                 | with_reducible apply State.modSource_kept | with_reducible apply State.bump_kept | with_reducible apply State.latch_kept
                 | with_reducible apply State.queueRec_kept | with_reducible apply State.becomeSevere_kept | with_reducible apply Kept.ite)

theorem State.failureOf_kept {ps : List Part} {K : Nat → Prop} {z0 : State} (s : State) (src : Nat) (cause : Nat) (detail : Nat)
    (hwonel : Part.wonel ∈ ps) (hflt : Part.flt ∈ ps) (hlinks : Part.links ∈ ps) (hgalley : Part.galley ∈ ps) (htables : Part.tables ∈ ps)
    (htim : Part.tim ∈ ps) (hcmp : Part.cmp ∈ ps) (hdict : Part.dict ∈ ps) (hout : Part.out ∈ ps) (hfresh : Part.fresh ∈ ps) (ko : ReactKeys K) (hK
    : Kept ps K z0 s) : Kept ps K z0 (State.failureOf s src cause detail) := by
  unfold State.failureOf
  repeat' (first | with_reducible assumption | with_reducible apply State.report_kept)

theorem State.restoreFault_kept {ps : List Part} {K : Nat → Prop} {z0 : State} (s : State) (index : Nat) (hwonel : Part.wonel ∈ ps)
    (hflt : Part.flt ∈ ps) (hlinks : Part.links ∈ ps) (hgalley : Part.galley ∈ ps) (htables : Part.tables ∈ ps) (htim : Part.tim ∈ ps)
    (hcmp : Part.cmp ∈ ps) (hdict : Part.dict ∈ ps) (hout : Part.out ∈ ps) (hfresh : Part.fresh ∈ ps) (ko : ReactKeys K) (hK : Kept ps K z0 s)
    : Kept ps K z0 (State.restoreFault s index) := by
  unfold State.restoreFault
  repeat' (first | with_reducible assumption | with_reducible apply State.failureOf_kept)

theorem State.repairDone_kept {ps : List Part} {K : Nat → Prop} {z0 : State} (s : State) (src : Option Nat) (asSrc : Nat) (tile : Nat) (detail : Nat)
    (stack : Nat) (hwonel : Part.wonel ∈ ps) (hflt : Part.flt ∈ ps) (hlinks : Part.links ∈ ps) (hgalley : Part.galley ∈ ps)
    (htables : Part.tables ∈ ps) (htim : Part.tim ∈ ps) (hcmp : Part.cmp ∈ ps) (hdict : Part.dict ∈ ps) (hout : Part.out ∈ ps)
    (hfresh : Part.fresh ∈ ps) (ko : ReactKeys K) (hK : Kept ps K z0 s) : Kept ps K z0 (State.repairDone s src asSrc tile detail stack) := by
  unfold State.repairDone
  repeat' (first | with_reducible intro _ | with_reducible assumption | with_reducible exact ko.events | with_reducible exact ko.lost
                 | with_reducible exact ko.rungs | with_reducible exact ko.state | with_reducible exact ko.cause | with_reducible exact ko.shed _
                 | with_reducible apply State.note_kept | with_reducible apply State.modSource_kept
                 | with_reducible apply State.becomeSevere_kept | with_reducible apply State.dispatchForme_kept | with_reducible apply Kept.ite
                 | exact Or.inl ‹_› | with_reducible exact Or.inr rfl | with_reducible exact Or.inl rfl | split | dsimp only
                 | with_reducible exact Nat.le_max_right _ _ | with_reducible apply Kept.all)

theorem State.modSensor_kept {ps : List Part} {K : Nat → Prop} {z0 : State} (s : State) (k : Nat) (f : Sensor → Sensor) (hpower : Part.power ∈ ps) (hK
    : Kept ps K z0 s) : Kept ps K z0 (State.modSensor s k f) := by
  unfold State.modSensor
  repeat' (first | with_reducible intro _ | with_reducible assumption | exact Or.inl ‹_› | with_reducible exact Or.inr rfl
                 | with_reducible exact Or.inl rfl | dsimp only | with_reducible exact Nat.le_max_right _ _ | with_reducible apply Kept.all)

theorem State.causeEnds_kept {ps : List Part} {K : Nat → Prop} {z0 : State} (s s0 : State) (src cause : Nat) (hwonel : Part.wonel ∈ ps)
    (hflt : Part.flt ∈ ps) (hdict : Part.dict ∈ ps) (oFLT_EVENTS : K Obj.FLT_EVENTS) (oFLT_EVENT_LOST : K Obj.FLT_EVENT_LOST)
    (hK : Kept ps K z0 s) : Kept ps K z0 (State.causeEnds s s0 src cause) := by
  unfold State.causeEnds
  repeat' (first | with_reducible intro _ | with_reducible assumption | with_reducible apply State.note_kept | with_reducible apply Kept.ite)

theorem State.clearSource_kept {ps : List Part} {K : Nat → Prop} {z0 : State} (s : State) (src : Nat) (hwonel : Part.wonel ∈ ps)
    (hflt : Part.flt ∈ ps) (hdict : Part.dict ∈ ps) (oFLT_EVENTS : K Obj.FLT_EVENTS) (oFLT_EVENT_LOST : K Obj.FLT_EVENT_LOST) (hK : Kept ps K z0 s)
    : Kept ps K z0 (State.clearSource s src) := by
  unfold State.clearSource
  repeat' (first | with_reducible assumption | with_reducible apply State.note_kept | with_reducible apply State.modSource_kept)

end Sys2Proof.Machine
end

