-- ==== Sys2Proof/Laws/KeptPower.lean ====
section
/-! SUPPORT. What the operations of Machine/Power.lean keep (Laws/Kept.lean). -/

namespace Sys2Proof.Machine
open Sys2Proof

theorem State.modRail_kept {ps : List Part} {K : Nat → Prop} {z0 : State} (s : State) (r : Nat) (f : Rail → Rail) (hpower : Part.power ∈ ps) (hK
    : Kept ps K z0 s) : Kept ps K z0 (State.modRail s r f) := by
  unfold State.modRail
  repeat' (first | with_reducible intro _ | with_reducible assumption | exact Or.inl ‹_› | with_reducible exact Or.inr rfl
                 | with_reducible exact Or.inl rfl | dsimp only | with_reducible exact Nat.le_max_right _ _ | with_reducible apply Kept.all)
  all_goals (simp [Nat.le_max_right]; done)

theorem State.railEvent_kept {ps : List Part} {K : Nat → Prop} {z0 : State} (s : State) (src : Nat) (cause : Nat) (hboot : Part.boot ∈ ps)
    (hwonel : Part.wonel ∈ ps) (hflt : Part.flt ∈ ps) (hlinks : Part.links ∈ ps) (hgalley : Part.galley ∈ ps) (htables : Part.tables ∈ ps)
    (htim : Part.tim ∈ ps) (hcmp : Part.cmp ∈ ps) (hdict : Part.dict ∈ ps) (hout : Part.out ∈ ps) (hfresh : Part.fresh ∈ ps) (ko : ReactKeys K) (hK
    : Kept ps K z0 s) : Kept ps K z0 (State.railEvent s src cause) := by
  unfold State.railEvent
  repeat' (first | with_reducible intro _ | with_reducible assumption | with_reducible apply State.failureOf_kept | with_reducible apply Kept.ite
                 | exact Or.inl ‹_› | with_reducible exact Or.inr rfl | with_reducible exact Or.inl rfl | dsimp only
                 | with_reducible exact Nat.le_max_right _ _ | with_reducible apply Kept.all)

theorem State.pmb_kept {ps : List Part} {K : Nat → Prop} {z0 : State} (s : State) (r : Nat) (cmd : Nat) (data : Nat) (hout : Part.out ∈ ps) (hK
    : Kept ps K z0 s) : Kept ps K z0 (State.pmb s r cmd data) := by
  unfold State.pmb
  repeat' (first | with_reducible assumption | with_reducible apply State.emit_kept)

theorem State.railOff_kept {ps : List Part} {K : Nat → Prop} {z0 : State} (s : State) (r : Nat) (hpower : Part.power ∈ ps) (hout : Part.out ∈ ps) (hK
    : Kept ps K z0 s) : Kept ps K z0 (State.railOff s r) := by
  unfold State.railOff
  repeat' (first | with_reducible assumption | with_reducible apply State.modRail_kept | with_reducible apply State.pmb_kept)

theorem State.railOn_kept {ps : List Part} {K : Nat → Prop} {z0 : State} (s : State) (r : Nat) (hpower : Part.power ∈ ps) (hout : Part.out ∈ ps) (hK
    : Kept ps K z0 s) : Kept ps K z0 (State.railOn s r) := by
  unfold State.railOn
  repeat' (first | with_reducible assumption | with_reducible apply State.emit_kept | with_reducible apply State.pmb_kept
                 | with_reducible apply State.modRail_kept | with_reducible apply Kept.ite)

theorem State.railBegin_kept {ps : List Part} {K : Nat → Prop} {z0 : State} (s : State) (r : Nat) (hpower : Part.power ∈ ps) (hK : Kept ps K z0 s)
    : Kept ps K z0 (State.railBegin s r) := by
  unfold State.railBegin
  repeat' (first | with_reducible assumption | with_reducible apply State.modRail_kept)

theorem State.railsBegin_kept {ps : List Part} {K : Nat → Prop} {z0 : State} (s : State) (hboot : Part.boot ∈ ps) (hpower : Part.power ∈ ps)
    (hdict : Part.dict ∈ ps) (oPWR_STATE : K Obj.PWR_STATE) (hK : Kept ps K z0 s) : Kept ps K z0 (State.railsBegin s) := by
  unfold State.railsBegin
  repeat' (first | with_reducible intro _ | with_reducible assumption | with_reducible apply State.railBegin_kept
                 | with_reducible apply State.put_kept | exact Or.inl ‹_› | with_reducible exact Or.inr rfl | with_reducible exact Or.inl rfl
                 | dsimp only | with_reducible exact Nat.le_max_right _ _ | with_reducible apply Kept.all)
  all_goals (simp [Nat.le_max_right]; done)

theorem State.collectorStart_kept {ps : List Part} {K : Nat → Prop} {z0 : State} (s : State) (hboot : Part.boot ∈ ps) (hwonel : Part.wonel ∈ ps)
    (hflt : Part.flt ∈ ps) (hlinks : Part.links ∈ ps) (hgalley : Part.galley ∈ ps) (htables : Part.tables ∈ ps) (htim : Part.tim ∈ ps)
    (hcmp : Part.cmp ∈ ps) (hdict : Part.dict ∈ ps) (hout : Part.out ∈ ps) (hfresh : Part.fresh ∈ ps) (ko : ReactKeys K) (hK : Kept ps K z0 s)
    : Kept ps K z0 (State.collectorStart s) := by
  unfold State.collectorStart
  repeat' (first | with_reducible intro _ | with_reducible assumption | with_reducible apply State.failureOf_kept
                 | with_reducible apply Kept.foldl | exact Or.inl ‹_› | with_reducible exact Or.inr rfl | with_reducible exact Or.inl rfl
                 | dsimp only | with_reducible apply Kept.all)
  all_goals (simp [Nat.le_max_right]; done)

theorem State.nextRail_kept {ps : List Part} {K : Nat → Prop} {z0 : State} (s : State) (hboot : Part.boot ∈ ps) (hwonel : Part.wonel ∈ ps)
    (hflt : Part.flt ∈ ps) (hpower : Part.power ∈ ps) (hlinks : Part.links ∈ ps) (hgalley : Part.galley ∈ ps) (htables : Part.tables ∈ ps)
    (htim : Part.tim ∈ ps) (hcmp : Part.cmp ∈ ps) (hdict : Part.dict ∈ ps) (hout : Part.out ∈ ps) (hfresh : Part.fresh ∈ ps) (ko : ReactKeys K)
    (oPWR_STATE : K Obj.PWR_STATE) (hK : Kept ps K z0 s) : Kept ps K z0 (State.nextRail s) := by
  unfold State.nextRail
  repeat' (first | with_reducible intro _ | with_reducible assumption | with_reducible apply State.railBegin_kept
                 | with_reducible apply State.put_kept | with_reducible apply State.collectorStart_kept | exact Or.inl ‹_›
                 | with_reducible exact Or.inr rfl | with_reducible exact Or.inl rfl | split | dsimp only
                 | with_reducible exact Nat.le_max_right _ _ | with_reducible apply Kept.all)

theorem State.lowerRails_kept {ps : List Part} {K : Nat → Prop} {z0 : State} (s : State) (hpower : Part.power ∈ ps) (hout : Part.out ∈ ps) (hK
    : Kept ps K z0 s) : Kept ps K z0 (State.lowerRails s) := by
  unfold State.lowerRails
  repeat' (first | with_reducible intro _ | with_reducible assumption | with_reducible apply State.railOff_kept | with_reducible apply Kept.foldl
                 | with_reducible apply Kept.ite)

theorem State.statusRead_kept {ps : List Part} {K : Nat → Prop} {z0 : State} (s : State) (rail : Nat) (st : BitVec 16) (clear : Bool)
    (hwonel : Part.wonel ∈ ps) (hflt : Part.flt ∈ ps) (hpower : Part.power ∈ ps) (hlinks : Part.links ∈ ps) (hgalley : Part.galley ∈ ps)
    (htables : Part.tables ∈ ps) (htim : Part.tim ∈ ps) (hcmp : Part.cmp ∈ ps) (hdict : Part.dict ∈ ps) (hout : Part.out ∈ ps)
    (hfresh : Part.fresh ∈ ps) (ko : ReactKeys K) (oPWR_R_STATUS : ∀ i, K (Obj.PWR_R_STATUS i)) (hK : Kept ps K z0 s)
    : Kept ps K z0 (State.statusRead s rail st clear) := by
  unfold State.statusRead
  repeat' (first | with_reducible assumption | with_reducible exact oPWR_R_STATUS _ | with_reducible apply State.put_kept
                 | with_reducible apply State.failureOf_kept | with_reducible apply State.pmb_kept | with_reducible apply State.modRail_kept
                 | with_reducible apply Kept.ite)

theorem State.moveVcore_kept {ps : List Part} {K : Nat → Prop} {z0 : State} (s : State) (mv : Nat) (hpower : Part.power ∈ ps) (hout : Part.out ∈ ps)
    (hK : Kept ps K z0 s) : Kept ps K z0 (State.moveVcore s mv) := by
  unfold State.moveVcore
  repeat' (first | with_reducible intro _ | with_reducible assumption | with_reducible apply State.modRail_kept
                 | with_reducible apply State.emit_kept | exact Or.inl ‹_› | with_reducible exact Or.inr rfl | with_reducible exact Or.inl rfl
                 | dsimp only | with_reducible exact Nat.le_max_right _ _ | with_reducible apply Kept.all)

theorem startPwrShutdown_kept {ps : List Part} {K : Nat → Prop} {z0 : State} (s : State) (hdict : Part.dict ∈ ps) (hbusy : Part.busy ∈ ps)
    (oPWR_SHUTDOWN : K Obj.PWR_SHUTDOWN) (hK : Kept ps K z0 s) : Kept ps K z0 (startPwrShutdown s).2 := by
  unfold startPwrShutdown
  repeat' (first | with_reducible assumption | with_reducible apply State.runOnce_kept)

theorem afterPwrShutdown_kept {ps : List Part} {K : Nat → Prop} {z0 : State} (s : State) (hboot : Part.boot ∈ ps) (hwonel : Part.wonel ∈ ps)
    (hflt : Part.flt ∈ ps) (hpower : Part.power ∈ ps) (htim : Part.tim ∈ ps) (hdict : Part.dict ∈ ps) (hout : Part.out ∈ ps)
    (oFLT_STATE : K Obj.FLT_STATE) (oID_SAFE_CAUSE : K Obj.ID_SAFE_CAUSE) (oPWR_STATE : K Obj.PWR_STATE) (hK : Kept ps K z0 s)
    : Kept ps K z0 (afterPwrShutdown s) := by
  unfold afterPwrShutdown
  repeat' (first | with_reducible intro _ | with_reducible assumption | with_reducible apply State.put_kept
                 | with_reducible apply State.lowerRails_kept | with_reducible apply State.enterSafe_kept | exact Or.inl ‹_›
                 | with_reducible exact Or.inr rfl | with_reducible exact Or.inl rfl | dsimp only | with_reducible exact Nat.le_max_right _ _
                 | with_reducible apply Kept.all)

end Sys2Proof.Machine
end

