-- ==== Sys2Proof/Laws/KeptKce.lean ====
section
/-! SUPPORT. What the operations of Machine/Kce.lean keep (Laws/Kept.lean). -/

namespace Sys2Proof.Machine
open Sys2Proof

theorem State.wear_kept {ps : List Part} {K : Nat → Prop} {z0 : State} (s : State) (word : Nat) (hstore : Part.store ∈ ps) (hwonel : Part.wonel ∈ ps)
    (hflt : Part.flt ∈ ps) (hlinks : Part.links ∈ ps) (hgalley : Part.galley ∈ ps) (htables : Part.tables ∈ ps) (htim : Part.tim ∈ ps)
    (hcmp : Part.cmp ∈ ps) (hdict : Part.dict ∈ ps) (hout : Part.out ∈ ps) (hfresh : Part.fresh ∈ ps) (ko : ReactKeys K)
    (oLCY_PS_WEAR : K Obj.LCY_PS_WEAR) (hK : Kept ps K z0 s) : Kept ps K z0 (State.wear s word) := by
  unfold State.wear
  repeat' (first | with_reducible intro _ | with_reducible assumption | with_reducible apply State.raiseTo_kept
                 | with_reducible apply State.latch_kept | with_reducible apply State.failureOf_kept | with_reducible apply Kept.ite
                 | exact Or.inl ‹_› | with_reducible exact Or.inr rfl | with_reducible exact Or.inl rfl | dsimp only
                 | with_reducible exact Nat.le_max_right _ _ | with_reducible apply Kept.all)

theorem State.writeKeyRec_kept {ps : List Part} {K : Nat → Prop} {z0 : State} (s : State) (page : Nat) (r : KeyRec) (hstore : Part.store ∈ ps)
    (hwonel : Part.wonel ∈ ps) (hflt : Part.flt ∈ ps) (hlinks : Part.links ∈ ps) (hgalley : Part.galley ∈ ps) (htables : Part.tables ∈ ps)
    (htim : Part.tim ∈ ps) (hcmp : Part.cmp ∈ ps) (hdict : Part.dict ∈ ps) (hout : Part.out ∈ ps) (hfresh : Part.fresh ∈ ps) (ko : ReactKeys K)
    (oLCY_PS_WEAR : K Obj.LCY_PS_WEAR) (hK : Kept ps K z0 s) : Kept ps K z0 (State.writeKeyRec s page r) := by
  unfold State.writeKeyRec
  repeat' (first | with_reducible intro _ | with_reducible assumption | with_reducible apply State.wear_kept | exact Or.inl ‹_›
                 | with_reducible exact Or.inr rfl | with_reducible exact Or.inl rfl | dsimp only | with_reducible exact Nat.le_max_right _ _
                 | with_reducible apply Kept.all)

theorem State.writeRing_kept {ps : List Part} {K : Nat → Prop} {z0 : State} (s : State) (page : Nat) (usage : Bool) (value : Nat)
    (hstore : Part.store ∈ ps) (hwonel : Part.wonel ∈ ps) (hkce : Part.kce ∈ ps) (hflt : Part.flt ∈ ps) (hlinks : Part.links ∈ ps)
    (hgalley : Part.galley ∈ ps) (htables : Part.tables ∈ ps) (htim : Part.tim ∈ ps) (hcmp : Part.cmp ∈ ps) (hdict : Part.dict ∈ ps)
    (hout : Part.out ∈ ps) (hfresh : Part.fresh ∈ ps) (ko : ReactKeys K) (oLCY_PS_WEAR : K Obj.LCY_PS_WEAR) (hK : Kept ps K z0 s)
    : Kept ps K z0 (State.writeRing s page usage value) := by
  unfold State.writeRing
  repeat' (first | with_reducible intro _ | with_reducible assumption | with_reducible apply State.wear_kept
                 | with_reducible apply State.modPage_kept | exact Or.inl ‹_› | with_reducible exact Or.inr rfl | with_reducible exact Or.inl rfl
                 | split | dsimp only | with_reducible exact Nat.le_max_right _ _ | with_reducible apply Kept.all)

theorem State.keyOnset_kept {ps : List Part} {K : Nat → Prop} {z0 : State} (s : State) (old : State) (page : Nat) (hwonel : Part.wonel ∈ ps) (hK
    : Kept ps K z0 s) : Kept ps K z0 (State.keyOnset s old page) := by
  unfold State.keyOnset
  repeat' (first | with_reducible intro _ | with_reducible assumption | with_reducible apply Kept.ite | exact Or.inl ‹_›
                 | with_reducible exact Or.inr rfl | with_reducible exact Or.inl rfl | dsimp only | with_reducible exact Nat.le_max_right _ _
                 | with_reducible apply Kept.all)
  all_goals (simp [Nat.le_max_right]; done)

theorem State.acceptSeq_kept {ps : List Part} {K : Nat → Prop} {z0 : State} (s : State) (page : Nat) (seq : Nat) (hwonel : Part.wonel ∈ ps)
    (hkce : Part.kce ∈ ps) (hK : Kept ps K z0 s) : Kept ps K z0 (State.acceptSeq s page seq) := by
  unfold State.acceptSeq
  repeat' (first | with_reducible assumption | with_reducible apply State.keyOnset_kept | with_reducible apply State.modPage_kept)

theorem State.lockPage_kept {ps : List Part} {K : Nat → Prop} {z0 : State} (s : State) (page : Nat) (hstore : Part.store ∈ ps)
    (hwonel : Part.wonel ∈ ps) (hkce : Part.kce ∈ ps) (hflt : Part.flt ∈ ps) (hlinks : Part.links ∈ ps) (hgalley : Part.galley ∈ ps)
    (htables : Part.tables ∈ ps) (htim : Part.tim ∈ ps) (hcmp : Part.cmp ∈ ps) (hdict : Part.dict ∈ ps) (hout : Part.out ∈ ps)
    (hfresh : Part.fresh ∈ ps) (ko : ReactKeys K) (oLCY_PS_WEAR : K Obj.LCY_PS_WEAR) (hK : Kept ps K z0 s) : Kept ps K z0 (State.lockPage s page)
    := by
  unfold State.lockPage
  repeat' (first | with_reducible assumption | with_reducible apply State.modPage_kept | with_reducible apply State.writeKeyRec_kept)

theorem State.countUse_kept {ps : List Part} {K : Nat → Prop} {z0 : State} (s : State) (page : Nat) (n : Nat) (hstore : Part.store ∈ ps)
    (hwonel : Part.wonel ∈ ps) (hkce : Part.kce ∈ ps) (hflt : Part.flt ∈ ps) (hlinks : Part.links ∈ ps) (hgalley : Part.galley ∈ ps)
    (htables : Part.tables ∈ ps) (htim : Part.tim ∈ ps) (hcmp : Part.cmp ∈ ps) (hdict : Part.dict ∈ ps) (hout : Part.out ∈ ps)
    (hfresh : Part.fresh ∈ ps) (ko : ReactKeys K) (oLCY_PS_WEAR : K Obj.LCY_PS_WEAR) (hK : Kept ps K z0 s) : Kept ps K z0 (State.countUse s page n)
    := by
  unfold State.countUse
  repeat' (first | with_reducible assumption | with_reducible apply State.keyOnset_kept | with_reducible apply State.modPage_kept
                 | with_reducible apply State.lockPage_kept | with_reducible apply Kept.ite)

theorem State.closeSession_kept {ps : List Part} {K : Nat → Prop} {z0 : State} (s : State) (i : Nat) (hwonel : Part.wonel ∈ ps) (hK : Kept ps K z0 s)
    : Kept ps K z0 (State.closeSession s i) := by
  unfold State.closeSession
  repeat' (first | with_reducible assumption | with_reducible apply State.modSession_kept)

theorem State.afterRekey_kept {ps : List Part} {K : Nat → Prop} {z0 : State} (s : State) (p : Nat) (hwonel : Part.wonel ∈ ps) (hdict : Part.dict ∈ ps)
    (oSES_GRANT : ∀ i, K (Obj.SES_GRANT i)) (hK : Kept ps K z0 s) : Kept ps K z0 (State.afterRekey s p) := by
  unfold State.afterRekey
  repeat' (first | with_reducible assumption | with_reducible exact oSES_GRANT _ | with_reducible apply State.modSession_kept
                 | with_reducible apply State.closeSession_kept | with_reducible apply State.put_kept)

theorem State.installPage_kept {ps : List Part} {K : Nat → Prop} {z0 : State} (s : State) (p : Nat) (hstore : Part.store ∈ ps)
    (hwonel : Part.wonel ∈ ps) (hkce : Part.kce ∈ ps) (hflt : Part.flt ∈ ps) (hlinks : Part.links ∈ ps) (hgalley : Part.galley ∈ ps)
    (htables : Part.tables ∈ ps) (htim : Part.tim ∈ ps) (hcmp : Part.cmp ∈ ps) (hdict : Part.dict ∈ ps) (hout : Part.out ∈ ps)
    (hfresh : Part.fresh ∈ ps) (ko : ReactKeys K) (oKCE_NEW_KEY : ∀ i, K (Obj.KCE_NEW_KEY i)) (oKCE_NEW_KEYLEN : ∀ i, K (Obj.KCE_NEW_KEYLEN i))
    (oLCY_PS_WEAR : K Obj.LCY_PS_WEAR) (oSES_GRANT : ∀ i, K (Obj.SES_GRANT i)) (hK : Kept ps K z0 s) : Kept ps K z0 (State.installPage s p) := by
  unfold State.installPage
  repeat' (first | with_reducible intro _ | with_reducible assumption | with_reducible exact oKCE_NEW_KEY _
                 | with_reducible exact oKCE_NEW_KEYLEN _ | with_reducible exact oSES_GRANT _ | with_reducible apply State.writeKeyRec_kept
                 | with_reducible apply State.modPage_kept | with_reducible apply State.writeRing_kept | with_reducible apply State.put_kept
                 | with_reducible apply State.afterRekey_kept)

theorem startKceInstall_kept {ps : List Part} {K : Nat → Prop} {z0 : State} (s : State) (p : Nat) (hstore : Part.store ∈ ps)
    (hwonel : Part.wonel ∈ ps) (hkce : Part.kce ∈ ps) (hflt : Part.flt ∈ ps) (hlinks : Part.links ∈ ps) (hgalley : Part.galley ∈ ps)
    (htables : Part.tables ∈ ps) (htim : Part.tim ∈ ps) (hcmp : Part.cmp ∈ ps) (hdict : Part.dict ∈ ps) (hbusy : Part.busy ∈ ps)
    (hout : Part.out ∈ ps) (hfresh : Part.fresh ∈ ps) (ko : ReactKeys K) (oKCE_INSTALL : ∀ i, K (Obj.KCE_INSTALL i))
    (oKCE_NEW_KEY : ∀ i, K (Obj.KCE_NEW_KEY i)) (oKCE_NEW_KEYLEN : ∀ i, K (Obj.KCE_NEW_KEYLEN i)) (oLCY_PS_WEAR : K Obj.LCY_PS_WEAR)
    (oSES_GRANT : ∀ i, K (Obj.SES_GRANT i)) (hK : Kept ps K z0 s) : Kept ps K z0 (startKceInstall s p).2 := by
  unfold startKceInstall
  repeat' (first | with_reducible intro _ | with_reducible assumption | with_reducible exact oKCE_INSTALL _ | with_reducible exact oKCE_NEW_KEY _
                 | with_reducible exact oKCE_NEW_KEYLEN _ | with_reducible exact oSES_GRANT _ | with_reducible apply State.runOnce_kept
                 | with_reducible apply State.installPage_kept | with_reducible apply Kept.ite_snd)

theorem startKceEmpty_kept {ps : List Part} {K : Nat → Prop} {z0 : State} (s : State) (p : Nat) (hstore : Part.store ∈ ps) (hwonel : Part.wonel ∈ ps)
    (hkce : Part.kce ∈ ps) (hflt : Part.flt ∈ ps) (hlinks : Part.links ∈ ps) (hgalley : Part.galley ∈ ps) (htables : Part.tables ∈ ps)
    (htim : Part.tim ∈ ps) (hcmp : Part.cmp ∈ ps) (hdict : Part.dict ∈ ps) (hbusy : Part.busy ∈ ps) (hout : Part.out ∈ ps) (hfresh : Part.fresh ∈ ps)
    (ko : ReactKeys K) (oKCE_EMPTY : ∀ i, K (Obj.KCE_EMPTY i)) (oLCY_PS_WEAR : K Obj.LCY_PS_WEAR) (oSES_GRANT : ∀ i, K (Obj.SES_GRANT i)) (hK
    : Kept ps K z0 s) : Kept ps K z0 (startKceEmpty s p).2 := by
  unfold startKceEmpty
  repeat' (first | with_reducible intro _ | with_reducible assumption | with_reducible exact oKCE_EMPTY _ | with_reducible exact oSES_GRANT _
                 | with_reducible apply State.runOnce_kept | with_reducible apply State.afterRekey_kept
                 | with_reducible apply State.writeKeyRec_kept | with_reducible apply State.modPage_kept | with_reducible apply Kept.ite_snd)

theorem State.kceRefuse_kept {ps : List Part} {K : Nat → Prop} {z0 : State} (s : State) (m : KceMsg) (hkce : Part.kce ∈ ps) (hdict : Part.dict ∈ ps)
    (oKCE_REFUSED : K Obj.KCE_REFUSED) (hK : Kept ps K z0 s) : Kept ps K z0 (State.kceRefuse s m) := by
  unfold State.kceRefuse
  repeat' (first | with_reducible intro _ | with_reducible assumption | with_reducible apply State.bump_kept | exact Or.inl ‹_›
                 | with_reducible exact Or.inr rfl | with_reducible exact Or.inl rfl | dsimp only | with_reducible exact Nat.le_max_right _ _
                 | with_reducible apply Kept.all)

theorem State.kceNext_kept {ps : List Part} {K : Nat → Prop} {z0 : State} (s : State) (hkce : Part.kce ∈ ps) (hdict : Part.dict ∈ ps)
    (oKCE_L0_WAIT_MAX : K Obj.KCE_L0_WAIT_MAX) (oKCE_REFUSED : K Obj.KCE_REFUSED) (hK : Kept ps K z0 s) : Kept ps K z0 (State.kceNext s) := by
  unfold State.kceNext
  repeat' (first | with_reducible intro _ | with_reducible assumption | with_reducible apply State.raiseTo_kept
                 | with_reducible apply State.kceRefuse_kept | with_reducible apply Kept.ite | exact Or.inl ‹_› | with_reducible exact Or.inr rfl
                 | with_reducible exact Or.inl rfl | split | dsimp only | with_reducible exact Nat.le_max_right _ _ | with_reducible apply Kept.all)

theorem State.kcePut_kept {ps : List Part} {K : Nat → Prop} {z0 : State} (s : State) (level : Nat) (page : Nat) (handle : Nat) (data : Bytes)
    (expect : Option Bytes) (hkce : Part.kce ∈ ps) (hdict : Part.dict ∈ ps) (oKCE_L0_WAIT_MAX : K Obj.KCE_L0_WAIT_MAX)
    (oKCE_REFUSED : K Obj.KCE_REFUSED) (hK : Kept ps K z0 s) : Kept ps K z0 (State.kcePut s level page handle data expect) := by
  unfold State.kcePut
  repeat' (first | with_reducible intro _ | with_reducible assumption | with_reducible apply State.kceNext_kept | with_reducible apply Kept.ite
                 | exact Or.inl ‹_› | with_reducible exact Or.inr rfl | with_reducible exact Or.inl rfl | dsimp only
                 | with_reducible exact Nat.le_max_right _ _ | with_reducible apply Kept.all)

theorem State.kceTag_kept {ps : List Part} {K : Nat → Prop} {z0 : State} (s : State) (page : Nat) (data : Bytes) (hdict : Part.dict ∈ ps)
    (oKCE_BLOCKS : K Obj.KCE_BLOCKS) (oKCE_MESSAGES : K Obj.KCE_MESSAGES) (hK : Kept ps K z0 s) : Kept ps K z0 (State.kceTag s page data).2 := by
  unfold State.kceTag
  repeat' (first | with_reducible assumption | with_reducible apply State.bump_kept | with_reducible apply State.bumpBy_kept)

end Sys2Proof.Machine
end

