-- ==== Sys2Proof/Laws/KeptBoot.lean ====
section
/-! SUPPORT. What the operations of Machine/Boot.lean keep (Laws/Kept.lean). -/

namespace Sys2Proof.Machine
open Sys2Proof

theorem State.resetPins_kept {ps : List Part} {K : Nat → Prop} {z0 : State} (s : State) (hout : Part.out ∈ ps) (hK : Kept ps K z0 s)
    : Kept ps K z0 (State.resetPins s) := by
  unfold State.resetPins
  repeat' (first | with_reducible intro _ | with_reducible assumption | with_reducible apply State.emit_kept | with_reducible apply Kept.foldl)

theorem startLcySoftReset_kept {ps : List Part} {K : Nat → Prop} {z0 : State} (s : State) (hboot : Part.boot ∈ ps) (hK : Kept ps K z0 s)
    : Kept ps K z0 (startLcySoftReset s).2 := by
  unfold startLcySoftReset
  repeat' (first | with_reducible intro _ | with_reducible assumption | exact Or.inl ‹_› | with_reducible exact Or.inr rfl
                 | with_reducible exact Or.inl rfl | dsimp only | with_reducible exact Nat.le_max_right _ _ | with_reducible apply Kept.all)

theorem State.release_kept {ps : List Part} {K : Nat → Prop} {z0 : State} (s : State) (s0 : BitVec 2) (s1 : BitVec 2) (s2 : BitVec 2) (act0 : Bool)
    (act1 : Bool) (hboot : Part.boot ∈ ps) (hK : Kept ps K z0 s) : Kept ps K z0 (State.release s s0 s1 s2 act0 act1) := by
  unfold State.release
  repeat' (first | with_reducible intro _ | with_reducible assumption | exact Or.inl ‹_› | with_reducible exact Or.inr rfl
                 | with_reducible exact Or.inl rfl | split | dsimp only | with_reducible exact Nat.le_max_right _ _ | with_reducible apply Kept.all)

theorem State.switchRef_kept {ps : List Part} {K : Nat → Prop} {z0 : State} (s : State) (r : Nat) (hboot : Part.boot ∈ ps) (hwonel : Part.wonel ∈ ps)
    (hflt : Part.flt ∈ ps) (hlinks : Part.links ∈ ps) (hgalley : Part.galley ∈ ps) (htables : Part.tables ∈ ps) (htim : Part.tim ∈ ps)
    (hcmp : Part.cmp ∈ ps) (hdict : Part.dict ∈ ps) (hout : Part.out ∈ ps) (hfresh : Part.fresh ∈ ps) (ko : ReactKeys K)
    (oCLK_REF_SWITCHES : K Obj.CLK_REF_SWITCHES) (hK : Kept ps K z0 s) : Kept ps K z0 (State.switchRef s r) := by
  unfold State.switchRef
  repeat' (first | with_reducible intro _ | with_reducible assumption | with_reducible apply State.bump_kept
                 | with_reducible apply State.report_kept | with_reducible apply Kept.ite | exact Or.inl ‹_› | with_reducible exact Or.inr rfl
                 | with_reducible exact Or.inl rfl | dsimp only | with_reducible exact Nat.le_max_right _ _ | with_reducible apply Kept.all)

theorem State.refLost_kept {ps : List Part} {K : Nat → Prop} {z0 : State} (s : State) (hboot : Part.boot ∈ ps) (hwonel : Part.wonel ∈ ps)
    (hflt : Part.flt ∈ ps) (hlinks : Part.links ∈ ps) (hgalley : Part.galley ∈ ps) (htables : Part.tables ∈ ps) (htim : Part.tim ∈ ps)
    (hcmp : Part.cmp ∈ ps) (hdict : Part.dict ∈ ps) (hout : Part.out ∈ ps) (hfresh : Part.fresh ∈ ps) (ko : ReactKeys K)
    (oCLK_REF_SWITCHES : K Obj.CLK_REF_SWITCHES) (hK : Kept ps K z0 s) : Kept ps K z0 (State.refLost s) := by
  unfold State.refLost
  repeat' (first | with_reducible intro _ | with_reducible assumption | with_reducible apply State.switchRef_kept
                 | with_reducible apply State.report_kept | with_reducible apply Kept.ite | exact Or.inl ‹_› | with_reducible exact Or.inr rfl
                 | with_reducible exact Or.inl rfl | dsimp only | with_reducible exact Nat.le_max_right _ _ | with_reducible apply Kept.all)

theorem State.installPage0_kept {ps : List Part} {K : Nat → Prop} {z0 : State} (s : State) (b : Bank) (hstore : Part.store ∈ ps)
    (hwonel : Part.wonel ∈ ps) (hkce : Part.kce ∈ ps) (hflt : Part.flt ∈ ps) (hlinks : Part.links ∈ ps) (hgalley : Part.galley ∈ ps)
    (htables : Part.tables ∈ ps) (htim : Part.tim ∈ ps) (hcmp : Part.cmp ∈ ps) (hdict : Part.dict ∈ ps) (hout : Part.out ∈ ps)
    (hfresh : Part.fresh ∈ ps) (ko : ReactKeys K) (oLCY_PS_WEAR : K Obj.LCY_PS_WEAR) (hK : Kept ps K z0 s) : Kept ps K z0 (State.installPage0 s b)
    := by
  unfold State.installPage0
  repeat' (first | with_reducible intro _ | with_reducible assumption | with_reducible apply State.wear_kept | with_reducible apply Kept.foldl
                 | exact Or.inl ‹_› | with_reducible exact Or.inr rfl | with_reducible exact Or.inl rfl | dsimp only
                 | with_reducible exact Nat.le_max_right _ _ | with_reducible apply Kept.all)
  all_goals (simp [Nat.le_max_right]; done)

theorem State.loadKeys_kept {ps : List Part} {K : Nat → Prop} {z0 : State} (s : State) (b : Bank) (hstore : Part.store ∈ ps)
    (hwonel : Part.wonel ∈ ps) (hkce : Part.kce ∈ ps) (hflt : Part.flt ∈ ps) (hlinks : Part.links ∈ ps) (hgalley : Part.galley ∈ ps)
    (htables : Part.tables ∈ ps) (htim : Part.tim ∈ ps) (hcmp : Part.cmp ∈ ps) (hdict : Part.dict ∈ ps) (hout : Part.out ∈ ps)
    (hfresh : Part.fresh ∈ ps) (ko : ReactKeys K) (oLCY_PS_WEAR : K Obj.LCY_PS_WEAR) (hK : Kept ps K z0 s) : Kept ps K z0 (State.loadKeys s b) := by
  unfold State.loadKeys
  repeat' (first | with_reducible intro _ | with_reducible assumption | with_reducible apply State.installPage0_kept
                 | with_reducible apply Kept.ite | exact Or.inl ‹_› | with_reducible exact Or.inr rfl | with_reducible exact Or.inl rfl | split
                 | dsimp only | with_reducible exact Nat.le_max_right _ _ | with_reducible apply Kept.all)
  all_goals (simp [Nat.le_max_right]; done)

theorem State.putHeader_kept {ps : List Part} {K : Nat → Prop} {z0 : State} (s : State) (bank : Nat) (b : Bank) (hdict : Part.dict ∈ ps)
    (hall : ∀ k, K k) (hK : Kept ps K z0 s) : Kept ps K z0 (State.putHeader s bank b) := by
  unfold State.putHeader
  repeat' (first | with_reducible intro _ | with_reducible assumption | exact hall _ | with_reducible apply State.put_kept
                 | with_reducible apply Kept.foldl)

end Sys2Proof.Machine
end

