-- ==== Sys2Proof/Laws/KeptCollector.lean ====
section
/-! SUPPORT. What the operations of Machine/Collector.lean keep (Laws/Kept.lean). -/

namespace Sys2Proof.Machine
open Sys2Proof

theorem State.clearSources_kept {ps : List Part} {K : Nat → Prop} {z0 : State} (s : State) (hwonel : Part.wonel ∈ ps) (hflt : Part.flt ∈ ps)
    (hdict : Part.dict ∈ ps) (oFLT_EVENTS : K Obj.FLT_EVENTS) (oFLT_EVENT_LOST : K Obj.FLT_EVENT_LOST) (hK : Kept ps K z0 s)
    : Kept ps K z0 (State.clearSources s) := by
  unfold State.clearSources
  repeat' (first | with_reducible intro _ | with_reducible assumption | with_reducible apply State.clearSource_kept
                 | with_reducible apply Kept.foldl | with_reducible apply Kept.ite)

theorem startFltClear_kept {ps : List Part} {K : Nat → Prop} {z0 : State} (s : State) (hwonel : Part.wonel ∈ ps) (hflt : Part.flt ∈ ps)
    (hdict : Part.dict ∈ ps) (hbusy : Part.busy ∈ ps) (oFLT_CLEAR : K Obj.FLT_CLEAR) (oFLT_EVENTS : K Obj.FLT_EVENTS)
    (oFLT_EVENT_LOST : K Obj.FLT_EVENT_LOST) (hK : Kept ps K z0 s) : Kept ps K z0 (startFltClear s).2 := by
  unfold startFltClear
  repeat' (first | with_reducible assumption | with_reducible apply State.runOnce_kept | with_reducible apply State.clearSources_kept
                 | with_reducible apply State.clearSource_kept | with_reducible apply Kept.ite | with_reducible apply Kept.ite_snd)

theorem startFltSafeEnter_kept {ps : List Part} {K : Nat → Prop} {z0 : State} (s : State) (hwonel : Part.wonel ∈ ps) (hflt : Part.flt ∈ ps)
    (htim : Part.tim ∈ ps) (hdict : Part.dict ∈ ps) (hbusy : Part.busy ∈ ps) (hout : Part.out ∈ ps) (oFLT_SAFE_ENTER : K Obj.FLT_SAFE_ENTER)
    (oFLT_STATE : K Obj.FLT_STATE) (oID_SAFE_CAUSE : K Obj.ID_SAFE_CAUSE) (hK : Kept ps K z0 s) : Kept ps K z0 (startFltSafeEnter s).2 := by
  unfold startFltSafeEnter
  repeat' (first | with_reducible assumption | with_reducible apply State.runOnce_kept | with_reducible apply State.enterSafe_kept)

theorem startFltInjArm_kept {ps : List Part} {K : Nat → Prop} {z0 : State} (s : State) (hflt : Part.flt ∈ ps) (hdict : Part.dict ∈ ps)
    (hbusy : Part.busy ∈ ps) (oFLT_INJ_ARM : K Obj.FLT_INJ_ARM) (oFLT_INJ_LEFT : K Obj.FLT_INJ_LEFT) (hK : Kept ps K z0 s)
    : Kept ps K z0 (startFltInjArm s).2 := by
  unfold startFltInjArm
  repeat' (first | with_reducible intro _ | with_reducible assumption | with_reducible apply State.runOnce_kept
                 | with_reducible apply State.runBegin_kept | with_reducible apply State.put_kept | with_reducible apply Kept.ite_snd
                 | exact Or.inl ‹_› | with_reducible exact Or.inr rfl | with_reducible exact Or.inl rfl | dsimp only
                 | with_reducible exact Nat.le_max_right _ _ | with_reducible apply Kept.all)

theorem abortFltInjArm_kept {ps : List Part} {K : Nat → Prop} {z0 : State} (s : State) (hflt : Part.flt ∈ ps) (hdict : Part.dict ∈ ps)
    (hbusy : Part.busy ∈ ps) (oFLT_INJ_ARM : K Obj.FLT_INJ_ARM) (oFLT_INJ_LEFT : K Obj.FLT_INJ_LEFT) (hK : Kept ps K z0 s)
    : Kept ps K z0 (abortFltInjArm s) := by
  unfold abortFltInjArm
  repeat' (first | with_reducible intro _ | with_reducible assumption | with_reducible apply State.runEnd_kept
                 | with_reducible apply State.put_kept | exact Or.inl ‹_› | with_reducible exact Or.inr rfl | with_reducible exact Or.inl rfl
                 | dsimp only | with_reducible apply Kept.all)
  all_goals (simp [Nat.le_max_right]; done)

end Sys2Proof.Machine
end

