-- ==== Sys2Proof/Laws/KeptMemInt.lean ====
section
/-! SUPPORT. What the operations of Machine/MemInt.lean keep (Laws/Kept.lean). -/

namespace Sys2Proof.Machine
open Sys2Proof

theorem State.setFlips_kept {ps : List Part} {K : Nat → Prop} {z0 : State} (s : State) (kind : Nat) (inst : Nat) (addr : Nat) (pat : Nat)
    (hmem : Part.mem ∈ ps) (hK : Kept ps K z0 s) : Kept ps K z0 (State.setFlips s kind inst addr pat) := by
  unfold State.setFlips
  repeat' (first | with_reducible intro _ | with_reducible assumption | exact Or.inl ‹_› | with_reducible exact Or.inr rfl
                 | with_reducible exact Or.inl rfl | dsimp only | with_reducible exact Nat.le_max_right _ _ | with_reducible apply Kept.all)

theorem State.memWritten_kept {ps : List Part} {K : Nat → Prop} {z0 : State} (s : State) (kind : Nat) (inst : Nat) (addr : Nat) (hmem : Part.mem ∈ ps)
    (hdict : Part.dict ∈ ps) (oFLT_DIAG_LOGGED : K Obj.FLT_DIAG_LOGGED) (hK : Kept ps K z0 s) : Kept ps K z0 (State.memWritten s kind inst addr) := by
  unfold State.memWritten
  repeat' (first | with_reducible intro _ | with_reducible assumption | with_reducible apply State.put_kept | with_reducible apply Kept.ite
                 | exact Or.inl ‹_› | with_reducible exact Or.inr rfl | with_reducible exact Or.inl rfl | dsimp only
                 | with_reducible exact Nat.le_max_right _ _ | with_reducible apply Kept.all)

theorem State.memEvent_kept {ps : List Part} {K : Nat → Prop} {z0 : State} (s : State) (kind : Nat) (inst : Nat) (addr : Nat) (result : Nat)
    (source : Nat) (flags : Nat) (syn : Nat) (p1 : Nat) (p2 : Nat) (hwonel : Part.wonel ∈ ps) (hflt : Part.flt ∈ ps) (hlinks : Part.links ∈ ps)
    (hgalley : Part.galley ∈ ps) (htables : Part.tables ∈ ps) (htim : Part.tim ∈ ps) (hcmp : Part.cmp ∈ ps) (hdict : Part.dict ∈ ps)
    (hout : Part.out ∈ ps) (hfresh : Part.fresh ∈ ps) (ko : ReactKeys K) (oCHS_LABEL_CE : ∀ i, K (Obj.CHS_LABEL_CE i))
    (oCHS_LABEL_UE : ∀ i, K (Obj.CHS_LABEL_UE i)) (oCHS_LPM_MISMATCH : ∀ i, K (Obj.CHS_LPM_MISMATCH i))
    (oCHS_LPM_PARITY : ∀ i, K (Obj.CHS_LPM_PARITY i)) (oCHS_NH_CE : ∀ i, K (Obj.CHS_NH_CE i)) (oCHS_NH_UE : ∀ i, K (Obj.CHS_NH_UE i))
    (oCMP_FETCH_CE : K Obj.CMP_FETCH_CE) (oCMP_FETCH_UE : K Obj.CMP_FETCH_UE) (oFLT_MI_CE : ∀ i, K (Obj.FLT_MI_CE i))
    (oFLT_MI_LAST : ∀ i, K (Obj.FLT_MI_LAST i)) (oFLT_MI_UE : ∀ i, K (Obj.FLT_MI_UE i)) (oTBL_LRN_UNCORR : ∀ i, K (Obj.TBL_LRN_UNCORR i)) (hK
    : Kept ps K z0 s) : Kept ps K z0 (State.memEvent s kind inst addr result source flags syn p1 p2) := by
  unfold State.memEvent
  repeat' (first | with_reducible assumption | with_reducible exact oCHS_LABEL_CE _ | with_reducible exact oCHS_LABEL_UE _
                 | with_reducible exact oCHS_LPM_MISMATCH _ | with_reducible exact oCHS_LPM_PARITY _ | with_reducible exact oCHS_NH_CE _
                 | with_reducible exact oCHS_NH_UE _ | with_reducible exact oFLT_MI_CE _ | with_reducible exact oFLT_MI_LAST _
                 | with_reducible exact oFLT_MI_UE _ | with_reducible exact oTBL_LRN_UNCORR _ | with_reducible apply State.bump_kept
                 | with_reducible apply State.put_kept | with_reducible apply State.report_kept | with_reducible apply Kept.ite | split)

theorem State.useInjection_kept {ps : List Part} {K : Nat → Prop} {z0 : State} (s : State) (j : Injection) (hflt : Part.flt ∈ ps)
    (hdict : Part.dict ∈ ps) (hbusy : Part.busy ∈ ps) (oFLT_INJ_ARM : K Obj.FLT_INJ_ARM) (oFLT_INJ_DONE : K Obj.FLT_INJ_DONE)
    (oFLT_INJ_LEFT : K Obj.FLT_INJ_LEFT) (hK : Kept ps K z0 s) : Kept ps K z0 (State.useInjection s j) := by
  unfold State.useInjection
  repeat' (first | with_reducible intro _ | with_reducible assumption | with_reducible apply State.put_kept
                 | with_reducible apply State.bump_kept | with_reducible apply State.runEnd_kept | with_reducible apply Kept.ite
                 | exact Or.inl ‹_› | with_reducible exact Or.inr rfl | with_reducible exact Or.inl rfl | dsimp only
                 | with_reducible exact Nat.le_max_right _ _ | with_reducible apply Kept.all)
  all_goals (simp [Nat.le_max_right]; done)

theorem State.schedBack_kept {ps : List Part} {K : Nat → Prop} {z0 : State} (s : State) (key : Nat) (poison : Bool) (hmem : Part.mem ∈ ps) (hK
    : Kept ps K z0 s) : Kept ps K z0 (State.schedBack s key poison) := by
  unfold State.schedBack
  repeat' (first | with_reducible intro _ | with_reducible assumption | with_reducible apply Kept.ite | exact Or.inl ‹_›
                 | with_reducible exact Or.inr rfl | with_reducible exact Or.inl rfl | dsimp only | with_reducible exact Nat.le_max_right _ _
                 | with_reducible apply Kept.all)

theorem State.readInjected_kept {ps : List Part} {K : Nat → Prop} {z0 : State} (s : State) (kind : Nat) (inst : Nat) (addr : Nat) (source : Nat)
    (diag : Nat) (pat : Nat) (j : Injection) (hwonel : Part.wonel ∈ ps) (hflt : Part.flt ∈ ps) (hlinks : Part.links ∈ ps) (hgalley : Part.galley ∈ ps)
    (htables : Part.tables ∈ ps) (htim : Part.tim ∈ ps) (hcmp : Part.cmp ∈ ps) (hdict : Part.dict ∈ ps) (hbusy : Part.busy ∈ ps)
    (hout : Part.out ∈ ps) (hfresh : Part.fresh ∈ ps) (ko : ReactKeys K) (oCHS_LABEL_CE : ∀ i, K (Obj.CHS_LABEL_CE i))
    (oCHS_LABEL_UE : ∀ i, K (Obj.CHS_LABEL_UE i)) (oCHS_LPM_MISMATCH : ∀ i, K (Obj.CHS_LPM_MISMATCH i))
    (oCHS_LPM_PARITY : ∀ i, K (Obj.CHS_LPM_PARITY i)) (oCHS_NH_CE : ∀ i, K (Obj.CHS_NH_CE i)) (oCHS_NH_UE : ∀ i, K (Obj.CHS_NH_UE i))
    (oCMP_FETCH_CE : K Obj.CMP_FETCH_CE) (oCMP_FETCH_UE : K Obj.CMP_FETCH_UE) (oFLT_INJ_ARM : K Obj.FLT_INJ_ARM) (oFLT_INJ_DONE : K Obj.FLT_INJ_DONE)
    (oFLT_INJ_LEFT : K Obj.FLT_INJ_LEFT) (oFLT_MI_CE : ∀ i, K (Obj.FLT_MI_CE i)) (oFLT_MI_LAST : ∀ i, K (Obj.FLT_MI_LAST i))
    (oFLT_MI_UE : ∀ i, K (Obj.FLT_MI_UE i)) (oTBL_LRN_UNCORR : ∀ i, K (Obj.TBL_LRN_UNCORR i)) (hK : Kept ps K z0 s)
    : Kept ps K z0 (State.readInjected s kind inst addr source diag pat j).state := by
  unfold State.readInjected
  repeat' (first | with_reducible intro _ | with_reducible assumption | with_reducible exact oCHS_LABEL_CE _
                 | with_reducible exact oCHS_LABEL_UE _ | with_reducible exact oCHS_LPM_MISMATCH _ | with_reducible exact oCHS_LPM_PARITY _
                 | with_reducible exact oCHS_NH_CE _ | with_reducible exact oCHS_NH_UE _ | with_reducible exact oFLT_MI_CE _
                 | with_reducible exact oFLT_MI_LAST _ | with_reducible exact oFLT_MI_UE _ | with_reducible exact oTBL_LRN_UNCORR _
                 | with_reducible apply State.useInjection_kept | with_reducible apply State.memEvent_kept | split)

theorem State.readFixed_kept {ps : List Part} {K : Nat → Prop} {z0 : State} (s : State) (kind : Nat) (inst : Nat) (addr : Nat) (source : Nat)
    (diag : Nat) (pat : Nat) (p1 : Nat) (p2 : Option Nat) (syn : Nat) (hwonel : Part.wonel ∈ ps) (hflt : Part.flt ∈ ps) (hlinks : Part.links ∈ ps)
    (hgalley : Part.galley ∈ ps) (htables : Part.tables ∈ ps) (htim : Part.tim ∈ ps) (hcmp : Part.cmp ∈ ps) (hmem : Part.mem ∈ ps)
    (hdict : Part.dict ∈ ps) (hout : Part.out ∈ ps) (hfresh : Part.fresh ∈ ps) (ko : ReactKeys K) (oCHS_LABEL_CE : ∀ i, K (Obj.CHS_LABEL_CE i))
    (oCHS_LABEL_UE : ∀ i, K (Obj.CHS_LABEL_UE i)) (oCHS_LPM_MISMATCH : ∀ i, K (Obj.CHS_LPM_MISMATCH i))
    (oCHS_LPM_PARITY : ∀ i, K (Obj.CHS_LPM_PARITY i)) (oCHS_NH_CE : ∀ i, K (Obj.CHS_NH_CE i)) (oCHS_NH_UE : ∀ i, K (Obj.CHS_NH_UE i))
    (oCMP_FETCH_CE : K Obj.CMP_FETCH_CE) (oCMP_FETCH_UE : K Obj.CMP_FETCH_UE) (oFLT_MI_CE : ∀ i, K (Obj.FLT_MI_CE i))
    (oFLT_MI_LAST : ∀ i, K (Obj.FLT_MI_LAST i)) (oFLT_MI_UE : ∀ i, K (Obj.FLT_MI_UE i)) (oTBL_LRN_UNCORR : ∀ i, K (Obj.TBL_LRN_UNCORR i)) (hK
    : Kept ps K z0 s) : Kept ps K z0 (State.readFixed s kind inst addr source diag pat p1 p2 syn).state := by
  unfold State.readFixed
  repeat' (first | with_reducible intro _ | with_reducible assumption | with_reducible exact oCHS_LABEL_CE _
                 | with_reducible exact oCHS_LABEL_UE _ | with_reducible exact oCHS_LPM_MISMATCH _ | with_reducible exact oCHS_LPM_PARITY _
                 | with_reducible exact oCHS_NH_CE _ | with_reducible exact oCHS_NH_UE _ | with_reducible exact oFLT_MI_CE _
                 | with_reducible exact oFLT_MI_LAST _ | with_reducible exact oFLT_MI_UE _ | with_reducible exact oTBL_LRN_UNCORR _
                 | with_reducible apply State.memEvent_kept | with_reducible apply State.schedBack_kept | with_reducible apply Kept.ite)

theorem State.readLost_kept {ps : List Part} {K : Nat → Prop} {z0 : State} (s : State) (kind : Nat) (inst : Nat) (addr : Nat) (source : Nat)
    (diag : Nat) (syn : Nat) (hwonel : Part.wonel ∈ ps) (hflt : Part.flt ∈ ps) (hlinks : Part.links ∈ ps) (hgalley : Part.galley ∈ ps)
    (htables : Part.tables ∈ ps) (htim : Part.tim ∈ ps) (hcmp : Part.cmp ∈ ps) (hmem : Part.mem ∈ ps) (hdict : Part.dict ∈ ps) (hout : Part.out ∈ ps)
    (hfresh : Part.fresh ∈ ps) (ko : ReactKeys K) (oCHS_LABEL_CE : ∀ i, K (Obj.CHS_LABEL_CE i)) (oCHS_LABEL_UE : ∀ i, K (Obj.CHS_LABEL_UE i))
    (oCHS_LPM_MISMATCH : ∀ i, K (Obj.CHS_LPM_MISMATCH i)) (oCHS_LPM_PARITY : ∀ i, K (Obj.CHS_LPM_PARITY i)) (oCHS_NH_CE : ∀ i, K (Obj.CHS_NH_CE i))
    (oCHS_NH_UE : ∀ i, K (Obj.CHS_NH_UE i)) (oCMP_FETCH_CE : K Obj.CMP_FETCH_CE) (oCMP_FETCH_UE : K Obj.CMP_FETCH_UE)
    (oFLT_MI_CE : ∀ i, K (Obj.FLT_MI_CE i)) (oFLT_MI_LAST : ∀ i, K (Obj.FLT_MI_LAST i)) (oFLT_MI_UE : ∀ i, K (Obj.FLT_MI_UE i))
    (oTBL_LRN_UNCORR : ∀ i, K (Obj.TBL_LRN_UNCORR i)) (hK : Kept ps K z0 s) : Kept ps K z0 (State.readLost s kind inst addr source diag syn).state
    := by
  unfold State.readLost
  repeat' (first | with_reducible intro _ | with_reducible assumption | with_reducible exact oCHS_LABEL_CE _
                 | with_reducible exact oCHS_LABEL_UE _ | with_reducible exact oCHS_LPM_MISMATCH _ | with_reducible exact oCHS_LPM_PARITY _
                 | with_reducible exact oCHS_NH_CE _ | with_reducible exact oCHS_NH_UE _ | with_reducible exact oFLT_MI_CE _
                 | with_reducible exact oFLT_MI_LAST _ | with_reducible exact oFLT_MI_UE _ | with_reducible exact oTBL_LRN_UNCORR _
                 | with_reducible apply State.memEvent_kept | with_reducible apply State.schedBack_kept | with_reducible apply Kept.ite)

theorem State.readCoincident_kept {ps : List Part} {K : Nat → Prop} {z0 : State} (s : State) (kind : Nat) (inst : Nat) (addr : Nat) (source : Nat)
    (diag : Nat) (syn : Nat) (j : Injection) (hwonel : Part.wonel ∈ ps) (hflt : Part.flt ∈ ps) (hlinks : Part.links ∈ ps) (hgalley : Part.galley ∈ ps)
    (htables : Part.tables ∈ ps) (htim : Part.tim ∈ ps) (hcmp : Part.cmp ∈ ps) (hmem : Part.mem ∈ ps) (hdict : Part.dict ∈ ps) (hbusy : Part.busy ∈ ps)
    (hout : Part.out ∈ ps) (hfresh : Part.fresh ∈ ps) (ko : ReactKeys K) (oCHS_LABEL_CE : ∀ i, K (Obj.CHS_LABEL_CE i))
    (oCHS_LABEL_UE : ∀ i, K (Obj.CHS_LABEL_UE i)) (oCHS_LPM_MISMATCH : ∀ i, K (Obj.CHS_LPM_MISMATCH i))
    (oCHS_LPM_PARITY : ∀ i, K (Obj.CHS_LPM_PARITY i)) (oCHS_NH_CE : ∀ i, K (Obj.CHS_NH_CE i)) (oCHS_NH_UE : ∀ i, K (Obj.CHS_NH_UE i))
    (oCMP_FETCH_CE : K Obj.CMP_FETCH_CE) (oCMP_FETCH_UE : K Obj.CMP_FETCH_UE) (oFLT_INJ_ARM : K Obj.FLT_INJ_ARM) (oFLT_INJ_COINCIDENT : K Obj.FLT_INJ_COINCIDENT) (oFLT_INJ_DONE : K Obj.FLT_INJ_DONE)
    (oFLT_INJ_LEFT : K Obj.FLT_INJ_LEFT) (oFLT_MI_CE : ∀ i, K (Obj.FLT_MI_CE i)) (oFLT_MI_LAST : ∀ i, K (Obj.FLT_MI_LAST i))
    (oFLT_MI_UE : ∀ i, K (Obj.FLT_MI_UE i)) (oTBL_LRN_UNCORR : ∀ i, K (Obj.TBL_LRN_UNCORR i)) (hK : Kept ps K z0 s)
    : Kept ps K z0 (State.readCoincident s kind inst addr source diag syn j).state := by
  unfold State.readCoincident
  repeat' (first | with_reducible intro _ | with_reducible assumption | with_reducible exact oCHS_LABEL_CE _
                 | with_reducible exact oCHS_LABEL_UE _ | with_reducible exact oCHS_LPM_MISMATCH _ | with_reducible exact oCHS_LPM_PARITY _
                 | with_reducible exact oCHS_NH_CE _ | with_reducible exact oCHS_NH_UE _ | with_reducible exact oFLT_MI_CE _
                 | with_reducible exact oFLT_MI_LAST _ | with_reducible exact oFLT_MI_UE _ | with_reducible exact oTBL_LRN_UNCORR _
                 | with_reducible apply State.useInjection_kept | with_reducible apply State.memEvent_kept
                 | with_reducible apply State.bump_kept | with_reducible apply State.schedBack_kept | with_reducible apply Kept.ite | split)

theorem State.readWord_kept {ps : List Part} {K : Nat → Prop} {z0 : State} (s : State) (kind : Nat) (inst : Nat) (addr : Nat) (source : Nat)
    (hwonel : Part.wonel ∈ ps) (hflt : Part.flt ∈ ps) (hlinks : Part.links ∈ ps) (hgalley : Part.galley ∈ ps) (htables : Part.tables ∈ ps)
    (htim : Part.tim ∈ ps) (hcmp : Part.cmp ∈ ps) (hmem : Part.mem ∈ ps) (hdict : Part.dict ∈ ps) (hbusy : Part.busy ∈ ps) (hout : Part.out ∈ ps)
    (hfresh : Part.fresh ∈ ps) (ko : CodedKeys K) (hK : Kept ps K z0 s) : Kept ps K z0 (State.readWord s kind inst addr source).state := by
  unfold State.readWord
  repeat' (first | with_reducible intro _ | with_reducible assumption | exact ko.toReactKeys | with_reducible exact ko.ue _
                 | with_reducible exact ko.ce _ | with_reducible exact ko.last _ | with_reducible exact ko.labelUe _
                 | with_reducible exact ko.labelCe _ | with_reducible exact ko.nhUe _ | with_reducible exact ko.nhCe _
                 | with_reducible exact ko.mismatch _ | with_reducible exact ko.parity _ | with_reducible exact ko.lrn _
                 | with_reducible exact ko.fetchUe | with_reducible exact ko.fetchCe | with_reducible exact ko.injArm
                 | with_reducible exact ko.injDone | with_reducible exact ko.injLeft | with_reducible exact ko.injCoincident
                 | with_reducible apply State.readInjected_kept | with_reducible apply State.readFixed_kept
                 | with_reducible apply State.readLost_kept | with_reducible apply State.readCoincident_kept | split | dsimp only)

end Sys2Proof.Machine
end

