-- ==== Sys2Proof/Laws/KeptTime.lean ====
section
/-! SUPPORT. What the operations of Machine/Time.lean keep (Laws/Kept.lean). -/

namespace Sys2Proof.Machine
open Sys2Proof

theorem State.modDomain_kept {ps : List Part} {K : Nat → Prop} {z0 : State} (s : State) (d : Nat) (f : Domain → Domain) (htim : Part.tim ∈ ps) (hK
    : Kept ps K z0 s) : Kept ps K z0 (State.modDomain s d f) := by
  unfold State.modDomain
  repeat' (first | with_reducible intro _ | with_reducible assumption | exact Or.inl ‹_› | with_reducible exact Or.inr rfl
                 | with_reducible exact Or.inl rfl | dsimp only | with_reducible exact Nat.le_max_right _ _ | with_reducible apply Kept.all)
  all_goals (simp [Nat.le_max_right]; done)

theorem State.timeEvent_kept {ps : List Part} {K : Nat → Prop} {z0 : State} (s : State) (kind : Nat) (arg : Nat) (flags : Nat) (f : Nat)
    (valueNs : Nat) (hwonel : Part.wonel ∈ ps) (htim : Part.tim ∈ ps) (hdict : Part.dict ∈ ps) (oTIM_EVENT_LOST : K Obj.TIM_EVENT_LOST) (hK
    : Kept ps K z0 s) : Kept ps K z0 (State.timeEvent s kind arg flags f valueNs) := by
  unfold State.timeEvent
  repeat' (first | with_reducible intro _ | with_reducible assumption | with_reducible apply State.latch_kept
                 | with_reducible apply State.latchLost_kept | with_reducible apply State.bump_kept | with_reducible apply Kept.ite
                 | exact Or.inl ‹_› | with_reducible exact Or.inr rfl | with_reducible exact Or.inl rfl | dsimp only
                 | with_reducible exact Nat.le_max_right _ _ | with_reducible apply Kept.all)

theorem State.spliceEnded_kept {ps : List Part} {K : Nat → Prop} {z0 : State} (s : State) (f : Nat) (flags : Nat) (value : Int)
    (hwonel : Part.wonel ∈ ps) (htim : Part.tim ∈ ps) (hdict : Part.dict ∈ ps) (oTIM_EVENT_LOST : K Obj.TIM_EVENT_LOST)
    (oTIM_SPLICE_STATE : K Obj.TIM_SPLICE_STATE) (hK : Kept ps K z0 s) : Kept ps K z0 (State.spliceEnded s f flags value) := by
  unfold State.spliceEnded
  repeat' (first | with_reducible intro _ | with_reducible assumption | with_reducible apply State.timeEvent_kept
                 | with_reducible apply State.put_kept | exact Or.inl ‹_› | with_reducible exact Or.inr rfl | with_reducible exact Or.inl rfl
                 | split | dsimp only | with_reducible exact Nat.le_max_right _ _ | with_reducible apply Kept.all)

theorem State.spliceBegin_kept {ps : List Part} {K : Nat → Prop} {z0 : State} (s : State) (f : Nat) (oldO : Int) (oldRes : Int) (auto : Bool)
    (hwonel : Part.wonel ∈ ps) (htim : Part.tim ∈ ps) (hdict : Part.dict ∈ ps) (oTIM_EVENT_LOST : K Obj.TIM_EVENT_LOST)
    (oTIM_SPLICES : K Obj.TIM_SPLICES) (oTIM_SPLICE_STATE : K Obj.TIM_SPLICE_STATE) (hK : Kept ps K z0 s)
    : Kept ps K z0 (State.spliceBegin s f oldO oldRes auto) := by
  unfold State.spliceBegin
  repeat' (first | with_reducible intro _ | with_reducible assumption | with_reducible apply State.spliceEnded_kept
                 | with_reducible apply State.timeEvent_kept | with_reducible apply State.put_kept | with_reducible apply State.bump_kept
                 | with_reducible apply Kept.ite | exact Or.inl ‹_› | with_reducible exact Or.inr rfl | with_reducible exact Or.inl rfl | split
                 | dsimp only | with_reducible exact Nat.le_max_right _ _ | with_reducible apply Kept.all)

theorem State.modTpo_kept {ps : List Part} {K : Nat → Prop} {z0 : State} (s : State) (t : Nat) (f : Tpo → Tpo) (htim : Part.tim ∈ ps) (hK
    : Kept ps K z0 s) : Kept ps K z0 (State.modTpo s t f) := by
  unfold State.modTpo
  repeat' (first | with_reducible intro _ | with_reducible assumption | exact Or.inl ‹_› | with_reducible exact Or.inr rfl
                 | with_reducible exact Or.inl rfl | dsimp only | with_reducible exact Nat.le_max_right _ _ | with_reducible apply Kept.all)

theorem State.tpoJump_kept {ps : List Part} {K : Nat → Prop} {z0 : State} (s : State) (f : Nat) (htim : Part.tim ∈ ps) (hdict : Part.dict ∈ ps)
    (oTIM_TPO_MODE : ∀ i, K (Obj.TIM_TPO_MODE i)) (oTIM_TPO_SKIPPED : ∀ i, K (Obj.TIM_TPO_SKIPPED i)) (oTIM_TPO_STATE : ∀ i, K (Obj.TIM_TPO_STATE i))
    (hK : Kept ps K z0 s) : Kept ps K z0 (State.tpoJump s f) := by
  unfold State.tpoJump
  repeat' (first | with_reducible intro _ | with_reducible assumption | with_reducible exact oTIM_TPO_MODE _
                 | with_reducible exact oTIM_TPO_SKIPPED _ | with_reducible exact oTIM_TPO_STATE _ | with_reducible apply State.put_kept
                 | with_reducible apply State.modTpo_kept | with_reducible apply State.bump_kept | with_reducible apply State.bumpBy_kept
                 | with_reducible apply Kept.foldl | with_reducible apply Kept.ite)

theorem State.armTpo_kept {ps : List Part} {K : Nat → Prop} {z0 : State} (s : State) (t : Nat) (mode : Nat) (htim : Part.tim ∈ ps)
    (hdict : Part.dict ∈ ps) (oTIM_TPO_MODE : ∀ i, K (Obj.TIM_TPO_MODE i)) (oTIM_TPO_STATE : ∀ i, K (Obj.TIM_TPO_STATE i)) (hK : Kept ps K z0 s)
    : Kept ps K z0 (State.armTpo s t mode).2 := by
  unfold State.armTpo
  repeat' (first | with_reducible assumption | with_reducible exact oTIM_TPO_MODE _ | with_reducible exact oTIM_TPO_STATE _
                 | with_reducible apply State.modTpo_kept | with_reducible apply State.put_kept | with_reducible apply Kept.ite_snd)

theorem State.driveTpo_kept {ps : List Part} {K : Nat → Prop} {z0 : State} (s : State) (t : Nat) (level : Bool) (fe : Nat) (hout : Part.out ∈ ps) (hK
    : Kept ps K z0 s) : Kept ps K z0 (State.driveTpo s t level fe) := by
  unfold State.driveTpo
  repeat' (first | with_reducible assumption | with_reducible apply State.emit_kept)

theorem State.stepDomain_kept {ps : List Part} {K : Nat → Prop} {z0 : State} (s : State) (d : Nat) (f : Domain → Domain) (hwonel : Part.wonel ∈ ps)
    (htim : Part.tim ∈ ps) (hdict : Part.dict ∈ ps) (oTIM_EVENT_LOST : K Obj.TIM_EVENT_LOST) (oTIM_SPLICES : K Obj.TIM_SPLICES)
    (oTIM_SPLICE_STATE : K Obj.TIM_SPLICE_STATE) (oTIM_TPO_MODE : ∀ i, K (Obj.TIM_TPO_MODE i)) (oTIM_TPO_SKIPPED : ∀ i, K (Obj.TIM_TPO_SKIPPED i))
    (oTIM_TPO_STATE : ∀ i, K (Obj.TIM_TPO_STATE i)) (hK : Kept ps K z0 s) : Kept ps K z0 (State.stepDomain s d f) := by
  unfold State.stepDomain
  repeat' (first | with_reducible intro _ | with_reducible assumption | with_reducible exact oTIM_TPO_MODE _
                 | with_reducible exact oTIM_TPO_SKIPPED _ | with_reducible exact oTIM_TPO_STATE _ | with_reducible apply State.modDomain_kept
                 | with_reducible apply State.spliceBegin_kept | with_reducible apply State.tpoJump_kept | with_reducible apply Kept.ite)

theorem State.selectDomain_kept {ps : List Part} {K : Nat → Prop} {z0 : State} (s : State) (d : Nat) (auto : Bool) (hwonel : Part.wonel ∈ ps)
    (htim : Part.tim ∈ ps) (hdict : Part.dict ∈ ps) (oTIM_EVENT_LOST : K Obj.TIM_EVENT_LOST) (oTIM_SELECT : K Obj.TIM_SELECT)
    (oTIM_SPLICES : K Obj.TIM_SPLICES) (oTIM_SPLICE_STATE : K Obj.TIM_SPLICE_STATE) (oTIM_TPO_MODE : ∀ i, K (Obj.TIM_TPO_MODE i))
    (oTIM_TPO_SKIPPED : ∀ i, K (Obj.TIM_TPO_SKIPPED i)) (oTIM_TPO_STATE : ∀ i, K (Obj.TIM_TPO_STATE i)) (hK : Kept ps K z0 s)
    : Kept ps K z0 (State.selectDomain s d auto) := by
  unfold State.selectDomain
  repeat' (first | with_reducible intro _ | with_reducible assumption | with_reducible exact oTIM_TPO_MODE _
                 | with_reducible exact oTIM_TPO_SKIPPED _ | with_reducible exact oTIM_TPO_STATE _ | with_reducible apply State.put_kept
                 | with_reducible apply State.spliceBegin_kept | with_reducible apply State.tpoJump_kept | with_reducible apply Kept.ite)

theorem State.autoSwitch_kept {ps : List Part} {K : Nat → Prop} {z0 : State} (s : State) (hwonel : Part.wonel ∈ ps) (hflt : Part.flt ∈ ps)
    (htim : Part.tim ∈ ps) (hdict : Part.dict ∈ ps) (oFLT_EVENTS : K Obj.FLT_EVENTS) (oFLT_EVENT_LOST : K Obj.FLT_EVENT_LOST)
    (oTIM_EVENT_LOST : K Obj.TIM_EVENT_LOST) (oTIM_SELECT : K Obj.TIM_SELECT) (oTIM_SPLICES : K Obj.TIM_SPLICES)
    (oTIM_SPLICE_STATE : K Obj.TIM_SPLICE_STATE) (oTIM_TPO_MODE : ∀ i, K (Obj.TIM_TPO_MODE i)) (oTIM_TPO_SKIPPED : ∀ i, K (Obj.TIM_TPO_SKIPPED i))
    (oTIM_TPO_STATE : ∀ i, K (Obj.TIM_TPO_STATE i)) (hK : Kept ps K z0 s) : Kept ps K z0 (State.autoSwitch s) := by
  unfold State.autoSwitch
  repeat' (first | with_reducible intro _ | with_reducible assumption | with_reducible exact oTIM_TPO_MODE _
                 | with_reducible exact oTIM_TPO_SKIPPED _ | with_reducible exact oTIM_TPO_STATE _ | with_reducible apply State.note_kept
                 | with_reducible apply State.selectDomain_kept | with_reducible apply Kept.ite)

theorem State.enterLocked_kept {ps : List Part} {K : Nat → Prop} {z0 : State} (s : State) (d : Nat) (hwonel : Part.wonel ∈ ps) (hflt : Part.flt ∈ ps)
    (htim : Part.tim ∈ ps) (hdict : Part.dict ∈ ps) (oFLT_EVENTS : K Obj.FLT_EVENTS) (oFLT_EVENT_LOST : K Obj.FLT_EVENT_LOST)
    (oTIM_D_STATE : ∀ i, K (Obj.TIM_D_STATE i)) (oTIM_EVENT_LOST : K Obj.TIM_EVENT_LOST) (oTIM_OUT_ENGAGE : K Obj.TIM_OUT_ENGAGE)
    (oTIM_SELECT : K Obj.TIM_SELECT) (oTIM_SPLICES : K Obj.TIM_SPLICES) (oTIM_SPLICE_STATE : K Obj.TIM_SPLICE_STATE)
    (oTIM_TPO_MODE : ∀ i, K (Obj.TIM_TPO_MODE i)) (oTIM_TPO_SKIPPED : ∀ i, K (Obj.TIM_TPO_SKIPPED i)) (oTIM_TPO_STATE : ∀ i, K (Obj.TIM_TPO_STATE i))
    (hK : Kept ps K z0 s) : Kept ps K z0 (State.enterLocked s d) := by
  unfold State.enterLocked
  repeat' (first | with_reducible intro _ | with_reducible assumption | with_reducible exact oTIM_D_STATE _
                 | with_reducible exact oTIM_TPO_MODE _ | with_reducible exact oTIM_TPO_SKIPPED _ | with_reducible exact oTIM_TPO_STATE _
                 | with_reducible apply State.put_kept | with_reducible apply State.autoSwitch_kept | with_reducible apply Kept.ite)

theorem State.writeEngage_kept {ps : List Part} {K : Nat → Prop} {z0 : State} (s : State) (v : Nat) (hwonel : Part.wonel ∈ ps) (htim : Part.tim ∈ ps)
    (hdict : Part.dict ∈ ps) (oTIM_EVENT_LOST : K Obj.TIM_EVENT_LOST) (oTIM_OUT_ENGAGE : K Obj.TIM_OUT_ENGAGE)
    (oTIM_SPLICE_STATE : K Obj.TIM_SPLICE_STATE) (oTIM_TPO_MODE : ∀ i, K (Obj.TIM_TPO_MODE i)) (oTIM_TPO_SKIPPED : ∀ i, K (Obj.TIM_TPO_SKIPPED i))
    (oTIM_TPO_STATE : ∀ i, K (Obj.TIM_TPO_STATE i)) (hK : Kept ps K z0 s) : Kept ps K z0 (State.writeEngage s v) := by
  unfold State.writeEngage
  repeat' (first | with_reducible intro _ | with_reducible assumption | with_reducible exact oTIM_TPO_MODE _
                 | with_reducible exact oTIM_TPO_SKIPPED _ | with_reducible exact oTIM_TPO_STATE _ | with_reducible apply State.put_kept
                 | with_reducible apply State.spliceEnded_kept | with_reducible apply State.tpoJump_kept | with_reducible apply Kept.ite)

theorem State.servo_kept {ps : List Part} {K : Nat → Prop} {z0 : State} (s0 : State) (d : Nat) (theta : Int) (hwonel : Part.wonel ∈ ps)
    (hflt : Part.flt ∈ ps) (htim : Part.tim ∈ ps) (hdict : Part.dict ∈ ps) (oFLT_EVENTS : K Obj.FLT_EVENTS) (oFLT_EVENT_LOST : K Obj.FLT_EVENT_LOST)
    (oTIM_D_FREQ : ∀ i, K (Obj.TIM_D_FREQ i)) (oTIM_D_LAST_OFFSET : ∀ i, K (Obj.TIM_D_LAST_OFFSET i))
    (oTIM_D_OUTLIERS : ∀ i, K (Obj.TIM_D_OUTLIERS i)) (oTIM_D_STATE : ∀ i, K (Obj.TIM_D_STATE i)) (oTIM_D_STEPS : ∀ i, K (Obj.TIM_D_STEPS i))
    (oTIM_EVENT_LOST : K Obj.TIM_EVENT_LOST) (oTIM_OUT_ENGAGE : K Obj.TIM_OUT_ENGAGE) (oTIM_SELECT : K Obj.TIM_SELECT)
    (oTIM_SPLICES : K Obj.TIM_SPLICES) (oTIM_SPLICE_STATE : K Obj.TIM_SPLICE_STATE) (oTIM_TPO_MODE : ∀ i, K (Obj.TIM_TPO_MODE i))
    (oTIM_TPO_SKIPPED : ∀ i, K (Obj.TIM_TPO_SKIPPED i)) (oTIM_TPO_STATE : ∀ i, K (Obj.TIM_TPO_STATE i)) (hK : Kept ps K z0 s0)
    : Kept ps K z0 (State.servo s0 d theta) := by
  unfold State.servo
  repeat' (first | with_reducible intro _ | with_reducible assumption | with_reducible exact oTIM_D_FREQ _
                 | with_reducible exact oTIM_D_LAST_OFFSET _ | with_reducible exact oTIM_D_OUTLIERS _ | with_reducible exact oTIM_D_STATE _
                 | with_reducible exact oTIM_D_STEPS _ | with_reducible exact oTIM_TPO_MODE _ | with_reducible exact oTIM_TPO_SKIPPED _
                 | with_reducible exact oTIM_TPO_STATE _ | with_reducible apply State.timeEvent_kept | with_reducible apply State.modDomain_kept
                 | with_reducible apply State.put_kept | with_reducible apply State.bump_kept | with_reducible apply State.stepDomain_kept
                 | with_reducible apply State.enterLocked_kept | with_reducible apply Kept.ite)

theorem State.holdover_kept {ps : List Part} {K : Nat → Prop} {z0 : State} (s : State) (d : Nat) (hwonel : Part.wonel ∈ ps) (hflt : Part.flt ∈ ps)
    (htim : Part.tim ∈ ps) (hdict : Part.dict ∈ ps) (oFLT_EVENTS : K Obj.FLT_EVENTS) (oFLT_EVENT_LOST : K Obj.FLT_EVENT_LOST)
    (oTIM_D_HOLDOVERS : ∀ i, K (Obj.TIM_D_HOLDOVERS i)) (oTIM_D_STATE : ∀ i, K (Obj.TIM_D_STATE i)) (oTIM_EVENT_LOST : K Obj.TIM_EVENT_LOST)
    (oTIM_SELECT : K Obj.TIM_SELECT) (oTIM_SPLICES : K Obj.TIM_SPLICES) (oTIM_SPLICE_STATE : K Obj.TIM_SPLICE_STATE)
    (oTIM_TPO_MODE : ∀ i, K (Obj.TIM_TPO_MODE i)) (oTIM_TPO_SKIPPED : ∀ i, K (Obj.TIM_TPO_SKIPPED i)) (oTIM_TPO_STATE : ∀ i, K (Obj.TIM_TPO_STATE i))
    (hK : Kept ps K z0 s) : Kept ps K z0 (State.holdover s d) := by
  unfold State.holdover
  repeat' (first | with_reducible intro _ | with_reducible assumption | with_reducible exact oTIM_D_HOLDOVERS _
                 | with_reducible exact oTIM_D_STATE _ | with_reducible exact oTIM_TPO_MODE _ | with_reducible exact oTIM_TPO_SKIPPED _
                 | with_reducible exact oTIM_TPO_STATE _ | with_reducible apply State.modDomain_kept | with_reducible apply State.autoSwitch_kept
                 | with_reducible apply State.timeEvent_kept | with_reducible apply State.bump_kept | with_reducible apply State.put_kept)

theorem State.queueMeasure_kept {ps : List Part} {K : Nat → Prop} {z0 : State} (s : State) (d : Nat) (m : Int) (hptp : Part.ptp ∈ ps)
    (hcmp : Part.cmp ∈ ps) (hfresh : Part.fresh ∈ ps) (hK : Kept ps K z0 s) : Kept ps K z0 (State.queueMeasure s d m) := by
  unfold State.queueMeasure
  repeat' (first | with_reducible intro _ | with_reducible assumption | with_reducible apply State.cmpPush_kept | exact Or.inl ‹_›
                 | with_reducible exact Or.inr rfl | with_reducible exact Or.inl rfl | dsimp only | with_reducible exact Nat.le_max_right _ _
                 | with_reducible apply Kept.all)
  all_goals (simp [Nat.le_max_right]; done)

theorem State.writeSource_kept {ps : List Part} {K : Nat → Prop} {z0 : State} (s : State) (d : Nat) (v : Nat) (htim : Part.tim ∈ ps)
    (hdict : Part.dict ∈ ps) (oTIM_D_FREQ : ∀ i, K (Obj.TIM_D_FREQ i)) (oTIM_D_SOURCE : ∀ i, K (Obj.TIM_D_SOURCE i))
    (oTIM_D_STATE : ∀ i, K (Obj.TIM_D_STATE i)) (hK : Kept ps K z0 s) : Kept ps K z0 (State.writeSource s d v) := by
  unfold State.writeSource
  repeat' (first | with_reducible assumption | with_reducible exact oTIM_D_FREQ _ | with_reducible exact oTIM_D_SOURCE _
                 | with_reducible exact oTIM_D_STATE _ | with_reducible apply State.put_kept | with_reducible apply State.modDomain_kept)

theorem State.writeRate_kept {ps : List Part} {K : Nat → Prop} {z0 : State} (s : State) (d : Nat) (v : Nat) (htim : Part.tim ∈ ps) (hK
    : Kept ps K z0 s) : Kept ps K z0 (State.writeRate s d v).2 := by
  unfold State.writeRate
  repeat' (first | with_reducible assumption | with_reducible apply State.modDomain_kept | with_reducible apply Kept.ite_snd)

theorem State.writeSet_kept {ps : List Part} {K : Nat → Prop} {z0 : State} (s : State) (d : Nat) (v : Nat) (hwonel : Part.wonel ∈ ps)
    (htim : Part.tim ∈ ps) (hdict : Part.dict ∈ ps) (oTIM_D_SET : ∀ i, K (Obj.TIM_D_SET i)) (oTIM_EVENT_LOST : K Obj.TIM_EVENT_LOST)
    (oTIM_SPLICES : K Obj.TIM_SPLICES) (oTIM_SPLICE_STATE : K Obj.TIM_SPLICE_STATE) (oTIM_TPO_MODE : ∀ i, K (Obj.TIM_TPO_MODE i))
    (oTIM_TPO_SKIPPED : ∀ i, K (Obj.TIM_TPO_SKIPPED i)) (oTIM_TPO_STATE : ∀ i, K (Obj.TIM_TPO_STATE i)) (hK : Kept ps K z0 s)
    : Kept ps K z0 (State.writeSet s d v).2 := by
  unfold State.writeSet
  repeat' (first | with_reducible intro _ | with_reducible assumption | with_reducible exact oTIM_D_SET _ | with_reducible exact oTIM_TPO_MODE _
                 | with_reducible exact oTIM_TPO_SKIPPED _ | with_reducible exact oTIM_TPO_STATE _ | with_reducible apply State.put_kept
                 | with_reducible apply State.stepDomain_kept | with_reducible apply Kept.ite_snd)

theorem State.writeAdjust_kept {ps : List Part} {K : Nat → Prop} {z0 : State} (s : State) (d : Nat) (v : Nat) (hwonel : Part.wonel ∈ ps)
    (htim : Part.tim ∈ ps) (hdict : Part.dict ∈ ps) (oTIM_D_ADJUST : ∀ i, K (Obj.TIM_D_ADJUST i)) (oTIM_EVENT_LOST : K Obj.TIM_EVENT_LOST)
    (oTIM_SPLICES : K Obj.TIM_SPLICES) (oTIM_SPLICE_STATE : K Obj.TIM_SPLICE_STATE) (oTIM_TPO_MODE : ∀ i, K (Obj.TIM_TPO_MODE i))
    (oTIM_TPO_SKIPPED : ∀ i, K (Obj.TIM_TPO_SKIPPED i)) (oTIM_TPO_STATE : ∀ i, K (Obj.TIM_TPO_STATE i)) (hK : Kept ps K z0 s)
    : Kept ps K z0 (State.writeAdjust s d v).2 := by
  unfold State.writeAdjust
  repeat' (first | with_reducible intro _ | with_reducible assumption | with_reducible exact oTIM_D_ADJUST _
                 | with_reducible exact oTIM_TPO_MODE _ | with_reducible exact oTIM_TPO_SKIPPED _ | with_reducible exact oTIM_TPO_STATE _
                 | with_reducible apply State.put_kept | with_reducible apply State.stepDomain_kept | with_reducible apply Kept.ite_snd)

end Sys2Proof.Machine
end

