-- ==== Sys2Proof/Laws/KeptPortBase.lean ====
section
/-! SUPPORT. What the operations of Machine/PortBase.lean keep (Laws/Kept.lean). -/

namespace Sys2Proof.Machine
open Sys2Proof

theorem State.linkEval_kept {ps : List Part} {K : Nat → Prop} {z0 : State} (s : State) (p : Nat) (hports : Part.ports ∈ ps) (hK : Kept ps K z0 s)
    : Kept ps K z0 (State.linkEval s p) := by
  unfold State.linkEval
  repeat' (first | with_reducible assumption | with_reducible apply State.modPort_kept | with_reducible apply Kept.ite)

theorem State.toWire_kept {ps : List Part} {K : Nat → Prop} {z0 : State} (s : State) (p : Nat) (o : Out) (wire : Bytes) (hports : Part.ports ∈ ps)
    (hout : Part.out ∈ ps) (hK : Kept ps K z0 s) : Kept ps K z0 (State.toWire s p o wire) := by
  unfold State.toWire
  repeat' (first | with_reducible assumption | with_reducible apply State.modPort_kept | with_reducible apply State.emit_kept
                 | with_reducible apply Kept.ite)

theorem State.sendPause_kept {ps : List Part} {K : Nat → Prop} {z0 : State} (s : State) (p : Nat) (mode : Nat) (on : Nat) (off : Nat)
    (hports : Part.ports ∈ ps) (hdict : Part.dict ∈ ps) (hout : Part.out ∈ ps) (oCTR_TX_FRAMES : ∀ i, K (Obj.CTR_TX_FRAMES i))
    (oCTR_TX_OCTETS : ∀ i, K (Obj.CTR_TX_OCTETS i)) (oCTR_TX_PAUSE : ∀ i, K (Obj.CTR_TX_PAUSE i)) (hK : Kept ps K z0 s)
    : Kept ps K z0 (State.sendPause s p mode on off) := by
  unfold State.sendPause
  repeat' (first | with_reducible assumption | with_reducible exact oCTR_TX_FRAMES _ | with_reducible exact oCTR_TX_OCTETS _
                 | with_reducible exact oCTR_TX_PAUSE _ | with_reducible apply State.bumpBy_kept | with_reducible apply State.bump_kept
                 | with_reducible apply State.modPort_kept | with_reducible apply State.toWire_kept)

theorem State.pauseNow_kept {ps : List Part} {K : Nat → Prop} {z0 : State} (s : State) (p : Nat) (left : Nat) (hports : Part.ports ∈ ps)
    (hdict : Part.dict ∈ ps) (hout : Part.out ∈ ps) (oCTR_TX_FRAMES : ∀ i, K (Obj.CTR_TX_FRAMES i)) (oCTR_TX_OCTETS : ∀ i, K (Obj.CTR_TX_OCTETS i))
    (oCTR_TX_PAUSE : ∀ i, K (Obj.CTR_TX_PAUSE i)) (hK : Kept ps K z0 s) : Kept ps K z0 (State.pauseNow s p left) := by
  unfold State.pauseNow
  repeat' (first | with_reducible intro _ | with_reducible assumption | with_reducible exact oCTR_TX_FRAMES _
                 | with_reducible exact oCTR_TX_OCTETS _ | with_reducible exact oCTR_TX_PAUSE _ | with_reducible apply State.modPort_kept
                 | with_reducible apply State.emit_kept | with_reducible apply State.sendPause_kept | with_reducible apply Kept.ite)

theorem State.xoffEval_kept {ps : List Part} {K : Nat → Prop} {z0 : State} (s : State) (p : Nat) (hports : Part.ports ∈ ps) (hdict : Part.dict ∈ ps)
    (hout : Part.out ∈ ps) (oCTR_TX_FRAMES : ∀ i, K (Obj.CTR_TX_FRAMES i)) (oCTR_TX_OCTETS : ∀ i, K (Obj.CTR_TX_OCTETS i))
    (oCTR_TX_PAUSE : ∀ i, K (Obj.CTR_TX_PAUSE i)) (hK : Kept ps K z0 s) : Kept ps K z0 (State.xoffEval s p) := by
  unfold State.xoffEval
  repeat' (first | with_reducible intro _ | with_reducible assumption | with_reducible exact oCTR_TX_FRAMES _
                 | with_reducible exact oCTR_TX_OCTETS _ | with_reducible exact oCTR_TX_PAUSE _ | with_reducible apply State.pauseNow_kept
                 | with_reducible apply State.modPort_kept | with_reducible apply Kept.ite)

theorem State.chargeBytes_kept {ps : List Part} {K : Nat → Prop} {z0 : State} (s : State) (p : Nat) (prio : Nat) (add : Bool) (n : Nat)
    (hports : Part.ports ∈ ps) (hdict : Part.dict ∈ ps) (hout : Part.out ∈ ps) (oCTR_TX_FRAMES : ∀ i, K (Obj.CTR_TX_FRAMES i))
    (oCTR_TX_OCTETS : ∀ i, K (Obj.CTR_TX_OCTETS i)) (oCTR_TX_PAUSE : ∀ i, K (Obj.CTR_TX_PAUSE i)) (hK : Kept ps K z0 s)
    : Kept ps K z0 (State.chargeBytes s p prio add n) := by
  unfold State.chargeBytes
  repeat' (first | with_reducible intro _ | with_reducible assumption | with_reducible exact oCTR_TX_FRAMES _
                 | with_reducible exact oCTR_TX_OCTETS _ | with_reducible exact oCTR_TX_PAUSE _ | with_reducible apply State.xoffEval_kept
                 | with_reducible apply State.modPort_kept)

end Sys2Proof.Machine
end

