-- ==== Sys2Proof/Laws/KeptGalley.lean ====
section
/-! SUPPORT. What the operations of Machine/Galley.lean keep (Laws/Kept.lean). -/

namespace Sys2Proof.Machine
open Sys2Proof

theorem State.modGalley_kept {ps : List Part} {K : Nat → Prop} {z0 : State} (s : State) (f : Galley → Galley) (hgalley : Part.galley ∈ ps) (hK
    : Kept ps K z0 s) : Kept ps K z0 (State.modGalley s f) := by
  unfold State.modGalley
  repeat' (first | with_reducible intro _ | with_reducible assumption | exact Or.inl ‹_› | with_reducible exact Or.inr rfl
                 | with_reducible exact Or.inl rfl | dsimp only | with_reducible exact Nat.le_max_right _ _ | with_reducible apply Kept.all)

theorem State.galleyRaw_kept {ps : List Part} {K : Nat → Prop} {z0 : State} (s : State) (w : Nat) (source : Nat) (hwonel : Part.wonel ∈ ps)
    (hflt : Part.flt ∈ ps) (hlinks : Part.links ∈ ps) (hgalley : Part.galley ∈ ps) (htables : Part.tables ∈ ps) (htim : Part.tim ∈ ps)
    (hcmp : Part.cmp ∈ ps) (hmem : Part.mem ∈ ps) (hdict : Part.dict ∈ ps) (hbusy : Part.busy ∈ ps) (hout : Part.out ∈ ps) (hfresh : Part.fresh ∈ ps)
    (ko : CodedKeys K) (hK : Kept ps K z0 s) : Kept ps K z0 (State.galleyRaw s w source).state := by
  unfold State.galleyRaw
  repeat' (first | with_reducible assumption | with_reducible apply State.readWord_kept | split | dsimp only)

theorem State.galleyReadOf_kept {ps : List Part} {K : Nat → Prop} {z0 : State} (s : State) (w : Nat) (hwonel : Part.wonel ∈ ps) (hflt : Part.flt ∈ ps)
    (hlinks : Part.links ∈ ps) (hgalley : Part.galley ∈ ps) (htables : Part.tables ∈ ps) (htim : Part.tim ∈ ps) (hcmp : Part.cmp ∈ ps)
    (hmem : Part.mem ∈ ps) (hdict : Part.dict ∈ ps) (hbusy : Part.busy ∈ ps) (hout : Part.out ∈ ps) (hfresh : Part.fresh ∈ ps) (ko : CodedKeys K)
    (oGAL_INVALID_READS : K Obj.GAL_INVALID_READS) (hK : Kept ps K z0 s) : Kept ps K z0 (State.galleyReadOf s w).state := by
  unfold State.galleyReadOf
  repeat' (first | with_reducible assumption | with_reducible apply State.readWord_kept | with_reducible apply State.modGalley_kept
                 | with_reducible apply State.galleyRaw_kept | with_reducible apply State.bump_kept | split | dsimp only)

theorem State.galleyRead_kept {ps : List Part} {K : Nat → Prop} {z0 : State} (s : State) (w : Nat) (req : optParam (Option Nat) Option.none)
    (hwonel : Part.wonel ∈ ps) (hflt : Part.flt ∈ ps) (hlinks : Part.links ∈ ps) (hgalley : Part.galley ∈ ps) (htables : Part.tables ∈ ps)
    (htelem : Part.telem ∈ ps) (htim : Part.tim ∈ ps) (hcmp : Part.cmp ∈ ps) (hmem : Part.mem ∈ ps) (hdict : Part.dict ∈ ps) (hbusy : Part.busy ∈ ps)
    (hout : Part.out ∈ ps) (hfresh : Part.fresh ∈ ps) (ko : CodedKeys K) (oGAL_INVALID_READS : K Obj.GAL_INVALID_READS) (hK : Kept ps K z0 s)
    : Kept ps K z0 (State.galleyRead s w req).state := by
  unfold State.galleyRead
  repeat' (first | with_reducible assumption | with_reducible apply State.galleyReadOf_kept | with_reducible apply State.pmc_kept
                 | with_reducible apply Kept.ite)

theorem State.galleyWrite_kept {ps : List Part} {K : Nat → Prop} {z0 : State} (s : State) (w : Nat) (v : Nat) (req : optParam (Option Nat)
    Option.none) (hgalley : Part.galley ∈ ps) (htelem : Part.telem ∈ ps) (hmem : Part.mem ∈ ps) (hdict : Part.dict ∈ ps)
    (oFLT_DIAG_LOGGED : K Obj.FLT_DIAG_LOGGED) (hK : Kept ps K z0 s) : Kept ps K z0 (State.galleyWrite s w v req) := by
  unfold State.galleyWrite
  repeat' (first | with_reducible assumption | with_reducible apply State.modGalley_kept | with_reducible apply State.memWritten_kept
                 | with_reducible apply State.pmc_kept)

theorem State.linkWrite_kept {ps : List Part} {K : Nat → Prop} {z0 : State} (s : State) (p : Nat) (v : Nat) (hgalley : Part.galley ∈ ps)
    (htelem : Part.telem ∈ ps) (hmem : Part.mem ∈ ps) (hdict : Part.dict ∈ ps) (oFLT_DIAG_LOGGED : K Obj.FLT_DIAG_LOGGED) (hK : Kept ps K z0 s)
    : Kept ps K z0 (State.linkWrite s p v) := by
  unfold State.linkWrite
  repeat' (first | with_reducible assumption | with_reducible apply State.modGalley_kept | with_reducible apply State.memWritten_kept
                 | with_reducible apply State.pmc_kept)

theorem State.clearValid_kept {ps : List Part} {K : Nat → Prop} {z0 : State} (s : State) (c : Nat) (p : Nat) (hgalley : Part.galley ∈ ps) (hK
    : Kept ps K z0 s) : Kept ps K z0 (State.clearValid s c p) := by
  unfold State.clearValid
  repeat' (first | with_reducible assumption | with_reducible apply State.modGalley_kept)

theorem State.ptrFault_kept {ps : List Part} {K : Nat → Prop} {z0 : State} (s : State) (cause : Nat) (c : Nat) (h : Nat) (p : Nat) (quar : Nat)
    (lost : Nat) (hwonel : Part.wonel ∈ ps) (hflt : Part.flt ∈ ps) (hlinks : Part.links ∈ ps) (hgalley : Part.galley ∈ ps)
    (htables : Part.tables ∈ ps) (htim : Part.tim ∈ ps) (hcmp : Part.cmp ∈ ps) (hdict : Part.dict ∈ ps) (hout : Part.out ∈ ps)
    (hfresh : Part.fresh ∈ ps) (ko : ReactKeys K) (oGAL_LOST : K Obj.GAL_LOST) (oGAL_PTR_FAULTS : K Obj.GAL_PTR_FAULTS)
    (oGAL_QUARANTINED : K Obj.GAL_QUARANTINED) (oGAL_QUAR_LAST : K Obj.GAL_QUAR_LAST) (hK : Kept ps K z0 s)
    : Kept ps K z0 (State.ptrFault s cause c h p quar lost) := by
  unfold State.ptrFault
  repeat' (first | with_reducible assumption | with_reducible apply State.bumpBy_kept | with_reducible apply State.put_kept
                 | with_reducible apply State.bump_kept | with_reducible apply State.report_kept)

theorem State.refill_kept {ps : List Part} {K : Nat → Prop} {z0 : State} (s : State) (c : Nat) (h : Nat) (hwonel : Part.wonel ∈ ps)
    (hflt : Part.flt ∈ ps) (hlinks : Part.links ∈ ps) (hgalley : Part.galley ∈ ps) (htables : Part.tables ∈ ps) (htim : Part.tim ∈ ps)
    (hcmp : Part.cmp ∈ ps) (hmem : Part.mem ∈ ps) (hdict : Part.dict ∈ ps) (hbusy : Part.busy ∈ ps) (hout : Part.out ∈ ps) (hfresh : Part.fresh ∈ ps)
    (ko : CodedKeys K) (oGAL_LOST : K Obj.GAL_LOST) (oGAL_PTR_FAULTS : K Obj.GAL_PTR_FAULTS) (oGAL_QUARANTINED : K Obj.GAL_QUARANTINED)
    (oGAL_QUAR_LAST : K Obj.GAL_QUAR_LAST) (hK : Kept ps K z0 s) : Kept ps K z0 (State.refill s c h) := by
  unfold State.refill
  repeat' (first | with_reducible assumption | exact ko.toReactKeys | with_reducible apply State.galleyRaw_kept
                 | with_reducible apply State.ptrFault_kept | with_reducible apply State.modGalley_kept | with_reducible apply Kept.ite)

theorem State.fillHank_kept {ps : List Part} {K : Nat → Prop} {z0 : State} (s : State) (c : Nat) (h : Nat) (n : Nat) (hwonel : Part.wonel ∈ ps)
    (hflt : Part.flt ∈ ps) (hlinks : Part.links ∈ ps) (hgalley : Part.galley ∈ ps) (htables : Part.tables ∈ ps) (htim : Part.tim ∈ ps)
    (hcmp : Part.cmp ∈ ps) (hmem : Part.mem ∈ ps) (hdict : Part.dict ∈ ps) (hbusy : Part.busy ∈ ps) (hout : Part.out ∈ ps) (hfresh : Part.fresh ∈ ps)
    (ko : CodedKeys K) (oGAL_LOST : K Obj.GAL_LOST) (oGAL_PTR_FAULTS : K Obj.GAL_PTR_FAULTS) (oGAL_QUARANTINED : K Obj.GAL_QUARANTINED)
    (oGAL_QUAR_LAST : K Obj.GAL_QUAR_LAST) (hK : Kept ps K z0 s) : Kept ps K z0 (State.fillHank s c h n) := by
  induction n generalizing s c h with
  | zero =>
    unfold State.fillHank
    repeat' (first | with_reducible assumption | with_reducible apply State.refill_kept)
  | succ n ih =>
    unfold State.fillHank
    repeat' (first | with_reducible assumption | with_reducible apply State.refill_kept | with_reducible apply ih)

theorem State.popHank_kept {ps : List Part} {K : Nat → Prop} {z0 : State} (s : State) (c : Nat) (h : Nat) (hwonel : Part.wonel ∈ ps)
    (hflt : Part.flt ∈ ps) (hlinks : Part.links ∈ ps) (hgalley : Part.galley ∈ ps) (htables : Part.tables ∈ ps) (htim : Part.tim ∈ ps)
    (hcmp : Part.cmp ∈ ps) (hmem : Part.mem ∈ ps) (hdict : Part.dict ∈ ps) (hbusy : Part.busy ∈ ps) (hout : Part.out ∈ ps) (hfresh : Part.fresh ∈ ps)
    (ko : CodedKeys K) (oGAL_LOST : K Obj.GAL_LOST) (oGAL_PTR_FAULTS : K Obj.GAL_PTR_FAULTS) (oGAL_QUARANTINED : K Obj.GAL_QUARANTINED)
    (oGAL_QUAR_LAST : K Obj.GAL_QUAR_LAST) (hK : Kept ps K z0 s) : Kept ps K z0 (State.popHank s c h).2 := by
  unfold State.popHank
  repeat' (first | with_reducible assumption | exact ko.toReactKeys | with_reducible apply State.fillHank_kept
                 | with_reducible apply State.modGalley_kept | with_reducible apply State.clearValid_kept
                 | with_reducible apply State.ptrFault_kept | with_reducible apply Kept.ite_snd | split | dsimp only)

theorem State.popFrom_kept {ps : List Part} {K : Nat → Prop} {z0 : State} (s : State) (c : Nat) (h : Nat) (n : Nat) (hwonel : Part.wonel ∈ ps)
    (hflt : Part.flt ∈ ps) (hlinks : Part.links ∈ ps) (hgalley : Part.galley ∈ ps) (htables : Part.tables ∈ ps) (htim : Part.tim ∈ ps)
    (hcmp : Part.cmp ∈ ps) (hmem : Part.mem ∈ ps) (hdict : Part.dict ∈ ps) (hbusy : Part.busy ∈ ps) (hout : Part.out ∈ ps) (hfresh : Part.fresh ∈ ps)
    (ko : CodedKeys K) (oGAL_LOST : K Obj.GAL_LOST) (oGAL_PTR_FAULTS : K Obj.GAL_PTR_FAULTS) (oGAL_QUARANTINED : K Obj.GAL_QUARANTINED)
    (oGAL_QUAR_LAST : K Obj.GAL_QUAR_LAST) (hK : Kept ps K z0 s) : Kept ps K z0 (State.popFrom s c h n).2 := by
  induction n generalizing s c h with
  | zero =>
    unfold State.popFrom
    repeat' (first | with_reducible assumption | with_reducible apply State.popHank_kept | with_reducible apply Kept.ite_snd)
  | succ n ih =>
    unfold State.popFrom
    repeat' (first | with_reducible assumption | with_reducible apply State.popHank_kept | with_reducible apply ih
                   | with_reducible apply Kept.ite_snd)

theorem State.pop_kept {ps : List Part} {K : Nat → Prop} {z0 : State} (s : State) (c : Nat) (hwonel : Part.wonel ∈ ps) (hflt : Part.flt ∈ ps)
    (hlinks : Part.links ∈ ps) (hgalley : Part.galley ∈ ps) (htables : Part.tables ∈ ps) (htim : Part.tim ∈ ps) (hcmp : Part.cmp ∈ ps)
    (hmem : Part.mem ∈ ps) (hdict : Part.dict ∈ ps) (hbusy : Part.busy ∈ ps) (hout : Part.out ∈ ps) (hfresh : Part.fresh ∈ ps) (ko : CodedKeys K)
    (oGAL_LOST : K Obj.GAL_LOST) (oGAL_PTR_FAULTS : K Obj.GAL_PTR_FAULTS) (oGAL_QUARANTINED : K Obj.GAL_QUARANTINED)
    (oGAL_QUAR_LAST : K Obj.GAL_QUAR_LAST) (hK : Kept ps K z0 s) : Kept ps K z0 (State.pop s c).2 := by
  unfold State.pop
  repeat' (first | with_reducible assumption | with_reducible apply State.popFrom_kept)

theorem State.pushBuf_kept {ps : List Part} {K : Nat → Prop} {z0 : State} (s : State) (c : Nat) (p : Nat) (hwonel : Part.wonel ∈ ps)
    (hflt : Part.flt ∈ ps) (hlinks : Part.links ∈ ps) (hgalley : Part.galley ∈ ps) (htables : Part.tables ∈ ps) (htelem : Part.telem ∈ ps)
    (htim : Part.tim ∈ ps) (hcmp : Part.cmp ∈ ps) (hmem : Part.mem ∈ ps) (hdict : Part.dict ∈ ps) (hbusy : Part.busy ∈ ps) (hout : Part.out ∈ ps)
    (hfresh : Part.fresh ∈ ps) (ko : BufferKeys K) (hK : Kept ps K z0 s) : Kept ps K z0 (State.pushBuf s c p) := by
  unfold State.pushBuf
  repeat' (first | with_reducible assumption | exact ko.toCodedKeys | exact ko.toReactKeys | with_reducible exact ko.logged
                 | with_reducible exact ko.galLost | with_reducible exact ko.ptrFaults | with_reducible exact ko.quarantined
                 | with_reducible exact ko.quarLast | with_reducible apply State.ptrFault_kept | with_reducible apply State.fillHank_kept
                 | with_reducible apply State.modGalley_kept | with_reducible apply State.linkWrite_kept | with_reducible apply Kept.ite)

theorem State.push_kept {ps : List Part} {K : Nat → Prop} {z0 : State} (s : State) (c : Nat) (p : Nat) (req : optParam (Option Nat) Option.none)
    (hwonel : Part.wonel ∈ ps) (hflt : Part.flt ∈ ps) (hlinks : Part.links ∈ ps) (hgalley : Part.galley ∈ ps) (htables : Part.tables ∈ ps)
    (htelem : Part.telem ∈ ps) (htim : Part.tim ∈ ps) (hcmp : Part.cmp ∈ ps) (hmem : Part.mem ∈ ps) (hdict : Part.dict ∈ ps) (hbusy : Part.busy ∈ ps)
    (hout : Part.out ∈ ps) (hfresh : Part.fresh ∈ ps) (ko : BufferKeys K) (hK : Kept ps K z0 s) : Kept ps K z0 (State.push s c p req) := by
  unfold State.push
  repeat' (first | with_reducible assumption | with_reducible apply State.pmc_kept | with_reducible apply State.pushBuf_kept)

theorem State.chargeBuf_kept {ps : List Part} {K : Nat → Prop} {z0 : State} (s : State) (r : Nat) (c : Nat) (add : Bool) (hgalley : Part.galley ∈ ps)
    (hK : Kept ps K z0 s) : Kept ps K z0 (State.chargeBuf s r c add) := by
  unfold State.chargeBuf
  repeat' (first | with_reducible assumption | with_reducible apply State.modGalley_kept)

theorem State.request_kept {ps : List Part} {K : Nat → Prop} {z0 : State} (s : State) (r : Nat) (c : Nat) (n : Nat) (hwonel : Part.wonel ∈ ps)
    (hflt : Part.flt ∈ ps) (hlinks : Part.links ∈ ps) (hgalley : Part.galley ∈ ps) (htables : Part.tables ∈ ps) (htim : Part.tim ∈ ps)
    (hcmp : Part.cmp ∈ ps) (hmem : Part.mem ∈ ps) (hdict : Part.dict ∈ ps) (hbusy : Part.busy ∈ ps) (hout : Part.out ∈ ps) (hfresh : Part.fresh ∈ ps)
    (ko : CodedKeys K) (oGAL_C_FALLBACKS : ∀ i, K (Obj.GAL_C_FALLBACKS i)) (oGAL_C_FREE_MIN : ∀ i, K (Obj.GAL_C_FREE_MIN i))
    (oGAL_C_GRANTS : ∀ i, K (Obj.GAL_C_GRANTS i)) (oGAL_C_REFUSED : ∀ i, K (Obj.GAL_C_REFUSED i)) (oGAL_LOST : K Obj.GAL_LOST)
    (oGAL_PTR_FAULTS : K Obj.GAL_PTR_FAULTS) (oGAL_QUARANTINED : K Obj.GAL_QUARANTINED) (oGAL_QUAR_LAST : K Obj.GAL_QUAR_LAST) (hK : Kept ps K z0 s)
    : Kept ps K z0 (State.request s r c n).2 := by
  induction n generalizing s r c with
  | zero =>
    unfold State.request
    repeat' (first | with_reducible assumption | with_reducible exact oGAL_C_FALLBACKS _ | with_reducible exact oGAL_C_FREE_MIN _
                   | with_reducible exact oGAL_C_GRANTS _ | with_reducible exact oGAL_C_REFUSED _ | with_reducible apply State.put_kept
                   | with_reducible apply State.bump_kept | with_reducible apply State.pop_kept | with_reducible apply State.chargeBuf_kept
                   | refine Kept.ofEq (by with_reducible assumption) ?_ | with_reducible apply Kept.ite | with_reducible apply Kept.ite_snd | split)
  | succ n ih =>
    unfold State.request
    repeat' (first | with_reducible assumption | with_reducible exact oGAL_C_FALLBACKS _ | with_reducible exact oGAL_C_FREE_MIN _
                   | with_reducible exact oGAL_C_GRANTS _ | with_reducible exact oGAL_C_REFUSED _ | with_reducible apply State.put_kept
                   | with_reducible apply State.bump_kept | with_reducible apply State.pop_kept | with_reducible apply State.chargeBuf_kept
                   | with_reducible apply ih | refine Kept.ofEq (by with_reducible assumption) ?_ | with_reducible apply Kept.ite
                   | with_reducible apply Kept.ite_snd | split)

theorem State.ask_kept {ps : List Part} {K : Nat → Prop} {z0 : State} (s : State) (r : Nat) (c : Nat) (prio : optParam (Option Nat) Option.none)
    (hwonel : Part.wonel ∈ ps) (hflt : Part.flt ∈ ps) (hlinks : Part.links ∈ ps) (hgalley : Part.galley ∈ ps) (htables : Part.tables ∈ ps)
    (htelem : Part.telem ∈ ps) (htim : Part.tim ∈ ps) (hcmp : Part.cmp ∈ ps) (hmem : Part.mem ∈ ps) (hdict : Part.dict ∈ ps) (hbusy : Part.busy ∈ ps)
    (hout : Part.out ∈ ps) (hfresh : Part.fresh ∈ ps) (ko : CodedKeys K) (oGAL_C_FALLBACKS : ∀ i, K (Obj.GAL_C_FALLBACKS i))
    (oGAL_C_FREE_MIN : ∀ i, K (Obj.GAL_C_FREE_MIN i)) (oGAL_C_GRANTS : ∀ i, K (Obj.GAL_C_GRANTS i)) (oGAL_C_REFUSED : ∀ i, K (Obj.GAL_C_REFUSED i))
    (oGAL_LOST : K Obj.GAL_LOST) (oGAL_PTR_FAULTS : K Obj.GAL_PTR_FAULTS) (oGAL_QUARANTINED : K Obj.GAL_QUARANTINED)
    (oGAL_QUAR_LAST : K Obj.GAL_QUAR_LAST) (hK : Kept ps K z0 s) : Kept ps K z0 (State.ask s r c prio).2 := by
  unfold State.ask
  repeat' (first | with_reducible intro _ | with_reducible assumption | with_reducible exact oGAL_C_FALLBACKS _
                 | with_reducible exact oGAL_C_FREE_MIN _ | with_reducible exact oGAL_C_GRANTS _ | with_reducible exact oGAL_C_REFUSED _
                 | with_reducible apply State.bump_kept | with_reducible apply State.request_kept | with_reducible apply State.pmc_kept | split
                 | dsimp only)

theorem State.storeAt_kept {ps : List Part} {K : Nat → Prop} {z0 : State} (s : State) (req : Option Nat) (bufs : List (Nat × Nat)) (poison : Bool)
    (i : Nat) (l : Bytes) (n : Nat) (hgalley : Part.galley ∈ ps) (htelem : Part.telem ∈ ps) (hmem : Part.mem ∈ ps) (hdict : Part.dict ∈ ps)
    (oFLT_DIAG_LOGGED : K Obj.FLT_DIAG_LOGGED) (hK : Kept ps K z0 s) : Kept ps K z0 (State.storeAt s req bufs poison i l n) := by
  induction n generalizing s req bufs poison i l with
  | zero =>
    unfold State.storeAt
    repeat' (first | with_reducible assumption | with_reducible apply State.galleyWrite_kept | with_reducible apply Kept.ite | split)
  | succ n ih =>
    unfold State.storeAt
    repeat' (first | with_reducible assumption | with_reducible apply State.galleyWrite_kept | with_reducible apply ih
                   | with_reducible apply Kept.ite | split)

theorem State.store32_kept {ps : List Part} {K : Nat → Prop} {z0 : State} (s : State) (req : Option Nat) (bufs : List (Nat × Nat)) (off : Nat)
    (l : Bytes) (hgalley : Part.galley ∈ ps) (htelem : Part.telem ∈ ps) (hmem : Part.mem ∈ ps) (hdict : Part.dict ∈ ps)
    (oFLT_DIAG_LOGGED : K Obj.FLT_DIAG_LOGGED) (hK : Kept ps K z0 s) : Kept ps K z0 (State.store32 s req bufs off l) := by
  unfold State.store32
  repeat' (first | with_reducible assumption | with_reducible apply State.storeAt_kept)

theorem State.readWords_kept {ps : List Part} {K : Nat → Prop} {z0 : State} (s : State) (req : Option Nat) (bufs : List (Nat × Nat)) (i : Nat)
    (n : Nat) (hwonel : Part.wonel ∈ ps) (hflt : Part.flt ∈ ps) (hlinks : Part.links ∈ ps) (hgalley : Part.galley ∈ ps) (htables : Part.tables ∈ ps)
    (htelem : Part.telem ∈ ps) (htim : Part.tim ∈ ps) (hcmp : Part.cmp ∈ ps) (hmem : Part.mem ∈ ps) (hdict : Part.dict ∈ ps) (hbusy : Part.busy ∈ ps)
    (hout : Part.out ∈ ps) (hfresh : Part.fresh ∈ ps) (ko : CodedKeys K) (oGAL_INVALID_READS : K Obj.GAL_INVALID_READS) (hK : Kept ps K z0 s)
    : Kept ps K z0 (State.readWords s req bufs i n).2 := by
  induction n generalizing s req bufs i with
  | zero =>
    unfold State.readWords
    repeat' (first | with_reducible assumption | with_reducible apply State.galleyRead_kept | split)
  | succ n ih =>
    unfold State.readWords
    repeat' (first | with_reducible assumption | with_reducible apply State.galleyRead_kept | with_reducible apply ih | split)

theorem State.setDescr_kept {ps : List Part} {K : Nat → Prop} {z0 : State} (s : State) (d : Nat) (x : Option Descr) (hgalley : Part.galley ∈ ps)
    (hmem : Part.mem ∈ ps) (hdict : Part.dict ∈ ps) (oFLT_DIAG_LOGGED : K Obj.FLT_DIAG_LOGGED) (hK : Kept ps K z0 s)
    : Kept ps K z0 (State.setDescr s d x) := by
  unfold State.setDescr
  repeat' (first | with_reducible assumption | with_reducible apply State.memWritten_kept | with_reducible apply State.modGalley_kept)

theorem State.modDescr_kept {ps : List Part} {K : Nat → Prop} {z0 : State} (s : State) (d : Nat) (f : Descr → Descr) (hgalley : Part.galley ∈ ps) (hK
    : Kept ps K z0 s) : Kept ps K z0 (State.modDescr s d f) := by
  unfold State.modDescr
  repeat' (first | with_reducible assumption | with_reducible apply State.modGalley_kept | split)

theorem State.newDescr_kept {ps : List Part} {K : Nat → Prop} {z0 : State} (s : State) (x : Descr) (hgalley : Part.galley ∈ ps) (hmem : Part.mem ∈ ps)
    (hdict : Part.dict ∈ ps) (oFLT_DIAG_LOGGED : K Obj.FLT_DIAG_LOGGED) (hK : Kept ps K z0 s) : Kept ps K z0 (State.newDescr s x).2 := by
  unfold State.newDescr
  repeat' (first | with_reducible assumption | with_reducible apply State.setDescr_kept)

theorem State.freeFrame_kept {ps : List Part} {K : Nat → Prop} {z0 : State} (s : State) (d : Nat) (hwonel : Part.wonel ∈ ps) (hflt : Part.flt ∈ ps)
    (hlinks : Part.links ∈ ps) (hgalley : Part.galley ∈ ps) (hports : Part.ports ∈ ps) (htables : Part.tables ∈ ps) (htelem : Part.telem ∈ ps)
    (htim : Part.tim ∈ ps) (hcmp : Part.cmp ∈ ps) (hmem : Part.mem ∈ ps) (hdict : Part.dict ∈ ps) (hbusy : Part.busy ∈ ps) (hout : Part.out ∈ ps)
    (hfresh : Part.fresh ∈ ps) (ko : BufferKeys K) (oCTR_TX_FRAMES : ∀ i, K (Obj.CTR_TX_FRAMES i)) (oCTR_TX_OCTETS : ∀ i, K (Obj.CTR_TX_OCTETS i))
    (oCTR_TX_PAUSE : ∀ i, K (Obj.CTR_TX_PAUSE i)) (hK : Kept ps K z0 s) : Kept ps K z0 (State.freeFrame s d) := by
  unfold State.freeFrame
  repeat' (first | with_reducible intro _ | with_reducible assumption | with_reducible exact ko.logged | with_reducible exact ko.galLost
                 | with_reducible exact oCTR_TX_FRAMES _ | with_reducible exact oCTR_TX_OCTETS _ | with_reducible exact oCTR_TX_PAUSE _
                 | with_reducible apply State.bump_kept | with_reducible apply State.push_kept | with_reducible apply State.chargeBuf_kept
                 | with_reducible apply State.chargeBytes_kept | with_reducible apply State.setDescr_kept | with_reducible apply Kept.foldl
                 | with_reducible apply Kept.ite | split)

theorem State.releaseFrame_kept {ps : List Part} {K : Nat → Prop} {z0 : State} (s : State) (d : Nat) (hwonel : Part.wonel ∈ ps) (hflt : Part.flt ∈ ps)
    (hlinks : Part.links ∈ ps) (hgalley : Part.galley ∈ ps) (hports : Part.ports ∈ ps) (htables : Part.tables ∈ ps) (htelem : Part.telem ∈ ps)
    (htim : Part.tim ∈ ps) (hcmp : Part.cmp ∈ ps) (hmem : Part.mem ∈ ps) (hdict : Part.dict ∈ ps) (hbusy : Part.busy ∈ ps) (hout : Part.out ∈ ps)
    (hfresh : Part.fresh ∈ ps) (ko : BufferKeys K) (oCTR_TX_FRAMES : ∀ i, K (Obj.CTR_TX_FRAMES i)) (oCTR_TX_OCTETS : ∀ i, K (Obj.CTR_TX_OCTETS i))
    (oCTR_TX_PAUSE : ∀ i, K (Obj.CTR_TX_PAUSE i)) (hK : Kept ps K z0 s) : Kept ps K z0 (State.releaseFrame s d) := by
  unfold State.releaseFrame
  repeat' (first | with_reducible intro _ | with_reducible assumption | with_reducible exact oCTR_TX_FRAMES _
                 | with_reducible exact oCTR_TX_OCTETS _ | with_reducible exact oCTR_TX_PAUSE _ | with_reducible apply State.modDescr_kept
                 | with_reducible apply State.freeFrame_kept | with_reducible apply Kept.ite | split)

theorem State.releaseDesc_kept {ps : List Part} {K : Nat → Prop} {z0 : State} (s : State) (d : Nat) (hwonel : Part.wonel ∈ ps) (hflt : Part.flt ∈ ps)
    (hlinks : Part.links ∈ ps) (hgalley : Part.galley ∈ ps) (hports : Part.ports ∈ ps) (htables : Part.tables ∈ ps) (htelem : Part.telem ∈ ps)
    (htim : Part.tim ∈ ps) (hcmp : Part.cmp ∈ ps) (hmem : Part.mem ∈ ps) (hdict : Part.dict ∈ ps) (hbusy : Part.busy ∈ ps) (hout : Part.out ∈ ps)
    (hfresh : Part.fresh ∈ ps) (ko : BufferKeys K) (oCTR_TX_FRAMES : ∀ i, K (Obj.CTR_TX_FRAMES i)) (oCTR_TX_OCTETS : ∀ i, K (Obj.CTR_TX_OCTETS i))
    (oCTR_TX_PAUSE : ∀ i, K (Obj.CTR_TX_PAUSE i)) (hK : Kept ps K z0 s) : Kept ps K z0 (State.releaseDesc s d) := by
  unfold State.releaseDesc
  repeat' (first | with_reducible intro _ | with_reducible assumption | with_reducible exact ko.logged | with_reducible exact oCTR_TX_FRAMES _
                 | with_reducible exact oCTR_TX_OCTETS _ | with_reducible exact oCTR_TX_PAUSE _ | with_reducible apply State.releaseFrame_kept
                 | with_reducible apply State.setDescr_kept | split)

theorem State.poisonRead_kept {ps : List Part} {K : Nat → Prop} {z0 : State} (s : State) (d : Nat) (n : Nat) (hgalley : Part.galley ∈ ps)
    (hdict : Part.dict ∈ ps) (oGAL_POISON_FRAMES : K Obj.GAL_POISON_FRAMES) (oGAL_POISON_READS : K Obj.GAL_POISON_READS) (hK : Kept ps K z0 s)
    : Kept ps K z0 (State.poisonRead s d n) := by
  unfold State.poisonRead
  repeat' (first | with_reducible assumption | with_reducible apply State.bumpBy_kept | with_reducible apply State.bump_kept
                 | with_reducible apply State.modDescr_kept | with_reducible apply Kept.ite | split | dsimp only)

theorem State.copyErrors_kept {ps : List Part} {K : Nat → Prop} {z0 : State} (s : State) (b : BankRemap) (hwonel : Part.wonel ∈ ps)
    (hflt : Part.flt ∈ ps) (hlinks : Part.links ∈ ps) (hgalley : Part.galley ∈ ps) (htables : Part.tables ∈ ps) (htim : Part.tim ∈ ps)
    (hcmp : Part.cmp ∈ ps) (hmem : Part.mem ∈ ps) (hdict : Part.dict ∈ ps) (hout : Part.out ∈ ps) (hfresh : Part.fresh ∈ ps) (ko : ReactKeys K)
    (oCHS_LABEL_CE : ∀ i, K (Obj.CHS_LABEL_CE i)) (oCHS_LABEL_UE : ∀ i, K (Obj.CHS_LABEL_UE i)) (oCHS_LPM_MISMATCH : ∀ i, K (Obj.CHS_LPM_MISMATCH i))
    (oCHS_LPM_PARITY : ∀ i, K (Obj.CHS_LPM_PARITY i)) (oCHS_NH_CE : ∀ i, K (Obj.CHS_NH_CE i)) (oCHS_NH_UE : ∀ i, K (Obj.CHS_NH_UE i))
    (oCMP_FETCH_CE : K Obj.CMP_FETCH_CE) (oCMP_FETCH_UE : K Obj.CMP_FETCH_UE) (oFLT_MI_CE : ∀ i, K (Obj.FLT_MI_CE i))
    (oFLT_MI_LAST : ∀ i, K (Obj.FLT_MI_LAST i)) (oFLT_MI_UE : ∀ i, K (Obj.FLT_MI_UE i)) (oTBL_LRN_UNCORR : ∀ i, K (Obj.TBL_LRN_UNCORR i)) (hK
    : Kept ps K z0 s) : Kept ps K z0 (State.copyErrors s b) := by
  unfold State.copyErrors
  repeat' (first | with_reducible intro _ | with_reducible assumption | with_reducible exact oCHS_LABEL_CE _
                 | with_reducible exact oCHS_LABEL_UE _ | with_reducible exact oCHS_LPM_MISMATCH _ | with_reducible exact oCHS_LPM_PARITY _
                 | with_reducible exact oCHS_NH_CE _ | with_reducible exact oCHS_NH_UE _ | with_reducible exact oFLT_MI_CE _
                 | with_reducible exact oFLT_MI_LAST _ | with_reducible exact oFLT_MI_UE _ | with_reducible exact oTBL_LRN_UNCORR _
                 | with_reducible apply State.modGalley_kept | with_reducible apply State.memEvent_kept | with_reducible apply Kept.foldl
                 | exact Or.inl ‹_› | with_reducible exact Or.inr rfl | with_reducible exact Or.inl rfl | split | dsimp only
                 | with_reducible exact Nat.le_max_right _ _ | with_reducible apply Kept.all)

theorem startGalRemap_kept {ps : List Part} {K : Nat → Prop} {z0 : State} (s : State) (hwonel : Part.wonel ∈ ps) (hflt : Part.flt ∈ ps)
    (hlinks : Part.links ∈ ps) (hgalley : Part.galley ∈ ps) (htables : Part.tables ∈ ps) (htim : Part.tim ∈ ps) (hdict : Part.dict ∈ ps)
    (hbusy : Part.busy ∈ ps) (hout : Part.out ∈ ps) (ko : ReactKeys K) (oGAL_LAST_REMAP : K Obj.GAL_LAST_REMAP) (oGAL_REMAP : K Obj.GAL_REMAP) (hK
    : Kept ps K z0 s) : Kept ps K z0 (startGalRemap s).2 := by
  unfold startGalRemap
  repeat' (first | with_reducible intro _ | with_reducible assumption | with_reducible exact ko.events | with_reducible exact ko.lost
                 | with_reducible exact ko.rungs | with_reducible exact ko.state | with_reducible exact ko.cause | with_reducible exact ko.shed _
                 | with_reducible apply State.runOnce_kept | with_reducible apply State.modGalley_kept | with_reducible apply State.note_kept
                 | with_reducible apply State.put_kept | with_reducible apply State.runBegin_kept | with_reducible apply State.dispatchForme_kept
                 | with_reducible apply Kept.ite_snd | exact Or.inl ‹_› | with_reducible exact Or.inr rfl | with_reducible exact Or.inl rfl
                 | split | dsimp only | with_reducible exact Nat.le_max_right _ _ | with_reducible apply Kept.all)

theorem State.carve_kept {ps : List Part} {K : Nat → Prop} {z0 : State} (s : State) (n : Nat) (counts : List Nat) (hgalley : Part.galley ∈ ps)
    (hmem : Part.mem ∈ ps) (hdict : Part.dict ∈ ps) (hall : ∀ k, K k) (hK : Kept ps K z0 s) : Kept ps K z0 (State.carve s n counts) := by
  unfold State.carve
  repeat' (first | with_reducible intro _ | with_reducible assumption | exact hall _ | with_reducible apply State.put_kept
                 | with_reducible apply Kept.foldl | exact Or.inl ‹_› | with_reducible exact Or.inr rfl | with_reducible exact Or.inl rfl
                 | dsimp only | with_reducible exact Nat.le_max_right _ _ | with_reducible apply Kept.all)

theorem startGalCarveApply_kept {ps : List Part} {K : Nat → Prop} {z0 : State} (s : State) (hgalley : Part.galley ∈ ps) (hmem : Part.mem ∈ ps)
    (hdict : Part.dict ∈ ps) (hbusy : Part.busy ∈ ps) (hall : ∀ k, K k) (hK : Kept ps K z0 s) : Kept ps K z0 (startGalCarveApply s).2 := by
  unfold startGalCarveApply
  repeat' (first | with_reducible intro _ | with_reducible assumption | exact hall _ | with_reducible apply State.runOnce_kept
                 | with_reducible apply State.carve_kept | split)

theorem State.applyStoredRemap_kept {ps : List Part} {K : Nat → Prop} {z0 : State} (s : State) (hgalley : Part.galley ∈ ps) (hK : Kept ps K z0 s)
    : Kept ps K z0 (State.applyStoredRemap s) := by
  unfold State.applyStoredRemap
  repeat' (first | with_reducible assumption | with_reducible apply State.modGalley_kept)

theorem State.selfTestBank_kept {ps : List Part} {K : Nat → Prop} {z0 : State} (s : State) (b : Nat) (hboot : Part.boot ∈ ps)
    (hgalley : Part.galley ∈ ps) (hdict : Part.dict ∈ ps) (oFLT_BIST_REMAPPED : K Obj.FLT_BIST_REMAPPED) (oGAL_LAST_REMAP : K Obj.GAL_LAST_REMAP) (hK
    : Kept ps K z0 s) : Kept ps K z0 (State.selfTestBank s b) := by
  unfold State.selfTestBank
  repeat' (first | with_reducible intro _ | with_reducible assumption | with_reducible apply State.modGalley_kept
                 | with_reducible apply State.bump_kept | with_reducible apply State.put_kept | exact Or.inl ‹_›
                 | with_reducible exact Or.inr rfl | with_reducible exact Or.inl rfl | split | dsimp only
                 | with_reducible exact Nat.le_max_right _ _ | with_reducible apply Kept.all)

end Sys2Proof.Machine
end

