-- ==== Sys2Proof/Laws/KeptSched.lean ====
section
/-! SUPPORT. What the operations of Machine/Sched.lean keep (Laws/Kept.lean). -/

namespace Sys2Proof.Machine
open Sys2Proof

theorem State.modQueue_kept {ps : List Part} {K : Nat → Prop} {z0 : State} (s : State) (p : Nat) (q : Nat) (f : Queue → Queue)
    (hsched : Part.sched ∈ ps) (hK : Kept ps K z0 s) : Kept ps K z0 (State.modQueue s p q f) := by
  unfold State.modQueue
  repeat' (first | with_reducible intro _ | with_reducible assumption | exact Or.inl ‹_› | with_reducible exact Or.inr rfl
                 | with_reducible exact Or.inl rfl | dsimp only | with_reducible exact Nat.le_max_right _ _ | with_reducible apply Kept.all)

theorem State.retag_kept {ps : List Part} {K : Nat → Prop} {z0 : State} (s : State) (p : Nat) (q : Nat) (hsched : Part.sched ∈ ps) (hK
    : Kept ps K z0 s) : Kept ps K z0 (State.retag s p q) := by
  unfold State.retag
  repeat' (first | with_reducible assumption | with_reducible apply State.modQueue_kept | with_reducible apply Kept.ite | split)

theorem State.wake_kept {ps : List Part} {K : Nat → Prop} {z0 : State} (s : State) (p : Nat) (hports : Part.ports ∈ ps) (hout : Part.out ∈ ps) (hK
    : Kept ps K z0 s) : Kept ps K z0 (State.wake s p) := by
  unfold State.wake
  repeat' (first | with_reducible assumption | with_reducible apply State.modPort_kept | with_reducible apply State.emit_kept
                 | with_reducible apply Kept.ite)

theorem State.wakeTx_kept {ps : List Part} {K : Nat → Prop} {z0 : State} (s : State) (p : Nat) (hports : Part.ports ∈ ps) (hdict : Part.dict ∈ ps)
    (hout : Part.out ∈ ps) (oCTR_LPI_TX_US : ∀ i, K (Obj.CTR_LPI_TX_US i)) (hK : Kept ps K z0 s) : Kept ps K z0 (State.wakeTx s p) := by
  unfold State.wakeTx
  repeat' (first | with_reducible assumption | with_reducible exact oCTR_LPI_TX_US _ | with_reducible apply State.wake_kept
                 | with_reducible apply State.bumpBy_kept | with_reducible apply Kept.ite)

theorem State.enqueueEntry_kept {ps : List Part} {K : Nat → Prop} {z0 : State} (s : State) (p : Nat) (q : Nat) (desc : Nat) (cl : Nat)
    (hsched : Part.sched ∈ ps) (hports : Part.ports ∈ ps) (htelem : Part.telem ∈ ps) (hdict : Part.dict ∈ ps) (hout : Part.out ∈ ps)
    (oCTR_LPI_TX_US : ∀ i, K (Obj.CTR_LPI_TX_US i)) (oQ_ENQ : ∀ i j, K (Obj.Q_ENQ i j)) (hK : Kept ps K z0 s)
    : Kept ps K z0 (State.enqueueEntry s p q desc cl) := by
  unfold State.enqueueEntry
  repeat' (first | with_reducible intro _ | with_reducible assumption | with_reducible exact oCTR_LPI_TX_US _ | with_reducible exact oQ_ENQ _ _
                 | with_reducible apply State.modQueue_kept | with_reducible apply State.wakeTx_kept | with_reducible apply State.modPort_kept
                 | with_reducible apply State.pmc_kept | with_reducible apply State.bump_kept | exact Or.inl ‹_›
                 | with_reducible exact Or.inr rfl | with_reducible exact Or.inl rfl | dsimp only | with_reducible exact Nat.le_max_right _ _
                 | with_reducible apply Kept.all)

theorem State.enqueue_kept {ps : List Part} {K : Nat → Prop} {z0 : State} (s : State) (p : Nat) (q : Nat) (desc : Nat) (cl : Nat)
    (hwonel : Part.wonel ∈ ps) (hflt : Part.flt ∈ ps) (hlinks : Part.links ∈ ps) (hgalley : Part.galley ∈ ps) (hsched : Part.sched ∈ ps)
    (hports : Part.ports ∈ ps) (htables : Part.tables ∈ ps) (htelem : Part.telem ∈ ps) (htim : Part.tim ∈ ps) (hcmp : Part.cmp ∈ ps)
    (hmem : Part.mem ∈ ps) (hdict : Part.dict ∈ ps) (hbusy : Part.busy ∈ ps) (hout : Part.out ∈ ps) (hfresh : Part.fresh ∈ ps) (ko : BufferKeys K)
    (oCTR_LPI_TX_US : ∀ i, K (Obj.CTR_LPI_TX_US i)) (oCTR_TX_FLUSHED : ∀ i, K (Obj.CTR_TX_FLUSHED i)) (oCTR_TX_FRAMES : ∀ i, K (Obj.CTR_TX_FRAMES i))
    (oCTR_TX_OCTETS : ∀ i, K (Obj.CTR_TX_OCTETS i)) (oCTR_TX_PAUSE : ∀ i, K (Obj.CTR_TX_PAUSE i)) (oQ_ENQ : ∀ i j, K (Obj.Q_ENQ i j))
    (oQ_TAIL_DROPS : ∀ i j, K (Obj.Q_TAIL_DROPS i j)) (hK : Kept ps K z0 s) : Kept ps K z0 (State.enqueue s p q desc cl) := by
  unfold State.enqueue
  repeat' (first | with_reducible intro _ | with_reducible assumption | with_reducible exact oCTR_LPI_TX_US _
                 | with_reducible exact oCTR_TX_FLUSHED _ | with_reducible exact oCTR_TX_FRAMES _ | with_reducible exact oCTR_TX_OCTETS _
                 | with_reducible exact oCTR_TX_PAUSE _ | with_reducible exact oQ_ENQ _ _ | with_reducible exact oQ_TAIL_DROPS _ _
                 | with_reducible apply State.releaseDesc_kept | with_reducible apply State.bump_kept | with_reducible apply State.pmc_kept
                 | with_reducible apply State.enqueueEntry_kept | with_reducible apply Kept.ite)

theorem State.flyAdd_kept {ps : List Part} {K : Nat → Prop} {z0 : State} (s : State) (p : Nat) (n : Nat) (hsched : Part.sched ∈ ps) (hK
    : Kept ps K z0 s) : Kept ps K z0 (State.flyAdd s p n) := by
  unfold State.flyAdd
  repeat' (first | with_reducible intro _ | with_reducible assumption | exact Or.inl ‹_› | with_reducible exact Or.inr rfl
                 | with_reducible exact Or.inl rfl | dsimp only | with_reducible exact Nat.le_max_right _ _ | with_reducible apply Kept.all)

theorem State.flySub_kept {ps : List Part} {K : Nat → Prop} {z0 : State} (s : State) (p : Nat) (n : Nat) (hsched : Part.sched ∈ ps) (hK
    : Kept ps K z0 s) : Kept ps K z0 (State.flySub s p n) := by
  unfold State.flySub
  repeat' (first | with_reducible intro _ | with_reducible assumption | exact Or.inl ‹_› | with_reducible exact Or.inr rfl
                 | with_reducible exact Or.inl rfl | dsimp only | with_reducible exact Nat.le_max_right _ _ | with_reducible apply Kept.all)

theorem State.portSpend_kept {ps : List Part} {K : Nat → Prop} {z0 : State} (s : State) (p : Nat) (cl : Nat) (hsched : Part.sched ∈ ps) (hK
    : Kept ps K z0 s) : Kept ps K z0 (State.portSpend s p cl) := by
  unfold State.portSpend
  repeat' (first | with_reducible intro _ | with_reducible assumption | with_reducible apply Kept.ite | exact Or.inl ‹_›
                 | with_reducible exact Or.inr rfl | with_reducible exact Or.inl rfl | dsimp only | with_reducible exact Nat.le_max_right _ _
                 | with_reducible apply Kept.all)

theorem State.dequeueHead_kept {ps : List Part} {K : Nat → Prop} {z0 : State} (s : State) (p : Nat) (q : Nat) (e : QEntry) (rest : List QEntry)
    (hsched : Part.sched ∈ ps) (htelem : Part.telem ∈ ps) (hdict : Part.dict ∈ ps) (oQ_DEQ : ∀ i j, K (Obj.Q_DEQ i j))
    (oQ_ECN_MARKS : ∀ i j, K (Obj.Q_ECN_MARKS i j)) (hK : Kept ps K z0 s) : Kept ps K z0 (State.dequeueHead s p q e rest) := by
  unfold State.dequeueHead
  repeat' (first | with_reducible intro _ | with_reducible assumption | with_reducible exact oQ_DEQ _ _ | with_reducible exact oQ_ECN_MARKS _ _
                 | with_reducible apply State.modQueue_kept | with_reducible apply State.pmc_kept | with_reducible apply State.bump_kept
                 | with_reducible apply State.flyAdd_kept | with_reducible apply State.portSpend_kept | with_reducible apply Kept.ite
                 | exact Or.inl ‹_› | with_reducible exact Or.inr rfl | with_reducible exact Or.inl rfl | dsimp only
                 | with_reducible exact Nat.le_max_right _ _ | with_reducible apply Kept.all)

theorem State.select_kept {ps : List Part} {K : Nat → Prop} {z0 : State} (s : State) (p : Nat) (hsched : Part.sched ∈ ps) (htelem : Part.telem ∈ ps)
    (hdict : Part.dict ∈ ps) (oQ_DEQ : ∀ i j, K (Obj.Q_DEQ i j)) (oQ_ECN_MARKS : ∀ i j, K (Obj.Q_ECN_MARKS i j)) (hK : Kept ps K z0 s)
    : KeptSome ps K z0 (State.select s p) fun y => y.2 := by
  intro y hy
  unfold State.select at hy
  try dsimp only at hy
  repeat' split at hy
  all_goals cases hy
  all_goals repeat' (first | with_reducible intro _ | with_reducible assumption | with_reducible exact oQ_DEQ _ _
                           | with_reducible exact oQ_ECN_MARKS _ _ | with_reducible apply State.dequeueHead_kept)

theorem State.writePolicer_kept {ps : List Part} {K : Nat → Prop} {z0 : State} (s : State) (k : Nat) (cir : Nat) (pir : Nat) (cbs : Nat) (pbs : Nat)
    (hsched : Part.sched ∈ ps) (hK : Kept ps K z0 s) : Kept ps K z0 (State.writePolicer s k cir pir cbs pbs) := by
  unfold State.writePolicer
  repeat' (first | with_reducible intro _ | with_reducible assumption | exact Or.inl ‹_› | with_reducible exact Or.inr rfl
                 | with_reducible exact Or.inl rfl | dsimp only | with_reducible exact Nat.le_max_right _ _ | with_reducible apply Kept.all)

theorem State.shaperWord_kept {ps : List Part} {K : Nat → Prop} {z0 : State} (s : State) (p : Nat) (queue : Nat) (credit : Int)
    (hwonel : Part.wonel ∈ ps) (hflt : Part.flt ∈ ps) (hlinks : Part.links ∈ ps) (hgalley : Part.galley ∈ ps) (htables : Part.tables ∈ ps)
    (htim : Part.tim ∈ ps) (hcmp : Part.cmp ∈ ps) (hmem : Part.mem ∈ ps) (hdict : Part.dict ∈ ps) (hbusy : Part.busy ∈ ps) (hout : Part.out ∈ ps)
    (hfresh : Part.fresh ∈ ps) (ko : CodedKeys K) (oFLT_DIAG_LOGGED : K Obj.FLT_DIAG_LOGGED) (hK : Kept ps K z0 s)
    : Kept ps K z0 (State.shaperWord s p queue credit).2 := by
  unfold State.shaperWord
  repeat' (first | with_reducible assumption | with_reducible apply State.readWord_kept | with_reducible apply State.memWritten_kept)

theorem State.refillAll_kept {ps : List Part} {K : Nat → Prop} {z0 : State} (s : State) (hwonel : Part.wonel ∈ ps) (hflt : Part.flt ∈ ps)
    (hlinks : Part.links ∈ ps) (hgalley : Part.galley ∈ ps) (hsched : Part.sched ∈ ps) (htables : Part.tables ∈ ps) (htim : Part.tim ∈ ps)
    (hcmp : Part.cmp ∈ ps) (hmem : Part.mem ∈ ps) (hdict : Part.dict ∈ ps) (hbusy : Part.busy ∈ ps) (hout : Part.out ∈ ps) (hfresh : Part.fresh ∈ ps)
    (ko : CodedKeys K) (oFLT_DIAG_LOGGED : K Obj.FLT_DIAG_LOGGED) (oSCH_SP_PENDING : ∀ i, K (Obj.SCH_SP_PENDING i)) (hK : Kept ps K z0 s)
    : Kept ps K z0 (State.refillAll s) := by
  unfold State.refillAll
  repeat' (first | with_reducible intro _ | with_reducible assumption | with_reducible exact oSCH_SP_PENDING _
                 | with_reducible apply State.put_kept | with_reducible apply State.shaperWord_kept | with_reducible apply State.modQueue_kept
                 | with_reducible apply State.retag_kept | with_reducible apply Kept.foldl | with_reducible apply Kept.ite | exact Or.inl ‹_›
                 | with_reducible exact Or.inr rfl | with_reducible exact Or.inl rfl | dsimp only | with_reducible exact Nat.le_max_right _ _
                 | with_reducible apply Kept.all)

theorem State.creditBack_kept {ps : List Part} {K : Nat → Prop} {z0 : State} (s : State) (p : Nat) (q : Nat) (d : Int) (hsched : Part.sched ∈ ps) (hK
    : Kept ps K z0 s) : Kept ps K z0 (State.creditBack s p q d) := by
  unfold State.creditBack
  repeat' (first | with_reducible assumption | with_reducible apply State.modQueue_kept | with_reducible apply State.retag_kept
                 | with_reducible apply Kept.ite)

theorem State.correctCharge_kept {ps : List Part} {K : Nat → Prop} {z0 : State} (s : State) (p : Nat) (q : Nat) (cle : Nat) (cl : Nat)
    (shapedQ : Bool) (shapedP : Bool) (hsched : Part.sched ∈ ps) (hK : Kept ps K z0 s)
    : Kept ps K z0 (State.correctCharge s p q cle cl shapedQ shapedP) := by
  unfold State.correctCharge
  repeat' (first | with_reducible intro _ | with_reducible assumption | with_reducible apply State.creditBack_kept | with_reducible apply Kept.ite
                 | exact Or.inl ‹_› | with_reducible exact Or.inr rfl | with_reducible exact Or.inl rfl | split | dsimp only
                 | with_reducible exact Nat.le_max_right _ _ | with_reducible apply Kept.all)

theorem State.flushQueue_kept {ps : List Part} {K : Nat → Prop} {z0 : State} (s : State) (p : Nat) (q : Nat) (hwonel : Part.wonel ∈ ps)
    (hflt : Part.flt ∈ ps) (hlinks : Part.links ∈ ps) (hgalley : Part.galley ∈ ps) (hsched : Part.sched ∈ ps) (hports : Part.ports ∈ ps)
    (htables : Part.tables ∈ ps) (htelem : Part.telem ∈ ps) (htim : Part.tim ∈ ps) (hcmp : Part.cmp ∈ ps) (hmem : Part.mem ∈ ps)
    (hdict : Part.dict ∈ ps) (hbusy : Part.busy ∈ ps) (hout : Part.out ∈ ps) (hfresh : Part.fresh ∈ ps) (ko : BufferKeys K)
    (oCTR_TX_FLUSHED : ∀ i, K (Obj.CTR_TX_FLUSHED i)) (oCTR_TX_FRAMES : ∀ i, K (Obj.CTR_TX_FRAMES i)) (oCTR_TX_OCTETS : ∀ i, K (Obj.CTR_TX_OCTETS i))
    (oCTR_TX_PAUSE : ∀ i, K (Obj.CTR_TX_PAUSE i)) (hK : Kept ps K z0 s) : Kept ps K z0 (State.flushQueue s p q) := by
  unfold State.flushQueue
  repeat' (first | with_reducible intro _ | with_reducible assumption | with_reducible exact oCTR_TX_FLUSHED _
                 | with_reducible exact oCTR_TX_FRAMES _ | with_reducible exact oCTR_TX_OCTETS _ | with_reducible exact oCTR_TX_PAUSE _
                 | with_reducible apply State.modQueue_kept | with_reducible apply State.releaseDesc_kept | with_reducible apply State.bump_kept
                 | with_reducible apply Kept.foldl)

theorem State.flushPort_kept {ps : List Part} {K : Nat → Prop} {z0 : State} (s : State) (p : Nat) (hwonel : Part.wonel ∈ ps) (hflt : Part.flt ∈ ps)
    (hlinks : Part.links ∈ ps) (hgalley : Part.galley ∈ ps) (hsched : Part.sched ∈ ps) (hports : Part.ports ∈ ps) (htables : Part.tables ∈ ps)
    (htelem : Part.telem ∈ ps) (htim : Part.tim ∈ ps) (hcmp : Part.cmp ∈ ps) (hmem : Part.mem ∈ ps) (hdict : Part.dict ∈ ps) (hbusy : Part.busy ∈ ps)
    (hout : Part.out ∈ ps) (hfresh : Part.fresh ∈ ps) (ko : BufferKeys K) (oCTR_TX_FLUSHED : ∀ i, K (Obj.CTR_TX_FLUSHED i))
    (oCTR_TX_FRAMES : ∀ i, K (Obj.CTR_TX_FRAMES i)) (oCTR_TX_OCTETS : ∀ i, K (Obj.CTR_TX_OCTETS i)) (oCTR_TX_PAUSE : ∀ i, K (Obj.CTR_TX_PAUSE i)) (hK
    : Kept ps K z0 s) : Kept ps K z0 (State.flushPort s p) := by
  unfold State.flushPort
  repeat' (first | with_reducible intro _ | with_reducible assumption | with_reducible exact oCTR_TX_FLUSHED _
                 | with_reducible exact oCTR_TX_FRAMES _ | with_reducible exact oCTR_TX_OCTETS _ | with_reducible exact oCTR_TX_PAUSE _
                 | with_reducible apply State.flushQueue_kept | with_reducible apply Kept.foldl | exact Or.inl ‹_›
                 | with_reducible exact Or.inr rfl | with_reducible exact Or.inl rfl | dsimp only | with_reducible exact Nat.le_max_right _ _
                 | with_reducible apply Kept.all)

theorem State.linkLost_kept {ps : List Part} {K : Nat → Prop} {z0 : State} (s : State) (p : Nat) (q : Nat) (hwonel : Part.wonel ∈ ps)
    (hflt : Part.flt ∈ ps) (hlinks : Part.links ∈ ps) (hgalley : Part.galley ∈ ps) (hsched : Part.sched ∈ ps) (hports : Part.ports ∈ ps)
    (htables : Part.tables ∈ ps) (htelem : Part.telem ∈ ps) (htim : Part.tim ∈ ps) (hcmp : Part.cmp ∈ ps) (hmem : Part.mem ∈ ps)
    (hdict : Part.dict ∈ ps) (hbusy : Part.busy ∈ ps) (hout : Part.out ∈ ps) (hfresh : Part.fresh ∈ ps) (ko : BufferKeys K)
    (oCTR_TX_FLUSHED : ∀ i, K (Obj.CTR_TX_FLUSHED i)) (oCTR_TX_FRAMES : ∀ i, K (Obj.CTR_TX_FRAMES i)) (oCTR_TX_OCTETS : ∀ i, K (Obj.CTR_TX_OCTETS i))
    (oCTR_TX_PAUSE : ∀ i, K (Obj.CTR_TX_PAUSE i)) (oFLT_MI_DISCARDS : ∀ i, K (Obj.FLT_MI_DISCARDS i)) (hK : Kept ps K z0 s)
    : Kept ps K z0 (State.linkLost s p q) := by
  unfold State.linkLost
  repeat' (first | with_reducible intro _ | with_reducible assumption | with_reducible exact ko.galLost | with_reducible exact oCTR_TX_FLUSHED _
                 | with_reducible exact oCTR_TX_FRAMES _ | with_reducible exact oCTR_TX_OCTETS _ | with_reducible exact oCTR_TX_PAUSE _
                 | with_reducible exact oFLT_MI_DISCARDS _ | with_reducible apply State.flushQueue_kept
                 | with_reducible apply State.modQueue_kept | with_reducible apply State.bumpBy_kept)

theorem State.mcPut_kept {ps : List Part} {K : Nat → Prop} {z0 : State} (s : State) (desc : Nat) (group : Nat) (queue : Nat) (inPort : Nat)
    (hwonel : Part.wonel ∈ ps) (hflt : Part.flt ∈ ps) (hlinks : Part.links ∈ ps) (hgalley : Part.galley ∈ ps) (hsched : Part.sched ∈ ps)
    (hports : Part.ports ∈ ps) (htables : Part.tables ∈ ps) (htelem : Part.telem ∈ ps) (htim : Part.tim ∈ ps) (hcmp : Part.cmp ∈ ps)
    (hmem : Part.mem ∈ ps) (hdict : Part.dict ∈ ps) (hbusy : Part.busy ∈ ps) (hout : Part.out ∈ ps) (hfresh : Part.fresh ∈ ps) (ko : BufferKeys K)
    (oCTR_TX_FRAMES : ∀ i, K (Obj.CTR_TX_FRAMES i)) (oCTR_TX_OCTETS : ∀ i, K (Obj.CTR_TX_OCTETS i)) (oCTR_TX_PAUSE : ∀ i, K (Obj.CTR_TX_PAUSE i))
    (oSCH_MC_ENGINE_DROPS : K Obj.SCH_MC_ENGINE_DROPS) (hK : Kept ps K z0 s) : Kept ps K z0 (State.mcPut s desc group queue inPort) := by
  unfold State.mcPut
  repeat' (first | with_reducible intro _ | with_reducible assumption | with_reducible exact oCTR_TX_FRAMES _
                 | with_reducible exact oCTR_TX_OCTETS _ | with_reducible exact oCTR_TX_PAUSE _ | with_reducible apply State.releaseFrame_kept
                 | with_reducible apply State.bump_kept | with_reducible apply Kept.ite | exact Or.inl ‹_› | with_reducible exact Or.inr rfl
                 | with_reducible exact Or.inl rfl | dsimp only | with_reducible exact Nat.le_max_right _ _ | with_reducible apply Kept.all)

theorem State.mcMember_kept {ps : List Part} {K : Nat → Prop} {z0 : State} (s : State) (desc : Nat) (queue : Nat) (p : Nat)
    (hgalley : Part.galley ∈ ps) (hsched : Part.sched ∈ ps) (hports : Part.ports ∈ ps) (htelem : Part.telem ∈ ps) (hmem : Part.mem ∈ ps)
    (hdict : Part.dict ∈ ps) (hout : Part.out ∈ ps) (oCTR_LPI_TX_US : ∀ i, K (Obj.CTR_LPI_TX_US i)) (oCTR_TX_FLUSHED : ∀ i, K (Obj.CTR_TX_FLUSHED i))
    (oFLT_DIAG_LOGGED : K Obj.FLT_DIAG_LOGGED) (oGAL_DESC_COPY_REFUSED : K Obj.GAL_DESC_COPY_REFUSED) (oQ_ENQ : ∀ i j, K (Obj.Q_ENQ i j))
    (oQ_MC_COPIES : ∀ i, K (Obj.Q_MC_COPIES i)) (oQ_MC_DOWN : ∀ i, K (Obj.Q_MC_DOWN i)) (oQ_MC_FULL : ∀ i, K (Obj.Q_MC_FULL i))
    (oQ_MC_NODESC : ∀ i, K (Obj.Q_MC_NODESC i)) (oSCH_MC_COPIES : K Obj.SCH_MC_COPIES) (hK : Kept ps K z0 s)
    : Kept ps K z0 (State.mcMember s desc queue p).2 := by
  unfold State.mcMember
  repeat' (first | with_reducible intro _ | with_reducible assumption | with_reducible exact oCTR_LPI_TX_US _
                 | with_reducible exact oCTR_TX_FLUSHED _ | with_reducible exact oQ_ENQ _ _ | with_reducible exact oQ_MC_COPIES _
                 | with_reducible exact oQ_MC_DOWN _ | with_reducible exact oQ_MC_FULL _ | with_reducible exact oQ_MC_NODESC _
                 | with_reducible apply State.bump_kept | with_reducible apply State.newDescr_kept | with_reducible apply State.modDescr_kept
                 | with_reducible apply State.enqueueEntry_kept | with_reducible apply Kept.ite_snd)

end Sys2Proof.Machine
end

