-- ==== Sys2Proof/Laws/KeptTables.lean ====
section
/-! SUPPORT. What the operations of Machine/Tables.lean keep (Laws/Kept.lean). -/

namespace Sys2Proof.Machine
open Sys2Proof

theorem State.modTables_kept {ps : List Part} {K : Nat → Prop} {z0 : State} (s : State) (f : Tables → Tables) (htables : Part.tables ∈ ps) (hK
    : Kept ps K z0 s) : Kept ps K z0 (State.modTables s f) := by
  unfold State.modTables
  repeat' (first | with_reducible intro _ | with_reducible assumption | exact Or.inl ‹_› | with_reducible exact Or.inr rfl
                 | with_reducible exact Or.inl rfl | dsimp only | with_reducible exact Nat.le_max_right _ _ | with_reducible apply Kept.all)

theorem State.readPair_kept {ps : List Part} {K : Nat → Prop} {z0 : State} (s : State) (kind : Nat) (inst : Nat) (addr : Nat) (source : Nat) (v : Nat)
    (hwonel : Part.wonel ∈ ps) (hflt : Part.flt ∈ ps) (hlinks : Part.links ∈ ps) (hgalley : Part.galley ∈ ps) (htables : Part.tables ∈ ps)
    (htim : Part.tim ∈ ps) (hcmp : Part.cmp ∈ ps) (hmem : Part.mem ∈ ps) (hdict : Part.dict ∈ ps) (hbusy : Part.busy ∈ ps) (hout : Part.out ∈ ps)
    (hfresh : Part.fresh ∈ ps) (ko : CodedKeys K) (hK : Kept ps K z0 s) : Kept ps K z0 (State.readPair s kind inst addr source v).2 := by
  unfold State.readPair
  repeat' (first | with_reducible assumption | with_reducible apply State.readWord_kept | split | dsimp only)

theorem State.labelRead_kept {ps : List Part} {K : Nat → Prop} {z0 : State} (s : State) (c : Nat) (e : Nat) (source : Nat) (hwonel : Part.wonel ∈ ps)
    (hflt : Part.flt ∈ ps) (hlinks : Part.links ∈ ps) (hgalley : Part.galley ∈ ps) (htables : Part.tables ∈ ps) (htim : Part.tim ∈ ps)
    (hcmp : Part.cmp ∈ ps) (hmem : Part.mem ∈ ps) (hdict : Part.dict ∈ ps) (hbusy : Part.busy ∈ ps) (hout : Part.out ∈ ps) (hfresh : Part.fresh ∈ ps)
    (ko : CodedKeys K) (hK : Kept ps K z0 s) : Kept ps K z0 (State.labelRead s c e source).2 := by
  unfold State.labelRead
  repeat' (first | with_reducible assumption | with_reducible apply State.readPair_kept)

theorem State.nhRead_kept {ps : List Part} {K : Nat → Prop} {z0 : State} (s : State) (c : Nat) (e : Nat) (source : Nat) (hwonel : Part.wonel ∈ ps)
    (hflt : Part.flt ∈ ps) (hlinks : Part.links ∈ ps) (hgalley : Part.galley ∈ ps) (htables : Part.tables ∈ ps) (htim : Part.tim ∈ ps)
    (hcmp : Part.cmp ∈ ps) (hmem : Part.mem ∈ ps) (hdict : Part.dict ∈ ps) (hbusy : Part.busy ∈ ps) (hout : Part.out ∈ ps) (hfresh : Part.fresh ∈ ps)
    (ko : CodedKeys K) (hK : Kept ps K z0 s) : Kept ps K z0 (State.nhRead s c e source).2 := by
  unfold State.nhRead
  repeat' (first | with_reducible assumption | with_reducible apply State.readPair_kept)

theorem State.pairWritten_kept {ps : List Part} {K : Nat → Prop} {z0 : State} (s : State) (kind : Nat) (e : Nat) (hmem : Part.mem ∈ ps)
    (hdict : Part.dict ∈ ps) (oFLT_DIAG_LOGGED : K Obj.FLT_DIAG_LOGGED) (hK : Kept ps K z0 s) : Kept ps K z0 (State.pairWritten s kind e) := by
  unfold State.pairWritten
  repeat' (first | with_reducible intro _ | with_reducible assumption | with_reducible apply State.memWritten_kept | with_reducible apply Kept.foldl)

theorem State.writeLabel_kept {ps : List Part} {K : Nat → Prop} {z0 : State} (s : State) (e : Nat) (v : Nat) (htables : Part.tables ∈ ps)
    (hmem : Part.mem ∈ ps) (hdict : Part.dict ∈ ps) (oFLT_DIAG_LOGGED : K Obj.FLT_DIAG_LOGGED) (hK : Kept ps K z0 s)
    : Kept ps K z0 (State.writeLabel s e v) := by
  unfold State.writeLabel
  repeat' (first | with_reducible assumption | with_reducible apply State.modTables_kept | with_reducible apply State.pairWritten_kept)

theorem State.writeNh_kept {ps : List Part} {K : Nat → Prop} {z0 : State} (s : State) (e : Nat) (v : Nat) (htables : Part.tables ∈ ps)
    (hmem : Part.mem ∈ ps) (hdict : Part.dict ∈ ps) (oFLT_DIAG_LOGGED : K Obj.FLT_DIAG_LOGGED) (hK : Kept ps K z0 s)
    : Kept ps K z0 (State.writeNh s e v) := by
  unfold State.writeNh
  repeat' (first | with_reducible assumption | with_reducible apply State.modTables_kept | with_reducible apply State.pairWritten_kept)

theorem State.lpm_kept {ps : List Part} {K : Nat → Prop} {z0 : State} (s : State) (c : Nat) (v6 : Bool) (vrf : Nat) (addr : Nat)
    (hwonel : Part.wonel ∈ ps) (hflt : Part.flt ∈ ps) (hlinks : Part.links ∈ ps) (hgalley : Part.galley ∈ ps) (htables : Part.tables ∈ ps)
    (htim : Part.tim ∈ ps) (hcmp : Part.cmp ∈ ps) (hmem : Part.mem ∈ ps) (hdict : Part.dict ∈ ps) (hbusy : Part.busy ∈ ps) (hout : Part.out ∈ ps)
    (hfresh : Part.fresh ∈ ps) (ko : CodedKeys K) (hK : Kept ps K z0 s) : Kept ps K z0 (State.lpm s c v6 vrf addr).2 := by
  unfold State.lpm
  repeat' (first | with_reducible assumption | with_reducible apply State.readWord_kept | with_reducible apply Kept.ite_snd | split | dsimp only)

theorem State.slotsWritten_kept {ps : List Part} {K : Nat → Prop} {z0 : State} (s : State) (old : List (Nat × Nat)) (hmem : Part.mem ∈ ps) (hK
    : Kept ps K z0 s) : Kept ps K z0 (State.slotsWritten s old) := by
  unfold State.slotsWritten
  repeat' (first | with_reducible intro _ | with_reducible assumption | with_reducible apply Kept.ite | exact Or.inl ‹_›
                 | with_reducible exact Or.inr rfl | with_reducible exact Or.inl rfl | dsimp only | with_reducible exact Nat.le_max_right _ _
                 | with_reducible apply Kept.all)

theorem startTblLpmApply_kept {ps : List Part} {K : Nat → Prop} {z0 : State} (s : State) (htables : Part.tables ∈ ps) (hdict : Part.dict ∈ ps)
    (hbusy : Part.busy ∈ ps) (oCMP_P_DONE : ∀ i, K (Obj.CMP_P_DONE i)) (oCMP_P_RESTART : ∀ i, K (Obj.CMP_P_RESTART i))
    (oCMP_P_RUN : ∀ i, K (Obj.CMP_P_RUN i)) (oCMP_P_STATE : ∀ i, K (Obj.CMP_P_STATE i)) (oCMP_P_TOTAL : ∀ i, K (Obj.CMP_P_TOTAL i))
    (oTBL_LPM_APPLY : K Obj.TBL_LPM_APPLY) (oTBL_LPM_DONE : K Obj.TBL_LPM_DONE) (hK : Kept ps K z0 s) : Kept ps K z0 (startTblLpmApply s).2 := by
  unfold startTblLpmApply
  repeat' (first | with_reducible intro _ | with_reducible assumption | with_reducible exact oCMP_P_DONE _
                 | with_reducible exact oCMP_P_RESTART _ | with_reducible exact oCMP_P_RUN _ | with_reducible exact oCMP_P_STATE _
                 | with_reducible exact oCMP_P_TOTAL _ | with_reducible apply State.runOnce_kept | with_reducible apply State.put_kept
                 | with_reducible apply State.runBegin_kept | with_reducible apply State.modTables_kept
                 | with_reducible apply State.progBegin_kept | split)

theorem startChsLpmSpareIn_kept {ps : List Part} {K : Nat → Prop} {z0 : State} (s : State) (c : Nat) (hwonel : Part.wonel ∈ ps) (hflt : Part.flt ∈ ps)
    (hlinks : Part.links ∈ ps) (hgalley : Part.galley ∈ ps) (htables : Part.tables ∈ ps) (htim : Part.tim ∈ ps) (hdict : Part.dict ∈ ps)
    (hbusy : Part.busy ∈ ps) (hout : Part.out ∈ ps) (oCHS_LPM_SPARE_IN : ∀ i, K (Obj.CHS_LPM_SPARE_IN i)) (oFLT_EVENTS : K Obj.FLT_EVENTS) (oFLT_EVENT_LOST : K Obj.FLT_EVENT_LOST)
    (oFLT_RUNGS : K Obj.FLT_RUNGS) (oFLT_STATE : K Obj.FLT_STATE) (oID_SAFE_CAUSE : K Obj.ID_SAFE_CAUSE)
    (oQD_OCTETS_SHED : ∀ i, K (Obj.QD_OCTETS_SHED i)) (hK : Kept ps K z0 s) : Kept ps K z0 (startChsLpmSpareIn s c).2 := by
  unfold startChsLpmSpareIn
  repeat' (first | with_reducible intro _ | with_reducible assumption | with_reducible exact oCHS_LPM_SPARE_IN _
                 | with_reducible exact oQD_OCTETS_SHED _ | with_reducible apply State.runOnce_kept | with_reducible apply State.runBegin_kept
                 | with_reducible apply State.dispatchForme_kept | with_reducible apply Kept.ite_snd | exact Or.inl ‹_›
                 | with_reducible exact Or.inr rfl | with_reducible exact Or.inl rfl | dsimp only | with_reducible exact Nat.le_max_right _ _
                 | with_reducible apply Kept.all)

theorem State.lrnWrite_kept {ps : List Part} {K : Nat → Prop} {z0 : State} (s : State) (k : Nat) (slot : Nat) (v : Nat) (htables : Part.tables ∈ ps)
    (hmem : Part.mem ∈ ps) (hdict : Part.dict ∈ ps) (oFLT_DIAG_LOGGED : K Obj.FLT_DIAG_LOGGED) (hK : Kept ps K z0 s)
    : Kept ps K z0 (State.lrnWrite s k slot v) := by
  unfold State.lrnWrite
  repeat' (first | with_reducible assumption | with_reducible apply State.modTables_kept | with_reducible apply State.memWritten_kept)

theorem State.lrnRead_kept {ps : List Part} {K : Nat → Prop} {z0 : State} (s : State) (k : Nat) (slot : Nat) (source : Nat) (hwonel : Part.wonel ∈ ps)
    (hflt : Part.flt ∈ ps) (hlinks : Part.links ∈ ps) (hgalley : Part.galley ∈ ps) (htables : Part.tables ∈ ps) (htim : Part.tim ∈ ps)
    (hcmp : Part.cmp ∈ ps) (hmem : Part.mem ∈ ps) (hdict : Part.dict ∈ ps) (hbusy : Part.busy ∈ ps) (hout : Part.out ∈ ps) (hfresh : Part.fresh ∈ ps)
    (ko : CodedKeys K) (oFLT_DIAG_LOGGED : K Obj.FLT_DIAG_LOGGED) (hK : Kept ps K z0 s) : Kept ps K z0 (State.lrnRead s k slot source).2 := by
  unfold State.lrnRead
  repeat' (first | with_reducible assumption | with_reducible apply State.readPair_kept | with_reducible apply State.lrnWrite_kept | split
                 | dsimp only)

theorem State.lrnBucket_kept {ps : List Part} {K : Nat → Prop} {z0 : State} (s : State) (k : Nat) (b : Nat) (source : Nat) (hwonel : Part.wonel ∈ ps)
    (hflt : Part.flt ∈ ps) (hlinks : Part.links ∈ ps) (hgalley : Part.galley ∈ ps) (htables : Part.tables ∈ ps) (htim : Part.tim ∈ ps)
    (hcmp : Part.cmp ∈ ps) (hmem : Part.mem ∈ ps) (hdict : Part.dict ∈ ps) (hbusy : Part.busy ∈ ps) (hout : Part.out ∈ ps) (hfresh : Part.fresh ∈ ps)
    (ko : CodedKeys K) (oFLT_DIAG_LOGGED : K Obj.FLT_DIAG_LOGGED) (hK : Kept ps K z0 s) : Kept ps K z0 (State.lrnBucket s k b source).2 := by
  unfold State.lrnBucket
  repeat' (first | with_reducible intro _ | with_reducible assumption | with_reducible apply State.lrnRead_kept | with_reducible apply Kept.foldl_snd)

theorem State.modLearner_kept {ps : List Part} {K : Nat → Prop} {z0 : State} (s : State) (k : Nat) (f : Learner → Learner)
    (htables : Part.tables ∈ ps) (hK : Kept ps K z0 s) : Kept ps K z0 (State.modLearner s k f) := by
  unfold State.modLearner
  repeat' (first | with_reducible assumption | with_reducible apply State.modTables_kept)

theorem State.learnRecord_kept {ps : List Part} {K : Nat → Prop} {z0 : State} (s : State) (kind : Nat) (pipe : Nat) (port : Nat) (oldPort : Nat)
    (vid : Nat) (mac : Nat) (stamp : Nat) (hwonel : Part.wonel ∈ ps) (htables : Part.tables ∈ ps) (hcmp : Part.cmp ∈ ps) (hdict : Part.dict ∈ ps)
    (hfresh : Part.fresh ∈ ps) (oTBL_EVENT_LOST : K Obj.TBL_EVENT_LOST) (hK : Kept ps K z0 s)
    : Kept ps K z0 (State.learnRecord s kind pipe port oldPort vid mac stamp) := by
  unfold State.learnRecord
  repeat' (first | with_reducible assumption | with_reducible apply State.cmpPush_kept | with_reducible apply State.modTables_kept
                 | with_reducible apply State.latch_kept | with_reducible apply State.latchLost_kept | with_reducible apply State.bump_kept
                 | with_reducible apply Kept.ite)

theorem State.install_kept {ps : List Part} {K : Nat → Prop} {z0 : State} (s : State) (k : Nat) (m : LMsg) (hwonel : Part.wonel ∈ ps)
    (hflt : Part.flt ∈ ps) (hlinks : Part.links ∈ ps) (hgalley : Part.galley ∈ ps) (htables : Part.tables ∈ ps) (htim : Part.tim ∈ ps)
    (hcmp : Part.cmp ∈ ps) (hmem : Part.mem ∈ ps) (hdict : Part.dict ∈ ps) (hbusy : Part.busy ∈ ps) (hout : Part.out ∈ ps) (hfresh : Part.fresh ∈ ps)
    (ko : CodedKeys K) (oFLT_DIAG_LOGGED : K Obj.FLT_DIAG_LOGGED) (oTBL_EVENT_LOST : K Obj.TBL_EVENT_LOST)
    (oTBL_LRN_FULL : ∀ i, K (Obj.TBL_LRN_FULL i)) (oTBL_LRN_INSTALLS : ∀ i, K (Obj.TBL_LRN_INSTALLS i)) (hK : Kept ps K z0 s)
    : Kept ps K z0 (State.install s k m).2 := by
  unfold State.install
  repeat' (first | with_reducible assumption | with_reducible exact oTBL_LRN_FULL _ | with_reducible exact oTBL_LRN_INSTALLS _
                 | with_reducible apply State.lrnBucket_kept | with_reducible apply State.bump_kept | with_reducible apply State.lrnWrite_kept
                 | with_reducible apply State.learnRecord_kept | with_reducible apply Kept.ite_snd | split | dsimp only)

theorem State.lrnRemove_kept {ps : List Part} {K : Nat → Prop} {z0 : State} (s : State) (k : Nat) (m : LMsg) (hwonel : Part.wonel ∈ ps)
    (hflt : Part.flt ∈ ps) (hlinks : Part.links ∈ ps) (hgalley : Part.galley ∈ ps) (htables : Part.tables ∈ ps) (htim : Part.tim ∈ ps)
    (hcmp : Part.cmp ∈ ps) (hmem : Part.mem ∈ ps) (hdict : Part.dict ∈ ps) (hbusy : Part.busy ∈ ps) (hout : Part.out ∈ ps) (hfresh : Part.fresh ∈ ps)
    (ko : CodedKeys K) (oFLT_DIAG_LOGGED : K Obj.FLT_DIAG_LOGGED) (oTBL_LRN_INSTALLS : ∀ i, K (Obj.TBL_LRN_INSTALLS i)) (hK : Kept ps K z0 s)
    : Kept ps K z0 (State.lrnRemove s k m) := by
  unfold State.lrnRemove
  repeat' (first | with_reducible assumption | with_reducible exact oTBL_LRN_INSTALLS _ | with_reducible apply State.lrnBucket_kept
                 | with_reducible apply State.bump_kept | with_reducible apply State.lrnWrite_kept | with_reducible apply Kept.ite | split
                 | dsimp only)

theorem State.lrnLag_kept {ps : List Part} {K : Nat → Prop} {z0 : State} (s : State) (k : Nat) (m : LMsg) (hdict : Part.dict ∈ ps)
    (oTBL_LRN_LAG_MAX : ∀ i, K (Obj.TBL_LRN_LAG_MAX i)) (hK : Kept ps K z0 s) : Kept ps K z0 (State.lrnLag s k m) := by
  unfold State.lrnLag
  repeat' (first | with_reducible assumption | with_reducible exact oTBL_LRN_LAG_MAX _ | with_reducible apply State.raiseTo_kept
                 | with_reducible apply Kept.ite)

theorem State.injectHeld_kept {ps : List Part} {K : Nat → Prop} {z0 : State} (s : State) (k : Nat) (m : LMsg) (htables : Part.tables ∈ ps) (hK
    : Kept ps K z0 s) : Kept ps K z0 (State.injectHeld s k m) := by
  unfold State.injectHeld
  repeat' (first | with_reducible assumption | with_reducible apply State.modLearner_kept)

theorem State.learnEvent_kept {ps : List Part} {K : Nat → Prop} {z0 : State} (s : State) (k : Nat) (m : LMsg) (hwonel : Part.wonel ∈ ps)
    (hflt : Part.flt ∈ ps) (hlinks : Part.links ∈ ps) (hgalley : Part.galley ∈ ps) (htables : Part.tables ∈ ps) (htim : Part.tim ∈ ps)
    (hcmp : Part.cmp ∈ ps) (hmem : Part.mem ∈ ps) (hdict : Part.dict ∈ ps) (hbusy : Part.busy ∈ ps) (hout : Part.out ∈ ps) (hfresh : Part.fresh ∈ ps)
    (ko : CodedKeys K) (oFLT_DIAG_LOGGED : K Obj.FLT_DIAG_LOGGED) (oTBL_EVENT_LOST : K Obj.TBL_EVENT_LOST)
    (oTBL_LRN_FULL : ∀ i, K (Obj.TBL_LRN_FULL i)) (oTBL_LRN_INJ_DROPS : ∀ i, K (Obj.TBL_LRN_INJ_DROPS i))
    (oTBL_LRN_INSTALLS : ∀ i, K (Obj.TBL_LRN_INSTALLS i)) (oTBL_LRN_LAG_MAX : ∀ i, K (Obj.TBL_LRN_LAG_MAX i))
    (oTBL_LRN_SUPPRESSED : ∀ i, K (Obj.TBL_LRN_SUPPRESSED i)) (hK : Kept ps K z0 s) : Kept ps K z0 (State.learnEvent s k m) := by
  unfold State.learnEvent
  repeat' (first | with_reducible intro _ | with_reducible assumption | with_reducible exact oTBL_LRN_FULL _
                 | with_reducible exact oTBL_LRN_INJ_DROPS _ | with_reducible exact oTBL_LRN_INSTALLS _ | with_reducible exact oTBL_LRN_LAG_MAX _
                 | with_reducible exact oTBL_LRN_SUPPRESSED _ | with_reducible apply State.bump_kept | with_reducible apply State.modLearner_kept
                 | with_reducible apply State.install_kept | with_reducible apply State.learnRecord_kept | with_reducible apply State.lrnLag_kept
                 | with_reducible apply Kept.ite | split | dsimp only)

theorem State.ageWay_kept {ps : List Part} {K : Nat → Prop} {z0 : State} (s : State) (k : Nat) (slot : Nat) (ownedHalf : Bool) (on : Bool)
    (hwonel : Part.wonel ∈ ps) (hflt : Part.flt ∈ ps) (hlinks : Part.links ∈ ps) (hgalley : Part.galley ∈ ps) (htables : Part.tables ∈ ps)
    (htim : Part.tim ∈ ps) (hcmp : Part.cmp ∈ ps) (hmem : Part.mem ∈ ps) (hdict : Part.dict ∈ ps) (hbusy : Part.busy ∈ ps) (hout : Part.out ∈ ps)
    (hfresh : Part.fresh ∈ ps) (ko : CodedKeys K) (oFLT_DIAG_LOGGED : K Obj.FLT_DIAG_LOGGED) (oTBL_EVENT_LOST : K Obj.TBL_EVENT_LOST)
    (oTBL_LRN_AGED : ∀ i, K (Obj.TBL_LRN_AGED i)) (hK : Kept ps K z0 s) : Kept ps K z0 (State.ageWay s k slot ownedHalf on) := by
  unfold State.ageWay
  repeat' (first | with_reducible assumption | with_reducible exact oTBL_LRN_AGED _ | with_reducible apply State.lrnRead_kept
                 | with_reducible apply State.lrnWrite_kept | with_reducible apply State.injectHeld_kept | with_reducible apply State.bump_kept
                 | with_reducible apply State.learnRecord_kept | with_reducible apply Kept.ite)

theorem startTblStaticAdd_kept {ps : List Part} {K : Nat → Prop} {z0 : State} (s : State) (hwonel : Part.wonel ∈ ps) (hflt : Part.flt ∈ ps)
    (hlinks : Part.links ∈ ps) (hgalley : Part.galley ∈ ps) (htables : Part.tables ∈ ps) (htim : Part.tim ∈ ps) (hcmp : Part.cmp ∈ ps)
    (hmem : Part.mem ∈ ps) (hdict : Part.dict ∈ ps) (hbusy : Part.busy ∈ ps) (hout : Part.out ∈ ps) (hfresh : Part.fresh ∈ ps) (ko : CodedKeys K)
    (oFLT_DIAG_LOGGED : K Obj.FLT_DIAG_LOGGED) (oTBL_EVENT_LOST : K Obj.TBL_EVENT_LOST) (oTBL_LRN_FULL : ∀ i, K (Obj.TBL_LRN_FULL i))
    (oTBL_LRN_INSTALLS : ∀ i, K (Obj.TBL_LRN_INSTALLS i)) (oTBL_LRN_LAG_MAX : ∀ i, K (Obj.TBL_LRN_LAG_MAX i)) (oTBL_STATIC_ADD : K Obj.TBL_STATIC_ADD)
    (hK : Kept ps K z0 s) : Kept ps K z0 (startTblStaticAdd s).2 := by
  unfold startTblStaticAdd
  repeat' (first | with_reducible intro _ | with_reducible assumption | with_reducible exact oTBL_LRN_FULL _
                 | with_reducible exact oTBL_LRN_INSTALLS _ | with_reducible exact oTBL_LRN_LAG_MAX _ | with_reducible apply State.runOnce_kept
                 | with_reducible apply State.install_kept | with_reducible apply State.injectHeld_kept | with_reducible apply State.lrnLag_kept
                 | with_reducible apply State.learnRecord_kept | with_reducible apply Kept.ite | with_reducible apply Kept.ite_snd | split
                 | dsimp only)

theorem startTblDelete_kept {ps : List Part} {K : Nat → Prop} {z0 : State} (s : State) (hwonel : Part.wonel ∈ ps) (hflt : Part.flt ∈ ps)
    (hlinks : Part.links ∈ ps) (hgalley : Part.galley ∈ ps) (htables : Part.tables ∈ ps) (htim : Part.tim ∈ ps) (hcmp : Part.cmp ∈ ps)
    (hmem : Part.mem ∈ ps) (hdict : Part.dict ∈ ps) (hbusy : Part.busy ∈ ps) (hout : Part.out ∈ ps) (hfresh : Part.fresh ∈ ps) (ko : CodedKeys K)
    (oFLT_DIAG_LOGGED : K Obj.FLT_DIAG_LOGGED) (oTBL_DELETE : K Obj.TBL_DELETE) (oTBL_LRN_INSTALLS : ∀ i, K (Obj.TBL_LRN_INSTALLS i)) (hK
    : Kept ps K z0 s) : Kept ps K z0 (startTblDelete s).2 := by
  unfold startTblDelete
  repeat' (first | with_reducible intro _ | with_reducible assumption | with_reducible exact oTBL_LRN_INSTALLS _
                 | with_reducible apply State.runOnce_kept | with_reducible apply State.injectHeld_kept
                 | with_reducible apply State.lrnRemove_kept | split | dsimp only)

theorem State.tblFlush_kept {ps : List Part} {K : Nat → Prop} {z0 : State} (s : State) (port : Nat) (vid : Nat) (htables : Part.tables ∈ ps)
    (hmem : Part.mem ∈ ps) (hdict : Part.dict ∈ ps) (oFLT_DIAG_LOGGED : K Obj.FLT_DIAG_LOGGED) (oTBL_LRN_INSTALLS : ∀ i, K (Obj.TBL_LRN_INSTALLS i))
    (hK : Kept ps K z0 s) : Kept ps K z0 (State.tblFlush s port vid) := by
  unfold State.tblFlush
  repeat' (first | with_reducible intro _ | with_reducible assumption | with_reducible exact oTBL_LRN_INSTALLS _
                 | with_reducible apply State.injectHeld_kept | with_reducible apply State.bump_kept | with_reducible apply State.lrnWrite_kept
                 | with_reducible apply Kept.foldl)

theorem startTblFlush_kept {ps : List Part} {K : Nat → Prop} {z0 : State} (s : State) (htables : Part.tables ∈ ps) (hmem : Part.mem ∈ ps)
    (hdict : Part.dict ∈ ps) (hbusy : Part.busy ∈ ps) (oFLT_DIAG_LOGGED : K Obj.FLT_DIAG_LOGGED) (oTBL_FLUSH : K Obj.TBL_FLUSH)
    (oTBL_LRN_INSTALLS : ∀ i, K (Obj.TBL_LRN_INSTALLS i)) (hK : Kept ps K z0 s) : Kept ps K z0 (startTblFlush s).2 := by
  unfold startTblFlush
  repeat' (first | with_reducible intro _ | with_reducible assumption | with_reducible exact oTBL_LRN_INSTALLS _
                 | with_reducible apply State.runOnce_kept | with_reducible apply State.tblFlush_kept)

theorem State.lookupDst_kept {ps : List Part} {K : Nat → Prop} {z0 : State} (s : State) (k : Nat) (vid : Nat) (mac : Nat) (hwonel : Part.wonel ∈ ps)
    (hflt : Part.flt ∈ ps) (hlinks : Part.links ∈ ps) (hgalley : Part.galley ∈ ps) (htables : Part.tables ∈ ps) (htim : Part.tim ∈ ps)
    (hcmp : Part.cmp ∈ ps) (hmem : Part.mem ∈ ps) (hdict : Part.dict ∈ ps) (hbusy : Part.busy ∈ ps) (hout : Part.out ∈ ps) (hfresh : Part.fresh ∈ ps)
    (ko : CodedKeys K) (oFLT_DIAG_LOGGED : K Obj.FLT_DIAG_LOGGED) (hK : Kept ps K z0 s) : Kept ps K z0 (State.lookupDst s k vid mac).2 := by
  unfold State.lookupDst
  repeat' (first | with_reducible assumption | with_reducible apply State.lrnBucket_kept | split | dsimp only)

theorem State.lookupSrc_kept {ps : List Part} {K : Nat → Prop} {z0 : State} (s : State) (k : Nat) (vid : Nat) (mac : Nat) (inPort : Nat) (stamp : Nat)
    (noLearn : Bool) (hwonel : Part.wonel ∈ ps) (hflt : Part.flt ∈ ps) (hlinks : Part.links ∈ ps) (hgalley : Part.galley ∈ ps)
    (htables : Part.tables ∈ ps) (htim : Part.tim ∈ ps) (hcmp : Part.cmp ∈ ps) (hmem : Part.mem ∈ ps) (hdict : Part.dict ∈ ps)
    (hbusy : Part.busy ∈ ps) (hout : Part.out ∈ ps) (hfresh : Part.fresh ∈ ps) (ko : CodedKeys K) (oFLT_DIAG_LOGGED : K Obj.FLT_DIAG_LOGGED)
    (oTBL_EVENT_LOST : K Obj.TBL_EVENT_LOST) (oTBL_LRN_FULL : ∀ i, K (Obj.TBL_LRN_FULL i)) (oTBL_LRN_INJ_DROPS : ∀ i, K (Obj.TBL_LRN_INJ_DROPS i))
    (oTBL_LRN_INSTALLS : ∀ i, K (Obj.TBL_LRN_INSTALLS i)) (oTBL_LRN_LAG_MAX : ∀ i, K (Obj.TBL_LRN_LAG_MAX i))
    (oTBL_LRN_STATIC_MOVES : ∀ i, K (Obj.TBL_LRN_STATIC_MOVES i)) (oTBL_LRN_SUPPRESSED : ∀ i, K (Obj.TBL_LRN_SUPPRESSED i)) (hK : Kept ps K z0 s)
    : Kept ps K z0 (State.lookupSrc s k vid mac inPort stamp noLearn).2 := by
  unfold State.lookupSrc
  repeat' (first | with_reducible intro _ | with_reducible assumption | with_reducible exact oTBL_LRN_FULL _
                 | with_reducible exact oTBL_LRN_INJ_DROPS _ | with_reducible exact oTBL_LRN_INSTALLS _ | with_reducible exact oTBL_LRN_LAG_MAX _
                 | with_reducible exact oTBL_LRN_STATIC_MOVES _ | with_reducible exact oTBL_LRN_SUPPRESSED _
                 | with_reducible apply State.lrnBucket_kept | with_reducible apply State.learnEvent_kept
                 | with_reducible apply State.lrnWrite_kept | with_reducible apply State.bump_kept | with_reducible apply Kept.ite
                 | with_reducible apply Kept.ite_snd | split | dsimp only)

theorem State.lookupPolicer_kept {ps : List Part} {K : Nat → Prop} {z0 : State} (s : State) (pipe : Nat) (k : Nat) (aware : Bool) (inp : Nat)
    (millibits : Nat) (hwonel : Part.wonel ∈ ps) (hflt : Part.flt ∈ ps) (hlinks : Part.links ∈ ps) (hgalley : Part.galley ∈ ps)
    (hsched : Part.sched ∈ ps) (htables : Part.tables ∈ ps) (htim : Part.tim ∈ ps) (hcmp : Part.cmp ∈ ps) (hmem : Part.mem ∈ ps)
    (hdict : Part.dict ∈ ps) (hbusy : Part.busy ∈ ps) (hout : Part.out ∈ ps) (hfresh : Part.fresh ∈ ps) (ko : CodedKeys K) (hK : Kept ps K z0 s)
    : Kept ps K z0 (State.lookupPolicer s pipe k aware inp millibits).2 := by
  unfold State.lookupPolicer
  repeat' (first | with_reducible intro _ | with_reducible assumption | with_reducible apply State.readWord_kept | exact Or.inl ‹_›
                 | with_reducible exact Or.inr rfl | with_reducible exact Or.inl rfl | split | dsimp only
                 | with_reducible exact Nat.le_max_right _ _ | with_reducible apply Kept.all)

end Sys2Proof.Machine
end

