-- ==== Sys2Proof/Laws/KeptStamps.lean ====
section
/-! SUPPORT. What the operations of Machine/Stamps.lean keep (Laws/Kept.lean). -/

namespace Sys2Proof.Machine
open Sys2Proof

theorem State.authCheck_kept {ps : List Part} {K : Nat → Prop} {z0 : State} (s : State) (page : Nat) (w : Bytes) (x : PtpAt) (icv : Nat)
    (hstore : Part.store ∈ ps) (hwonel : Part.wonel ∈ ps) (hkce : Part.kce ∈ ps) (hflt : Part.flt ∈ ps) (hlinks : Part.links ∈ ps)
    (hgalley : Part.galley ∈ ps) (htables : Part.tables ∈ ps) (htim : Part.tim ∈ ps) (hcmp : Part.cmp ∈ ps) (hdict : Part.dict ∈ ps)
    (hout : Part.out ∈ ps) (hfresh : Part.fresh ∈ ps) (ko : ReactKeys K) (oKCE_BLOCKS : K Obj.KCE_BLOCKS) (oKCE_MESSAGES : K Obj.KCE_MESSAGES)
    (oKCE_REFUSED : K Obj.KCE_REFUSED) (oLCY_PS_WEAR : K Obj.LCY_PS_WEAR) (hK : Kept ps K z0 s) : Kept ps K z0 (State.authCheck s page w x icv).2
    := by
  unfold State.authCheck
  repeat' (first | with_reducible assumption | with_reducible apply State.bump_kept | with_reducible apply State.kceTag_kept
                 | with_reducible apply State.countUse_kept | with_reducible apply Kept.ite | with_reducible apply Kept.ite_snd)

end Sys2Proof.Machine
end

