-- ==== Sys2Proof/Laws/KeptFrames.lean ====
section
/-! SUPPORT. What the operations of Machine/Frames.lean keep (Laws/Kept.lean). -/

namespace Sys2Proof.Machine
open Sys2Proof

theorem State.giveBack_kept {ps : List Part} {K : Nat → Prop} {z0 : State} (s : State) (src : Nat) (bufs : List (Nat × Nat))
    (hwonel : Part.wonel ∈ ps) (hflt : Part.flt ∈ ps) (hlinks : Part.links ∈ ps) (hgalley : Part.galley ∈ ps) (htables : Part.tables ∈ ps)
    (htelem : Part.telem ∈ ps) (htim : Part.tim ∈ ps) (hcmp : Part.cmp ∈ ps) (hmem : Part.mem ∈ ps) (hdict : Part.dict ∈ ps) (hbusy : Part.busy ∈ ps)
    (hout : Part.out ∈ ps) (hfresh : Part.fresh ∈ ps) (ko : BufferKeys K) (hK : Kept ps K z0 s) : Kept ps K z0 (State.giveBack s src bufs) := by
  unfold State.giveBack
  repeat' (first | with_reducible intro _ | with_reducible assumption | with_reducible apply State.chargeBuf_kept
                 | with_reducible apply State.push_kept | with_reducible apply Kept.foldl)

theorem State.takeChain_kept {ps : List Part} {K : Nat → Prop} {z0 : State} (s : State) (src : Nat) (prio : Option Nat) (iplen : Option (Nat × Nat))
    (total : Nat) (bufs : List (Nat × Nat)) (n : Nat) (hwonel : Part.wonel ∈ ps) (hflt : Part.flt ∈ ps) (hlinks : Part.links ∈ ps)
    (hgalley : Part.galley ∈ ps) (htables : Part.tables ∈ ps) (htelem : Part.telem ∈ ps) (htim : Part.tim ∈ ps) (hcmp : Part.cmp ∈ ps)
    (hmem : Part.mem ∈ ps) (hdict : Part.dict ∈ ps) (hbusy : Part.busy ∈ ps) (hout : Part.out ∈ ps) (hfresh : Part.fresh ∈ ps) (ko : BufferKeys K)
    (oGAL_C_FALLBACKS : ∀ i, K (Obj.GAL_C_FALLBACKS i)) (oGAL_C_FREE_MIN : ∀ i, K (Obj.GAL_C_FREE_MIN i))
    (oGAL_C_GRANTS : ∀ i, K (Obj.GAL_C_GRANTS i)) (oGAL_C_REFUSED : ∀ i, K (Obj.GAL_C_REFUSED i)) (hK : Kept ps K z0 s)
    : Kept ps K z0 (State.takeChain s src prio iplen total bufs n).2 := by
  induction n generalizing s src prio iplen total bufs with
  | zero =>
    unfold State.takeChain
    repeat' (first | with_reducible intro _ | with_reducible assumption | exact ko.toCodedKeys | with_reducible exact ko.galLost
                   | with_reducible exact ko.ptrFaults | with_reducible exact ko.quarantined | with_reducible exact ko.quarLast
                   | with_reducible exact oGAL_C_FALLBACKS _ | with_reducible exact oGAL_C_FREE_MIN _ | with_reducible exact oGAL_C_GRANTS _
                   | with_reducible exact oGAL_C_REFUSED _ | with_reducible apply State.ask_kept | with_reducible apply State.giveBack_kept
                   | with_reducible apply Kept.ite_snd | split | dsimp only)
  | succ n ih =>
    unfold State.takeChain
    repeat' (first | with_reducible intro _ | with_reducible assumption | exact ko.toCodedKeys | with_reducible exact ko.galLost
                   | with_reducible exact ko.ptrFaults | with_reducible exact ko.quarantined | with_reducible exact ko.quarLast
                   | with_reducible exact oGAL_C_FALLBACKS _ | with_reducible exact oGAL_C_FREE_MIN _ | with_reducible exact oGAL_C_GRANTS _
                   | with_reducible exact oGAL_C_REFUSED _ | with_reducible apply State.ask_kept | with_reducible apply State.giveBack_kept
                   | with_reducible apply ih | with_reducible apply Kept.ite_snd | split | dsimp only)

theorem State.cmpBuild_kept {ps : List Part} {K : Nat → Prop} {z0 : State} (s : State) (x : CmpSend) (hwonel : Part.wonel ∈ ps) (hflt : Part.flt ∈ ps)
    (hlinks : Part.links ∈ ps) (hgalley : Part.galley ∈ ps) (hsched : Part.sched ∈ ps) (hports : Part.ports ∈ ps) (htables : Part.tables ∈ ps)
    (htelem : Part.telem ∈ ps) (htim : Part.tim ∈ ps) (hcmp : Part.cmp ∈ ps) (hmem : Part.mem ∈ ps) (hdict : Part.dict ∈ ps) (hbusy : Part.busy ∈ ps)
    (hout : Part.out ∈ ps) (hfresh : Part.fresh ∈ ps) (ko : BufferKeys K) (oCTR_LPI_TX_US : ∀ i, K (Obj.CTR_LPI_TX_US i))
    (oCTR_TX_FLUSHED : ∀ i, K (Obj.CTR_TX_FLUSHED i)) (oCTR_TX_FRAMES : ∀ i, K (Obj.CTR_TX_FRAMES i))
    (oCTR_TX_LSO_SEGMENTS : ∀ i, K (Obj.CTR_TX_LSO_SEGMENTS i)) (oCTR_TX_OCTETS : ∀ i, K (Obj.CTR_TX_OCTETS i))
    (oCTR_TX_PAUSE : ∀ i, K (Obj.CTR_TX_PAUSE i)) (oGAL_C_FALLBACKS : ∀ i, K (Obj.GAL_C_FALLBACKS i))
    (oGAL_C_FREE_MIN : ∀ i, K (Obj.GAL_C_FREE_MIN i)) (oGAL_C_GRANTS : ∀ i, K (Obj.GAL_C_GRANTS i)) (oGAL_C_REFUSED : ∀ i, K (Obj.GAL_C_REFUSED i))
    (oQ_ENQ : ∀ i j, K (Obj.Q_ENQ i j)) (oQ_TAIL_DROPS : ∀ i j, K (Obj.Q_TAIL_DROPS i j)) (hK : Kept ps K z0 s)
    : KeptSome ps K z0 (State.cmpBuild s x) fun y => y := by
  intro y hy
  unfold State.cmpBuild at hy
  try dsimp only at hy
  repeat' split at hy
  all_goals cases hy
  all_goals repeat' (first | with_reducible intro _ | with_reducible assumption | with_reducible exact ko.logged
                           | with_reducible exact oCTR_LPI_TX_US _ | with_reducible exact oCTR_TX_FLUSHED _
                           | with_reducible exact oCTR_TX_FRAMES _ | with_reducible exact oCTR_TX_LSO_SEGMENTS _
                           | with_reducible exact oCTR_TX_OCTETS _ | with_reducible exact oCTR_TX_PAUSE _
                           | with_reducible exact oGAL_C_FALLBACKS _ | with_reducible exact oGAL_C_FREE_MIN _
                           | with_reducible exact oGAL_C_GRANTS _ | with_reducible exact oGAL_C_REFUSED _ | with_reducible exact oQ_ENQ _ _
                           | with_reducible exact oQ_TAIL_DROPS _ _ | with_reducible apply State.takeChain_kept
                           | with_reducible apply State.store32_kept | with_reducible apply State.newDescr_kept
                           | with_reducible apply State.bump_kept | with_reducible apply State.enqueue_kept)

theorem State.cmpRefused_kept {ps : List Part} {K : Nat → Prop} {z0 : State} (s : State) (x : CmpSend) (hwonel : Part.wonel ∈ ps)
    (hflt : Part.flt ∈ ps) (hlinks : Part.links ∈ ps) (hgalley : Part.galley ∈ ps) (htables : Part.tables ∈ ps) (htelem : Part.telem ∈ ps)
    (htim : Part.tim ∈ ps) (hcmp : Part.cmp ∈ ps) (hmem : Part.mem ∈ ps) (hdict : Part.dict ∈ ps) (hbusy : Part.busy ∈ ps) (hout : Part.out ∈ ps)
    (hfresh : Part.fresh ∈ ps) (ko : BufferKeys K) (oGAL_C_FALLBACKS : ∀ i, K (Obj.GAL_C_FALLBACKS i))
    (oGAL_C_FREE_MIN : ∀ i, K (Obj.GAL_C_FREE_MIN i)) (oGAL_C_GRANTS : ∀ i, K (Obj.GAL_C_GRANTS i)) (oGAL_C_REFUSED : ∀ i, K (Obj.GAL_C_REFUSED i))
    (hK : Kept ps K z0 s) : Kept ps K z0 (State.cmpRefused s x) := by
  unfold State.cmpRefused
  repeat' (first | with_reducible intro _ | with_reducible assumption | with_reducible exact oGAL_C_FALLBACKS _
                 | with_reducible exact oGAL_C_FREE_MIN _ | with_reducible exact oGAL_C_GRANTS _ | with_reducible exact oGAL_C_REFUSED _
                 | with_reducible apply State.takeChain_kept)

theorem State.drainSends_kept {ps : List Part} {K : Nat → Prop} {z0 : State} (s : State) (l : List CmpSend) (hwonel : Part.wonel ∈ ps)
    (hflt : Part.flt ∈ ps) (hlinks : Part.links ∈ ps) (hgalley : Part.galley ∈ ps) (hsched : Part.sched ∈ ps) (hports : Part.ports ∈ ps)
    (htables : Part.tables ∈ ps) (htelem : Part.telem ∈ ps) (htim : Part.tim ∈ ps) (hcmp : Part.cmp ∈ ps) (hmem : Part.mem ∈ ps)
    (hdict : Part.dict ∈ ps) (hbusy : Part.busy ∈ ps) (hout : Part.out ∈ ps) (hfresh : Part.fresh ∈ ps) (ko : BufferKeys K)
    (oCTR_LPI_TX_US : ∀ i, K (Obj.CTR_LPI_TX_US i)) (oCTR_TX_FLUSHED : ∀ i, K (Obj.CTR_TX_FLUSHED i)) (oCTR_TX_FRAMES : ∀ i, K (Obj.CTR_TX_FRAMES i))
    (oCTR_TX_LSO_SEGMENTS : ∀ i, K (Obj.CTR_TX_LSO_SEGMENTS i)) (oCTR_TX_OCTETS : ∀ i, K (Obj.CTR_TX_OCTETS i))
    (oCTR_TX_PAUSE : ∀ i, K (Obj.CTR_TX_PAUSE i)) (oGAL_C_FALLBACKS : ∀ i, K (Obj.GAL_C_FALLBACKS i))
    (oGAL_C_FREE_MIN : ∀ i, K (Obj.GAL_C_FREE_MIN i)) (oGAL_C_GRANTS : ∀ i, K (Obj.GAL_C_GRANTS i)) (oGAL_C_REFUSED : ∀ i, K (Obj.GAL_C_REFUSED i))
    (oQ_ENQ : ∀ i j, K (Obj.Q_ENQ i j)) (oQ_TAIL_DROPS : ∀ i j, K (Obj.Q_TAIL_DROPS i j)) (hK : Kept ps K z0 s) : Kept ps K z0 (State.drainSends s l)
    := by
  induction l generalizing s with
  | nil =>
    unfold State.drainSends
    repeat' (first | with_reducible intro _ | with_reducible assumption | with_reducible exact oCTR_LPI_TX_US _
                   | with_reducible exact oCTR_TX_FLUSHED _ | with_reducible exact oCTR_TX_FRAMES _ | with_reducible exact oCTR_TX_LSO_SEGMENTS _
                   | with_reducible exact oCTR_TX_OCTETS _ | with_reducible exact oCTR_TX_PAUSE _ | with_reducible exact oGAL_C_FALLBACKS _
                   | with_reducible exact oGAL_C_FREE_MIN _ | with_reducible exact oGAL_C_GRANTS _ | with_reducible exact oGAL_C_REFUSED _
                   | with_reducible exact oQ_ENQ _ _ | with_reducible exact oQ_TAIL_DROPS _ _ | with_reducible apply State.cmpBuild_kept
                   | with_reducible apply State.cmpRefused_kept | refine Kept.ofSome (by with_reducible assumption) ?_ | exact Or.inl ‹_›
                   | with_reducible exact Or.inr rfl | with_reducible exact Or.inl rfl | split | dsimp only
                   | with_reducible exact Nat.le_max_right _ _ | with_reducible apply Kept.all)
  | cons y ys ih =>
    unfold State.drainSends
    repeat' (first | with_reducible intro _ | with_reducible assumption | with_reducible exact oCTR_LPI_TX_US _
                   | with_reducible exact oCTR_TX_FLUSHED _ | with_reducible exact oCTR_TX_FRAMES _ | with_reducible exact oCTR_TX_LSO_SEGMENTS _
                   | with_reducible exact oCTR_TX_OCTETS _ | with_reducible exact oCTR_TX_PAUSE _ | with_reducible exact oGAL_C_FALLBACKS _
                   | with_reducible exact oGAL_C_FREE_MIN _ | with_reducible exact oGAL_C_GRANTS _ | with_reducible exact oGAL_C_REFUSED _
                   | with_reducible exact oQ_ENQ _ _ | with_reducible exact oQ_TAIL_DROPS _ _ | with_reducible apply State.cmpBuild_kept
                   | with_reducible apply State.cmpRefused_kept | with_reducible apply ih | refine Kept.ofSome (by with_reducible assumption) ?_
                   | exact Or.inl ‹_› | with_reducible exact Or.inr rfl | with_reducible exact Or.inl rfl | split | dsimp only
                   | with_reducible exact Nat.le_max_right _ _ | with_reducible apply Kept.all)

theorem State.cmpSend_kept {ps : List Part} {K : Nat → Prop} {z0 : State} (s : State) (port : Nat) (queue : Nat) (frame : Bytes)
    (lso : optParam Bool Bool.false) (hwonel : Part.wonel ∈ ps) (hflt : Part.flt ∈ ps) (hlinks : Part.links ∈ ps) (hgalley : Part.galley ∈ ps)
    (hsched : Part.sched ∈ ps) (hports : Part.ports ∈ ps) (htables : Part.tables ∈ ps) (htelem : Part.telem ∈ ps) (htim : Part.tim ∈ ps)
    (hcmp : Part.cmp ∈ ps) (hmem : Part.mem ∈ ps) (hdict : Part.dict ∈ ps) (hbusy : Part.busy ∈ ps) (hout : Part.out ∈ ps) (hfresh : Part.fresh ∈ ps)
    (ko : BufferKeys K) (oCTR_LPI_TX_US : ∀ i, K (Obj.CTR_LPI_TX_US i)) (oCTR_TX_FLUSHED : ∀ i, K (Obj.CTR_TX_FLUSHED i))
    (oCTR_TX_FRAMES : ∀ i, K (Obj.CTR_TX_FRAMES i)) (oCTR_TX_LSO_SEGMENTS : ∀ i, K (Obj.CTR_TX_LSO_SEGMENTS i))
    (oCTR_TX_OCTETS : ∀ i, K (Obj.CTR_TX_OCTETS i)) (oCTR_TX_PAUSE : ∀ i, K (Obj.CTR_TX_PAUSE i)) (oGAL_C_FALLBACKS : ∀ i, K (Obj.GAL_C_FALLBACKS i))
    (oGAL_C_FREE_MIN : ∀ i, K (Obj.GAL_C_FREE_MIN i)) (oGAL_C_GRANTS : ∀ i, K (Obj.GAL_C_GRANTS i)) (oGAL_C_REFUSED : ∀ i, K (Obj.GAL_C_REFUSED i))
    (oQ_ENQ : ∀ i j, K (Obj.Q_ENQ i j)) (oQ_TAIL_DROPS : ∀ i j, K (Obj.Q_TAIL_DROPS i j)) (hK : Kept ps K z0 s)
    : Kept ps K z0 (State.cmpSend s port queue frame lso) := by
  unfold State.cmpSend
  repeat' (first | with_reducible intro _ | with_reducible assumption | with_reducible exact oCTR_LPI_TX_US _
                 | with_reducible exact oCTR_TX_FLUSHED _ | with_reducible exact oCTR_TX_FRAMES _ | with_reducible exact oCTR_TX_LSO_SEGMENTS _
                 | with_reducible exact oCTR_TX_OCTETS _ | with_reducible exact oCTR_TX_PAUSE _ | with_reducible exact oGAL_C_FALLBACKS _
                 | with_reducible exact oGAL_C_FREE_MIN _ | with_reducible exact oGAL_C_GRANTS _ | with_reducible exact oGAL_C_REFUSED _
                 | with_reducible exact oQ_ENQ _ _ | with_reducible exact oQ_TAIL_DROPS _ _ | with_reducible apply State.drainSends_kept)

theorem State.readFrame_kept {ps : List Part} {K : Nat → Prop} {z0 : State} (s : State) (d : Nat) (hwonel : Part.wonel ∈ ps) (hflt : Part.flt ∈ ps)
    (hlinks : Part.links ∈ ps) (hgalley : Part.galley ∈ ps) (htables : Part.tables ∈ ps) (htelem : Part.telem ∈ ps) (htim : Part.tim ∈ ps)
    (hcmp : Part.cmp ∈ ps) (hmem : Part.mem ∈ ps) (hdict : Part.dict ∈ ps) (hbusy : Part.busy ∈ ps) (hout : Part.out ∈ ps) (hfresh : Part.fresh ∈ ps)
    (ko : CodedKeys K) (oGAL_INVALID_READS : K Obj.GAL_INVALID_READS) (oGAL_POISON_FRAMES : K Obj.GAL_POISON_FRAMES)
    (oGAL_POISON_READS : K Obj.GAL_POISON_READS) (hK : Kept ps K z0 s) : Kept ps K z0 (State.readFrame s d).2 := by
  unfold State.readFrame
  repeat' (first | with_reducible assumption | with_reducible apply State.readWords_kept | with_reducible apply State.poisonRead_kept)

theorem State.cmpDeliver_kept {ps : List Part} {K : Nat → Prop} {z0 : State} (s0 : State) (d : Nat) (htelem : Part.telem ∈ ps) (hcmp : Part.cmp ∈ ps)
    (hK : Kept ps K z0 s0) : Kept ps K z0 (State.cmpDeliver s0 d) := by
  unfold State.cmpDeliver
  repeat' (first | with_reducible intro _ | with_reducible assumption | with_reducible apply State.pmc_kept | exact Or.inl ‹_›
                 | with_reducible exact Or.inr rfl | with_reducible exact Or.inl rfl | dsimp only | with_reducible exact Nat.le_max_right _ _
                 | with_reducible apply Kept.all)

theorem State.cmpConsume_kept {ps : List Part} {K : Nat → Prop} {z0 : State} (s : State) (hwonel : Part.wonel ∈ ps) (hflt : Part.flt ∈ ps)
    (hlinks : Part.links ∈ ps) (hgalley : Part.galley ∈ ps) (hports : Part.ports ∈ ps) (htables : Part.tables ∈ ps) (htelem : Part.telem ∈ ps)
    (htim : Part.tim ∈ ps) (hcmp : Part.cmp ∈ ps) (hmem : Part.mem ∈ ps) (hdict : Part.dict ∈ ps) (hbusy : Part.busy ∈ ps) (hout : Part.out ∈ ps)
    (hfresh : Part.fresh ∈ ps) (ko : BufferKeys K) (oCTR_TX_FRAMES : ∀ i, K (Obj.CTR_TX_FRAMES i)) (oCTR_TX_OCTETS : ∀ i, K (Obj.CTR_TX_OCTETS i))
    (oCTR_TX_PAUSE : ∀ i, K (Obj.CTR_TX_PAUSE i)) (oGAL_INVALID_READS : K Obj.GAL_INVALID_READS) (oGAL_POISON_FRAMES : K Obj.GAL_POISON_FRAMES)
    (oGAL_POISON_READS : K Obj.GAL_POISON_READS) (hK : Kept ps K z0 s) : Kept ps K z0 (State.cmpConsume s) := by
  unfold State.cmpConsume
  repeat' (first | with_reducible intro _ | with_reducible assumption | exact ko.toCodedKeys | with_reducible exact oCTR_TX_FRAMES _
                 | with_reducible exact oCTR_TX_OCTETS _ | with_reducible exact oCTR_TX_PAUSE _ | with_reducible apply State.releaseDesc_kept
                 | with_reducible apply State.readFrame_kept | with_reducible apply Kept.ite | exact Or.inl ‹_› | with_reducible exact Or.inr rfl
                 | with_reducible exact Or.inl rfl | split | dsimp only | with_reducible exact Nat.le_max_right _ _ | with_reducible apply Kept.all)

theorem State.unqueue_kept {ps : List Part} {K : Nat → Prop} {z0 : State} (s : State) (d : Nat) (hsched : Part.sched ∈ ps) (hK : Kept ps K z0 s)
    : Kept ps K z0 (State.unqueue s d) := by
  unfold State.unqueue
  repeat' (first | with_reducible intro _ | with_reducible assumption | exact Or.inl ‹_› | with_reducible exact Or.inr rfl
                 | with_reducible exact Or.inl rfl | dsimp only | with_reducible exact Nat.le_max_right _ _ | with_reducible apply Kept.all)

theorem State.turnBad_kept {ps : List Part} {K : Nat → Prop} {z0 : State} (s : State) (d : Nat) (held : Bool) (hwonel : Part.wonel ∈ ps)
    (hflt : Part.flt ∈ ps) (hlinks : Part.links ∈ ps) (hgalley : Part.galley ∈ ps) (hsched : Part.sched ∈ ps) (hports : Part.ports ∈ ps)
    (htables : Part.tables ∈ ps) (htelem : Part.telem ∈ ps) (htim : Part.tim ∈ ps) (hcmp : Part.cmp ∈ ps) (hmem : Part.mem ∈ ps)
    (hdict : Part.dict ∈ ps) (hbusy : Part.busy ∈ ps) (hout : Part.out ∈ ps) (hfresh : Part.fresh ∈ ps) (ko : BufferKeys K)
    (oCTR_TX_FRAMES : ∀ i, K (Obj.CTR_TX_FRAMES i)) (oCTR_TX_OCTETS : ∀ i, K (Obj.CTR_TX_OCTETS i)) (oCTR_TX_PAUSE : ∀ i, K (Obj.CTR_TX_PAUSE i))
    (oGAL_CT_BAD : K Obj.GAL_CT_BAD) (hK : Kept ps K z0 s) : Kept ps K z0 (State.turnBad s d held) := by
  unfold State.turnBad
  repeat' (first | with_reducible intro _ | with_reducible assumption | with_reducible exact oCTR_TX_FRAMES _
                 | with_reducible exact oCTR_TX_OCTETS _ | with_reducible exact oCTR_TX_PAUSE _ | with_reducible apply State.modDescr_kept
                 | with_reducible apply State.bump_kept | with_reducible apply State.releaseFrame_kept | with_reducible apply State.unqueue_kept
                 | with_reducible apply State.freeFrame_kept | with_reducible apply Kept.ite | split)

end Sys2Proof.Machine
end

