-- ==== Sys2Proof/Laws/KeptPorts.lean ====
section
/-! SUPPORT. What the operations of Machine/Ports.lean keep (Laws/Kept.lean). -/

namespace Sys2Proof.Machine
open Sys2Proof

theorem State.unpaused_kept {ps : List Part} {K : Nat → Prop} {z0 : State} (s : State) (p : Nat) (old : Nat) (hsched : Part.sched ∈ ps) (hK
    : Kept ps K z0 s) : Kept ps K z0 (State.unpaused s p old) := by
  unfold State.unpaused
  repeat' (first | with_reducible intro _ | with_reducible assumption | with_reducible apply State.retag_kept | with_reducible apply Kept.foldl
                 | with_reducible apply Kept.ite)

theorem State.setTimer_kept {ps : List Part} {K : Nat → Prop} {z0 : State} (s : State) (p : Nat) (k : Nat) (endAt : Option Nat)
    (hports : Part.ports ∈ ps) (hK : Kept ps K z0 s) : Kept ps K z0 (State.setTimer s p k endAt) := by
  unfold State.setTimer
  repeat' (first | with_reducible assumption | with_reducible apply State.modPort_kept)

theorem State.holdRefused_kept {ps : List Part} {K : Nat → Prop} {z0 : State} (s : State) (p : Nat) (prio : Nat) (case_ : Nat)
    (hports : Part.ports ∈ ps) (hdict : Part.dict ∈ ps) (hout : Part.out ∈ ps) (oCTR_TX_FRAMES : ∀ i, K (Obj.CTR_TX_FRAMES i))
    (oCTR_TX_OCTETS : ∀ i, K (Obj.CTR_TX_OCTETS i)) (oCTR_TX_PAUSE : ∀ i, K (Obj.CTR_TX_PAUSE i)) (hK : Kept ps K z0 s)
    : Kept ps K z0 (State.holdRefused s p prio case_) := by
  unfold State.holdRefused
  repeat' (first | with_reducible intro _ | with_reducible assumption | with_reducible exact oCTR_TX_FRAMES _
                 | with_reducible exact oCTR_TX_OCTETS _ | with_reducible exact oCTR_TX_PAUSE _ | with_reducible apply State.modPort_kept
                 | with_reducible apply State.pauseNow_kept | with_reducible apply Kept.ite)

theorem State.countRefused_kept {ps : List Part} {K : Nat → Prop} {z0 : State} (s : State) (p : Nat) (prio : Nat) (case_ : Nat) (ll : Bool)
    (hports : Part.ports ∈ ps) (hdict : Part.dict ∈ ps) (hout : Part.out ∈ ps) (oCTR_RX_LOSSLESS_DROP : ∀ i, K (Obj.CTR_RX_LOSSLESS_DROP i))
    (oCTR_RX_OVERFLOW_DROP : ∀ i, K (Obj.CTR_RX_OVERFLOW_DROP i)) (oCTR_TX_FRAMES : ∀ i, K (Obj.CTR_TX_FRAMES i))
    (oCTR_TX_OCTETS : ∀ i, K (Obj.CTR_TX_OCTETS i)) (oCTR_TX_PAUSE : ∀ i, K (Obj.CTR_TX_PAUSE i)) (hK : Kept ps K z0 s)
    : Kept ps K z0 (State.countRefused s p prio case_ ll) := by
  unfold State.countRefused
  repeat' (first | with_reducible intro _ | with_reducible assumption | with_reducible exact oCTR_RX_LOSSLESS_DROP _
                 | with_reducible exact oCTR_RX_OVERFLOW_DROP _ | with_reducible exact oCTR_TX_FRAMES _ | with_reducible exact oCTR_TX_OCTETS _
                 | with_reducible exact oCTR_TX_PAUSE _ | with_reducible apply State.holdRefused_kept | with_reducible apply State.bump_kept
                 | with_reducible apply Kept.ite)

theorem State.dropTx_kept {ps : List Part} {K : Nat → Prop} {z0 : State} (s : State) (p : Nat) (f : TxFrame) (hwonel : Part.wonel ∈ ps)
    (hflt : Part.flt ∈ ps) (hlinks : Part.links ∈ ps) (hgalley : Part.galley ∈ ps) (hsched : Part.sched ∈ ps) (hports : Part.ports ∈ ps)
    (htables : Part.tables ∈ ps) (htelem : Part.telem ∈ ps) (htim : Part.tim ∈ ps) (hcmp : Part.cmp ∈ ps) (hmem : Part.mem ∈ ps)
    (hdict : Part.dict ∈ ps) (hbusy : Part.busy ∈ ps) (hout : Part.out ∈ ps) (hfresh : Part.fresh ∈ ps) (ko : BufferKeys K)
    (oCTR_TX_FRAMES : ∀ i, K (Obj.CTR_TX_FRAMES i)) (oCTR_TX_OCTETS : ∀ i, K (Obj.CTR_TX_OCTETS i)) (oCTR_TX_PAUSE : ∀ i, K (Obj.CTR_TX_PAUSE i)) (hK
    : Kept ps K z0 s) : Kept ps K z0 (State.dropTx s p f) := by
  unfold State.dropTx
  repeat' (first | with_reducible intro _ | with_reducible assumption | with_reducible exact oCTR_TX_FRAMES _
                 | with_reducible exact oCTR_TX_OCTETS _ | with_reducible exact oCTR_TX_PAUSE _ | with_reducible apply State.releaseDesc_kept
                 | with_reducible apply State.flySub_kept)

theorem State.ptpPort_kept {ps : List Part} {K : Nat → Prop} {z0 : State} (s : State) (p : Nat) (up : Bool) (hptp : Part.ptp ∈ ps) (hK
    : Kept ps K z0 s) : Kept ps K z0 (State.ptpPort s p up) := by
  unfold State.ptpPort
  repeat' (first | with_reducible intro _ | with_reducible assumption | exact Or.inl ‹_› | with_reducible exact Or.inr rfl
                 | with_reducible exact Or.inl rfl | split | dsimp only | with_reducible exact Nat.le_max_right _ _ | with_reducible apply Kept.all)
  all_goals (simp [Nat.le_max_right]; done)

theorem State.countFlap_kept {ps : List Part} {K : Nat → Prop} {z0 : State} (s : State) (p : Nat) (mark : Nat) (hlanes : Part.lanes ∈ ps)
    (hdict : Part.dict ∈ ps) (oLN_FLAPS : ∀ i, K (Obj.LN_FLAPS i)) (hK : Kept ps K z0 s) : Kept ps K z0 (State.countFlap s p mark) := by
  unfold State.countFlap
  repeat' (first | with_reducible intro _ | with_reducible assumption | with_reducible exact oLN_FLAPS _
                 | with_reducible apply State.modLane_kept | with_reducible apply State.bump_kept | with_reducible apply Kept.foldl)

theorem State.downRx_kept {ps : List Part} {K : Nat → Prop} {z0 : State} (s : State) (p : Nat) (hwonel : Part.wonel ∈ ps) (hflt : Part.flt ∈ ps)
    (hlinks : Part.links ∈ ps) (hgalley : Part.galley ∈ ps) (hsched : Part.sched ∈ ps) (hports : Part.ports ∈ ps) (htables : Part.tables ∈ ps)
    (htelem : Part.telem ∈ ps) (htim : Part.tim ∈ ps) (hcmp : Part.cmp ∈ ps) (hmem : Part.mem ∈ ps) (hdict : Part.dict ∈ ps) (hbusy : Part.busy ∈ ps)
    (hout : Part.out ∈ ps) (hfresh : Part.fresh ∈ ps) (ko : BufferKeys K) (oCTR_RX_ABORTED : ∀ i, K (Obj.CTR_RX_ABORTED i))
    (oCTR_TX_FRAMES : ∀ i, K (Obj.CTR_TX_FRAMES i)) (oCTR_TX_OCTETS : ∀ i, K (Obj.CTR_TX_OCTETS i)) (oCTR_TX_PAUSE : ∀ i, K (Obj.CTR_TX_PAUSE i))
    (oGAL_CT_BAD : K Obj.GAL_CT_BAD) (hK : Kept ps K z0 s) : Kept ps K z0 (State.downRx s p) := by
  unfold State.downRx
  repeat' (first | with_reducible intro _ | with_reducible assumption | with_reducible exact oCTR_RX_ABORTED _
                 | with_reducible exact oCTR_TX_FRAMES _ | with_reducible exact oCTR_TX_OCTETS _ | with_reducible exact oCTR_TX_PAUSE _
                 | with_reducible apply State.bump_kept | with_reducible apply State.modPort_kept | with_reducible apply State.turnBad_kept
                 | with_reducible apply Kept.ite | split)

theorem State.downSending_kept {ps : List Part} {K : Nat → Prop} {z0 : State} (s : State) (p : Nat) (hwonel : Part.wonel ∈ ps) (hflt : Part.flt ∈ ps)
    (hlinks : Part.links ∈ ps) (hgalley : Part.galley ∈ ps) (hsched : Part.sched ∈ ps) (hports : Part.ports ∈ ps) (htables : Part.tables ∈ ps)
    (htelem : Part.telem ∈ ps) (htim : Part.tim ∈ ps) (hcmp : Part.cmp ∈ ps) (hmem : Part.mem ∈ ps) (hdict : Part.dict ∈ ps) (hbusy : Part.busy ∈ ps)
    (hout : Part.out ∈ ps) (hfresh : Part.fresh ∈ ps) (ko : BufferKeys K) (oCTR_TX_ABORTED : ∀ i, K (Obj.CTR_TX_ABORTED i))
    (oCTR_TX_FRAMES : ∀ i, K (Obj.CTR_TX_FRAMES i)) (oCTR_TX_OCTETS : ∀ i, K (Obj.CTR_TX_OCTETS i)) (oCTR_TX_PAUSE : ∀ i, K (Obj.CTR_TX_PAUSE i)) (hK
    : Kept ps K z0 s) : Kept ps K z0 (State.downSending s p) := by
  unfold State.downSending
  repeat' (first | with_reducible intro _ | with_reducible assumption | with_reducible exact oCTR_TX_ABORTED _
                 | with_reducible exact oCTR_TX_FRAMES _ | with_reducible exact oCTR_TX_OCTETS _ | with_reducible exact oCTR_TX_PAUSE _
                 | with_reducible apply State.bump_kept | with_reducible apply State.dropTx_kept | split)

theorem State.downAuth_kept {ps : List Part} {K : Nat → Prop} {z0 : State} (s : State) (p : Nat) (hwonel : Part.wonel ∈ ps) (hflt : Part.flt ∈ ps)
    (hlinks : Part.links ∈ ps) (hgalley : Part.galley ∈ ps) (hsched : Part.sched ∈ ps) (hports : Part.ports ∈ ps) (htables : Part.tables ∈ ps)
    (htelem : Part.telem ∈ ps) (htim : Part.tim ∈ ps) (hptp : Part.ptp ∈ ps) (hcmp : Part.cmp ∈ ps) (hmem : Part.mem ∈ ps) (hdict : Part.dict ∈ ps)
    (hbusy : Part.busy ∈ ps) (hout : Part.out ∈ ps) (hfresh : Part.fresh ∈ ps) (ko : BufferKeys K) (oCTR_TX_ABORTED : ∀ i, K (Obj.CTR_TX_ABORTED i))
    (oCTR_TX_FRAMES : ∀ i, K (Obj.CTR_TX_FRAMES i)) (oCTR_TX_OCTETS : ∀ i, K (Obj.CTR_TX_OCTETS i)) (oCTR_TX_PAUSE : ∀ i, K (Obj.CTR_TX_PAUSE i)) (hK
    : Kept ps K z0 s) : Kept ps K z0 (State.downAuth s p) := by
  unfold State.downAuth
  repeat' (first | with_reducible intro _ | with_reducible assumption | with_reducible exact oCTR_TX_ABORTED _
                 | with_reducible exact oCTR_TX_FRAMES _ | with_reducible exact oCTR_TX_OCTETS _ | with_reducible exact oCTR_TX_PAUSE _
                 | with_reducible apply State.bump_kept | with_reducible apply State.dropTx_kept | exact Or.inl ‹_›
                 | with_reducible exact Or.inr rfl | with_reducible exact Or.inl rfl | split | dsimp only
                 | with_reducible exact Nat.le_max_right _ _ | with_reducible apply Kept.all)

theorem State.downTx_kept {ps : List Part} {K : Nat → Prop} {z0 : State} (s : State) (p : Nat) (hwonel : Part.wonel ∈ ps) (hflt : Part.flt ∈ ps)
    (hlinks : Part.links ∈ ps) (hgalley : Part.galley ∈ ps) (hsched : Part.sched ∈ ps) (hports : Part.ports ∈ ps) (htables : Part.tables ∈ ps)
    (htelem : Part.telem ∈ ps) (htim : Part.tim ∈ ps) (hptp : Part.ptp ∈ ps) (hcmp : Part.cmp ∈ ps) (hmem : Part.mem ∈ ps) (hdict : Part.dict ∈ ps)
    (hbusy : Part.busy ∈ ps) (hout : Part.out ∈ ps) (hfresh : Part.fresh ∈ ps) (ko : BufferKeys K) (oCTR_TX_ABORTED : ∀ i, K (Obj.CTR_TX_ABORTED i))
    (oCTR_TX_FLUSHED : ∀ i, K (Obj.CTR_TX_FLUSHED i)) (oCTR_TX_FRAMES : ∀ i, K (Obj.CTR_TX_FRAMES i)) (oCTR_TX_OCTETS : ∀ i, K (Obj.CTR_TX_OCTETS i))
    (oCTR_TX_PAUSE : ∀ i, K (Obj.CTR_TX_PAUSE i)) (hK : Kept ps K z0 s) : Kept ps K z0 (State.downTx s p) := by
  unfold State.downTx
  repeat' (first | with_reducible intro _ | with_reducible assumption | with_reducible exact oCTR_TX_ABORTED _
                 | with_reducible exact oCTR_TX_FLUSHED _ | with_reducible exact oCTR_TX_FRAMES _ | with_reducible exact oCTR_TX_OCTETS _
                 | with_reducible exact oCTR_TX_PAUSE _ | with_reducible apply State.downAuth_kept | with_reducible apply State.bump_kept
                 | with_reducible apply State.dropTx_kept | with_reducible apply State.downSending_kept | with_reducible apply Kept.foldl)

theorem State.downLpi_kept {ps : List Part} {K : Nat → Prop} {z0 : State} (s : State) (p : Nat) (hdict : Part.dict ∈ ps)
    (oCTR_LPI_RX_US : ∀ i, K (Obj.CTR_LPI_RX_US i)) (oCTR_LPI_TX_US : ∀ i, K (Obj.CTR_LPI_TX_US i)) (hK : Kept ps K z0 s)
    : Kept ps K z0 (State.downLpi s p) := by
  unfold State.downLpi
  repeat' (first | with_reducible assumption | with_reducible exact oCTR_LPI_RX_US _ | with_reducible exact oCTR_LPI_TX_US _
                 | with_reducible apply State.bumpBy_kept | with_reducible apply Kept.ite)

theorem State.downFlush_kept {ps : List Part} {K : Nat → Prop} {z0 : State} (s : State) (p : Nat) (hlanes : Part.lanes ∈ ps)
    (htables : Part.tables ∈ ps) (hptp : Part.ptp ∈ ps) (hmem : Part.mem ∈ ps) (hdict : Part.dict ∈ ps) (oFLT_DIAG_LOGGED : K Obj.FLT_DIAG_LOGGED)
    (oQ_FLUSH_STATE : ∀ i, K (Obj.Q_FLUSH_STATE i)) (oTBL_LRN_INSTALLS : ∀ i, K (Obj.TBL_LRN_INSTALLS i)) (hK : Kept ps K z0 s)
    : Kept ps K z0 (State.downFlush s p) := by
  unfold State.downFlush
  repeat' (first | with_reducible intro _ | with_reducible assumption | with_reducible exact oQ_FLUSH_STATE _
                 | with_reducible exact oTBL_LRN_INSTALLS _ | with_reducible apply State.ptpPort_kept | with_reducible apply State.put_kept
                 | with_reducible apply State.modLane_kept | with_reducible apply State.tblFlush_kept | with_reducible apply Kept.foldl
                 | with_reducible apply Kept.ite)

theorem State.linkDown_kept {ps : List Part} {K : Nat → Prop} {z0 : State} (s : State) (p : Nat) (hwonel : Part.wonel ∈ ps) (hflt : Part.flt ∈ ps)
    (hlanes : Part.lanes ∈ ps) (hlinks : Part.links ∈ ps) (hgalley : Part.galley ∈ ps) (hsched : Part.sched ∈ ps) (hports : Part.ports ∈ ps)
    (htables : Part.tables ∈ ps) (htelem : Part.telem ∈ ps) (htim : Part.tim ∈ ps) (hptp : Part.ptp ∈ ps) (hcmp : Part.cmp ∈ ps)
    (hmem : Part.mem ∈ ps) (hdict : Part.dict ∈ ps) (hbusy : Part.busy ∈ ps) (hout : Part.out ∈ ps) (hfresh : Part.fresh ∈ ps) (ko : BufferKeys K)
    (oCTR_LPI_RX_US : ∀ i, K (Obj.CTR_LPI_RX_US i)) (oCTR_LPI_TX_US : ∀ i, K (Obj.CTR_LPI_TX_US i)) (oCTR_RX_ABORTED : ∀ i, K (Obj.CTR_RX_ABORTED i))
    (oCTR_TX_ABORTED : ∀ i, K (Obj.CTR_TX_ABORTED i)) (oCTR_TX_FLUSHED : ∀ i, K (Obj.CTR_TX_FLUSHED i))
    (oCTR_TX_FRAMES : ∀ i, K (Obj.CTR_TX_FRAMES i)) (oCTR_TX_OCTETS : ∀ i, K (Obj.CTR_TX_OCTETS i)) (oCTR_TX_PAUSE : ∀ i, K (Obj.CTR_TX_PAUSE i))
    (oGAL_CT_BAD : K Obj.GAL_CT_BAD) (oPT_LINK_CHANGES : ∀ i, K (Obj.PT_LINK_CHANGES i)) (oQ_FLUSH_STATE : ∀ i, K (Obj.Q_FLUSH_STATE i))
    (oTBL_LRN_INSTALLS : ∀ i, K (Obj.TBL_LRN_INSTALLS i)) (hK : Kept ps K z0 s) : Kept ps K z0 (State.linkDown s p) := by
  unfold State.linkDown
  repeat' (first | with_reducible intro _ | with_reducible assumption | with_reducible exact ko.logged | with_reducible exact oCTR_LPI_RX_US _
                 | with_reducible exact oCTR_LPI_TX_US _ | with_reducible exact oCTR_RX_ABORTED _ | with_reducible exact oCTR_TX_ABORTED _
                 | with_reducible exact oCTR_TX_FLUSHED _ | with_reducible exact oCTR_TX_FRAMES _ | with_reducible exact oCTR_TX_OCTETS _
                 | with_reducible exact oCTR_TX_PAUSE _ | with_reducible exact oPT_LINK_CHANGES _ | with_reducible exact oQ_FLUSH_STATE _
                 | with_reducible exact oTBL_LRN_INSTALLS _ | with_reducible apply State.bump_kept | with_reducible apply State.latch_kept
                 | with_reducible apply State.modPort_kept | with_reducible apply State.downFlush_kept | with_reducible apply State.downLpi_kept
                 | with_reducible apply State.downTx_kept | with_reducible apply State.downRx_kept | with_reducible apply Kept.ite)

theorem State.linkUp_kept {ps : List Part} {K : Nat → Prop} {z0 : State} (s0 : State) (p : Nat) (hwonel : Part.wonel ∈ ps) (hlanes : Part.lanes ∈ ps)
    (hports : Part.ports ∈ ps) (hptp : Part.ptp ∈ ps) (hdict : Part.dict ∈ ps) (oLN_FLAPS : ∀ i, K (Obj.LN_FLAPS i))
    (oPT_LINK_CHANGES : ∀ i, K (Obj.PT_LINK_CHANGES i)) (hK : Kept ps K z0 s0) : Kept ps K z0 (State.linkUp s0 p) := by
  unfold State.linkUp
  repeat' (first | with_reducible intro _ | with_reducible assumption | with_reducible exact oLN_FLAPS _
                 | with_reducible exact oPT_LINK_CHANGES _ | with_reducible apply State.countFlap_kept | with_reducible apply State.modLane_kept
                 | with_reducible apply State.ptpPort_kept | with_reducible apply State.bump_kept | with_reducible apply State.latch_kept
                 | with_reducible apply State.modPort_kept | with_reducible apply Kept.foldl | with_reducible apply Kept.ite)

theorem State.holdCheck_kept {ps : List Part} {K : Nat → Prop} {z0 : State} (s : State) (p : Nat) (hwonel : Part.wonel ∈ ps) (hflt : Part.flt ∈ ps)
    (hlanes : Part.lanes ∈ ps) (hlinks : Part.links ∈ ps) (hgalley : Part.galley ∈ ps) (hsched : Part.sched ∈ ps) (hports : Part.ports ∈ ps)
    (htables : Part.tables ∈ ps) (htelem : Part.telem ∈ ps) (htim : Part.tim ∈ ps) (hptp : Part.ptp ∈ ps) (hcmp : Part.cmp ∈ ps)
    (hmem : Part.mem ∈ ps) (hdict : Part.dict ∈ ps) (hbusy : Part.busy ∈ ps) (hout : Part.out ∈ ps) (hfresh : Part.fresh ∈ ps) (ko : BufferKeys K)
    (oCTR_LPI_RX_US : ∀ i, K (Obj.CTR_LPI_RX_US i)) (oCTR_LPI_TX_US : ∀ i, K (Obj.CTR_LPI_TX_US i)) (oCTR_RX_ABORTED : ∀ i, K (Obj.CTR_RX_ABORTED i))
    (oCTR_TX_ABORTED : ∀ i, K (Obj.CTR_TX_ABORTED i)) (oCTR_TX_FLUSHED : ∀ i, K (Obj.CTR_TX_FLUSHED i))
    (oCTR_TX_FRAMES : ∀ i, K (Obj.CTR_TX_FRAMES i)) (oCTR_TX_OCTETS : ∀ i, K (Obj.CTR_TX_OCTETS i)) (oCTR_TX_PAUSE : ∀ i, K (Obj.CTR_TX_PAUSE i))
    (oGAL_CT_BAD : K Obj.GAL_CT_BAD) (oPT_LINK_CHANGES : ∀ i, K (Obj.PT_LINK_CHANGES i)) (oQ_FLUSH_STATE : ∀ i, K (Obj.Q_FLUSH_STATE i))
    (oTBL_LRN_INSTALLS : ∀ i, K (Obj.TBL_LRN_INSTALLS i)) (hK : Kept ps K z0 s) : Kept ps K z0 (State.holdCheck s p) := by
  unfold State.holdCheck
  repeat' (first | with_reducible intro _ | with_reducible assumption | with_reducible exact oCTR_LPI_RX_US _
                 | with_reducible exact oCTR_LPI_TX_US _ | with_reducible exact oCTR_RX_ABORTED _ | with_reducible exact oCTR_TX_ABORTED _
                 | with_reducible exact oCTR_TX_FLUSHED _ | with_reducible exact oCTR_TX_FRAMES _ | with_reducible exact oCTR_TX_OCTETS _
                 | with_reducible exact oCTR_TX_PAUSE _ | with_reducible exact oPT_LINK_CHANGES _ | with_reducible exact oQ_FLUSH_STATE _
                 | with_reducible exact oTBL_LRN_INSTALLS _ | with_reducible apply State.linkDown_kept | with_reducible apply Kept.ite)

theorem State.holdCheckAll_kept {ps : List Part} {K : Nat → Prop} {z0 : State} (s : State) (hwonel : Part.wonel ∈ ps) (hflt : Part.flt ∈ ps)
    (hlanes : Part.lanes ∈ ps) (hlinks : Part.links ∈ ps) (hgalley : Part.galley ∈ ps) (hsched : Part.sched ∈ ps) (hports : Part.ports ∈ ps)
    (htables : Part.tables ∈ ps) (htelem : Part.telem ∈ ps) (htim : Part.tim ∈ ps) (hptp : Part.ptp ∈ ps) (hcmp : Part.cmp ∈ ps)
    (hmem : Part.mem ∈ ps) (hdict : Part.dict ∈ ps) (hbusy : Part.busy ∈ ps) (hout : Part.out ∈ ps) (hfresh : Part.fresh ∈ ps) (ko : BufferKeys K)
    (oCTR_LPI_RX_US : ∀ i, K (Obj.CTR_LPI_RX_US i)) (oCTR_LPI_TX_US : ∀ i, K (Obj.CTR_LPI_TX_US i)) (oCTR_RX_ABORTED : ∀ i, K (Obj.CTR_RX_ABORTED i))
    (oCTR_TX_ABORTED : ∀ i, K (Obj.CTR_TX_ABORTED i)) (oCTR_TX_FLUSHED : ∀ i, K (Obj.CTR_TX_FLUSHED i))
    (oCTR_TX_FRAMES : ∀ i, K (Obj.CTR_TX_FRAMES i)) (oCTR_TX_OCTETS : ∀ i, K (Obj.CTR_TX_OCTETS i)) (oCTR_TX_PAUSE : ∀ i, K (Obj.CTR_TX_PAUSE i))
    (oGAL_CT_BAD : K Obj.GAL_CT_BAD) (oPT_LINK_CHANGES : ∀ i, K (Obj.PT_LINK_CHANGES i)) (oQ_FLUSH_STATE : ∀ i, K (Obj.Q_FLUSH_STATE i))
    (oTBL_LRN_INSTALLS : ∀ i, K (Obj.TBL_LRN_INSTALLS i)) (hK : Kept ps K z0 s) : Kept ps K z0 (State.holdCheckAll s) := by
  unfold State.holdCheckAll
  repeat' (first | with_reducible intro _ | with_reducible assumption | with_reducible exact oCTR_LPI_RX_US _
                 | with_reducible exact oCTR_LPI_TX_US _ | with_reducible exact oCTR_RX_ABORTED _ | with_reducible exact oCTR_TX_ABORTED _
                 | with_reducible exact oCTR_TX_FLUSHED _ | with_reducible exact oCTR_TX_FRAMES _ | with_reducible exact oCTR_TX_OCTETS _
                 | with_reducible exact oCTR_TX_PAUSE _ | with_reducible exact oPT_LINK_CHANGES _ | with_reducible exact oQ_FLUSH_STATE _
                 | with_reducible exact oTBL_LRN_INSTALLS _ | with_reducible apply State.holdCheck_kept | with_reducible apply Kept.foldl)

theorem State.lpiCheck_kept {ps : List Part} {K : Nat → Prop} {z0 : State} (s : State) (p : Nat) (hdict : Part.dict ∈ ps)
    (oPT_LPI_ENABLE : ∀ i, K (Obj.PT_LPI_ENABLE i)) (hK : Kept ps K z0 s) : Kept ps K z0 (State.lpiCheck s p) := by
  unfold State.lpiCheck
  repeat' (first | with_reducible assumption | with_reducible exact oPT_LPI_ENABLE _ | with_reducible apply State.put_kept
                 | with_reducible apply Kept.ite)

theorem State.stopLane_kept {ps : List Part} {K : Nat → Prop} {z0 : State} (s : State) (n : Nat) (hlanes : Part.lanes ∈ ps) (hdict : Part.dict ∈ ps)
    (hbusy : Part.busy ∈ ps) (oLN_ADAPT : ∀ i, K (Obj.LN_ADAPT i)) (oLN_EYE_RESULT : ∀ i, K (Obj.LN_EYE_RESULT i))
    (oLN_EYE_RUN : ∀ i, K (Obj.LN_EYE_RUN i)) (hK : Kept ps K z0 s) : Kept ps K z0 (State.stopLane s n) := by
  unfold State.stopLane
  repeat' (first | with_reducible assumption | with_reducible exact oLN_ADAPT _ | with_reducible exact oLN_EYE_RESULT _
                 | with_reducible exact oLN_EYE_RUN _ | with_reducible apply State.runEnd_kept | with_reducible apply State.put_kept
                 | with_reducible apply State.modLane_kept | with_reducible apply Kept.ite)

theorem State.formPort_kept {ps : List Part} {K : Nat → Prop} {z0 : State} (s : State) (p : Nat) (t : Nat) (hwonel : Part.wonel ∈ ps)
    (hflt : Part.flt ∈ ps) (hlanes : Part.lanes ∈ ps) (hlinks : Part.links ∈ ps) (hgalley : Part.galley ∈ ps) (hsched : Part.sched ∈ ps)
    (hports : Part.ports ∈ ps) (htables : Part.tables ∈ ps) (htelem : Part.telem ∈ ps) (htim : Part.tim ∈ ps) (hptp : Part.ptp ∈ ps)
    (hcmp : Part.cmp ∈ ps) (hmem : Part.mem ∈ ps) (hdict : Part.dict ∈ ps) (hbusy : Part.busy ∈ ps) (hout : Part.out ∈ ps) (hfresh : Part.fresh ∈ ps)
    (hall : ∀ k, K k) (hK : Kept ps K z0 s) : Kept ps K z0 (State.formPort s p t) := by
  unfold State.formPort
  repeat' (first | with_reducible intro _ | with_reducible assumption | exact hall _ | exact BufferKeys.ofAll hall
                 | with_reducible apply State.linkDown_kept | with_reducible apply State.put_kept | with_reducible apply State.clearKeys_kept
                 | with_reducible apply State.modLane_kept | with_reducible apply State.stopLane_kept | with_reducible apply State.modPort_kept
                 | with_reducible apply State.linkEval_kept | with_reducible apply State.lpiCheck_kept | with_reducible apply Kept.foldl
                 | with_reducible apply Kept.ite)

theorem State.reFec_kept {ps : List Part} {K : Nat → Prop} {z0 : State} (s : State) (p : Nat) (v : Nat) (hwonel : Part.wonel ∈ ps)
    (hflt : Part.flt ∈ ps) (hlanes : Part.lanes ∈ ps) (hlinks : Part.links ∈ ps) (hgalley : Part.galley ∈ ps) (hsched : Part.sched ∈ ps)
    (hports : Part.ports ∈ ps) (htables : Part.tables ∈ ps) (htelem : Part.telem ∈ ps) (htim : Part.tim ∈ ps) (hptp : Part.ptp ∈ ps)
    (hcmp : Part.cmp ∈ ps) (hmem : Part.mem ∈ ps) (hdict : Part.dict ∈ ps) (hbusy : Part.busy ∈ ps) (hout : Part.out ∈ ps) (hfresh : Part.fresh ∈ ps)
    (ko : BufferKeys K) (oCTR_LPI_RX_US : ∀ i, K (Obj.CTR_LPI_RX_US i)) (oCTR_LPI_TX_US : ∀ i, K (Obj.CTR_LPI_TX_US i))
    (oCTR_RX_ABORTED : ∀ i, K (Obj.CTR_RX_ABORTED i)) (oCTR_TX_ABORTED : ∀ i, K (Obj.CTR_TX_ABORTED i))
    (oCTR_TX_FLUSHED : ∀ i, K (Obj.CTR_TX_FLUSHED i)) (oCTR_TX_FRAMES : ∀ i, K (Obj.CTR_TX_FRAMES i)) (oCTR_TX_OCTETS : ∀ i, K (Obj.CTR_TX_OCTETS i))
    (oCTR_TX_PAUSE : ∀ i, K (Obj.CTR_TX_PAUSE i)) (oGAL_CT_BAD : K Obj.GAL_CT_BAD) (oLN_ADAPT : ∀ i, K (Obj.LN_ADAPT i))
    (oLN_EYE_RESULT : ∀ i, K (Obj.LN_EYE_RESULT i)) (oLN_EYE_RUN : ∀ i, K (Obj.LN_EYE_RUN i)) (oPT_FEC : ∀ i, K (Obj.PT_FEC i))
    (oPT_LINK_CHANGES : ∀ i, K (Obj.PT_LINK_CHANGES i)) (oQ_FLUSH_STATE : ∀ i, K (Obj.Q_FLUSH_STATE i))
    (oTBL_LRN_INSTALLS : ∀ i, K (Obj.TBL_LRN_INSTALLS i)) (hK : Kept ps K z0 s) : Kept ps K z0 (State.reFec s p v) := by
  unfold State.reFec
  repeat' (first | with_reducible intro _ | with_reducible assumption | with_reducible exact oCTR_LPI_RX_US _
                 | with_reducible exact oCTR_LPI_TX_US _ | with_reducible exact oCTR_RX_ABORTED _ | with_reducible exact oCTR_TX_ABORTED _
                 | with_reducible exact oCTR_TX_FLUSHED _ | with_reducible exact oCTR_TX_FRAMES _ | with_reducible exact oCTR_TX_OCTETS _
                 | with_reducible exact oCTR_TX_PAUSE _ | with_reducible exact oLN_ADAPT _ | with_reducible exact oLN_EYE_RESULT _
                 | with_reducible exact oLN_EYE_RUN _ | with_reducible exact oPT_FEC _ | with_reducible exact oPT_LINK_CHANGES _
                 | with_reducible exact oQ_FLUSH_STATE _ | with_reducible exact oTBL_LRN_INSTALLS _ | with_reducible apply State.put_kept
                 | with_reducible apply State.linkDown_kept | with_reducible apply State.linkEval_kept | with_reducible apply State.stopLane_kept
                 | with_reducible apply Kept.foldl | with_reducible apply Kept.ite)

theorem State.writeFcMode_kept {ps : List Part} {K : Nat → Prop} {z0 : State} (s : State) (p : Nat) (v : Nat) (hsched : Part.sched ∈ ps)
    (hports : Part.ports ∈ ps) (hdict : Part.dict ∈ ps) (hout : Part.out ∈ ps) (oCTR_TX_FRAMES : ∀ i, K (Obj.CTR_TX_FRAMES i))
    (oCTR_TX_OCTETS : ∀ i, K (Obj.CTR_TX_OCTETS i)) (oCTR_TX_PAUSE : ∀ i, K (Obj.CTR_TX_PAUSE i)) (oPT_FC_MODE : ∀ i, K (Obj.PT_FC_MODE i)) (hK
    : Kept ps K z0 s) : Kept ps K z0 (State.writeFcMode s p v) := by
  unfold State.writeFcMode
  repeat' (first | with_reducible intro _ | with_reducible assumption | with_reducible exact oCTR_TX_FRAMES _
                 | with_reducible exact oCTR_TX_OCTETS _ | with_reducible exact oCTR_TX_PAUSE _ | with_reducible exact oPT_FC_MODE _
                 | with_reducible apply State.sendPause_kept | with_reducible apply State.modPort_kept | with_reducible apply State.unpaused_kept
                 | with_reducible apply State.put_kept | with_reducible apply Kept.ite)

theorem State.macControl_kept {ps : List Part} {K : Nat → Prop} {z0 : State} (s : State) (p : Nat) (w : Bytes) (hports : Part.ports ∈ ps)
    (htelem : Part.telem ∈ ps) (hdict : Part.dict ∈ ps) (oCTR_RX_CTRL_DISCARD : ∀ i, K (Obj.CTR_RX_CTRL_DISCARD i))
    (oCTR_RX_PAUSE : ∀ i, K (Obj.CTR_RX_PAUSE i)) (hK : Kept ps K z0 s) : Kept ps K z0 (State.macControl s p w) := by
  unfold State.macControl
  repeat' (first | with_reducible assumption | with_reducible exact oCTR_RX_CTRL_DISCARD _ | with_reducible exact oCTR_RX_PAUSE _
                 | with_reducible apply State.modPort_kept | with_reducible apply State.pmc_kept | with_reducible apply State.bump_kept
                 | with_reducible apply Kept.ite)

theorem State.ptpReceive_kept {ps : List Part} {K : Nat → Prop} {z0 : State} (s : State) (p : Nat) (w : Bytes) (x : PtpAt) (base : RxDest) (tRx : Nat)
    (valid : Bool) (hstore : Part.store ∈ ps) (hwonel : Part.wonel ∈ ps) (hkce : Part.kce ∈ ps) (hflt : Part.flt ∈ ps) (hlinks : Part.links ∈ ps)
    (hgalley : Part.galley ∈ ps) (htables : Part.tables ∈ ps) (htim : Part.tim ∈ ps) (hcmp : Part.cmp ∈ ps) (hdict : Part.dict ∈ ps)
    (hout : Part.out ∈ ps) (hfresh : Part.fresh ∈ ps) (ko : ReactKeys K) (oKCE_BLOCKS : K Obj.KCE_BLOCKS) (oKCE_MESSAGES : K Obj.KCE_MESSAGES)
    (oKCE_REFUSED : K Obj.KCE_REFUSED) (oLCY_PS_WEAR : K Obj.LCY_PS_WEAR) (oTIM_AUTH_FAIL : K Obj.TIM_AUTH_FAIL)
    (oTIM_AUTH_UNKNOWN : K Obj.TIM_AUTH_UNKNOWN) (oTIM_PTP_DROPPED : K Obj.TIM_PTP_DROPPED) (oTIM_TS_INVALID : K Obj.TIM_TS_INVALID) (hK
    : Kept ps K z0 s) : Kept ps K z0 (State.ptpReceive s p w x base tRx valid).2 := by
  unfold State.ptpReceive
  repeat' (first | with_reducible assumption | with_reducible apply State.bump_kept | with_reducible apply State.authCheck_kept
                 | with_reducible apply Kept.ite | with_reducible apply Kept.ite_snd | split)

theorem State.fifoPut_kept {ps : List Part} {K : Nat → Prop} {z0 : State} (s : State) (p : Nat) (f : RxFrame) (hports : Part.ports ∈ ps)
    (hdict : Part.dict ∈ ps) (hout : Part.out ∈ ps) (oCTR_RX_LOSSLESS_DROP : ∀ i, K (Obj.CTR_RX_LOSSLESS_DROP i))
    (oCTR_RX_OVERFLOW_DROP : ∀ i, K (Obj.CTR_RX_OVERFLOW_DROP i)) (oCTR_TX_FRAMES : ∀ i, K (Obj.CTR_TX_FRAMES i))
    (oCTR_TX_OCTETS : ∀ i, K (Obj.CTR_TX_OCTETS i)) (oCTR_TX_PAUSE : ∀ i, K (Obj.CTR_TX_PAUSE i)) (hK : Kept ps K z0 s)
    : Kept ps K z0 (State.fifoPut s p f) := by
  unfold State.fifoPut
  repeat' (first | with_reducible intro _ | with_reducible assumption | with_reducible exact oCTR_RX_LOSSLESS_DROP _
                 | with_reducible exact oCTR_RX_OVERFLOW_DROP _ | with_reducible exact oCTR_TX_FRAMES _ | with_reducible exact oCTR_TX_OCTETS _
                 | with_reducible exact oCTR_TX_PAUSE _ | with_reducible apply State.bump_kept | with_reducible apply State.xoffEval_kept
                 | with_reducible apply State.modPort_kept | with_reducible apply Kept.ite | split)

theorem State.countGood_kept {ps : List Part} {K : Nat → Prop} {z0 : State} (s : State) (p : Nat) (frame : Bytes) (htelem : Part.telem ∈ ps)
    (hdict : Part.dict ∈ ps) (hall : ∀ k, K k) (hK : Kept ps K z0 s) : Kept ps K z0 (State.countGood s p frame) := by
  unfold State.countGood
  repeat' (first | with_reducible assumption | exact hall _ | with_reducible apply State.pmc_kept | with_reducible apply State.bump_kept
                 | with_reducible apply State.bumpBy_kept)

theorem State.largeSend_kept {ps : List Part} {K : Nat → Prop} {z0 : State} (s : State) (r : LargeRec) (template : Bytes) (payload : Bytes)
    (hwonel : Part.wonel ∈ ps) (hflt : Part.flt ∈ ps) (hlinks : Part.links ∈ ps) (hgalley : Part.galley ∈ ps) (hsched : Part.sched ∈ ps)
    (hports : Part.ports ∈ ps) (htables : Part.tables ∈ ps) (htelem : Part.telem ∈ ps) (htim : Part.tim ∈ ps) (hcmp : Part.cmp ∈ ps)
    (hmem : Part.mem ∈ ps) (hdict : Part.dict ∈ ps) (hbusy : Part.busy ∈ ps) (hout : Part.out ∈ ps) (hfresh : Part.fresh ∈ ps) (ko : BufferKeys K)
    (oCTR_LPI_TX_US : ∀ i, K (Obj.CTR_LPI_TX_US i)) (oCTR_TX_FLUSHED : ∀ i, K (Obj.CTR_TX_FLUSHED i)) (oCTR_TX_FRAMES : ∀ i, K (Obj.CTR_TX_FRAMES i))
    (oCTR_TX_LSO_REFUSED : ∀ i, K (Obj.CTR_TX_LSO_REFUSED i)) (oCTR_TX_LSO_SEGMENTS : ∀ i, K (Obj.CTR_TX_LSO_SEGMENTS i))
    (oCTR_TX_OCTETS : ∀ i, K (Obj.CTR_TX_OCTETS i)) (oCTR_TX_PAUSE : ∀ i, K (Obj.CTR_TX_PAUSE i)) (oGAL_C_FALLBACKS : ∀ i, K (Obj.GAL_C_FALLBACKS i))
    (oGAL_C_FREE_MIN : ∀ i, K (Obj.GAL_C_FREE_MIN i)) (oGAL_C_GRANTS : ∀ i, K (Obj.GAL_C_GRANTS i)) (oGAL_C_REFUSED : ∀ i, K (Obj.GAL_C_REFUSED i))
    (oQ_ENQ : ∀ i j, K (Obj.Q_ENQ i j)) (oQ_TAIL_DROPS : ∀ i j, K (Obj.Q_TAIL_DROPS i j)) (hK : Kept ps K z0 s)
    : Kept ps K z0 (State.largeSend s r template payload) := by
  unfold State.largeSend
  repeat' (first | with_reducible intro _ | with_reducible assumption | with_reducible exact oCTR_LPI_TX_US _
                 | with_reducible exact oCTR_TX_FLUSHED _ | with_reducible exact oCTR_TX_FRAMES _ | with_reducible exact oCTR_TX_LSO_REFUSED _
                 | with_reducible exact oCTR_TX_LSO_SEGMENTS _ | with_reducible exact oCTR_TX_OCTETS _ | with_reducible exact oCTR_TX_PAUSE _
                 | with_reducible exact oGAL_C_FALLBACKS _ | with_reducible exact oGAL_C_FREE_MIN _ | with_reducible exact oGAL_C_GRANTS _
                 | with_reducible exact oGAL_C_REFUSED _ | with_reducible exact oQ_ENQ _ _ | with_reducible exact oQ_TAIL_DROPS _ _
                 | with_reducible apply State.bump_kept | with_reducible apply State.cmpSend_kept | with_reducible apply Kept.foldl
                 | with_reducible apply Kept.ite)

theorem startCtrClear_kept {ps : List Part} {K : Nat → Prop} {z0 : State} (s : State) (p : Nat) (hdict : Part.dict ∈ ps) (hbusy : Part.busy ∈ ps)
    (hall : ∀ k, K k) (hK : Kept ps K z0 s) : Kept ps K z0 (startCtrClear s p).2 := by
  unfold startCtrClear
  repeat' (first | with_reducible intro _ | with_reducible assumption | exact hall _ | with_reducible apply State.runOnce_kept
                 | with_reducible apply State.clearKeys_kept)

end Sys2Proof.Machine
end

