-- ==== Sys2Proof/Laws/KeptLanes.lean ====
section
/-! SUPPORT. What the operations of Machine/Lanes.lean keep (Laws/Kept.lean). -/

namespace Sys2Proof.Machine
open Sys2Proof

theorem State.laneEval_kept {ps : List Part} {K : Nat → Prop} {z0 : State} (s : State) (n : Nat) (hports : Part.ports ∈ ps) (hK : Kept ps K z0 s)
    : Kept ps K z0 (State.laneEval s n) := by
  unfold State.laneEval
  repeat' (first | with_reducible assumption | with_reducible apply State.linkEval_kept | split)

theorem State.readapt_kept {ps : List Part} {K : Nat → Prop} {z0 : State} (s : State) (n : Nat) (hlanes : Part.lanes ∈ ps) (hports : Part.ports ∈ ps)
    (hdict : Part.dict ∈ ps) (hbusy : Part.busy ∈ ps) (oLN_ADAPT : ∀ i, K (Obj.LN_ADAPT i)) (oLN_EYE_RESULT : ∀ i, K (Obj.LN_EYE_RESULT i))
    (oLN_EYE_RUN : ∀ i, K (Obj.LN_EYE_RUN i)) (hK : Kept ps K z0 s) : Kept ps K z0 (State.readapt s n) := by
  unfold State.readapt
  repeat' (first | with_reducible intro _ | with_reducible assumption | with_reducible exact oLN_ADAPT _ | with_reducible exact oLN_EYE_RESULT _
                 | with_reducible exact oLN_EYE_RUN _ | with_reducible apply State.laneEval_kept | with_reducible apply State.stopLane_kept)

theorem State.losePcs_kept {ps : List Part} {K : Nat → Prop} {z0 : State} (s : State) (p : Nat) (hlanes : Part.lanes ∈ ps) (hports : Part.ports ∈ ps)
    (hK : Kept ps K z0 s) : Kept ps K z0 (State.losePcs s p) := by
  unfold State.losePcs
  repeat' (first | with_reducible intro _ | with_reducible assumption | with_reducible apply State.linkEval_kept
                 | with_reducible apply State.modLane_kept | with_reducible apply Kept.foldl)

theorem State.loseCdr_kept {ps : List Part} {K : Nat → Prop} {z0 : State} (s : State) (n : Nat) (hlanes : Part.lanes ∈ ps) (hports : Part.ports ∈ ps)
    (hdict : Part.dict ∈ ps) (hbusy : Part.busy ∈ ps) (oLN_EYE_RESULT : ∀ i, K (Obj.LN_EYE_RESULT i)) (oLN_EYE_RUN : ∀ i, K (Obj.LN_EYE_RUN i)) (hK
    : Kept ps K z0 s) : Kept ps K z0 (State.loseCdr s n) := by
  unfold State.loseCdr
  repeat' (first | with_reducible assumption | with_reducible exact oLN_EYE_RESULT _ | with_reducible exact oLN_EYE_RUN _
                 | with_reducible apply State.runEnd_kept | with_reducible apply State.put_kept | with_reducible apply State.modLane_kept
                 | with_reducible apply State.losePcs_kept | with_reducible apply Kept.ite | split | dsimp only)

theorem State.failLane_kept {ps : List Part} {K : Nat → Prop} {z0 : State} (s : State) (n : Nat) (cause : Nat) (hwonel : Part.wonel ∈ ps)
    (hflt : Part.flt ∈ ps) (hlanes : Part.lanes ∈ ps) (hlinks : Part.links ∈ ps) (hgalley : Part.galley ∈ ps) (hsched : Part.sched ∈ ps)
    (hports : Part.ports ∈ ps) (htables : Part.tables ∈ ps) (htelem : Part.telem ∈ ps) (htim : Part.tim ∈ ps) (hptp : Part.ptp ∈ ps)
    (hcmp : Part.cmp ∈ ps) (hmem : Part.mem ∈ ps) (hdict : Part.dict ∈ ps) (hbusy : Part.busy ∈ ps) (hout : Part.out ∈ ps) (hfresh : Part.fresh ∈ ps)
    (ko : BufferKeys K) (oCTR_LPI_RX_US : ∀ i, K (Obj.CTR_LPI_RX_US i)) (oCTR_LPI_TX_US : ∀ i, K (Obj.CTR_LPI_TX_US i))
    (oCTR_RX_ABORTED : ∀ i, K (Obj.CTR_RX_ABORTED i)) (oCTR_TX_ABORTED : ∀ i, K (Obj.CTR_TX_ABORTED i))
    (oCTR_TX_FLUSHED : ∀ i, K (Obj.CTR_TX_FLUSHED i)) (oCTR_TX_FRAMES : ∀ i, K (Obj.CTR_TX_FRAMES i)) (oCTR_TX_OCTETS : ∀ i, K (Obj.CTR_TX_OCTETS i))
    (oCTR_TX_PAUSE : ∀ i, K (Obj.CTR_TX_PAUSE i)) (oGAL_CT_BAD : K Obj.GAL_CT_BAD) (oLN_ADAPT : ∀ i, K (Obj.LN_ADAPT i))
    (oLN_EYE_RESULT : ∀ i, K (Obj.LN_EYE_RESULT i)) (oLN_EYE_RUN : ∀ i, K (Obj.LN_EYE_RUN i)) (oPT_LINK_CHANGES : ∀ i, K (Obj.PT_LINK_CHANGES i))
    (oQ_FLUSH_STATE : ∀ i, K (Obj.Q_FLUSH_STATE i)) (oTBL_LRN_INSTALLS : ∀ i, K (Obj.TBL_LRN_INSTALLS i)) (hK : Kept ps K z0 s)
    : Kept ps K z0 (State.failLane s n cause) := by
  unfold State.failLane
  repeat' (first | with_reducible intro _ | with_reducible assumption | exact ko.toReactKeys | with_reducible exact oCTR_LPI_RX_US _
                 | with_reducible exact oCTR_LPI_TX_US _ | with_reducible exact oCTR_RX_ABORTED _ | with_reducible exact oCTR_TX_ABORTED _
                 | with_reducible exact oCTR_TX_FLUSHED _ | with_reducible exact oCTR_TX_FRAMES _ | with_reducible exact oCTR_TX_OCTETS _
                 | with_reducible exact oCTR_TX_PAUSE _ | with_reducible exact oLN_ADAPT _ | with_reducible exact oLN_EYE_RESULT _
                 | with_reducible exact oLN_EYE_RUN _ | with_reducible exact oPT_LINK_CHANGES _ | with_reducible exact oQ_FLUSH_STATE _
                 | with_reducible exact oTBL_LRN_INSTALLS _ | with_reducible apply State.modLane_kept | with_reducible apply State.stopLane_kept
                 | with_reducible apply State.linkDown_kept | with_reducible apply State.losePcs_kept | with_reducible apply State.report_kept
                 | with_reducible apply State.latch_kept | with_reducible apply Kept.ite | split)

theorem startLnRelease_kept {ps : List Part} {K : Nat → Prop} {z0 : State} (s : State) (n : Nat) (gone : Bool) (hwonel : Part.wonel ∈ ps) (hflt : Part.flt ∈ ps)
    (hlanes : Part.lanes ∈ ps) (hports : Part.ports ∈ ps) (hdict : Part.dict ∈ ps) (hbusy : Part.busy ∈ ps) (hall : ∀ k, K k) (hK : Kept ps K z0 s)
    : Kept ps K z0 (startLnRelease s n gone).2 := by
  unfold startLnRelease
  repeat' (first | with_reducible assumption | exact hall _ | with_reducible apply State.runOnce_kept | with_reducible apply State.laneEval_kept
                 | with_reducible apply State.modLane_kept | with_reducible apply State.causeEnds_kept | with_reducible apply State.clearSource_kept | with_reducible apply Kept.ite
                 | with_reducible apply Kept.ite_snd)

theorem startLnAdapt_kept {ps : List Part} {K : Nat → Prop} {z0 : State} (s : State) (n : Nat) (hwonel : Part.wonel ∈ ps) (hflt : Part.flt ∈ ps)
    (hlanes : Part.lanes ∈ ps) (hlinks : Part.links ∈ ps) (hgalley : Part.galley ∈ ps) (hsched : Part.sched ∈ ps) (hports : Part.ports ∈ ps)
    (htables : Part.tables ∈ ps) (htelem : Part.telem ∈ ps) (htim : Part.tim ∈ ps) (hptp : Part.ptp ∈ ps) (hcmp : Part.cmp ∈ ps)
    (hmem : Part.mem ∈ ps) (hdict : Part.dict ∈ ps) (hbusy : Part.busy ∈ ps) (hout : Part.out ∈ ps) (hfresh : Part.fresh ∈ ps) (hall : ∀ k, K k) (hK
    : Kept ps K z0 s) : Kept ps K z0 (startLnAdapt s n).2 := by
  unfold startLnAdapt
  repeat' (first | with_reducible intro _ | with_reducible assumption | exact hall _ | exact BufferKeys.ofAll hall
                 | with_reducible apply State.runOnce_kept | with_reducible apply State.readapt_kept | with_reducible apply State.runBegin_kept
                 | with_reducible apply State.linkDown_kept | with_reducible apply Kept.ite_snd | split | dsimp only)

theorem startLnEyeRun_kept {ps : List Part} {K : Nat → Prop} {z0 : State} (s : State) (n : Nat) (hlanes : Part.lanes ∈ ps) (hdict : Part.dict ∈ ps)
    (hbusy : Part.busy ∈ ps) (oLN_EYE_COUNT : ∀ i, K (Obj.LN_EYE_COUNT i)) (oLN_EYE_RESULT : ∀ i, K (Obj.LN_EYE_RESULT i)) (hK : Kept ps K z0 s)
    : Kept ps K z0 (startLnEyeRun s n).2 := by
  unfold startLnEyeRun
  repeat' (first | with_reducible assumption | with_reducible exact oLN_EYE_COUNT _ | with_reducible exact oLN_EYE_RESULT _
                 | with_reducible apply State.modLane_kept | with_reducible apply State.put_kept | with_reducible apply State.runBegin_kept
                 | with_reducible apply Kept.ite_snd)

end Sys2Proof.Machine
end

