-- ==== Sys2Proof/Laws/KeptDieLinks.lean ====
section
/-! SUPPORT. What the operations of Machine/DieLinks.lean keep (Laws/Kept.lean). -/

namespace Sys2Proof.Machine
open Sys2Proof

theorem State.octetOn_kept {ps : List Part} {K : Nat → Prop} {z0 : State} (s : State) (o : Nat) (hwonel : Part.wonel ∈ ps) (hlinks : Part.links ∈ ps)
    (hdict : Part.dict ∈ ps) (oQD_OCTETS_SHED : ∀ i, K (Obj.QD_OCTETS_SHED i)) (hK : Kept ps K z0 s) : Kept ps K z0 (State.octetOn s o) := by
  unfold State.octetOn
  repeat' (first | with_reducible intro _ | with_reducible assumption | with_reducible exact oQD_OCTETS_SHED _
                 | with_reducible apply State.shedOctet_kept | with_reducible apply Kept.ite)

theorem State.lastRepair_kept {ps : List Part} {K : Nat → Prop} {z0 : State} (s : State) (q : Nat) (reason : Nat) (dir : Nat) (logical : Nat)
    (p : Nat) (dest : Nat) (hdict : Part.dict ∈ ps) (oQD_LAST_REPAIR : ∀ i, K (Obj.QD_LAST_REPAIR i))
    (oQD_LAST_REPAIR_TIME : ∀ i, K (Obj.QD_LAST_REPAIR_TIME i)) (hK : Kept ps K z0 s) : Kept ps K z0 (State.lastRepair s q reason dir logical p dest)
    := by
  unfold State.lastRepair
  repeat' (first | with_reducible assumption | with_reducible exact oQD_LAST_REPAIR _ | with_reducible exact oQD_LAST_REPAIR_TIME _
                 | with_reducible apply State.put_kept)

theorem State.retireLane_kept {ps : List Part} {K : Nat → Prop} {z0 : State} (s : State) (q : Nat) (dir : Nat) (p : Nat) (hlinks : Part.links ∈ ps)
    (hK : Kept ps K z0 s) : Kept ps K z0 (State.retireLane s q dir p) := by
  unfold State.retireLane
  repeat' (first | with_reducible assumption | with_reducible apply State.modDlane_kept)

theorem State.retireSpare_kept {ps : List Part} {K : Nat → Prop} {z0 : State} (s : State) (q : Nat) (dir : Nat) (p : Nat) (reason : Nat)
    (hflt : Part.flt ∈ ps) (hlinks : Part.links ∈ ps) (hdict : Part.dict ∈ ps) (oQD_LAST_REPAIR : ∀ i, K (Obj.QD_LAST_REPAIR i))
    (oQD_LAST_REPAIR_TIME : ∀ i, K (Obj.QD_LAST_REPAIR_TIME i)) (hK : Kept ps K z0 s) : Kept ps K z0 (State.retireSpare s q dir p reason) := by
  unfold State.retireSpare
  repeat' (first | with_reducible intro _ | with_reducible assumption | with_reducible exact oQD_LAST_REPAIR _
                 | with_reducible exact oQD_LAST_REPAIR_TIME _ | with_reducible apply State.lastRepair_kept
                 | with_reducible apply State.modSource_kept | with_reducible apply State.retireLane_kept)

theorem State.mapDirection_kept {ps : List Part} {K : Nat → Prop} {z0 : State} (s : State) (q : Nat) (dir : Nat) (stored : List (Nat × Nat))
    (bad : List Nat) (hwonel : Part.wonel ∈ ps) (hlinks : Part.links ∈ ps) (hdict : Part.dict ∈ ps) (oQD_LAST_REPAIR : ∀ i, K (Obj.QD_LAST_REPAIR i))
    (oQD_LAST_REPAIR_TIME : ∀ i, K (Obj.QD_LAST_REPAIR_TIME i)) (oQD_OCTETS_SHED : ∀ i, K (Obj.QD_OCTETS_SHED i))
    (oQD_REPAIRS : ∀ i, K (Obj.QD_REPAIRS i)) (hK : Kept ps K z0 s) : Kept ps K z0 (State.mapDirection s q dir stored bad) := by
  unfold State.mapDirection
  repeat' (first | with_reducible intro _ | with_reducible assumption | with_reducible exact oQD_LAST_REPAIR _
                 | with_reducible exact oQD_LAST_REPAIR_TIME _ | with_reducible exact oQD_OCTETS_SHED _ | with_reducible exact oQD_REPAIRS _
                 | with_reducible apply State.modDlane_kept | with_reducible apply State.shedOctet_kept
                 | with_reducible apply State.retireLane_kept | with_reducible apply State.bump_kept | with_reducible apply State.lastRepair_kept
                 | with_reducible apply Kept.foldl | with_reducible apply Kept.ite | split | dsimp only)

theorem State.restartRepair_kept {ps : List Part} {K : Nat → Prop} {z0 : State} (s : State) (q : Nat) (r : LinkRepair) (reason : Nat)
    (hflt : Part.flt ∈ ps) (hlinks : Part.links ∈ ps) (hdict : Part.dict ∈ ps) (oQD_LAST_REPAIR : ∀ i, K (Obj.QD_LAST_REPAIR i))
    (oQD_LAST_REPAIR_TIME : ∀ i, K (Obj.QD_LAST_REPAIR_TIME i)) (hK : Kept ps K z0 s) : Kept ps K z0 (State.restartRepair s q r reason) := by
  unfold State.restartRepair
  repeat' (first | with_reducible intro _ | with_reducible assumption | with_reducible exact oQD_LAST_REPAIR _
                 | with_reducible exact oQD_LAST_REPAIR_TIME _ | with_reducible apply State.modLink_kept
                 | with_reducible apply State.retireSpare_kept | exact Or.inl ‹_› | with_reducible exact Or.inr rfl
                 | with_reducible exact Or.inl rfl | dsimp only | with_reducible exact Nat.le_max_right _ _ | with_reducible apply Kept.all)

theorem State.linkEvent_kept {ps : List Part} {K : Nat → Prop} {z0 : State} (s : State) (q : Nat) (dir : Nat) (p : Nat) (cause : Nat)
    (immediate : Bool) (hwonel : Part.wonel ∈ ps) (hflt : Part.flt ∈ ps) (hlinks : Part.links ∈ ps) (hgalley : Part.galley ∈ ps)
    (htables : Part.tables ∈ ps) (htim : Part.tim ∈ ps) (hcmp : Part.cmp ∈ ps) (hdict : Part.dict ∈ ps) (hout : Part.out ∈ ps)
    (hfresh : Part.fresh ∈ ps) (ko : ReactKeys K) (oQD_LAST_REPAIR : ∀ i, K (Obj.QD_LAST_REPAIR i))
    (oQD_LAST_REPAIR_TIME : ∀ i, K (Obj.QD_LAST_REPAIR_TIME i)) (hK : Kept ps K z0 s) : Kept ps K z0 (State.linkEvent s q dir p cause immediate) := by
  unfold State.linkEvent
  repeat' (first | with_reducible intro _ | with_reducible assumption | with_reducible exact oQD_LAST_REPAIR _
                 | with_reducible exact oQD_LAST_REPAIR_TIME _ | with_reducible apply State.retireSpare_kept
                 | with_reducible apply State.report_kept | with_reducible apply State.restartRepair_kept | with_reducible apply Kept.ite
                 | exact Or.inl ‹_› | with_reducible exact Or.inr rfl | with_reducible exact Or.inl rfl | split | dsimp only
                 | with_reducible exact Nat.le_max_right _ _ | with_reducible apply Kept.all)

theorem State.comparePhase_kept {ps : List Part} {K : Nat → Prop} {z0 : State} (s : State) (q : Nat) (e : Int) (hwonel : Part.wonel ∈ ps)
    (hflt : Part.flt ∈ ps) (hlinks : Part.links ∈ ps) (hgalley : Part.galley ∈ ps) (htables : Part.tables ∈ ps) (htim : Part.tim ∈ ps)
    (hcmp : Part.cmp ∈ ps) (hdict : Part.dict ∈ ps) (hout : Part.out ∈ ps) (hfresh : Part.fresh ∈ ps) (ko : ReactKeys K)
    (oTIM_EVENT_LOST : K Obj.TIM_EVENT_LOST) (oTIM_REPLICA_VALID : K Obj.TIM_REPLICA_VALID) (hK : Kept ps K z0 s)
    : Kept ps K z0 (State.comparePhase s q e) := by
  unfold State.comparePhase
  repeat' (first | with_reducible intro _ | with_reducible assumption | with_reducible exact ko.events | with_reducible exact ko.lost
                 | with_reducible apply State.causeEnds_kept | with_reducible apply State.timeEvent_kept
                 | with_reducible apply State.putBit_kept | with_reducible apply State.failureOf_kept | with_reducible apply Kept.ite
                 | exact Or.inl ‹_› | with_reducible exact Or.inr rfl | with_reducible exact Or.inl rfl | dsimp only
                 | with_reducible exact Nat.le_max_right _ _ | with_reducible apply Kept.all)

theorem State.acceptMarker_kept {ps : List Part} {K : Nat → Prop} {z0 : State} (s : State) (q : Nat) (dir : Nat) (lane : Nat)
    (hwonel : Part.wonel ∈ ps) (hflt : Part.flt ∈ ps) (hlinks : Part.links ∈ ps) (hgalley : Part.galley ∈ ps) (htables : Part.tables ∈ ps)
    (htim : Part.tim ∈ ps) (hcmp : Part.cmp ∈ ps) (hdict : Part.dict ∈ ps) (hout : Part.out ∈ ps) (hfresh : Part.fresh ∈ ps) (ko : ReactKeys K)
    (oTIM_EVENT_LOST : K Obj.TIM_EVENT_LOST) (oTIM_REPLICA_VALID : K Obj.TIM_REPLICA_VALID) (hK : Kept ps K z0 s)
    : Kept ps K z0 (State.acceptMarker s q dir lane) := by
  unfold State.acceptMarker
  repeat' (first | with_reducible assumption | with_reducible apply State.modLink_kept | with_reducible apply State.comparePhase_kept)

theorem State.bodyLost_kept {ps : List Part} {K : Nat → Prop} {z0 : State} (s : State) (q : Nat) (dir : Nat) (lane : Nat) (slot : Nat)
    (hwonel : Part.wonel ∈ ps) (hflt : Part.flt ∈ ps) (hlinks : Part.links ∈ ps) (hgalley : Part.galley ∈ ps) (hsched : Part.sched ∈ ps)
    (hports : Part.ports ∈ ps) (htables : Part.tables ∈ ps) (htelem : Part.telem ∈ ps) (htim : Part.tim ∈ ps) (hcmp : Part.cmp ∈ ps)
    (hmem : Part.mem ∈ ps) (hdict : Part.dict ∈ ps) (hbusy : Part.busy ∈ ps) (hout : Part.out ∈ ps) (hfresh : Part.fresh ∈ ps) (ko : BufferKeys K)
    (oCTR_RX_FCS_ERR : ∀ i, K (Obj.CTR_RX_FCS_ERR i)) (oCTR_TX_FRAMES : ∀ i, K (Obj.CTR_TX_FRAMES i)) (oCTR_TX_OCTETS : ∀ i, K (Obj.CTR_TX_OCTETS i))
    (oCTR_TX_PAUSE : ∀ i, K (Obj.CTR_TX_PAUSE i)) (oQD_LOST_SLOTS : ∀ i, K (Obj.QD_LOST_SLOTS i)) (hK : Kept ps K z0 s)
    : Kept ps K z0 (State.bodyLost s q dir lane slot) := by
  unfold State.bodyLost
  repeat' (first | with_reducible intro _ | with_reducible assumption | with_reducible exact oCTR_RX_FCS_ERR _
                 | with_reducible exact oCTR_TX_FRAMES _ | with_reducible exact oCTR_TX_OCTETS _ | with_reducible exact oCTR_TX_PAUSE _
                 | with_reducible exact oQD_LOST_SLOTS _ | with_reducible apply State.modLink_kept | with_reducible apply State.bump_kept
                 | with_reducible apply State.modPort_kept | with_reducible apply State.dropTx_kept | with_reducible apply Kept.ite | split
                 | dsimp only)

theorem State.countBody_kept {ps : List Part} {K : Nat → Prop} {z0 : State} (s : State) (q : Nat) (dir : Nat) (lane : Nat) (slot : Nat) (ok : Bool)
    (htelem : Part.telem ∈ ps) (hK : Kept ps K z0 s) : Kept ps K z0 (State.countBody s q dir lane slot ok) := by
  unfold State.countBody
  repeat' (first | with_reducible assumption | with_reducible apply State.pmc_kept | with_reducible apply Kept.ite)

theorem State.slotUnlocked_kept {ps : List Part} {K : Nat → Prop} {z0 : State} (s : State) (q : Nat) (dir : Nat) (lane : Nat) (slot : Nat)
    (x : LinkSlot) (hwonel : Part.wonel ∈ ps) (hflt : Part.flt ∈ ps) (hlinks : Part.links ∈ ps) (hgalley : Part.galley ∈ ps)
    (hsched : Part.sched ∈ ps) (hports : Part.ports ∈ ps) (htables : Part.tables ∈ ps) (htelem : Part.telem ∈ ps) (htim : Part.tim ∈ ps)
    (hcmp : Part.cmp ∈ ps) (hmem : Part.mem ∈ ps) (hdict : Part.dict ∈ ps) (hbusy : Part.busy ∈ ps) (hout : Part.out ∈ ps) (hfresh : Part.fresh ∈ ps)
    (ko : BufferKeys K) (oCTR_RX_FCS_ERR : ∀ i, K (Obj.CTR_RX_FCS_ERR i)) (oCTR_TX_FRAMES : ∀ i, K (Obj.CTR_TX_FRAMES i))
    (oCTR_TX_OCTETS : ∀ i, K (Obj.CTR_TX_OCTETS i)) (oCTR_TX_PAUSE : ∀ i, K (Obj.CTR_TX_PAUSE i)) (oQD_LOST_SLOTS : ∀ i, K (Obj.QD_LOST_SLOTS i)) (hK
    : Kept ps K z0 s) : Kept ps K z0 (State.slotUnlocked s q dir lane slot x) := by
  unfold State.slotUnlocked
  repeat' (first | with_reducible intro _ | with_reducible assumption | with_reducible exact oCTR_RX_FCS_ERR _
                 | with_reducible exact oCTR_TX_FRAMES _ | with_reducible exact oCTR_TX_OCTETS _ | with_reducible exact oCTR_TX_PAUSE _
                 | with_reducible exact oQD_LOST_SLOTS _ | with_reducible apply State.modDlane_kept | with_reducible apply State.bodyLost_kept
                 | with_reducible apply Kept.ite)

theorem State.slotGood_kept {ps : List Part} {K : Nat → Prop} {z0 : State} (s : State) (q : Nat) (dir : Nat) (lane : Nat) (slot : Nat) (body : Nat)
    (hlinks : Part.links ∈ ps) (hK : Kept ps K z0 s) : Kept ps K z0 (State.slotGood s q dir lane slot body) := by
  unfold State.slotGood
  repeat' (first | with_reducible assumption | with_reducible apply State.modLink_kept | with_reducible apply Kept.ite | split)

theorem State.slotBad_kept {ps : List Part} {K : Nat → Prop} {z0 : State} (s : State) (q : Nat) (dir : Nat) (lane : Nat) (slot : Nat) (again : Bool)
    (hwonel : Part.wonel ∈ ps) (hflt : Part.flt ∈ ps) (hlinks : Part.links ∈ ps) (hgalley : Part.galley ∈ ps) (hsched : Part.sched ∈ ps)
    (hports : Part.ports ∈ ps) (htables : Part.tables ∈ ps) (htelem : Part.telem ∈ ps) (htim : Part.tim ∈ ps) (hcmp : Part.cmp ∈ ps)
    (hmem : Part.mem ∈ ps) (hdict : Part.dict ∈ ps) (hbusy : Part.busy ∈ ps) (hout : Part.out ∈ ps) (hfresh : Part.fresh ∈ ps) (ko : BufferKeys K)
    (oCTR_RX_FCS_ERR : ∀ i, K (Obj.CTR_RX_FCS_ERR i)) (oCTR_TX_FRAMES : ∀ i, K (Obj.CTR_TX_FRAMES i)) (oCTR_TX_OCTETS : ∀ i, K (Obj.CTR_TX_OCTETS i))
    (oCTR_TX_PAUSE : ∀ i, K (Obj.CTR_TX_PAUSE i)) (oQD_CRC_DOWN : ∀ i, K (Obj.QD_CRC_DOWN i)) (oQD_CRC_UP : ∀ i, K (Obj.QD_CRC_UP i))
    (oQD_LAST_REPAIR : ∀ i, K (Obj.QD_LAST_REPAIR i)) (oQD_LAST_REPAIR_TIME : ∀ i, K (Obj.QD_LAST_REPAIR_TIME i))
    (oQD_LOST_SLOTS : ∀ i, K (Obj.QD_LOST_SLOTS i)) (hK : Kept ps K z0 s) : Kept ps K z0 (State.slotBad s q dir lane slot again) := by
  unfold State.slotBad
  repeat' (first | with_reducible intro _ | with_reducible assumption | exact ko.toReactKeys | with_reducible exact oCTR_RX_FCS_ERR _
                 | with_reducible exact oCTR_TX_FRAMES _ | with_reducible exact oCTR_TX_OCTETS _ | with_reducible exact oCTR_TX_PAUSE _
                 | with_reducible exact oQD_CRC_DOWN _ | with_reducible exact oQD_CRC_UP _ | with_reducible exact oQD_LAST_REPAIR _
                 | with_reducible exact oQD_LAST_REPAIR_TIME _ | with_reducible exact oQD_LOST_SLOTS _ | with_reducible apply State.pmc_kept
                 | with_reducible apply State.bump_kept | with_reducible apply State.bodyLost_kept | with_reducible apply State.linkEvent_kept
                 | with_reducible apply Kept.ite | split)

theorem State.takeSlot_kept {ps : List Part} {K : Nat → Prop} {z0 : State} (s : State) (q : Nat) (dir : Nat) (lane : Nat) (own : Nat) (wire : Bytes)
    (hwonel : Part.wonel ∈ ps) (hflt : Part.flt ∈ ps) (hlinks : Part.links ∈ ps) (hgalley : Part.galley ∈ ps) (hsched : Part.sched ∈ ps)
    (hports : Part.ports ∈ ps) (htables : Part.tables ∈ ps) (htelem : Part.telem ∈ ps) (htim : Part.tim ∈ ps) (hcmp : Part.cmp ∈ ps)
    (hmem : Part.mem ∈ ps) (hdict : Part.dict ∈ ps) (hbusy : Part.busy ∈ ps) (hout : Part.out ∈ ps) (hfresh : Part.fresh ∈ ps) (ko : BufferKeys K)
    (oCTR_RX_FCS_ERR : ∀ i, K (Obj.CTR_RX_FCS_ERR i)) (oCTR_TX_FRAMES : ∀ i, K (Obj.CTR_TX_FRAMES i)) (oCTR_TX_OCTETS : ∀ i, K (Obj.CTR_TX_OCTETS i))
    (oCTR_TX_PAUSE : ∀ i, K (Obj.CTR_TX_PAUSE i)) (oQD_CRC_DOWN : ∀ i, K (Obj.QD_CRC_DOWN i)) (oQD_CRC_UP : ∀ i, K (Obj.QD_CRC_UP i))
    (oQD_LAST_REPAIR : ∀ i, K (Obj.QD_LAST_REPAIR i)) (oQD_LAST_REPAIR_TIME : ∀ i, K (Obj.QD_LAST_REPAIR_TIME i))
    (oQD_LOST_SLOTS : ∀ i, K (Obj.QD_LOST_SLOTS i)) (oTIM_EVENT_LOST : K Obj.TIM_EVENT_LOST) (oTIM_REPLICA_VALID : K Obj.TIM_REPLICA_VALID) (hK
    : Kept ps K z0 s) : Kept ps K z0 (State.takeSlot s q dir lane own wire) := by
  unfold State.takeSlot
  repeat' (first | with_reducible intro _ | with_reducible assumption | exact ko.toReactKeys | with_reducible exact oCTR_RX_FCS_ERR _
                 | with_reducible exact oCTR_TX_FRAMES _ | with_reducible exact oCTR_TX_OCTETS _ | with_reducible exact oCTR_TX_PAUSE _
                 | with_reducible exact oQD_CRC_DOWN _ | with_reducible exact oQD_CRC_UP _ | with_reducible exact oQD_LAST_REPAIR _
                 | with_reducible exact oQD_LAST_REPAIR_TIME _ | with_reducible exact oQD_LOST_SLOTS _
                 | with_reducible apply State.slotUnlocked_kept | with_reducible apply State.countBody_kept
                 | with_reducible apply State.modDlane_kept | with_reducible apply State.slotGood_kept | with_reducible apply State.slotBad_kept
                 | with_reducible apply State.linkEvent_kept | with_reducible apply State.acceptMarker_kept | with_reducible apply Kept.ite)

theorem State.repairFails_kept {ps : List Part} {K : Nat → Prop} {z0 : State} (s : State) (q : Nat) (r : Repair) (tile : Nat)
    (hwonel : Part.wonel ∈ ps) (hflt : Part.flt ∈ ps) (hlinks : Part.links ∈ ps) (htim : Part.tim ∈ ps) (hdict : Part.dict ∈ ps)
    (hbusy : Part.busy ∈ ps) (hout : Part.out ∈ ps) (oFLT_EVENTS : K Obj.FLT_EVENTS) (oFLT_EVENT_LOST : K Obj.FLT_EVENT_LOST) (oFLT_RUNGS : K Obj.FLT_RUNGS)
    (oFLT_STATE : K Obj.FLT_STATE) (oID_SAFE_CAUSE : K Obj.ID_SAFE_CAUSE) (oQD_OCTETS_SHED : ∀ i, K (Obj.QD_OCTETS_SHED i))
    (oQD_REPAIR : ∀ i, K (Obj.QD_REPAIR i)) (hK : Kept ps K z0 s) : Kept ps K z0 (State.repairFails s q r tile) := by
  unfold State.repairFails
  repeat' (first | with_reducible intro _ | with_reducible assumption | with_reducible exact oQD_OCTETS_SHED _
                 | with_reducible exact oQD_REPAIR _ | with_reducible apply State.rungAfter1_kept | with_reducible apply State.modSource_kept
                 | with_reducible apply State.runEnd_kept | exact Or.inl ‹_› | with_reducible exact Or.inr rfl | with_reducible exact Or.inl rfl
                 | split | dsimp only | with_reducible exact Nat.le_max_right _ _ | with_reducible apply Kept.all)

theorem State.repairVoid_kept {ps : List Part} {K : Nat → Prop} {z0 : State} (s : State) (q : Nat) (r : Repair) (hflt : Part.flt ∈ ps)
    (hdict : Part.dict ∈ ps) (hbusy : Part.busy ∈ ps) (oQD_REPAIR : ∀ i, K (Obj.QD_REPAIR i)) (hK : Kept ps K z0 s)
    : Kept ps K z0 (State.repairVoid s q r) := by
  unfold State.repairVoid
  repeat' (first | with_reducible intro _ | with_reducible assumption | with_reducible exact oQD_REPAIR _
                 | with_reducible apply State.modSource_kept | with_reducible apply State.runEnd_kept | with_reducible apply Kept.ite
                 | exact Or.inl ‹_› | with_reducible exact Or.inr rfl | with_reducible exact Or.inl rfl | split | dsimp only
                 | with_reducible exact Nat.le_max_right _ _ | with_reducible apply Kept.all)

theorem startQdRepair_kept {ps : List Part} {K : Nat → Prop} {z0 : State} (s : State) (q : Nat) (hwonel : Part.wonel ∈ ps) (hflt : Part.flt ∈ ps)
    (hlinks : Part.links ∈ ps) (hdict : Part.dict ∈ ps) (hbusy : Part.busy ∈ ps) (hall : ∀ k, K k) (hK : Kept ps K z0 s)
    : Kept ps K z0 (startQdRepair s q).2 := by
  unfold startQdRepair
  repeat' (first | with_reducible intro _ | with_reducible assumption | exact hall _ | with_reducible apply State.runOnce_kept
                 | with_reducible apply State.note_kept | with_reducible apply State.retireSpare_kept | with_reducible apply State.runBegin_kept
                 | with_reducible apply Kept.ite_snd | exact Or.inl ‹_› | with_reducible exact Or.inr rfl | with_reducible exact Or.inl rfl
                 | dsimp only | with_reducible exact Nat.le_max_right _ _ | with_reducible apply Kept.all)

end Sys2Proof.Machine
end

