-- ==== Sys2Proof/Laws/KeptStages.lean ====
section
/-! SUPPORT. What the operations of Machine/Stages.lean keep (Laws/Kept.lean). -/

namespace Sys2Proof.Machine
open Sys2Proof

theorem State.modPipe_kept {ps : List Part} {K : Nat → Prop} {z0 : State} (s : State) (k : Nat) (f : Pipe → Pipe) (hpipes : Part.pipes ∈ ps) (hK
    : Kept ps K z0 s) : Kept ps K z0 (State.modPipe s k f) := by
  unfold State.modPipe
  repeat' (first | with_reducible intro _ | with_reducible assumption | exact Or.inl ‹_› | with_reducible exact Or.inr rfl
                 | with_reducible exact Or.inl rfl | dsimp only | with_reducible exact Nat.le_max_right _ _ | with_reducible apply Kept.all)

theorem State.progRead_kept {ps : List Part} {K : Nat → Prop} {z0 : State} (s : State) (pipe : Nat) (bank : Bool) (arr : Nat) (idx : Nat)
    (hwonel : Part.wonel ∈ ps) (hflt : Part.flt ∈ ps) (hlinks : Part.links ∈ ps) (hgalley : Part.galley ∈ ps) (htables : Part.tables ∈ ps)
    (htim : Part.tim ∈ ps) (hcmp : Part.cmp ∈ ps) (hmem : Part.mem ∈ ps) (hdict : Part.dict ∈ ps) (hbusy : Part.busy ∈ ps) (hout : Part.out ∈ ps)
    (hfresh : Part.fresh ∈ ps) (ko : CodedKeys K) (hK : Kept ps K z0 s) : Kept ps K z0 (State.progRead s pipe bank arr idx).2 := by
  unfold State.progRead
  repeat' (first | with_reducible intro _ | with_reducible assumption | with_reducible apply State.readWord_kept
                 | with_reducible apply Kept.foldl_snd)

theorem State.parse_kept {ps : List Part} {K : Nat → Prop} {z0 : State} (s : State) (pipe : Nat) (bank : Bool) (w : Bytes) (hwonel : Part.wonel ∈ ps)
    (hflt : Part.flt ∈ ps) (hlinks : Part.links ∈ ps) (hgalley : Part.galley ∈ ps) (htables : Part.tables ∈ ps) (htim : Part.tim ∈ ps)
    (hcmp : Part.cmp ∈ ps) (hmem : Part.mem ∈ ps) (hdict : Part.dict ∈ ps) (hbusy : Part.busy ∈ ps) (hout : Part.out ∈ ps) (hfresh : Part.fresh ∈ ps)
    (ko : CodedKeys K) (oPLN_PARSE_ERR : ∀ i, K (Obj.PLN_PARSE_ERR i)) (hK : Kept ps K z0 s) : Kept ps K z0 (State.parse s pipe bank w).2.2 := by
  unfold State.parse
  repeat' (first | with_reducible intro _ | with_reducible assumption | with_reducible exact oPLN_PARSE_ERR _
                 | with_reducible apply State.progRead_kept | with_reducible apply State.bump_kept | with_reducible apply Kept.foldl_snd
                 | with_reducible apply Kept.ite)

theorem State.lookup_kept {ps : List Part} {K : Nat → Prop} {z0 : State} (s : State) (pipe : Nat) (p : Pkt) (w : Nat) (hwonel : Part.wonel ∈ ps)
    (hflt : Part.flt ∈ ps) (hlinks : Part.links ∈ ps) (hgalley : Part.galley ∈ ps) (hsched : Part.sched ∈ ps) (htables : Part.tables ∈ ps)
    (htim : Part.tim ∈ ps) (hcmp : Part.cmp ∈ ps) (hmem : Part.mem ∈ ps) (hdict : Part.dict ∈ ps) (hbusy : Part.busy ∈ ps) (hout : Part.out ∈ ps)
    (hfresh : Part.fresh ∈ ps) (ko : CodedKeys K) (oFLT_DIAG_LOGGED : K Obj.FLT_DIAG_LOGGED) (oTBL_EVENT_LOST : K Obj.TBL_EVENT_LOST)
    (oTBL_LRN_FULL : ∀ i, K (Obj.TBL_LRN_FULL i)) (oTBL_LRN_INJ_DROPS : ∀ i, K (Obj.TBL_LRN_INJ_DROPS i))
    (oTBL_LRN_INSTALLS : ∀ i, K (Obj.TBL_LRN_INSTALLS i)) (oTBL_LRN_LAG_MAX : ∀ i, K (Obj.TBL_LRN_LAG_MAX i))
    (oTBL_LRN_STATIC_MOVES : ∀ i, K (Obj.TBL_LRN_STATIC_MOVES i)) (oTBL_LRN_SUPPRESSED : ∀ i, K (Obj.TBL_LRN_SUPPRESSED i)) (hK : Kept ps K z0 s)
    : Kept ps K z0 (State.lookup s pipe p w).2 := by
  unfold State.lookup
  repeat' (first | (unfold directSlot; dsimp only) | (unfold lpmSlot; dsimp only) | with_reducible intro _ | with_reducible assumption
                 | with_reducible exact oTBL_LRN_FULL _ | with_reducible exact oTBL_LRN_INJ_DROPS _ | with_reducible exact oTBL_LRN_INSTALLS _
                 | with_reducible exact oTBL_LRN_LAG_MAX _ | with_reducible exact oTBL_LRN_STATIC_MOVES _
                 | with_reducible exact oTBL_LRN_SUPPRESSED _ | with_reducible apply State.labelRead_kept
                 | with_reducible apply State.nhRead_kept | with_reducible apply State.lpm_kept | with_reducible apply State.lookupDst_kept
                 | with_reducible apply State.lookupSrc_kept | with_reducible apply State.lookupPolicer_kept | split)

theorem State.ingressStage_kept {ps : List Part} {K : Nat → Prop} {z0 : State} (s : State) (pipe : Nat) (bank : Bool) (cls : Nat) (i : Nat) (x : Run)
    (hwonel : Part.wonel ∈ ps) (hflt : Part.flt ∈ ps) (hlinks : Part.links ∈ ps) (hgalley : Part.galley ∈ ps) (hsched : Part.sched ∈ ps)
    (htables : Part.tables ∈ ps) (htim : Part.tim ∈ ps) (hcmp : Part.cmp ∈ ps) (hmem : Part.mem ∈ ps) (hdict : Part.dict ∈ ps)
    (hbusy : Part.busy ∈ ps) (hout : Part.out ∈ ps) (hfresh : Part.fresh ∈ ps) (ko : CodedKeys K) (oFLT_DIAG_LOGGED : K Obj.FLT_DIAG_LOGGED)
    (oTBL_EVENT_LOST : K Obj.TBL_EVENT_LOST) (oTBL_LRN_FULL : ∀ i, K (Obj.TBL_LRN_FULL i)) (oTBL_LRN_INJ_DROPS : ∀ i, K (Obj.TBL_LRN_INJ_DROPS i))
    (oTBL_LRN_INSTALLS : ∀ i, K (Obj.TBL_LRN_INSTALLS i)) (oTBL_LRN_LAG_MAX : ∀ i, K (Obj.TBL_LRN_LAG_MAX i))
    (oTBL_LRN_STATIC_MOVES : ∀ i, K (Obj.TBL_LRN_STATIC_MOVES i)) (oTBL_LRN_SUPPRESSED : ∀ i, K (Obj.TBL_LRN_SUPPRESSED i)) (hK : Kept ps K z0 s)
    : Kept ps K z0 (State.ingressStage s pipe bank cls i x).2 := by
  unfold State.ingressStage
  repeat' (first | with_reducible intro _ | with_reducible assumption | with_reducible exact oTBL_LRN_FULL _
                 | with_reducible exact oTBL_LRN_INJ_DROPS _ | with_reducible exact oTBL_LRN_INSTALLS _ | with_reducible exact oTBL_LRN_LAG_MAX _
                 | with_reducible exact oTBL_LRN_STATIC_MOVES _ | with_reducible exact oTBL_LRN_SUPPRESSED _
                 | with_reducible apply State.progRead_kept | with_reducible apply State.lookup_kept | with_reducible apply Kept.ite_snd)

theorem State.ingressStages_kept {ps : List Part} {K : Nat → Prop} {z0 : State} (s : State) (pipe : Nat) (bank : Bool) (cls : Nat) (i : Nat) (x : Run)
    (n : Nat) (hwonel : Part.wonel ∈ ps) (hflt : Part.flt ∈ ps) (hlinks : Part.links ∈ ps) (hgalley : Part.galley ∈ ps) (hsched : Part.sched ∈ ps)
    (htables : Part.tables ∈ ps) (htim : Part.tim ∈ ps) (hcmp : Part.cmp ∈ ps) (hmem : Part.mem ∈ ps) (hdict : Part.dict ∈ ps)
    (hbusy : Part.busy ∈ ps) (hout : Part.out ∈ ps) (hfresh : Part.fresh ∈ ps) (ko : CodedKeys K) (oFLT_DIAG_LOGGED : K Obj.FLT_DIAG_LOGGED)
    (oTBL_EVENT_LOST : K Obj.TBL_EVENT_LOST) (oTBL_LRN_FULL : ∀ i, K (Obj.TBL_LRN_FULL i)) (oTBL_LRN_INJ_DROPS : ∀ i, K (Obj.TBL_LRN_INJ_DROPS i))
    (oTBL_LRN_INSTALLS : ∀ i, K (Obj.TBL_LRN_INSTALLS i)) (oTBL_LRN_LAG_MAX : ∀ i, K (Obj.TBL_LRN_LAG_MAX i))
    (oTBL_LRN_STATIC_MOVES : ∀ i, K (Obj.TBL_LRN_STATIC_MOVES i)) (oTBL_LRN_SUPPRESSED : ∀ i, K (Obj.TBL_LRN_SUPPRESSED i)) (hK : Kept ps K z0 s)
    : Kept ps K z0 (State.ingressStages s pipe bank cls i x n).2 := by
  induction n generalizing s pipe bank cls i x with
  | zero =>
    unfold State.ingressStages
    repeat' (first | with_reducible intro _ | with_reducible assumption | with_reducible exact oTBL_LRN_FULL _
                   | with_reducible exact oTBL_LRN_INJ_DROPS _ | with_reducible exact oTBL_LRN_INSTALLS _
                   | with_reducible exact oTBL_LRN_LAG_MAX _ | with_reducible exact oTBL_LRN_STATIC_MOVES _
                   | with_reducible exact oTBL_LRN_SUPPRESSED _ | with_reducible apply State.ingressStage_kept)
  | succ n ih =>
    unfold State.ingressStages
    repeat' (first | with_reducible intro _ | with_reducible assumption | with_reducible exact oTBL_LRN_FULL _
                   | with_reducible exact oTBL_LRN_INJ_DROPS _ | with_reducible exact oTBL_LRN_INSTALLS _
                   | with_reducible exact oTBL_LRN_LAG_MAX _ | with_reducible exact oTBL_LRN_STATIC_MOVES _
                   | with_reducible exact oTBL_LRN_SUPPRESSED _ | with_reducible apply State.ingressStage_kept | with_reducible apply ih)

theorem State.colophon_kept {ps : List Part} {K : Nat → Prop} {z0 : State} (s : State) (pipe : Nat) (p : Pkt) (w : Nat) (hdict : Part.dict ∈ ps)
    (oPLN_COLO_DONE : ∀ i, K (Obj.PLN_COLO_DONE i)) (oPLN_COLO_SKIPPED : ∀ i, K (Obj.PLN_COLO_SKIPPED i)) (hK : Kept ps K z0 s)
    : Kept ps K z0 (State.colophon s pipe p w).2 := by
  unfold State.colophon
  repeat' (first | with_reducible assumption | with_reducible exact oPLN_COLO_DONE _ | with_reducible exact oPLN_COLO_SKIPPED _
                 | with_reducible apply State.bump_kept | with_reducible apply Kept.ite_snd | split)

theorem State.egressStage_kept {ps : List Part} {K : Nat → Prop} {z0 : State} (s : State) (pipe : Nat) (bank : Bool) (cls : Nat) (j : Nat) (x : Run)
    (colo : Option Nat) (hwonel : Part.wonel ∈ ps) (hflt : Part.flt ∈ ps) (hlinks : Part.links ∈ ps) (hgalley : Part.galley ∈ ps)
    (htables : Part.tables ∈ ps) (htim : Part.tim ∈ ps) (hcmp : Part.cmp ∈ ps) (hmem : Part.mem ∈ ps) (hdict : Part.dict ∈ ps)
    (hbusy : Part.busy ∈ ps) (hout : Part.out ∈ ps) (hfresh : Part.fresh ∈ ps) (ko : CodedKeys K) (oPLN_COLO_DONE : ∀ i, K (Obj.PLN_COLO_DONE i))
    (oPLN_COLO_SKIPPED : ∀ i, K (Obj.PLN_COLO_SKIPPED i)) (hK : Kept ps K z0 s) : Kept ps K z0 (State.egressStage s pipe bank cls j x colo).2 := by
  unfold State.egressStage
  repeat' (first | with_reducible intro _ | with_reducible assumption | with_reducible exact oPLN_COLO_DONE _
                 | with_reducible exact oPLN_COLO_SKIPPED _ | with_reducible apply State.progRead_kept | with_reducible apply State.colophon_kept
                 | with_reducible apply Kept.ite_snd)

theorem State.egressStages_kept {ps : List Part} {K : Nat → Prop} {z0 : State} (s : State) (pipe : Nat) (bank : Bool) (cls : Nat) (j : Nat) (x : Run)
    (colo : Option Nat) (n : Nat) (hwonel : Part.wonel ∈ ps) (hflt : Part.flt ∈ ps) (hlinks : Part.links ∈ ps) (hgalley : Part.galley ∈ ps)
    (htables : Part.tables ∈ ps) (htim : Part.tim ∈ ps) (hcmp : Part.cmp ∈ ps) (hmem : Part.mem ∈ ps) (hdict : Part.dict ∈ ps)
    (hbusy : Part.busy ∈ ps) (hout : Part.out ∈ ps) (hfresh : Part.fresh ∈ ps) (ko : CodedKeys K) (oPLN_COLO_DONE : ∀ i, K (Obj.PLN_COLO_DONE i))
    (oPLN_COLO_SKIPPED : ∀ i, K (Obj.PLN_COLO_SKIPPED i)) (hK : Kept ps K z0 s) : Kept ps K z0 (State.egressStages s pipe bank cls j x colo n).2 := by
  induction n generalizing s pipe bank cls j x colo with
  | zero =>
    unfold State.egressStages
    repeat' (first | with_reducible intro _ | with_reducible assumption | with_reducible exact oPLN_COLO_DONE _
                   | with_reducible exact oPLN_COLO_SKIPPED _ | with_reducible apply State.egressStage_kept)
  | succ n ih =>
    unfold State.egressStages
    repeat' (first | with_reducible intro _ | with_reducible assumption | with_reducible exact oPLN_COLO_DONE _
                   | with_reducible exact oPLN_COLO_SKIPPED _ | with_reducible apply State.egressStage_kept | with_reducible apply ih)

end Sys2Proof.Machine
end

