-- ==== Sys2Proof/Laws/KeptPipeline.lean ====
section
/-! SUPPORT. What the operations of Machine/Pipeline.lean keep (Laws/Kept.lean). -/

namespace Sys2Proof.Machine
open Sys2Proof

theorem State.addRef_kept {ps : List Part} {K : Nat → Prop} {z0 : State} (s : State) (d : Nat) (n : Nat) (hgalley : Part.galley ∈ ps) (hK
    : Kept ps K z0 s) : Kept ps K z0 (State.addRef s d n) := by
  unfold State.addRef
  repeat' (first | with_reducible assumption | with_reducible apply State.modDescr_kept)

theorem State.proofOffer_kept {ps : List Part} {K : Nat → Prop} {z0 : State} (s : State) (p : Pkt) (d : Nat) (hgalley : Part.galley ∈ ps)
    (htelem : Part.telem ∈ ps) (hdict : Part.dict ∈ ps) (oPMC_PS_MISSED : ∀ i, K (Obj.PMC_PS_MISSED i)) (oPMC_PS_SEEN : ∀ i, K (Obj.PMC_PS_SEEN i))
    (oPMC_PS_SELECTED : ∀ i, K (Obj.PMC_PS_SELECTED i)) (hK : Kept ps K z0 s) : Kept ps K z0 (State.proofOffer s p d) := by
  unfold State.proofOffer
  repeat' (first | with_reducible intro _ | with_reducible assumption | with_reducible exact oPMC_PS_MISSED _
                 | with_reducible exact oPMC_PS_SEEN _ | with_reducible exact oPMC_PS_SELECTED _ | with_reducible apply State.bump_kept
                 | with_reducible apply State.addRef_kept | with_reducible apply Kept.ite | exact Or.inl ‹_› | with_reducible exact Or.inr rfl
                 | with_reducible exact Or.inl rfl | dsimp only | with_reducible exact Nat.le_max_right _ _ | with_reducible apply Kept.all)

theorem State.toCmp_kept {ps : List Part} {K : Nat → Prop} {z0 : State} (s : State) (d : Nat) (pipe : Nat) (queue : Nat) (hgalley : Part.galley ∈ ps)
    (htelem : Part.telem ∈ ps) (hcmp : Part.cmp ∈ ps) (hmem : Part.mem ∈ ps) (hdict : Part.dict ∈ ps) (oFLT_DIAG_LOGGED : K Obj.FLT_DIAG_LOGGED)
    (oGAL_DESC_COPY_REFUSED : K Obj.GAL_DESC_COPY_REFUSED) (oPLN_TO_CMP : ∀ i, K (Obj.PLN_TO_CMP i)) (hK : Kept ps K z0 s)
    : Kept ps K z0 (State.toCmp s d pipe queue) := by
  unfold State.toCmp
  repeat' (first | with_reducible assumption | with_reducible exact oPLN_TO_CMP _ | with_reducible apply State.bump_kept
                 | with_reducible apply State.newDescr_kept | with_reducible apply State.cmpDeliver_kept | with_reducible apply State.addRef_kept
                 | with_reducible apply Kept.ite)

theorem State.handOver_kept {ps : List Part} {K : Nat → Prop} {z0 : State} (s : State) (port : Nat) (d : Nat) (w : Writing) (hwonel : Part.wonel ∈ ps)
    (hflt : Part.flt ∈ ps) (hlinks : Part.links ∈ ps) (hgalley : Part.galley ∈ ps) (hports : Part.ports ∈ ps) (htables : Part.tables ∈ ps)
    (htelem : Part.telem ∈ ps) (htim : Part.tim ∈ ps) (hptp : Part.ptp ∈ ps) (hcmp : Part.cmp ∈ ps) (hmem : Part.mem ∈ ps) (hdict : Part.dict ∈ ps)
    (hbusy : Part.busy ∈ ps) (hout : Part.out ∈ ps) (hfresh : Part.fresh ∈ ps) (ko : BufferKeys K) (oCTR_TX_FRAMES : ∀ i, K (Obj.CTR_TX_FRAMES i))
    (oCTR_TX_OCTETS : ∀ i, K (Obj.CTR_TX_OCTETS i)) (oCTR_TX_PAUSE : ∀ i, K (Obj.CTR_TX_PAUSE i)) (oGAL_INVALID_READS : K Obj.GAL_INVALID_READS)
    (oGAL_POISON_FRAMES : K Obj.GAL_POISON_FRAMES) (oGAL_POISON_READS : K Obj.GAL_POISON_READS) (hK : Kept ps K z0 s)
    : Kept ps K z0 (State.handOver s port d w) := by
  unfold State.handOver
  repeat' (first | with_reducible intro _ | with_reducible assumption | exact ko.toCodedKeys | with_reducible exact oCTR_TX_FRAMES _
                 | with_reducible exact oCTR_TX_OCTETS _ | with_reducible exact oCTR_TX_PAUSE _ | with_reducible apply State.readFrame_kept
                 | with_reducible apply State.modPort_kept | with_reducible apply State.cmpPush_kept
                 | with_reducible apply State.releaseFrame_kept | with_reducible apply Kept.ite | exact Or.inl ‹_›
                 | with_reducible exact Or.inr rfl | with_reducible exact Or.inl rfl | split | dsimp only
                 | with_reducible exact Nat.le_max_right _ _ | with_reducible apply Kept.all)

theorem State.dispatch_kept {ps : List Part} {K : Nat → Prop} {z0 : State} (s : State) (port : Nat) (w : Writing) (hwonel : Part.wonel ∈ ps)
    (hflt : Part.flt ∈ ps) (hlinks : Part.links ∈ ps) (hgalley : Part.galley ∈ ps) (hsched : Part.sched ∈ ps) (hports : Part.ports ∈ ps)
    (htables : Part.tables ∈ ps) (htelem : Part.telem ∈ ps) (htim : Part.tim ∈ ps) (hptp : Part.ptp ∈ ps) (hcmp : Part.cmp ∈ ps)
    (hmem : Part.mem ∈ ps) (hdict : Part.dict ∈ ps) (hbusy : Part.busy ∈ ps) (hout : Part.out ∈ ps) (hfresh : Part.fresh ∈ ps) (ko : BufferKeys K)
    (oCTR_LPI_TX_US : ∀ i, K (Obj.CTR_LPI_TX_US i)) (oCTR_TX_FLUSHED : ∀ i, K (Obj.CTR_TX_FLUSHED i)) (oCTR_TX_FRAMES : ∀ i, K (Obj.CTR_TX_FRAMES i))
    (oCTR_TX_OCTETS : ∀ i, K (Obj.CTR_TX_OCTETS i)) (oCTR_TX_PAUSE : ∀ i, K (Obj.CTR_TX_PAUSE i))
    (oGAL_DESC_COPY_REFUSED : K Obj.GAL_DESC_COPY_REFUSED) (oGAL_INVALID_READS : K Obj.GAL_INVALID_READS)
    (oGAL_POISON_FRAMES : K Obj.GAL_POISON_FRAMES) (oGAL_POISON_READS : K Obj.GAL_POISON_READS) (oPLN_TO_CMP : ∀ i, K (Obj.PLN_TO_CMP i))
    (oQ_ENQ : ∀ i j, K (Obj.Q_ENQ i j)) (oQ_TAIL_DROPS : ∀ i j, K (Obj.Q_TAIL_DROPS i j)) (oSCH_MC_ENGINE_DROPS : K Obj.SCH_MC_ENGINE_DROPS) (hK
    : Kept ps K z0 s) : Kept ps K z0 (State.dispatch s port w) := by
  unfold State.dispatch
  repeat' (first | with_reducible intro _ | with_reducible assumption | with_reducible exact ko.logged | with_reducible exact oCTR_LPI_TX_US _
                 | with_reducible exact oCTR_TX_FLUSHED _ | with_reducible exact oCTR_TX_FRAMES _ | with_reducible exact oCTR_TX_OCTETS _
                 | with_reducible exact oCTR_TX_PAUSE _ | with_reducible exact oPLN_TO_CMP _ | with_reducible exact oQ_ENQ _ _
                 | with_reducible exact oQ_TAIL_DROPS _ _ | with_reducible apply State.cmpDeliver_kept | with_reducible apply State.toCmp_kept
                 | with_reducible apply State.enqueue_kept | with_reducible apply State.mcPut_kept | with_reducible apply State.bump_kept
                 | with_reducible apply State.handOver_kept | with_reducible apply Kept.ite | split)

theorem State.beginWrite_kept {ps : List Part} {K : Nat → Prop} {z0 : State} (s : State) (port : Nat) (buf : Nat × Nat) (f : RxFrame) (body : Bytes)
    (iplen : Option (Nat × Nat)) (refs : Nat) (hgalley : Part.galley ∈ ps) (htelem : Part.telem ∈ ps) (hmem : Part.mem ∈ ps) (hdict : Part.dict ∈ ps)
    (oFLT_DIAG_LOGGED : K Obj.FLT_DIAG_LOGGED) (hK : Kept ps K z0 s) : Kept ps K z0 (State.beginWrite s port buf f body iplen refs).2.2 := by
  unfold State.beginWrite
  repeat' (first | with_reducible assumption | with_reducible apply State.newDescr_kept | with_reducible apply State.store32_kept)

theorem State.askFirst_kept {ps : List Part} {K : Nat → Prop} {z0 : State} (s : State) (port : Nat) (iplen : Option (Nat × Nat)) (f : RxFrame)
    (hwonel : Part.wonel ∈ ps) (hflt : Part.flt ∈ ps) (hlinks : Part.links ∈ ps) (hgalley : Part.galley ∈ ps) (hports : Part.ports ∈ ps)
    (htables : Part.tables ∈ ps) (htelem : Part.telem ∈ ps) (htim : Part.tim ∈ ps) (hcmp : Part.cmp ∈ ps) (hmem : Part.mem ∈ ps)
    (hdict : Part.dict ∈ ps) (hbusy : Part.busy ∈ ps) (hout : Part.out ∈ ps) (hfresh : Part.fresh ∈ ps) (ko : CodedKeys K)
    (oCTR_RX_LOSSLESS_DROP : ∀ i, K (Obj.CTR_RX_LOSSLESS_DROP i)) (oCTR_RX_OVERFLOW_DROP : ∀ i, K (Obj.CTR_RX_OVERFLOW_DROP i))
    (oCTR_TX_FRAMES : ∀ i, K (Obj.CTR_TX_FRAMES i)) (oCTR_TX_OCTETS : ∀ i, K (Obj.CTR_TX_OCTETS i)) (oCTR_TX_PAUSE : ∀ i, K (Obj.CTR_TX_PAUSE i))
    (oGAL_C_FALLBACKS : ∀ i, K (Obj.GAL_C_FALLBACKS i)) (oGAL_C_FREE_MIN : ∀ i, K (Obj.GAL_C_FREE_MIN i))
    (oGAL_C_GRANTS : ∀ i, K (Obj.GAL_C_GRANTS i)) (oGAL_C_REFUSED : ∀ i, K (Obj.GAL_C_REFUSED i)) (oGAL_LOST : K Obj.GAL_LOST)
    (oGAL_PTR_FAULTS : K Obj.GAL_PTR_FAULTS) (oGAL_QUARANTINED : K Obj.GAL_QUARANTINED) (oGAL_QUAR_LAST : K Obj.GAL_QUAR_LAST) (hK : Kept ps K z0 s)
    : Kept ps K z0 (State.askFirst s port iplen f).2 := by
  unfold State.askFirst
  repeat' (first | with_reducible intro _ | with_reducible assumption | with_reducible exact oCTR_RX_LOSSLESS_DROP _
                 | with_reducible exact oCTR_RX_OVERFLOW_DROP _ | with_reducible exact oCTR_TX_FRAMES _ | with_reducible exact oCTR_TX_OCTETS _
                 | with_reducible exact oCTR_TX_PAUSE _ | with_reducible exact oGAL_C_FALLBACKS _ | with_reducible exact oGAL_C_FREE_MIN _
                 | with_reducible exact oGAL_C_GRANTS _ | with_reducible exact oGAL_C_REFUSED _ | with_reducible apply State.ask_kept
                 | with_reducible apply State.chargeBytes_kept | with_reducible apply State.countRefused_kept | split | dsimp only)

theorem State.ingressPlain_kept {ps : List Part} {K : Nat → Prop} {z0 : State} (s : State) (port : Nat) (f : RxFrame) (hwonel : Part.wonel ∈ ps)
    (hflt : Part.flt ∈ ps) (hlinks : Part.links ∈ ps) (hgalley : Part.galley ∈ ps) (hports : Part.ports ∈ ps) (htables : Part.tables ∈ ps)
    (htelem : Part.telem ∈ ps) (htim : Part.tim ∈ ps) (hcmp : Part.cmp ∈ ps) (hmem : Part.mem ∈ ps) (hdict : Part.dict ∈ ps) (hbusy : Part.busy ∈ ps)
    (hout : Part.out ∈ ps) (hfresh : Part.fresh ∈ ps) (ko : BufferKeys K) (oCTR_RX_LOSSLESS_DROP : ∀ i, K (Obj.CTR_RX_LOSSLESS_DROP i))
    (oCTR_RX_OVERFLOW_DROP : ∀ i, K (Obj.CTR_RX_OVERFLOW_DROP i)) (oCTR_TX_FRAMES : ∀ i, K (Obj.CTR_TX_FRAMES i))
    (oCTR_TX_OCTETS : ∀ i, K (Obj.CTR_TX_OCTETS i)) (oCTR_TX_PAUSE : ∀ i, K (Obj.CTR_TX_PAUSE i)) (oGAL_C_FALLBACKS : ∀ i, K (Obj.GAL_C_FALLBACKS i))
    (oGAL_C_FREE_MIN : ∀ i, K (Obj.GAL_C_FREE_MIN i)) (oGAL_C_GRANTS : ∀ i, K (Obj.GAL_C_GRANTS i)) (oGAL_C_REFUSED : ∀ i, K (Obj.GAL_C_REFUSED i))
    (hK : Kept ps K z0 s) : Kept ps K z0 (State.ingressPlain s port f) := by
  unfold State.ingressPlain
  repeat' (first | with_reducible intro _ | with_reducible assumption | exact ko.toCodedKeys | with_reducible exact ko.logged
                 | with_reducible exact ko.galLost | with_reducible exact ko.ptrFaults | with_reducible exact ko.quarantined
                 | with_reducible exact ko.quarLast | with_reducible exact oCTR_RX_LOSSLESS_DROP _ | with_reducible exact oCTR_RX_OVERFLOW_DROP _
                 | with_reducible exact oCTR_TX_FRAMES _ | with_reducible exact oCTR_TX_OCTETS _ | with_reducible exact oCTR_TX_PAUSE _
                 | with_reducible exact oGAL_C_FALLBACKS _ | with_reducible exact oGAL_C_FREE_MIN _ | with_reducible exact oGAL_C_GRANTS _
                 | with_reducible exact oGAL_C_REFUSED _ | with_reducible apply State.askFirst_kept | with_reducible apply State.beginWrite_kept
                 | with_reducible apply State.modPort_kept | split | dsimp only)

theorem State.dispose_kept {ps : List Part} {K : Nat → Prop} {z0 : State} (s : State) (port : Nat) (f : RxFrame) (w : Writing) (p0 : Pkt)
    (hwonel : Part.wonel ∈ ps) (hflt : Part.flt ∈ ps) (hlinks : Part.links ∈ ps) (hgalley : Part.galley ∈ ps) (hsched : Part.sched ∈ ps)
    (hports : Part.ports ∈ ps) (htables : Part.tables ∈ ps) (htelem : Part.telem ∈ ps) (htim : Part.tim ∈ ps) (hcmp : Part.cmp ∈ ps)
    (hmem : Part.mem ∈ ps) (hdict : Part.dict ∈ ps) (hbusy : Part.busy ∈ ps) (hout : Part.out ∈ ps) (hfresh : Part.fresh ∈ ps) (ko : BufferKeys K)
    (oCTR_LPI_TX_US : ∀ i, K (Obj.CTR_LPI_TX_US i)) (oCTR_TX_FLUSHED : ∀ i, K (Obj.CTR_TX_FLUSHED i)) (oCTR_TX_FRAMES : ∀ i, K (Obj.CTR_TX_FRAMES i))
    (oCTR_TX_OCTETS : ∀ i, K (Obj.CTR_TX_OCTETS i)) (oCTR_TX_PAUSE : ∀ i, K (Obj.CTR_TX_PAUSE i)) (oGAL_CT_FRAMES : K Obj.GAL_CT_FRAMES)
    (oGAL_DESC_COPY_REFUSED : K Obj.GAL_DESC_COPY_REFUSED) (oPLN_DROPS : ∀ i, K (Obj.PLN_DROPS i)) (oPLN_LAST_DROP : ∀ i, K (Obj.PLN_LAST_DROP i))
    (oPLN_TO_CMP : ∀ i, K (Obj.PLN_TO_CMP i)) (oPMC_PS_MISSED : ∀ i, K (Obj.PMC_PS_MISSED i)) (oPMC_PS_SEEN : ∀ i, K (Obj.PMC_PS_SEEN i))
    (oPMC_PS_SELECTED : ∀ i, K (Obj.PMC_PS_SELECTED i)) (oQ_ENQ : ∀ i j, K (Obj.Q_ENQ i j)) (oQ_TAIL_DROPS : ∀ i j, K (Obj.Q_TAIL_DROPS i j)) (hK
    : Kept ps K z0 s) : Kept ps K z0 (State.dispose s port f w p0) := by
  unfold State.dispose
  repeat' (first | with_reducible intro _ | with_reducible assumption | with_reducible exact ko.logged | with_reducible exact oCTR_LPI_TX_US _
                 | with_reducible exact oCTR_TX_FLUSHED _ | with_reducible exact oCTR_TX_FRAMES _ | with_reducible exact oCTR_TX_OCTETS _
                 | with_reducible exact oCTR_TX_PAUSE _ | with_reducible exact oPLN_DROPS _ | with_reducible exact oPLN_LAST_DROP _
                 | with_reducible exact oPLN_TO_CMP _ | with_reducible exact oPMC_PS_MISSED _ | with_reducible exact oPMC_PS_SEEN _
                 | with_reducible exact oPMC_PS_SELECTED _ | with_reducible exact oQ_ENQ _ _ | with_reducible exact oQ_TAIL_DROPS _ _
                 | with_reducible apply State.proofOffer_kept | with_reducible apply State.modPort_kept | with_reducible apply State.pmc_kept
                 | with_reducible apply State.put_kept | with_reducible apply State.bump_kept | with_reducible apply State.releaseFrame_kept
                 | with_reducible apply State.modDescr_kept | with_reducible apply State.toCmp_kept | with_reducible apply State.enqueue_kept
                 | with_reducible apply Kept.ite | split)

theorem State.ingressFrame_kept {ps : List Part} {K : Nat → Prop} {z0 : State} (s : State) (port : Nat) (f : RxFrame) (hwonel : Part.wonel ∈ ps)
    (hflt : Part.flt ∈ ps) (hlinks : Part.links ∈ ps) (hgalley : Part.galley ∈ ps) (hsched : Part.sched ∈ ps) (hports : Part.ports ∈ ps)
    (htables : Part.tables ∈ ps) (htelem : Part.telem ∈ ps) (htim : Part.tim ∈ ps) (hcmp : Part.cmp ∈ ps) (hmem : Part.mem ∈ ps)
    (hdict : Part.dict ∈ ps) (hbusy : Part.busy ∈ ps) (hout : Part.out ∈ ps) (hfresh : Part.fresh ∈ ps) (hall : ∀ k, K k) (hK : Kept ps K z0 s)
    : Kept ps K z0 (State.ingressFrame s port f) := by
  unfold State.ingressFrame
  repeat' (first | with_reducible intro _ | with_reducible assumption | exact hall _ | exact BufferKeys.ofAll hall
                 | exact (BufferKeys.ofAll hall).toCodedKeys | with_reducible apply State.pmcPulse_kept | with_reducible apply State.pmc_kept | with_reducible apply State.bump_kept
                 | with_reducible apply State.parse_kept | with_reducible apply State.askFirst_kept
                 | with_reducible apply State.ingressStages_kept | with_reducible apply State.beginWrite_kept
                 | with_reducible apply State.dispose_kept | with_reducible apply State.modPort_kept
                 | with_reducible apply State.releaseFrame_kept | with_reducible apply Kept.ite | split | dsimp only)

theorem State.storeMore_kept {ps : List Part} {K : Nat → Prop} {z0 : State} (s : State) (port : Nat) (d : Nat) (bufs : List (Nat × Nat))
    (stored : Nat) (part : Bytes) (hgalley : Part.galley ∈ ps) (htelem : Part.telem ∈ ps) (hmem : Part.mem ∈ ps) (hdict : Part.dict ∈ ps)
    (oFLT_DIAG_LOGGED : K Obj.FLT_DIAG_LOGGED) (hK : Kept ps K z0 s) : Kept ps K z0 (State.storeMore s port d bufs stored part) := by
  unfold State.storeMore
  repeat' (first | with_reducible assumption | with_reducible apply State.store32_kept | with_reducible apply State.modDescr_kept)

theorem State.growth_kept {ps : List Part} {K : Nat → Prop} {z0 : State} (s : State) (port : Nat) (w : Writing) (hwonel : Part.wonel ∈ ps)
    (hflt : Part.flt ∈ ps) (hlinks : Part.links ∈ ps) (hgalley : Part.galley ∈ ps) (hsched : Part.sched ∈ ps) (hports : Part.ports ∈ ps)
    (htables : Part.tables ∈ ps) (htelem : Part.telem ∈ ps) (htim : Part.tim ∈ ps) (hcmp : Part.cmp ∈ ps) (hmem : Part.mem ∈ ps)
    (hdict : Part.dict ∈ ps) (hbusy : Part.busy ∈ ps) (hout : Part.out ∈ ps) (hfresh : Part.fresh ∈ ps) (ko : BufferKeys K)
    (oCTR_RX_LOSSLESS_DROP : ∀ i, K (Obj.CTR_RX_LOSSLESS_DROP i)) (oCTR_RX_OVERFLOW_DROP : ∀ i, K (Obj.CTR_RX_OVERFLOW_DROP i))
    (oCTR_TX_FRAMES : ∀ i, K (Obj.CTR_TX_FRAMES i)) (oCTR_TX_OCTETS : ∀ i, K (Obj.CTR_TX_OCTETS i)) (oCTR_TX_PAUSE : ∀ i, K (Obj.CTR_TX_PAUSE i))
    (oGAL_CT_BAD : K Obj.GAL_CT_BAD) (oGAL_C_FALLBACKS : ∀ i, K (Obj.GAL_C_FALLBACKS i)) (oGAL_C_FREE_MIN : ∀ i, K (Obj.GAL_C_FREE_MIN i))
    (oGAL_C_GRANTS : ∀ i, K (Obj.GAL_C_GRANTS i)) (oGAL_C_REFUSED : ∀ i, K (Obj.GAL_C_REFUSED i)) (hK : Kept ps K z0 s)
    : Kept ps K z0 (State.growth s port w) := by
  unfold State.growth
  repeat' (first | with_reducible intro _ | with_reducible assumption | exact ko.toCodedKeys | with_reducible exact ko.logged
                 | with_reducible exact ko.galLost | with_reducible exact ko.ptrFaults | with_reducible exact ko.quarantined
                 | with_reducible exact ko.quarLast | with_reducible exact oCTR_RX_LOSSLESS_DROP _ | with_reducible exact oCTR_RX_OVERFLOW_DROP _
                 | with_reducible exact oCTR_TX_FRAMES _ | with_reducible exact oCTR_TX_OCTETS _ | with_reducible exact oCTR_TX_PAUSE _
                 | with_reducible exact oGAL_C_FALLBACKS _ | with_reducible exact oGAL_C_FREE_MIN _ | with_reducible exact oGAL_C_GRANTS _
                 | with_reducible exact oGAL_C_REFUSED _ | with_reducible apply State.ask_kept | with_reducible apply State.modPort_kept
                 | with_reducible apply State.storeMore_kept | with_reducible apply State.chargeBytes_kept
                 | with_reducible apply State.countRefused_kept | with_reducible apply State.turnBad_kept | split | dsimp only)

theorem State.correctTail_kept {ps : List Part} {K : Nat → Prop} {z0 : State} (s : State) (w : Writing) (hsched : Part.sched ∈ ps) (hK
    : Kept ps K z0 s) : Kept ps K z0 (State.correctTail s w) := by
  unfold State.correctTail
  repeat' (first | with_reducible assumption | with_reducible apply State.correctCharge_kept | with_reducible apply Kept.ite | split | dsimp only)

theorem State.tail_kept {ps : List Part} {K : Nat → Prop} {z0 : State} (s : State) (port : Nat) (w : Writing) (hwonel : Part.wonel ∈ ps)
    (hflt : Part.flt ∈ ps) (hlinks : Part.links ∈ ps) (hgalley : Part.galley ∈ ps) (hsched : Part.sched ∈ ps) (hports : Part.ports ∈ ps)
    (htables : Part.tables ∈ ps) (htelem : Part.telem ∈ ps) (htim : Part.tim ∈ ps) (hptp : Part.ptp ∈ ps) (hcmp : Part.cmp ∈ ps)
    (hmem : Part.mem ∈ ps) (hdict : Part.dict ∈ ps) (hbusy : Part.busy ∈ ps) (hout : Part.out ∈ ps) (hfresh : Part.fresh ∈ ps) (ko : BufferKeys K)
    (oCTR_LPI_TX_US : ∀ i, K (Obj.CTR_LPI_TX_US i)) (oCTR_TX_FLUSHED : ∀ i, K (Obj.CTR_TX_FLUSHED i)) (oCTR_TX_FRAMES : ∀ i, K (Obj.CTR_TX_FRAMES i))
    (oCTR_TX_OCTETS : ∀ i, K (Obj.CTR_TX_OCTETS i)) (oCTR_TX_PAUSE : ∀ i, K (Obj.CTR_TX_PAUSE i)) (oGAL_CT_BAD : K Obj.GAL_CT_BAD)
    (oGAL_DESC_COPY_REFUSED : K Obj.GAL_DESC_COPY_REFUSED) (oGAL_INVALID_READS : K Obj.GAL_INVALID_READS)
    (oGAL_POISON_FRAMES : K Obj.GAL_POISON_FRAMES) (oGAL_POISON_READS : K Obj.GAL_POISON_READS) (oPLN_TO_CMP : ∀ i, K (Obj.PLN_TO_CMP i))
    (oQ_ENQ : ∀ i j, K (Obj.Q_ENQ i j)) (oQ_TAIL_DROPS : ∀ i j, K (Obj.Q_TAIL_DROPS i j)) (oSCH_MC_ENGINE_DROPS : K Obj.SCH_MC_ENGINE_DROPS) (hK
    : Kept ps K z0 s) : Kept ps K z0 (State.tail s port w) := by
  unfold State.tail
  repeat' (first | with_reducible intro _ | with_reducible assumption | with_reducible exact oCTR_LPI_TX_US _
                 | with_reducible exact oCTR_TX_FLUSHED _ | with_reducible exact oCTR_TX_FRAMES _ | with_reducible exact oCTR_TX_OCTETS _
                 | with_reducible exact oCTR_TX_PAUSE _ | with_reducible exact oPLN_TO_CMP _ | with_reducible exact oQ_ENQ _ _
                 | with_reducible exact oQ_TAIL_DROPS _ _ | with_reducible apply State.modPort_kept | with_reducible apply State.turnBad_kept
                 | with_reducible apply State.correctTail_kept | with_reducible apply State.modDescr_kept
                 | with_reducible apply State.freeFrame_kept | with_reducible apply State.dispatch_kept | with_reducible apply Kept.ite)

end Sys2Proof.Machine
end

