-- ==== Sys2Proof/Laws/KeptTransmit.lean ====
section
/-! SUPPORT. What the operations of Machine/Transmit.lean keep (Laws/Kept.lean). -/

namespace Sys2Proof.Machine
open Sys2Proof

theorem State.descLost_kept {ps : List Part} {K : Nat → Prop} {z0 : State} (s : State) (d : Nat) (hmem : Part.mem ∈ ps) (hdict : Part.dict ∈ ps)
    (oGAL_LOST : K Obj.GAL_LOST) (hK : Kept ps K z0 s) : Kept ps K z0 (State.descLost s d) := by
  unfold State.descLost
  repeat' (first | with_reducible intro _ | with_reducible assumption | with_reducible apply State.bumpBy_kept | with_reducible apply Kept.ite
                 | exact Or.inl ‹_› | with_reducible exact Or.inr rfl | with_reducible exact Or.inl rfl | split | dsimp only
                 | with_reducible exact Nat.le_max_right _ _ | with_reducible apply Kept.all)

theorem State.entryRead_kept {ps : List Part} {K : Nat → Prop} {z0 : State} (s : State) (e : Nat) (hwonel : Part.wonel ∈ ps) (hflt : Part.flt ∈ ps)
    (hlinks : Part.links ∈ ps) (hgalley : Part.galley ∈ ps) (htables : Part.tables ∈ ps) (htim : Part.tim ∈ ps) (hcmp : Part.cmp ∈ ps)
    (hmem : Part.mem ∈ ps) (hdict : Part.dict ∈ ps) (hbusy : Part.busy ∈ ps) (hout : Part.out ∈ ps) (hfresh : Part.fresh ∈ ps) (ko : CodedKeys K)
    (oGAL_LOST : K Obj.GAL_LOST) (hK : Kept ps K z0 s) : Kept ps K z0 (State.entryRead s e).2 := by
  unfold State.entryRead
  repeat' (first | with_reducible assumption | with_reducible apply State.readWord_kept | with_reducible apply State.descLost_kept
                 | with_reducible apply Kept.ite_snd)

theorem State.egressDrop_kept {ps : List Part} {K : Nat → Prop} {z0 : State} (s : State) (port : Nat) (cl : Nat) (desc : Nat) (reason : Nat)
    (hwonel : Part.wonel ∈ ps) (hflt : Part.flt ∈ ps) (hlinks : Part.links ∈ ps) (hgalley : Part.galley ∈ ps) (hsched : Part.sched ∈ ps)
    (hports : Part.ports ∈ ps) (htables : Part.tables ∈ ps) (htelem : Part.telem ∈ ps) (htim : Part.tim ∈ ps) (hcmp : Part.cmp ∈ ps)
    (hmem : Part.mem ∈ ps) (hdict : Part.dict ∈ ps) (hbusy : Part.busy ∈ ps) (hout : Part.out ∈ ps) (hfresh : Part.fresh ∈ ps) (ko : BufferKeys K)
    (oCTR_TX_FRAMES : ∀ i, K (Obj.CTR_TX_FRAMES i)) (oCTR_TX_OCTETS : ∀ i, K (Obj.CTR_TX_OCTETS i)) (oCTR_TX_PAUSE : ∀ i, K (Obj.CTR_TX_PAUSE i))
    (oPLN_DROPS : ∀ i, K (Obj.PLN_DROPS i)) (oPLN_LAST_DROP : ∀ i, K (Obj.PLN_LAST_DROP i)) (hK : Kept ps K z0 s)
    : Kept ps K z0 (State.egressDrop s port cl desc reason) := by
  unfold State.egressDrop
  repeat' (first | with_reducible intro _ | with_reducible assumption | with_reducible exact oCTR_TX_FRAMES _
                 | with_reducible exact oCTR_TX_OCTETS _ | with_reducible exact oCTR_TX_PAUSE _ | with_reducible exact oPLN_DROPS _
                 | with_reducible exact oPLN_LAST_DROP _ | with_reducible apply State.releaseDesc_kept | with_reducible apply State.flySub_kept
                 | with_reducible apply State.put_kept | with_reducible apply State.bump_kept)

theorem State.egress_kept {ps : List Part} {K : Nat → Prop} {z0 : State} (s : State) (port : Nat) (k : Picked) (hwonel : Part.wonel ∈ ps)
    (hflt : Part.flt ∈ ps) (hlinks : Part.links ∈ ps) (hgalley : Part.galley ∈ ps) (hsched : Part.sched ∈ ps) (hports : Part.ports ∈ ps)
    (htables : Part.tables ∈ ps) (htelem : Part.telem ∈ ps) (htim : Part.tim ∈ ps) (hcmp : Part.cmp ∈ ps) (hmem : Part.mem ∈ ps)
    (hdict : Part.dict ∈ ps) (hbusy : Part.busy ∈ ps) (hout : Part.out ∈ ps) (hfresh : Part.fresh ∈ ps) (ko : BufferKeys K)
    (oCTR_TX_FRAMES : ∀ i, K (Obj.CTR_TX_FRAMES i)) (oCTR_TX_OCTETS : ∀ i, K (Obj.CTR_TX_OCTETS i)) (oCTR_TX_PAUSE : ∀ i, K (Obj.CTR_TX_PAUSE i))
    (oGAL_INVALID_READS : K Obj.GAL_INVALID_READS) (oGAL_POISON_FRAMES : K Obj.GAL_POISON_FRAMES) (oGAL_POISON_READS : K Obj.GAL_POISON_READS)
    (oPLN_COLO_DONE : ∀ i, K (Obj.PLN_COLO_DONE i)) (oPLN_COLO_SKIPPED : ∀ i, K (Obj.PLN_COLO_SKIPPED i)) (oPLN_DROPS : ∀ i, K (Obj.PLN_DROPS i))
    (oPLN_LAST_DROP : ∀ i, K (Obj.PLN_LAST_DROP i)) (oPLN_OUT_PKTS : ∀ i, K (Obj.PLN_OUT_PKTS i)) (oPLN_PARSE_ERR : ∀ i, K (Obj.PLN_PARSE_ERR i))
    (oPLN_WINDOW_OVF : ∀ i, K (Obj.PLN_WINDOW_OVF i)) (hK : Kept ps K z0 s) : Kept ps K z0 (State.egress s port k) := by
  unfold State.egress
  repeat' (first | with_reducible intro _ | with_reducible assumption | exact ko.toCodedKeys | with_reducible exact oCTR_TX_FRAMES _
                 | with_reducible exact oCTR_TX_OCTETS _ | with_reducible exact oCTR_TX_PAUSE _ | with_reducible exact oPLN_COLO_DONE _
                 | with_reducible exact oPLN_COLO_SKIPPED _ | with_reducible exact oPLN_DROPS _ | with_reducible exact oPLN_LAST_DROP _
                 | with_reducible exact oPLN_OUT_PKTS _ | with_reducible exact oPLN_PARSE_ERR _ | with_reducible exact oPLN_WINDOW_OVF _
                 | with_reducible apply State.readWords_kept | with_reducible apply State.poisonRead_kept | with_reducible apply State.parse_kept
                 | with_reducible apply State.egressStages_kept | with_reducible apply State.bump_kept
                 | with_reducible apply State.egressDrop_kept | with_reducible apply State.modPort_kept | with_reducible apply State.pmc_kept
                 | with_reducible apply Kept.ite)

theorem State.countCorrected_kept {ps : List Part} {K : Nat → Prop} {z0 : State} (s : State) (f : TxFrame) (x : PtpAt) (hdict : Part.dict ∈ ps)
    (oTIM_TC_CORRECTED : K Obj.TIM_TC_CORRECTED) (hK : Kept ps K z0 s) : Kept ps K z0 (State.countCorrected s f x) := by
  unfold State.countCorrected
  repeat' (first | with_reducible assumption | with_reducible apply State.bump_kept | with_reducible apply Kept.ite)

theorem State.returnTx_kept {ps : List Part} {K : Nat → Prop} {z0 : State} (s : State) (port : Nat) (f : TxFrame) (x : PtpAt) (tTx : Nat)
    (hptp : Part.ptp ∈ ps) (hK : Kept ps K z0 s) : Kept ps K z0 (State.returnTx s port f x tTx) := by
  unfold State.returnTx
  repeat' (first | with_reducible intro _ | with_reducible assumption | with_reducible apply Kept.ite | exact Or.inl ‹_›
                 | with_reducible exact Or.inr rfl | with_reducible exact Or.inl rfl | dsimp only | with_reducible exact Nat.le_max_right _ _
                 | with_reducible apply Kept.all)

theorem State.txDone_kept {ps : List Part} {K : Nat → Prop} {z0 : State} (s : State) (port : Nat) (f : TxFrame) (hwonel : Part.wonel ∈ ps)
    (hflt : Part.flt ∈ ps) (hlinks : Part.links ∈ ps) (hgalley : Part.galley ∈ ps) (hsched : Part.sched ∈ ps) (hports : Part.ports ∈ ps)
    (htables : Part.tables ∈ ps) (htelem : Part.telem ∈ ps) (htim : Part.tim ∈ ps) (hcmp : Part.cmp ∈ ps) (hmem : Part.mem ∈ ps)
    (hdict : Part.dict ∈ ps) (hbusy : Part.busy ∈ ps) (hout : Part.out ∈ ps) (hfresh : Part.fresh ∈ ps) (ko : BufferKeys K)
    (oCTR_TX_FRAMES : ∀ i, K (Obj.CTR_TX_FRAMES i)) (oCTR_TX_OCTETS : ∀ i, K (Obj.CTR_TX_OCTETS i)) (oCTR_TX_PAUSE : ∀ i, K (Obj.CTR_TX_PAUSE i)) (hK
    : Kept ps K z0 s) : Kept ps K z0 (State.txDone s port f) := by
  unfold State.txDone
  repeat' (first | with_reducible intro _ | with_reducible assumption | with_reducible exact oCTR_TX_FRAMES _
                 | with_reducible exact oCTR_TX_OCTETS _ | with_reducible exact oCTR_TX_PAUSE _ | with_reducible apply State.dropTx_kept)

theorem State.authAttempt_kept {ps : List Part} {K : Nat → Prop} {z0 : State} (s : State) (port : Nat) (h : AuthTx) (x : PtpAt) (page : Nat)
    (icv : Nat) (level : Nat) (hwonel : Part.wonel ∈ ps) (hkce : Part.kce ∈ ps) (hflt : Part.flt ∈ ps) (hlinks : Part.links ∈ ps)
    (hgalley : Part.galley ∈ ps) (hsched : Part.sched ∈ ps) (hports : Part.ports ∈ ps) (htables : Part.tables ∈ ps) (htelem : Part.telem ∈ ps)
    (htim : Part.tim ∈ ps) (hptp : Part.ptp ∈ ps) (hcmp : Part.cmp ∈ ps) (hmem : Part.mem ∈ ps) (hdict : Part.dict ∈ ps) (hbusy : Part.busy ∈ ps)
    (hout : Part.out ∈ ps) (hfresh : Part.fresh ∈ ps) (ko : BufferKeys K) (oCTR_TX_FRAMES : ∀ i, K (Obj.CTR_TX_FRAMES i))
    (oCTR_TX_OCTETS : ∀ i, K (Obj.CTR_TX_OCTETS i)) (oCTR_TX_PAUSE : ∀ i, K (Obj.CTR_TX_PAUSE i)) (oKCE_L0_WAIT_MAX : K Obj.KCE_L0_WAIT_MAX)
    (oKCE_REFUSED : K Obj.KCE_REFUSED) (oTIM_AUTH_REFUSED : K Obj.TIM_AUTH_REFUSED) (hK : Kept ps K z0 s)
    : Kept ps K z0 (State.authAttempt s port h x page icv level) := by
  unfold State.authAttempt
  repeat' (first | with_reducible intro _ | with_reducible assumption | with_reducible exact oCTR_TX_FRAMES _
                 | with_reducible exact oCTR_TX_OCTETS _ | with_reducible exact oCTR_TX_PAUSE _ | with_reducible apply State.txDone_kept
                 | with_reducible apply State.bump_kept | with_reducible apply State.kcePut_kept | with_reducible apply Kept.ite
                 | exact Or.inl ‹_› | with_reducible exact Or.inr rfl | with_reducible exact Or.inl rfl | dsimp only
                 | with_reducible exact Nat.le_max_right _ _ | with_reducible apply Kept.all)
  all_goals rfl

theorem State.startSending_kept {ps : List Part} {K : Nat → Prop} {z0 : State} (s : State) (port : Nat) (f : TxFrame) (hports : Part.ports ∈ ps) (hK
    : Kept ps K z0 s) : Kept ps K z0 (State.startSending s port f) := by
  unfold State.startSending
  repeat' (first | with_reducible assumption | with_reducible apply State.modPort_kept)

theorem State.transmit_kept {ps : List Part} {K : Nat → Prop} {z0 : State} (s : State) (port : Nat) (ts : TxStamp) (f : TxFrame)
    (hwonel : Part.wonel ∈ ps) (hkce : Part.kce ∈ ps) (hflt : Part.flt ∈ ps) (hlinks : Part.links ∈ ps) (hgalley : Part.galley ∈ ps)
    (hsched : Part.sched ∈ ps) (hports : Part.ports ∈ ps) (htables : Part.tables ∈ ps) (htelem : Part.telem ∈ ps) (htim : Part.tim ∈ ps)
    (hptp : Part.ptp ∈ ps) (hcmp : Part.cmp ∈ ps) (hmem : Part.mem ∈ ps) (hdict : Part.dict ∈ ps) (hbusy : Part.busy ∈ ps) (hout : Part.out ∈ ps)
    (hfresh : Part.fresh ∈ ps) (ko : BufferKeys K) (oCTR_TX_FRAMES : ∀ i, K (Obj.CTR_TX_FRAMES i)) (oCTR_TX_OCTETS : ∀ i, K (Obj.CTR_TX_OCTETS i))
    (oCTR_TX_PAUSE : ∀ i, K (Obj.CTR_TX_PAUSE i)) (oKCE_L0_WAIT_MAX : K Obj.KCE_L0_WAIT_MAX) (oKCE_REFUSED : K Obj.KCE_REFUSED)
    (oTIM_AUTH_REFUSED : K Obj.TIM_AUTH_REFUSED) (oTIM_TC_CORRECTED : K Obj.TIM_TC_CORRECTED) (oTIM_TS_INVALID : K Obj.TIM_TS_INVALID) (hK
    : Kept ps K z0 s) : Kept ps K z0 (State.transmit s port ts f) := by
  unfold State.transmit
  repeat' (first | with_reducible intro _ | with_reducible assumption | with_reducible exact oCTR_TX_FRAMES _
                 | with_reducible exact oCTR_TX_OCTETS _ | with_reducible exact oCTR_TX_PAUSE _ | with_reducible apply State.startSending_kept
                 | with_reducible apply State.txDone_kept | with_reducible apply State.bump_kept | with_reducible apply State.authAttempt_kept
                 | with_reducible apply State.returnTx_kept | with_reducible apply State.countCorrected_kept | with_reducible apply Kept.ite | split)

theorem State.depart_kept {ps : List Part} {K : Nat → Prop} {z0 : State} (s : State) (port : Nat) (h : AuthTx) (hwonel : Part.wonel ∈ ps)
    (hkce : Part.kce ∈ ps) (hflt : Part.flt ∈ ps) (hlinks : Part.links ∈ ps) (hgalley : Part.galley ∈ ps) (hsched : Part.sched ∈ ps)
    (hports : Part.ports ∈ ps) (htables : Part.tables ∈ ps) (htelem : Part.telem ∈ ps) (htim : Part.tim ∈ ps) (hptp : Part.ptp ∈ ps)
    (hcmp : Part.cmp ∈ ps) (hmem : Part.mem ∈ ps) (hdict : Part.dict ∈ ps) (hbusy : Part.busy ∈ ps) (hout : Part.out ∈ ps) (hfresh : Part.fresh ∈ ps)
    (ko : BufferKeys K) (oCTR_TX_FRAMES : ∀ i, K (Obj.CTR_TX_FRAMES i)) (oCTR_TX_OCTETS : ∀ i, K (Obj.CTR_TX_OCTETS i))
    (oCTR_TX_PAUSE : ∀ i, K (Obj.CTR_TX_PAUSE i)) (oKCE_L0_WAIT_MAX : K Obj.KCE_L0_WAIT_MAX) (oKCE_REFUSED : K Obj.KCE_REFUSED)
    (oTIM_AUTH_LATE : K Obj.TIM_AUTH_LATE) (oTIM_AUTH_REFUSED : K Obj.TIM_AUTH_REFUSED) (oTIM_TC_CORRECTED : K Obj.TIM_TC_CORRECTED) (hK
    : Kept ps K z0 s) : Kept ps K z0 (State.depart s port h) := by
  unfold State.depart
  repeat' (first | with_reducible intro _ | with_reducible assumption | with_reducible exact oCTR_TX_FRAMES _
                 | with_reducible exact oCTR_TX_OCTETS _ | with_reducible exact oCTR_TX_PAUSE _ | with_reducible apply State.startSending_kept
                 | with_reducible apply State.returnTx_kept | with_reducible apply State.countCorrected_kept
                 | with_reducible apply State.txDone_kept | with_reducible apply State.bump_kept | with_reducible apply State.authAttempt_kept
                 | exact Or.inl ‹_› | with_reducible exact Or.inr rfl | with_reducible exact Or.inl rfl | split | dsimp only
                 | with_reducible exact Nat.le_max_right _ _ | with_reducible apply Kept.all)

theorem State.frameSent_kept {ps : List Part} {K : Nat → Prop} {z0 : State} (s : State) (port : Nat) (f : TxFrame) (body : Bytes) (stomp : Bool)
    (hwonel : Part.wonel ∈ ps) (hflt : Part.flt ∈ ps) (hlinks : Part.links ∈ ps) (hgalley : Part.galley ∈ ps) (hsched : Part.sched ∈ ps)
    (hports : Part.ports ∈ ps) (htables : Part.tables ∈ ps) (htelem : Part.telem ∈ ps) (htim : Part.tim ∈ ps) (hcmp : Part.cmp ∈ ps)
    (hmem : Part.mem ∈ ps) (hdict : Part.dict ∈ ps) (hbusy : Part.busy ∈ ps) (hout : Part.out ∈ ps) (hfresh : Part.fresh ∈ ps) (ko : BufferKeys K)
    (oCTR_TX_FRAMES : ∀ i, K (Obj.CTR_TX_FRAMES i)) (oCTR_TX_OCTETS : ∀ i, K (Obj.CTR_TX_OCTETS i)) (oCTR_TX_PAUSE : ∀ i, K (Obj.CTR_TX_PAUSE i))
    (oCTR_TX_STOMP : ∀ i, K (Obj.CTR_TX_STOMP i)) (hK : Kept ps K z0 s) : Kept ps K z0 (State.frameSent s port f body stomp) := by
  unfold State.frameSent
  repeat' (first | with_reducible intro _ | with_reducible assumption | with_reducible exact oCTR_TX_FRAMES _
                 | with_reducible exact oCTR_TX_OCTETS _ | with_reducible exact oCTR_TX_PAUSE _ | with_reducible exact oCTR_TX_STOMP _
                 | with_reducible apply State.bumpBy_kept | with_reducible apply State.bump_kept | with_reducible apply State.toWire_kept
                 | with_reducible apply State.pmc_kept | with_reducible apply State.modPort_kept | with_reducible apply State.txDone_kept
                 | with_reducible apply State.sendPause_kept | split | dsimp only)

end Sys2Proof.Machine
end

