-- ==== Sys2Proof/Laws/KeptPrograms.lean ====
section
/-! SUPPORT. What the operations of Machine/Programs.lean keep (Laws/Kept.lean). -/

namespace Sys2Proof.Machine
open Sys2Proof

theorem State.memRangeWritten_kept {ps : List Part} {K : Nat → Prop} {z0 : State} (s : State) (lo : Nat) (hi : Nat) (hmem : Part.mem ∈ ps)
    (hdict : Part.dict ∈ ps) (oFLT_DIAG_LOGGED : K Obj.FLT_DIAG_LOGGED) (hK : Kept ps K z0 s) : Kept ps K z0 (State.memRangeWritten s lo hi) := by
  unfold State.memRangeWritten
  repeat' (first | with_reducible intro _ | with_reducible assumption | with_reducible apply State.put_kept | exact Or.inl ‹_›
                 | with_reducible exact Or.inr rfl | with_reducible exact Or.inl rfl | dsimp only | with_reducible exact Nat.le_max_right _ _
                 | with_reducible apply Kept.all)

theorem State.bankWrite_kept {ps : List Part} {K : Nat → Prop} {z0 : State} (s : State) (k : Nat) (b : Bool) (im : Image) (id : Nat)
    (hpipes : Part.pipes ∈ ps) (hmem : Part.mem ∈ ps) (hdict : Part.dict ∈ ps) (oFLT_DIAG_LOGGED : K Obj.FLT_DIAG_LOGGED) (hK : Kept ps K z0 s)
    : Kept ps K z0 (State.bankWrite s k b im id) := by
  unfold State.bankWrite
  repeat' (first | with_reducible assumption | with_reducible apply State.modPipe_kept | with_reducible apply State.memRangeWritten_kept)

theorem startPlnCheck_kept {ps : List Part} {K : Nat → Prop} {z0 : State} (s : State) (hpipes : Part.pipes ∈ ps) (hdict : Part.dict ∈ ps)
    (hbusy : Part.busy ∈ ps) (oPLN_CHECK : K Obj.PLN_CHECK) (oPLN_CHECK_ID : K Obj.PLN_CHECK_ID) (oPLN_CHECK_WHERE : K Obj.PLN_CHECK_WHERE) (hK
    : Kept ps K z0 s) : Kept ps K z0 (startPlnCheck s).2 := by
  unfold startPlnCheck
  repeat' (first | with_reducible intro _ | with_reducible assumption | with_reducible apply State.runOnce_kept
                 | with_reducible apply State.put_kept | with_reducible apply Kept.ite_snd | exact Or.inl ‹_› | with_reducible exact Or.inr rfl
                 | with_reducible exact Or.inl rfl | split | dsimp only | with_reducible exact Nat.le_max_right _ _ | with_reducible apply Kept.all)

theorem startPlnInstall_kept {ps : List Part} {K : Nat → Prop} {z0 : State} (s : State) (hpipes : Part.pipes ∈ ps) (hmem : Part.mem ∈ ps)
    (hdict : Part.dict ∈ ps) (hbusy : Part.busy ∈ ps) (oFLT_DIAG_LOGGED : K Obj.FLT_DIAG_LOGGED) (oPLN_INSTALL : K Obj.PLN_INSTALL) (hK
    : Kept ps K z0 s) : Kept ps K z0 (startPlnInstall s).2 := by
  unfold startPlnInstall
  repeat' (first | with_reducible intro _ | with_reducible assumption | with_reducible apply State.runOnce_kept
                 | with_reducible apply State.bankWrite_kept | with_reducible apply Kept.foldl | with_reducible apply Kept.ite_snd)

theorem startPlnSwitch_kept {ps : List Part} {K : Nat → Prop} {z0 : State} (s : State) (hpipes : Part.pipes ∈ ps) (hdict : Part.dict ∈ ps)
    (hbusy : Part.busy ∈ ps) (oPLN_SWITCH : K Obj.PLN_SWITCH) (hK : Kept ps K z0 s) : Kept ps K z0 (startPlnSwitch s).2 := by
  unfold startPlnSwitch
  repeat' (first | with_reducible intro _ | with_reducible assumption | with_reducible apply State.runOnce_kept
                 | with_reducible apply State.runBegin_kept | with_reducible apply Kept.ite_snd | exact Or.inl ‹_›
                 | with_reducible exact Or.inr rfl | with_reducible exact Or.inl rfl | dsimp only | with_reducible exact Nat.le_max_right _ _
                 | with_reducible apply Kept.all)

theorem State.abortPlnSwitch_kept {ps : List Part} {K : Nat → Prop} {z0 : State} (s : State) (hpipes : Part.pipes ∈ ps) (hK : Kept ps K z0 s)
    : Kept ps K z0 (State.abortPlnSwitch s) := by
  unfold State.abortPlnSwitch
  repeat' (first | with_reducible intro _ | with_reducible assumption | with_reducible apply Kept.ite | exact Or.inl ‹_›
                 | with_reducible exact Or.inr rfl | with_reducible exact Or.inl rfl | split | dsimp only
                 | with_reducible exact Nat.le_max_right _ _ | with_reducible apply Kept.all)

theorem State.restorePrograms_kept {ps : List Part} {K : Nat → Prop} {z0 : State} (s : State) (x : Images) (hwonel : Part.wonel ∈ ps)
    (hflt : Part.flt ∈ ps) (hlinks : Part.links ∈ ps) (hpipes : Part.pipes ∈ ps) (hgalley : Part.galley ∈ ps) (htables : Part.tables ∈ ps)
    (htim : Part.tim ∈ ps) (hcmp : Part.cmp ∈ ps) (hmem : Part.mem ∈ ps) (hdict : Part.dict ∈ ps) (hout : Part.out ∈ ps) (hfresh : Part.fresh ∈ ps)
    (ko : ReactKeys K) (oFLT_DIAG_LOGGED : K Obj.FLT_DIAG_LOGGED) (hK : Kept ps K z0 s) : Kept ps K z0 (State.restorePrograms s x) := by
  unfold State.restorePrograms
  repeat' (first | with_reducible intro _ | with_reducible assumption | with_reducible apply State.bankWrite_kept
                 | with_reducible apply State.restoreFault_kept | with_reducible apply Kept.foldl | with_reducible apply Kept.ite)

end Sys2Proof.Machine
end

