-- ==== Sys2Proof/Laws/KeptTelem.lean ====
section
/-! SUPPORT. What the operations of Machine/Telem.lean keep (Laws/Kept.lean). -/

namespace Sys2Proof.Machine
open Sys2Proof

theorem State.proofFree_kept {ps : List Part} {K : Nat → Prop} {z0 : State} (s : State) (b : Nat × Nat) (hwonel : Part.wonel ∈ ps)
    (hflt : Part.flt ∈ ps) (hlinks : Part.links ∈ ps) (hgalley : Part.galley ∈ ps) (htables : Part.tables ∈ ps) (htelem : Part.telem ∈ ps)
    (htim : Part.tim ∈ ps) (hcmp : Part.cmp ∈ ps) (hmem : Part.mem ∈ ps) (hdict : Part.dict ∈ ps) (hbusy : Part.busy ∈ ps) (hout : Part.out ∈ ps)
    (hfresh : Part.fresh ∈ ps) (ko : BufferKeys K) (hK : Kept ps K z0 s) : Kept ps K z0 (State.proofFree s b) := by
  unfold State.proofFree
  repeat' (first | with_reducible assumption | with_reducible apply State.chargeBuf_kept | with_reducible apply State.push_kept)

theorem State.captureWords_kept {ps : List Part} {K : Nat → Prop} {z0 : State} (s : State) (req : Option Nat) (bufs : List (Nat × Nat)) (i : Nat)
    (n : Nat) (hwonel : Part.wonel ∈ ps) (hflt : Part.flt ∈ ps) (hlinks : Part.links ∈ ps) (hgalley : Part.galley ∈ ps) (htables : Part.tables ∈ ps)
    (htelem : Part.telem ∈ ps) (htim : Part.tim ∈ ps) (hcmp : Part.cmp ∈ ps) (hmem : Part.mem ∈ ps) (hdict : Part.dict ∈ ps) (hbusy : Part.busy ∈ ps)
    (hout : Part.out ∈ ps) (hfresh : Part.fresh ∈ ps) (ko : CodedKeys K) (oGAL_INVALID_READS : K Obj.GAL_INVALID_READS) (hK : Kept ps K z0 s)
    : Kept ps K z0 (State.captureWords s req bufs i n).2 := by
  induction n generalizing s req bufs i with
  | zero =>
    unfold State.captureWords
    repeat' (first | with_reducible assumption | with_reducible apply State.galleyRead_kept | split)
  | succ n ih =>
    unfold State.captureWords
    repeat' (first | with_reducible assumption | with_reducible apply State.galleyRead_kept | with_reducible apply ih | split)

theorem State.writeProof_kept {ps : List Part} {K : Nat → Prop} {z0 : State} (s : State) (buf : Nat × Nat) (i : Nat) (n : List (Nat × Bool))
    (hgalley : Part.galley ∈ ps) (htelem : Part.telem ∈ ps) (hmem : Part.mem ∈ ps) (hdict : Part.dict ∈ ps) (oFLT_DIAG_LOGGED : K Obj.FLT_DIAG_LOGGED)
    (hK : Kept ps K z0 s) : Kept ps K z0 (State.writeProof s buf i n) := by
  induction n generalizing s buf i with
  | nil =>
    unfold State.writeProof
    repeat' (first | with_reducible assumption | with_reducible apply State.galleyWrite_kept)
  | cons y ys ih =>
    unfold State.writeProof
    repeat' (first | with_reducible assumption | with_reducible apply State.galleyWrite_kept | with_reducible apply ih)

theorem State.proofDeliver_kept {ps : List Part} {K : Nat → Prop} {z0 : State} (s : State) (sampler : Nat) (x : Proof) (hwonel : Part.wonel ∈ ps)
    (hflt : Part.flt ∈ ps) (hlinks : Part.links ∈ ps) (hgalley : Part.galley ∈ ps) (htables : Part.tables ∈ ps) (htelem : Part.telem ∈ ps)
    (htim : Part.tim ∈ ps) (hcmp : Part.cmp ∈ ps) (hmem : Part.mem ∈ ps) (hdict : Part.dict ∈ ps) (hbusy : Part.busy ∈ ps) (hout : Part.out ∈ ps)
    (hfresh : Part.fresh ∈ ps) (ko : BufferKeys K) (oPMC_PROOF_LOST : K Obj.PMC_PROOF_LOST) (oPMC_PS_MADE : ∀ i, K (Obj.PMC_PS_MADE i)) (hK
    : Kept ps K z0 s) : Kept ps K z0 (State.proofDeliver s sampler x) := by
  unfold State.proofDeliver
  repeat' (first | with_reducible intro _ | with_reducible assumption | with_reducible exact oPMC_PS_MADE _
                 | with_reducible apply State.bump_kept | with_reducible apply State.latchLost_kept | with_reducible apply State.proofFree_kept
                 | with_reducible apply State.latch_kept | with_reducible apply Kept.ite | exact Or.inl ‹_› | with_reducible exact Or.inr rfl
                 | with_reducible exact Or.inl rfl | dsimp only | with_reducible exact Nat.le_max_right _ _ | with_reducible apply Kept.all)

theorem State.makeProof_kept {ps : List Part} {K : Nat → Prop} {z0 : State} (s : State) (x : ProofSel) (hwonel : Part.wonel ∈ ps)
    (hflt : Part.flt ∈ ps) (hlinks : Part.links ∈ ps) (hgalley : Part.galley ∈ ps) (hports : Part.ports ∈ ps) (htables : Part.tables ∈ ps)
    (htelem : Part.telem ∈ ps) (htim : Part.tim ∈ ps) (hcmp : Part.cmp ∈ ps) (hmem : Part.mem ∈ ps) (hdict : Part.dict ∈ ps) (hbusy : Part.busy ∈ ps)
    (hout : Part.out ∈ ps) (hfresh : Part.fresh ∈ ps) (ko : BufferKeys K) (oCTR_TX_FRAMES : ∀ i, K (Obj.CTR_TX_FRAMES i))
    (oCTR_TX_OCTETS : ∀ i, K (Obj.CTR_TX_OCTETS i)) (oCTR_TX_PAUSE : ∀ i, K (Obj.CTR_TX_PAUSE i)) (oGAL_C_FALLBACKS : ∀ i, K (Obj.GAL_C_FALLBACKS i))
    (oGAL_C_FREE_MIN : ∀ i, K (Obj.GAL_C_FREE_MIN i)) (oGAL_C_GRANTS : ∀ i, K (Obj.GAL_C_GRANTS i)) (oGAL_C_REFUSED : ∀ i, K (Obj.GAL_C_REFUSED i))
    (oGAL_INVALID_READS : K Obj.GAL_INVALID_READS) (oGAL_POISON_FRAMES : K Obj.GAL_POISON_FRAMES) (oGAL_POISON_READS : K Obj.GAL_POISON_READS)
    (oPMC_PROOF_LOST : K Obj.PMC_PROOF_LOST) (oPMC_PS_MADE : ∀ i, K (Obj.PMC_PS_MADE i)) (oPMC_PS_REFUSED : ∀ i, K (Obj.PMC_PS_REFUSED i)) (hK
    : Kept ps K z0 s) : Kept ps K z0 (State.makeProof s x) := by
  unfold State.makeProof
  repeat' (first | with_reducible intro _ | with_reducible assumption | exact ko.toCodedKeys | with_reducible exact ko.logged
                 | with_reducible exact ko.galLost | with_reducible exact ko.ptrFaults | with_reducible exact ko.quarantined
                 | with_reducible exact ko.quarLast | with_reducible exact oCTR_TX_FRAMES _ | with_reducible exact oCTR_TX_OCTETS _
                 | with_reducible exact oCTR_TX_PAUSE _ | with_reducible exact oGAL_C_FALLBACKS _ | with_reducible exact oGAL_C_FREE_MIN _
                 | with_reducible exact oGAL_C_GRANTS _ | with_reducible exact oGAL_C_REFUSED _ | with_reducible exact oPMC_PS_MADE _
                 | with_reducible exact oPMC_PS_REFUSED _ | with_reducible apply State.captureWords_kept
                 | with_reducible apply State.poisonRead_kept | with_reducible apply State.ask_kept | with_reducible apply State.bump_kept
                 | with_reducible apply State.releaseFrame_kept | with_reducible apply State.proofDeliver_kept
                 | with_reducible apply State.writeProof_kept | split | dsimp only)

theorem State.readProof_kept {ps : List Part} {K : Nat → Prop} {z0 : State} (s : State) (x : Proof) (hwonel : Part.wonel ∈ ps) (hflt : Part.flt ∈ ps)
    (hlinks : Part.links ∈ ps) (hgalley : Part.galley ∈ ps) (htables : Part.tables ∈ ps) (htelem : Part.telem ∈ ps) (htim : Part.tim ∈ ps)
    (hcmp : Part.cmp ∈ ps) (hmem : Part.mem ∈ ps) (hdict : Part.dict ∈ ps) (hbusy : Part.busy ∈ ps) (hout : Part.out ∈ ps) (hfresh : Part.fresh ∈ ps)
    (ko : CodedKeys K) (oGAL_INVALID_READS : K Obj.GAL_INVALID_READS) (hK : Kept ps K z0 s) : Kept ps K z0 (State.readProof s x).2 := by
  unfold State.readProof
  repeat' (first | with_reducible assumption | with_reducible apply State.captureWords_kept)

theorem readPmcProof_kept {ps : List Part} {K : Nat → Prop} {z0 : State} (s : State) (hwonel : Part.wonel ∈ ps) (hflt : Part.flt ∈ ps)
    (hlinks : Part.links ∈ ps) (hgalley : Part.galley ∈ ps) (htables : Part.tables ∈ ps) (htelem : Part.telem ∈ ps) (htim : Part.tim ∈ ps)
    (hcmp : Part.cmp ∈ ps) (hmem : Part.mem ∈ ps) (hdict : Part.dict ∈ ps) (hbusy : Part.busy ∈ ps) (hout : Part.out ∈ ps) (hfresh : Part.fresh ∈ ps)
    (ko : BufferKeys K) (oGAL_INVALID_READS : K Obj.GAL_INVALID_READS) (hK : Kept ps K z0 s) : Kept ps K z0 (readPmcProof s).2.2 := by
  unfold readPmcProof
  repeat' (first | with_reducible intro _ | with_reducible assumption | exact ko.toCodedKeys | with_reducible apply State.readProof_kept
                 | with_reducible apply State.proofFree_kept | with_reducible apply Kept.ite_snd2 | exact Or.inl ‹_›
                 | with_reducible exact Or.inr rfl | with_reducible exact Or.inl rfl | split | dsimp only
                 | with_reducible exact Nat.le_max_right _ _ | with_reducible apply Kept.all)

theorem State.unitReady_kept {ps : List Part} {K : Nat → Prop} {z0 : State} (s : State) (stream : Nat) (seq : Nat) (time : Nat)
    (entries : List (Nat × Nat)) (htelem : Part.telem ∈ ps) (hdict : Part.dict ∈ ps) (oPMC_EXP_SKIP_SAMPLES : K Obj.PMC_EXP_SKIP_SAMPLES)
    (oPMC_EXP_SKIP_SNAPS : K Obj.PMC_EXP_SKIP_SNAPS) (hK : Kept ps K z0 s) : Kept ps K z0 (State.unitReady s stream seq time entries) := by
  unfold State.unitReady
  repeat' (first | with_reducible intro _ | with_reducible assumption | with_reducible apply State.bump_kept | with_reducible apply Kept.ite
                 | exact Or.inl ‹_› | with_reducible exact Or.inr rfl | with_reducible exact Or.inl rfl | split | dsimp only
                 | with_reducible exact Nat.le_max_right _ _ | with_reducible apply Kept.all)

theorem State.unitRecords_kept {ps : List Part} {K : Nat → Prop} {z0 : State} (s : State) (x : ExportUnit) (hwonel : Part.wonel ∈ ps)
    (hflt : Part.flt ∈ ps) (hlinks : Part.links ∈ ps) (hgalley : Part.galley ∈ ps) (htables : Part.tables ∈ ps) (htelem : Part.telem ∈ ps)
    (htim : Part.tim ∈ ps) (hcmp : Part.cmp ∈ ps) (hmem : Part.mem ∈ ps) (hdict : Part.dict ∈ ps) (hbusy : Part.busy ∈ ps) (hout : Part.out ∈ ps)
    (hfresh : Part.fresh ∈ ps) (ko : CodedKeys K) (oGAL_INVALID_READS : K Obj.GAL_INVALID_READS) (hK : Kept ps K z0 s)
    : Kept ps K z0 (State.unitRecords s x).2 := by
  unfold State.unitRecords
  repeat' (first | with_reducible intro _ | with_reducible assumption | with_reducible apply State.readProof_kept
                 | with_reducible apply Kept.foldl_snd | with_reducible apply Kept.ite_snd)

theorem State.exportOne_kept {ps : List Part} {K : Nat → Prop} {z0 : State} (s : State) (c : Nat) (x : ExportUnit) (groups : List (Nat × List Bytes))
    (hwonel : Part.wonel ∈ ps) (hflt : Part.flt ∈ ps) (hlinks : Part.links ∈ ps) (hgalley : Part.galley ∈ ps) (hsched : Part.sched ∈ ps)
    (hports : Part.ports ∈ ps) (htables : Part.tables ∈ ps) (htelem : Part.telem ∈ ps) (htim : Part.tim ∈ ps) (hcmp : Part.cmp ∈ ps)
    (hmem : Part.mem ∈ ps) (hdict : Part.dict ∈ ps) (hbusy : Part.busy ∈ ps) (hout : Part.out ∈ ps) (hfresh : Part.fresh ∈ ps) (ko : BufferKeys K)
    (oCTR_LPI_TX_US : ∀ i, K (Obj.CTR_LPI_TX_US i)) (oCTR_TX_FLUSHED : ∀ i, K (Obj.CTR_TX_FLUSHED i)) (oCTR_TX_FRAMES : ∀ i, K (Obj.CTR_TX_FRAMES i))
    (oCTR_TX_LSO_REFUSED : ∀ i, K (Obj.CTR_TX_LSO_REFUSED i)) (oCTR_TX_LSO_SEGMENTS : ∀ i, K (Obj.CTR_TX_LSO_SEGMENTS i))
    (oCTR_TX_OCTETS : ∀ i, K (Obj.CTR_TX_OCTETS i)) (oCTR_TX_PAUSE : ∀ i, K (Obj.CTR_TX_PAUSE i)) (oGAL_C_FALLBACKS : ∀ i, K (Obj.GAL_C_FALLBACKS i))
    (oGAL_C_FREE_MIN : ∀ i, K (Obj.GAL_C_FREE_MIN i)) (oGAL_C_GRANTS : ∀ i, K (Obj.GAL_C_GRANTS i)) (oGAL_C_REFUSED : ∀ i, K (Obj.GAL_C_REFUSED i))
    (oPMC_CH_DATAGRAMS : ∀ i, K (Obj.PMC_CH_DATAGRAMS i)) (oPMC_CH_REFUSED : ∀ i, K (Obj.PMC_CH_REFUSED i))
    (oPMC_CH_SENDS : ∀ i, K (Obj.PMC_CH_SENDS i)) (oQ_ENQ : ∀ i j, K (Obj.Q_ENQ i j)) (oQ_TAIL_DROPS : ∀ i j, K (Obj.Q_TAIL_DROPS i j)) (hK
    : Kept ps K z0 s) : Kept ps K z0 (State.exportOne s c x groups) := by
  unfold State.exportOne
  repeat' (first | with_reducible intro _ | with_reducible assumption | with_reducible exact oCTR_LPI_TX_US _
                 | with_reducible exact oCTR_TX_FLUSHED _ | with_reducible exact oCTR_TX_FRAMES _ | with_reducible exact oCTR_TX_LSO_REFUSED _
                 | with_reducible exact oCTR_TX_LSO_SEGMENTS _ | with_reducible exact oCTR_TX_OCTETS _ | with_reducible exact oCTR_TX_PAUSE _
                 | with_reducible exact oGAL_C_FALLBACKS _ | with_reducible exact oGAL_C_FREE_MIN _ | with_reducible exact oGAL_C_GRANTS _
                 | with_reducible exact oGAL_C_REFUSED _ | with_reducible exact oPMC_CH_DATAGRAMS _ | with_reducible exact oPMC_CH_REFUSED _
                 | with_reducible exact oPMC_CH_SENDS _ | with_reducible exact oQ_ENQ _ _ | with_reducible exact oQ_TAIL_DROPS _ _
                 | with_reducible apply State.pmc_kept | with_reducible apply State.bump_kept | with_reducible apply State.bumpBy_kept
                 | with_reducible apply State.largeSend_kept | with_reducible apply Kept.ite)

theorem State.exportAll_kept {ps : List Part} {K : Nat → Prop} {z0 : State} (s : State) (c : Nat) (x : ExportUnit) (per : Nat)
    (groups : List (Nat × List Bytes)) (n : Nat) (hwonel : Part.wonel ∈ ps) (hflt : Part.flt ∈ ps) (hlinks : Part.links ∈ ps)
    (hgalley : Part.galley ∈ ps) (hsched : Part.sched ∈ ps) (hports : Part.ports ∈ ps) (htables : Part.tables ∈ ps) (htelem : Part.telem ∈ ps)
    (htim : Part.tim ∈ ps) (hcmp : Part.cmp ∈ ps) (hmem : Part.mem ∈ ps) (hdict : Part.dict ∈ ps) (hbusy : Part.busy ∈ ps) (hout : Part.out ∈ ps)
    (hfresh : Part.fresh ∈ ps) (ko : BufferKeys K) (oCTR_LPI_TX_US : ∀ i, K (Obj.CTR_LPI_TX_US i)) (oCTR_TX_FLUSHED : ∀ i, K (Obj.CTR_TX_FLUSHED i))
    (oCTR_TX_FRAMES : ∀ i, K (Obj.CTR_TX_FRAMES i)) (oCTR_TX_LSO_REFUSED : ∀ i, K (Obj.CTR_TX_LSO_REFUSED i))
    (oCTR_TX_LSO_SEGMENTS : ∀ i, K (Obj.CTR_TX_LSO_SEGMENTS i)) (oCTR_TX_OCTETS : ∀ i, K (Obj.CTR_TX_OCTETS i))
    (oCTR_TX_PAUSE : ∀ i, K (Obj.CTR_TX_PAUSE i)) (oGAL_C_FALLBACKS : ∀ i, K (Obj.GAL_C_FALLBACKS i))
    (oGAL_C_FREE_MIN : ∀ i, K (Obj.GAL_C_FREE_MIN i)) (oGAL_C_GRANTS : ∀ i, K (Obj.GAL_C_GRANTS i)) (oGAL_C_REFUSED : ∀ i, K (Obj.GAL_C_REFUSED i))
    (oPMC_CH_DATAGRAMS : ∀ i, K (Obj.PMC_CH_DATAGRAMS i)) (oPMC_CH_REFUSED : ∀ i, K (Obj.PMC_CH_REFUSED i))
    (oPMC_CH_SENDS : ∀ i, K (Obj.PMC_CH_SENDS i)) (oQ_ENQ : ∀ i j, K (Obj.Q_ENQ i j)) (oQ_TAIL_DROPS : ∀ i j, K (Obj.Q_TAIL_DROPS i j)) (hK
    : Kept ps K z0 s) : Kept ps K z0 (State.exportAll s c x per groups n) := by
  induction n generalizing s c x per groups with
  | zero =>
    unfold State.exportAll
    repeat' (first | with_reducible intro _ | with_reducible assumption | with_reducible exact oCTR_LPI_TX_US _
                   | with_reducible exact oCTR_TX_FLUSHED _ | with_reducible exact oCTR_TX_FRAMES _ | with_reducible exact oCTR_TX_LSO_REFUSED _
                   | with_reducible exact oCTR_TX_LSO_SEGMENTS _ | with_reducible exact oCTR_TX_OCTETS _ | with_reducible exact oCTR_TX_PAUSE _
                   | with_reducible exact oGAL_C_FALLBACKS _ | with_reducible exact oGAL_C_FREE_MIN _ | with_reducible exact oGAL_C_GRANTS _
                   | with_reducible exact oGAL_C_REFUSED _ | with_reducible exact oPMC_CH_DATAGRAMS _ | with_reducible exact oPMC_CH_REFUSED _
                   | with_reducible exact oPMC_CH_SENDS _ | with_reducible exact oQ_ENQ _ _ | with_reducible exact oQ_TAIL_DROPS _ _
                   | with_reducible apply State.exportOne_kept | with_reducible apply Kept.ite)
  | succ n ih =>
    unfold State.exportAll
    repeat' (first | with_reducible intro _ | with_reducible assumption | with_reducible exact oCTR_LPI_TX_US _
                   | with_reducible exact oCTR_TX_FLUSHED _ | with_reducible exact oCTR_TX_FRAMES _ | with_reducible exact oCTR_TX_LSO_REFUSED _
                   | with_reducible exact oCTR_TX_LSO_SEGMENTS _ | with_reducible exact oCTR_TX_OCTETS _ | with_reducible exact oCTR_TX_PAUSE _
                   | with_reducible exact oGAL_C_FALLBACKS _ | with_reducible exact oGAL_C_FREE_MIN _ | with_reducible exact oGAL_C_GRANTS _
                   | with_reducible exact oGAL_C_REFUSED _ | with_reducible exact oPMC_CH_DATAGRAMS _ | with_reducible exact oPMC_CH_REFUSED _
                   | with_reducible exact oPMC_CH_SENDS _ | with_reducible exact oQ_ENQ _ _ | with_reducible exact oQ_TAIL_DROPS _ _
                   | with_reducible apply State.exportOne_kept | with_reducible apply ih | with_reducible apply Kept.ite)

theorem State.writeCfg_kept {ps : List Part} {K : Nat → Prop} {z0 : State} (s : State) (b : Nat) (k : Nat) (v : Nat) (htelem : Part.telem ∈ ps) (hK
    : Kept ps K z0 s) : Kept ps K z0 (State.writeCfg s b k v) := by
  unfold State.writeCfg
  repeat' (first | with_reducible intro _ | with_reducible assumption | exact Or.inl ‹_› | with_reducible exact Or.inr rfl
                 | with_reducible exact Or.inl rfl | dsimp only | with_reducible exact Nat.le_max_right _ _ | with_reducible apply Kept.all)

theorem startPmcBClear_kept {ps : List Part} {K : Nat → Prop} {z0 : State} (s : State) (b : Nat) (htelem : Part.telem ∈ ps) (hdict : Part.dict ∈ ps)
    (hbusy : Part.busy ∈ ps) (oPMC_B_CLEAR : K Obj.PMC_B_CLEAR) (hK : Kept ps K z0 s) : Kept ps K z0 (startPmcBClear s b).2 := by
  unfold startPmcBClear
  repeat' (first | with_reducible intro _ | with_reducible assumption | with_reducible apply State.runOnce_kept | exact Or.inl ‹_›
                 | with_reducible exact Or.inr rfl | with_reducible exact Or.inl rfl | dsimp only | with_reducible exact Nat.le_max_right _ _
                 | with_reducible apply Kept.all)

theorem State.ctrTick_kept {ps : List Part} {K : Nat → Prop} {z0 : State} (s : State) (htelem : Part.telem ∈ ps) (hfresh : Part.fresh ∈ ps) (hK
    : Kept ps K z0 s) : Kept ps K z0 (State.ctrTick s) := by
  unfold State.ctrTick
  repeat' (first | with_reducible intro _ | with_reducible assumption | with_reducible apply State.pmc_kept
                 | with_reducible apply State.useFree_kept | with_reducible apply Kept.foldl | with_reducible apply Kept.ite | exact Or.inl ‹_›
                 | with_reducible exact Or.inr rfl | with_reducible exact Or.inl rfl | dsimp only | with_reducible exact Nat.le_max_right _ _
                 | with_reducible apply Kept.all)

theorem startPmcSnap_kept {ps : List Part} {K : Nat → Prop} {z0 : State} (s : State) (htelem : Part.telem ∈ ps) (hdict : Part.dict ∈ ps)
    (hbusy : Part.busy ∈ ps) (oPMC_SNAP : K Obj.PMC_SNAP) (hK : Kept ps K z0 s) : Kept ps K z0 (startPmcSnap s).2 := by
  unfold startPmcSnap
  repeat' (first | with_reducible intro _ | with_reducible assumption | with_reducible apply State.runOnce_kept
                 | with_reducible apply State.runBegin_kept | with_reducible apply Kept.ite_snd | exact Or.inl ‹_›
                 | with_reducible exact Or.inr rfl | with_reducible exact Or.inl rfl | split | dsimp only
                 | with_reducible exact Nat.le_max_right _ _ | with_reducible apply Kept.all)

end Sys2Proof.Machine
end

