-- ==== Sys2Proof/Laws/KeptPtp.lean ====
section
/-! SUPPORT. What the operations of Machine/Ptp.lean keep (Laws/Kept.lean). -/

namespace Sys2Proof.Machine
open Sys2Proof

theorem State.modInst_kept {ps : List Part} {K : Nat → Prop} {z0 : State} (s : State) (d : Nat) (f : PtpInst → PtpInst) (hptp : Part.ptp ∈ ps) (hK
    : Kept ps K z0 s) : Kept ps K z0 (State.modInst s d f) := by
  unfold State.modInst
  repeat' (first | with_reducible intro _ | with_reducible assumption | exact Or.inl ‹_› | with_reducible exact Or.inr rfl
                 | with_reducible exact Or.inl rfl | dsimp only | with_reducible exact Nat.le_max_right _ _ | with_reducible apply Kept.all)
  all_goals (simp [Nat.le_max_right]; done)

theorem State.decideStates_kept {ps : List Part} {K : Nat → Prop} {z0 : State} (s : State) (d : Nat) (best : Option Foreign) (hptp : Part.ptp ∈ ps)
    (hK : Kept ps K z0 s) : Kept ps K z0 (State.decideStates s d best) := by
  unfold State.decideStates
  repeat' (first | with_reducible assumption | with_reducible apply State.modInst_kept)

theorem State.bmca_kept {ps : List Part} {K : Nat → Prop} {z0 : State} (s : State) (d : Nat) (hptp : Part.ptp ∈ ps) (hdict : Part.dict ∈ ps)
    (oTIM_P_GM : ∀ i, K (Obj.TIM_P_GM i)) (oTIM_P_PARENT : ∀ i, K (Obj.TIM_P_PARENT i)) (oTIM_P_PATH_DELAY : ∀ i, K (Obj.TIM_P_PATH_DELAY i))
    (oTIM_P_SLAVE_PORT : ∀ i, K (Obj.TIM_P_SLAVE_PORT i)) (hK : Kept ps K z0 s) : Kept ps K z0 (State.bmca s d) := by
  unfold State.bmca
  repeat' (first | with_reducible assumption | with_reducible exact oTIM_P_GM _ | with_reducible exact oTIM_P_PARENT _
                 | with_reducible exact oTIM_P_PATH_DELAY _ | with_reducible exact oTIM_P_SLAVE_PORT _ | with_reducible apply State.modInst_kept
                 | with_reducible apply State.put_kept | with_reducible apply State.decideStates_kept | with_reducible apply Kept.ite | split)

theorem State.replayKeep_kept {ps : List Part} {K : Nat → Prop} {z0 : State} (s : State) (d : Nat) (m : Bytes) (hptp : Part.ptp ∈ ps) (hK
    : Kept ps K z0 s) : Kept ps K z0 (State.replayKeep s d m) := by
  unfold State.replayKeep
  repeat' (first | with_reducible assumption | with_reducible apply State.modInst_kept | split)

theorem State.syncDone_kept {ps : List Part} {K : Nat → Prop} {z0 : State} (s : State) (d : Nat) (t1 : Int) (t2 : Int) (hptp : Part.ptp ∈ ps)
    (hcmp : Part.cmp ∈ ps) (hfresh : Part.fresh ∈ ps) (hK : Kept ps K z0 s) : Kept ps K z0 (State.syncDone s d t1 t2) := by
  unfold State.syncDone
  repeat' (first | with_reducible assumption | with_reducible apply State.modInst_kept | with_reducible apply State.queueMeasure_kept
                 | with_reducible apply Kept.ite)

theorem State.delayResp_kept {ps : List Part} {K : Nat → Prop} {z0 : State} (s : State) (d : Nat) (r : PtpRx) (hptp : Part.ptp ∈ ps)
    (hdict : Part.dict ∈ ps) (oTIM_P_PATH_DELAY : ∀ i, K (Obj.TIM_P_PATH_DELAY i)) (hK : Kept ps K z0 s) : Kept ps K z0 (State.delayResp s d r) := by
  unfold State.delayResp
  repeat' (first | with_reducible intro _ | with_reducible assumption | with_reducible exact oTIM_P_PATH_DELAY _
                 | with_reducible apply State.modInst_kept | with_reducible apply State.put_kept | with_reducible apply Kept.ite
                 | exact Or.inl ‹_› | with_reducible exact Or.inr rfl | with_reducible exact Or.inl rfl | split | dsimp only
                 | with_reducible exact Nat.le_max_right _ _ | with_reducible apply Kept.all)

theorem State.announce_kept {ps : List Part} {K : Nat → Prop} {z0 : State} (s : State) (d : Nat) (r : PtpRx) (hptp : Part.ptp ∈ ps)
    (hdict : Part.dict ∈ ps) (oTIM_P_GM : ∀ i, K (Obj.TIM_P_GM i)) (oTIM_P_PARENT : ∀ i, K (Obj.TIM_P_PARENT i))
    (oTIM_P_PATH_DELAY : ∀ i, K (Obj.TIM_P_PATH_DELAY i)) (oTIM_P_SLAVE_PORT : ∀ i, K (Obj.TIM_P_SLAVE_PORT i)) (hK : Kept ps K z0 s)
    : Kept ps K z0 (State.announce s d r) := by
  unfold State.announce
  repeat' (first | with_reducible intro _ | with_reducible assumption | with_reducible exact oTIM_P_GM _ | with_reducible exact oTIM_P_PARENT _
                 | with_reducible exact oTIM_P_PATH_DELAY _ | with_reducible exact oTIM_P_SLAVE_PORT _ | with_reducible apply State.bmca_kept
                 | with_reducible apply State.modInst_kept | with_reducible apply Kept.ite)

theorem State.ptpSend_kept {ps : List Part} {K : Nat → Prop} {z0 : State} (s : State) (d : Nat) (port : Nat) (kind : Nat) (mac : Bytes) (ip : Nat)
    (m : Bytes) (hwonel : Part.wonel ∈ ps) (hflt : Part.flt ∈ ps) (hlinks : Part.links ∈ ps) (hgalley : Part.galley ∈ ps) (hsched : Part.sched ∈ ps)
    (hports : Part.ports ∈ ps) (htables : Part.tables ∈ ps) (htelem : Part.telem ∈ ps) (htim : Part.tim ∈ ps) (hcmp : Part.cmp ∈ ps)
    (hmem : Part.mem ∈ ps) (hdict : Part.dict ∈ ps) (hbusy : Part.busy ∈ ps) (hout : Part.out ∈ ps) (hfresh : Part.fresh ∈ ps) (ko : BufferKeys K)
    (oCTR_LPI_TX_US : ∀ i, K (Obj.CTR_LPI_TX_US i)) (oCTR_TX_FLUSHED : ∀ i, K (Obj.CTR_TX_FLUSHED i)) (oCTR_TX_FRAMES : ∀ i, K (Obj.CTR_TX_FRAMES i))
    (oCTR_TX_LSO_SEGMENTS : ∀ i, K (Obj.CTR_TX_LSO_SEGMENTS i)) (oCTR_TX_OCTETS : ∀ i, K (Obj.CTR_TX_OCTETS i))
    (oCTR_TX_PAUSE : ∀ i, K (Obj.CTR_TX_PAUSE i)) (oGAL_C_FALLBACKS : ∀ i, K (Obj.GAL_C_FALLBACKS i))
    (oGAL_C_FREE_MIN : ∀ i, K (Obj.GAL_C_FREE_MIN i)) (oGAL_C_GRANTS : ∀ i, K (Obj.GAL_C_GRANTS i)) (oGAL_C_REFUSED : ∀ i, K (Obj.GAL_C_REFUSED i))
    (oQ_ENQ : ∀ i j, K (Obj.Q_ENQ i j)) (oQ_TAIL_DROPS : ∀ i j, K (Obj.Q_TAIL_DROPS i j)) (hK : Kept ps K z0 s)
    : Kept ps K z0 (State.ptpSend s d port kind mac ip m) := by
  unfold State.ptpSend
  repeat' (first | with_reducible intro _ | with_reducible assumption | with_reducible exact oCTR_LPI_TX_US _
                 | with_reducible exact oCTR_TX_FLUSHED _ | with_reducible exact oCTR_TX_FRAMES _ | with_reducible exact oCTR_TX_LSO_SEGMENTS _
                 | with_reducible exact oCTR_TX_OCTETS _ | with_reducible exact oCTR_TX_PAUSE _ | with_reducible exact oGAL_C_FALLBACKS _
                 | with_reducible exact oGAL_C_FREE_MIN _ | with_reducible exact oGAL_C_GRANTS _ | with_reducible exact oGAL_C_REFUSED _
                 | with_reducible exact oQ_ENQ _ _ | with_reducible exact oQ_TAIL_DROPS _ _ | with_reducible apply State.useFree_kept
                 | with_reducible apply State.cmpSend_kept)

theorem State.sendDelayResp_kept {ps : List Part} {K : Nat → Prop} {z0 : State} (s : State) (d : Nat) (r : PtpRx) (hwonel : Part.wonel ∈ ps)
    (hflt : Part.flt ∈ ps) (hlinks : Part.links ∈ ps) (hgalley : Part.galley ∈ ps) (hsched : Part.sched ∈ ps) (hports : Part.ports ∈ ps)
    (htables : Part.tables ∈ ps) (htelem : Part.telem ∈ ps) (htim : Part.tim ∈ ps) (hcmp : Part.cmp ∈ ps) (hmem : Part.mem ∈ ps)
    (hdict : Part.dict ∈ ps) (hbusy : Part.busy ∈ ps) (hout : Part.out ∈ ps) (hfresh : Part.fresh ∈ ps) (ko : BufferKeys K)
    (oCTR_LPI_TX_US : ∀ i, K (Obj.CTR_LPI_TX_US i)) (oCTR_TX_FLUSHED : ∀ i, K (Obj.CTR_TX_FLUSHED i)) (oCTR_TX_FRAMES : ∀ i, K (Obj.CTR_TX_FRAMES i))
    (oCTR_TX_LSO_SEGMENTS : ∀ i, K (Obj.CTR_TX_LSO_SEGMENTS i)) (oCTR_TX_OCTETS : ∀ i, K (Obj.CTR_TX_OCTETS i))
    (oCTR_TX_PAUSE : ∀ i, K (Obj.CTR_TX_PAUSE i)) (oGAL_C_FALLBACKS : ∀ i, K (Obj.GAL_C_FALLBACKS i))
    (oGAL_C_FREE_MIN : ∀ i, K (Obj.GAL_C_FREE_MIN i)) (oGAL_C_GRANTS : ∀ i, K (Obj.GAL_C_GRANTS i)) (oGAL_C_REFUSED : ∀ i, K (Obj.GAL_C_REFUSED i))
    (oQ_ENQ : ∀ i j, K (Obj.Q_ENQ i j)) (oQ_TAIL_DROPS : ∀ i j, K (Obj.Q_TAIL_DROPS i j)) (hK : Kept ps K z0 s)
    : Kept ps K z0 (State.sendDelayResp s d r) := by
  unfold State.sendDelayResp
  repeat' (first | with_reducible intro _ | with_reducible assumption | with_reducible exact oCTR_LPI_TX_US _
                 | with_reducible exact oCTR_TX_FLUSHED _ | with_reducible exact oCTR_TX_FRAMES _ | with_reducible exact oCTR_TX_LSO_SEGMENTS _
                 | with_reducible exact oCTR_TX_OCTETS _ | with_reducible exact oCTR_TX_PAUSE _ | with_reducible exact oGAL_C_FALLBACKS _
                 | with_reducible exact oGAL_C_FREE_MIN _ | with_reducible exact oGAL_C_GRANTS _ | with_reducible exact oGAL_C_REFUSED _
                 | with_reducible exact oQ_ENQ _ _ | with_reducible exact oQ_TAIL_DROPS _ _ | with_reducible apply State.ptpSend_kept)

theorem State.sendSignal_kept {ps : List Part} {K : Nat → Prop} {z0 : State} (s : State) (d : Nat) (port : Nat) (mac : Bytes) (ip : Nat)
    (target : Bytes) (tlvs : Bytes) (hwonel : Part.wonel ∈ ps) (hflt : Part.flt ∈ ps) (hlinks : Part.links ∈ ps) (hgalley : Part.galley ∈ ps)
    (hsched : Part.sched ∈ ps) (hports : Part.ports ∈ ps) (htables : Part.tables ∈ ps) (htelem : Part.telem ∈ ps) (htim : Part.tim ∈ ps)
    (hptp : Part.ptp ∈ ps) (hcmp : Part.cmp ∈ ps) (hmem : Part.mem ∈ ps) (hdict : Part.dict ∈ ps) (hbusy : Part.busy ∈ ps) (hout : Part.out ∈ ps)
    (hfresh : Part.fresh ∈ ps) (ko : BufferKeys K) (oCTR_LPI_TX_US : ∀ i, K (Obj.CTR_LPI_TX_US i)) (oCTR_TX_FLUSHED : ∀ i, K (Obj.CTR_TX_FLUSHED i))
    (oCTR_TX_FRAMES : ∀ i, K (Obj.CTR_TX_FRAMES i)) (oCTR_TX_LSO_SEGMENTS : ∀ i, K (Obj.CTR_TX_LSO_SEGMENTS i))
    (oCTR_TX_OCTETS : ∀ i, K (Obj.CTR_TX_OCTETS i)) (oCTR_TX_PAUSE : ∀ i, K (Obj.CTR_TX_PAUSE i)) (oGAL_C_FALLBACKS : ∀ i, K (Obj.GAL_C_FALLBACKS i))
    (oGAL_C_FREE_MIN : ∀ i, K (Obj.GAL_C_FREE_MIN i)) (oGAL_C_GRANTS : ∀ i, K (Obj.GAL_C_GRANTS i)) (oGAL_C_REFUSED : ∀ i, K (Obj.GAL_C_REFUSED i))
    (oQ_ENQ : ∀ i j, K (Obj.Q_ENQ i j)) (oQ_TAIL_DROPS : ∀ i j, K (Obj.Q_TAIL_DROPS i j)) (hK : Kept ps K z0 s)
    : Kept ps K z0 (State.sendSignal s d port mac ip target tlvs) := by
  unfold State.sendSignal
  repeat' (first | with_reducible intro _ | with_reducible assumption | with_reducible exact oCTR_LPI_TX_US _
                 | with_reducible exact oCTR_TX_FLUSHED _ | with_reducible exact oCTR_TX_FRAMES _ | with_reducible exact oCTR_TX_LSO_SEGMENTS _
                 | with_reducible exact oCTR_TX_OCTETS _ | with_reducible exact oCTR_TX_PAUSE _ | with_reducible exact oGAL_C_FALLBACKS _
                 | with_reducible exact oGAL_C_FREE_MIN _ | with_reducible exact oGAL_C_GRANTS _ | with_reducible exact oGAL_C_REFUSED _
                 | with_reducible exact oQ_ENQ _ _ | with_reducible exact oQ_TAIL_DROPS _ _ | with_reducible apply State.ptpSend_kept
                 | with_reducible apply State.modInst_kept)

theorem State.signalTlv_kept {ps : List Part} {K : Nat → Prop} {z0 : State} (s : State) (d : Nat) (r : PtpRx) (t : Nat) (v : Bytes)
    (hptp : Part.ptp ∈ ps) (hK : Kept ps K z0 s) : Kept ps K z0 (State.signalTlv s d r t v).2 := by
  unfold State.signalTlv
  repeat' (first | with_reducible assumption | with_reducible apply State.modInst_kept | with_reducible apply Kept.ite
                 | with_reducible apply Kept.ite_snd)

theorem State.signalTlvs_kept {ps : List Part} {K : Nat → Prop} {z0 : State} (s : State) (d : Nat) (r : PtpRx) (off : Nat) (reply : Bytes) (n : Nat)
    (hptp : Part.ptp ∈ ps) (hK : Kept ps K z0 s) : Kept ps K z0 (State.signalTlvs s d r off reply n).2 := by
  induction n generalizing s d r off reply with
  | zero =>
    unfold State.signalTlvs
    repeat' (first | with_reducible assumption | with_reducible apply State.signalTlv_kept | with_reducible apply Kept.ite_snd)
  | succ n ih =>
    unfold State.signalTlvs
    repeat' (first | with_reducible assumption | with_reducible apply State.signalTlv_kept | with_reducible apply ih
                   | with_reducible apply Kept.ite_snd)

theorem State.signaling_kept {ps : List Part} {K : Nat → Prop} {z0 : State} (s : State) (d : Nat) (r : PtpRx) (hwonel : Part.wonel ∈ ps)
    (hflt : Part.flt ∈ ps) (hlinks : Part.links ∈ ps) (hgalley : Part.galley ∈ ps) (hsched : Part.sched ∈ ps) (hports : Part.ports ∈ ps)
    (htables : Part.tables ∈ ps) (htelem : Part.telem ∈ ps) (htim : Part.tim ∈ ps) (hptp : Part.ptp ∈ ps) (hcmp : Part.cmp ∈ ps)
    (hmem : Part.mem ∈ ps) (hdict : Part.dict ∈ ps) (hbusy : Part.busy ∈ ps) (hout : Part.out ∈ ps) (hfresh : Part.fresh ∈ ps) (ko : BufferKeys K)
    (oCTR_LPI_TX_US : ∀ i, K (Obj.CTR_LPI_TX_US i)) (oCTR_TX_FLUSHED : ∀ i, K (Obj.CTR_TX_FLUSHED i)) (oCTR_TX_FRAMES : ∀ i, K (Obj.CTR_TX_FRAMES i))
    (oCTR_TX_LSO_SEGMENTS : ∀ i, K (Obj.CTR_TX_LSO_SEGMENTS i)) (oCTR_TX_OCTETS : ∀ i, K (Obj.CTR_TX_OCTETS i))
    (oCTR_TX_PAUSE : ∀ i, K (Obj.CTR_TX_PAUSE i)) (oGAL_C_FALLBACKS : ∀ i, K (Obj.GAL_C_FALLBACKS i))
    (oGAL_C_FREE_MIN : ∀ i, K (Obj.GAL_C_FREE_MIN i)) (oGAL_C_GRANTS : ∀ i, K (Obj.GAL_C_GRANTS i)) (oGAL_C_REFUSED : ∀ i, K (Obj.GAL_C_REFUSED i))
    (oQ_ENQ : ∀ i j, K (Obj.Q_ENQ i j)) (oQ_TAIL_DROPS : ∀ i j, K (Obj.Q_TAIL_DROPS i j)) (hK : Kept ps K z0 s) : Kept ps K z0 (State.signaling s d r)
    := by
  unfold State.signaling
  repeat' (first | with_reducible intro _ | with_reducible assumption | with_reducible exact oCTR_LPI_TX_US _
                 | with_reducible exact oCTR_TX_FLUSHED _ | with_reducible exact oCTR_TX_FRAMES _ | with_reducible exact oCTR_TX_LSO_SEGMENTS _
                 | with_reducible exact oCTR_TX_OCTETS _ | with_reducible exact oCTR_TX_PAUSE _ | with_reducible exact oGAL_C_FALLBACKS _
                 | with_reducible exact oGAL_C_FREE_MIN _ | with_reducible exact oGAL_C_GRANTS _ | with_reducible exact oGAL_C_REFUSED _
                 | with_reducible exact oQ_ENQ _ _ | with_reducible exact oQ_TAIL_DROPS _ _ | with_reducible apply State.signalTlvs_kept
                 | with_reducible apply State.sendSignal_kept | with_reducible apply Kept.ite)

theorem State.ptpTake_kept {ps : List Part} {K : Nat → Prop} {z0 : State} (s : State) (d : Nat) (r : PtpRx) (hwonel : Part.wonel ∈ ps)
    (hflt : Part.flt ∈ ps) (hlinks : Part.links ∈ ps) (hgalley : Part.galley ∈ ps) (hsched : Part.sched ∈ ps) (hports : Part.ports ∈ ps)
    (htables : Part.tables ∈ ps) (htelem : Part.telem ∈ ps) (htim : Part.tim ∈ ps) (hptp : Part.ptp ∈ ps) (hcmp : Part.cmp ∈ ps)
    (hmem : Part.mem ∈ ps) (hdict : Part.dict ∈ ps) (hbusy : Part.busy ∈ ps) (hout : Part.out ∈ ps) (hfresh : Part.fresh ∈ ps) (ko : BufferKeys K)
    (oCTR_LPI_TX_US : ∀ i, K (Obj.CTR_LPI_TX_US i)) (oCTR_TX_FLUSHED : ∀ i, K (Obj.CTR_TX_FLUSHED i)) (oCTR_TX_FRAMES : ∀ i, K (Obj.CTR_TX_FRAMES i))
    (oCTR_TX_LSO_SEGMENTS : ∀ i, K (Obj.CTR_TX_LSO_SEGMENTS i)) (oCTR_TX_OCTETS : ∀ i, K (Obj.CTR_TX_OCTETS i))
    (oCTR_TX_PAUSE : ∀ i, K (Obj.CTR_TX_PAUSE i)) (oGAL_C_FALLBACKS : ∀ i, K (Obj.GAL_C_FALLBACKS i))
    (oGAL_C_FREE_MIN : ∀ i, K (Obj.GAL_C_FREE_MIN i)) (oGAL_C_GRANTS : ∀ i, K (Obj.GAL_C_GRANTS i)) (oGAL_C_REFUSED : ∀ i, K (Obj.GAL_C_REFUSED i))
    (oQ_ENQ : ∀ i j, K (Obj.Q_ENQ i j)) (oQ_TAIL_DROPS : ∀ i j, K (Obj.Q_TAIL_DROPS i j)) (oTIM_P_GM : ∀ i, K (Obj.TIM_P_GM i))
    (oTIM_P_PARENT : ∀ i, K (Obj.TIM_P_PARENT i)) (oTIM_P_PATH_DELAY : ∀ i, K (Obj.TIM_P_PATH_DELAY i))
    (oTIM_P_SLAVE_PORT : ∀ i, K (Obj.TIM_P_SLAVE_PORT i)) (hK : Kept ps K z0 s) : Kept ps K z0 (State.ptpTake s d r) := by
  unfold State.ptpTake
  repeat' (first | with_reducible intro _ | with_reducible assumption | with_reducible exact oCTR_LPI_TX_US _
                 | with_reducible exact oCTR_TX_FLUSHED _ | with_reducible exact oCTR_TX_FRAMES _ | with_reducible exact oCTR_TX_LSO_SEGMENTS _
                 | with_reducible exact oCTR_TX_OCTETS _ | with_reducible exact oCTR_TX_PAUSE _ | with_reducible exact oGAL_C_FALLBACKS _
                 | with_reducible exact oGAL_C_FREE_MIN _ | with_reducible exact oGAL_C_GRANTS _ | with_reducible exact oGAL_C_REFUSED _
                 | with_reducible exact oQ_ENQ _ _ | with_reducible exact oQ_TAIL_DROPS _ _ | with_reducible exact oTIM_P_GM _
                 | with_reducible exact oTIM_P_PARENT _ | with_reducible exact oTIM_P_PATH_DELAY _ | with_reducible exact oTIM_P_SLAVE_PORT _
                 | with_reducible apply State.modInst_kept | with_reducible apply State.syncDone_kept | with_reducible apply State.delayResp_kept
                 | with_reducible apply State.announce_kept | with_reducible apply State.signaling_kept | with_reducible apply Kept.ite | split)

theorem State.sendMessage_kept {ps : List Part} {K : Nat → Prop} {z0 : State} (s : State) (d : Nat) (port : Nat) (kind : Nat) (flags : Nat)
    (body : Bytes) (hwonel : Part.wonel ∈ ps) (hflt : Part.flt ∈ ps) (hlinks : Part.links ∈ ps) (hgalley : Part.galley ∈ ps)
    (hsched : Part.sched ∈ ps) (hports : Part.ports ∈ ps) (htables : Part.tables ∈ ps) (htelem : Part.telem ∈ ps) (htim : Part.tim ∈ ps)
    (hptp : Part.ptp ∈ ps) (hcmp : Part.cmp ∈ ps) (hmem : Part.mem ∈ ps) (hdict : Part.dict ∈ ps) (hbusy : Part.busy ∈ ps) (hout : Part.out ∈ ps)
    (hfresh : Part.fresh ∈ ps) (ko : BufferKeys K) (oCTR_LPI_TX_US : ∀ i, K (Obj.CTR_LPI_TX_US i)) (oCTR_TX_FLUSHED : ∀ i, K (Obj.CTR_TX_FLUSHED i))
    (oCTR_TX_FRAMES : ∀ i, K (Obj.CTR_TX_FRAMES i)) (oCTR_TX_LSO_SEGMENTS : ∀ i, K (Obj.CTR_TX_LSO_SEGMENTS i))
    (oCTR_TX_OCTETS : ∀ i, K (Obj.CTR_TX_OCTETS i)) (oCTR_TX_PAUSE : ∀ i, K (Obj.CTR_TX_PAUSE i)) (oGAL_C_FALLBACKS : ∀ i, K (Obj.GAL_C_FALLBACKS i))
    (oGAL_C_FREE_MIN : ∀ i, K (Obj.GAL_C_FREE_MIN i)) (oGAL_C_GRANTS : ∀ i, K (Obj.GAL_C_GRANTS i)) (oGAL_C_REFUSED : ∀ i, K (Obj.GAL_C_REFUSED i))
    (oQ_ENQ : ∀ i j, K (Obj.Q_ENQ i j)) (oQ_TAIL_DROPS : ∀ i j, K (Obj.Q_TAIL_DROPS i j)) (hK : Kept ps K z0 s)
    : Kept ps K z0 (State.sendMessage s d port kind flags body) := by
  unfold State.sendMessage
  repeat' (first | with_reducible intro _ | with_reducible assumption | with_reducible exact oCTR_LPI_TX_US _
                 | with_reducible exact oCTR_TX_FLUSHED _ | with_reducible exact oCTR_TX_FRAMES _ | with_reducible exact oCTR_TX_LSO_SEGMENTS _
                 | with_reducible exact oCTR_TX_OCTETS _ | with_reducible exact oCTR_TX_PAUSE _ | with_reducible exact oGAL_C_FALLBACKS _
                 | with_reducible exact oGAL_C_FREE_MIN _ | with_reducible exact oGAL_C_GRANTS _ | with_reducible exact oGAL_C_REFUSED _
                 | with_reducible exact oQ_ENQ _ _ | with_reducible exact oQ_TAIL_DROPS _ _ | with_reducible apply State.modInst_kept
                 | with_reducible apply State.ptpSend_kept | with_reducible apply Kept.foldl)

theorem State.sendFollowUp_kept {ps : List Part} {K : Nat → Prop} {z0 : State} (s : State) (d : Nat) (port : Nat) (hwonel : Part.wonel ∈ ps)
    (hflt : Part.flt ∈ ps) (hlinks : Part.links ∈ ps) (hgalley : Part.galley ∈ ps) (hsched : Part.sched ∈ ps) (hports : Part.ports ∈ ps)
    (htables : Part.tables ∈ ps) (htelem : Part.telem ∈ ps) (htim : Part.tim ∈ ps) (hptp : Part.ptp ∈ ps) (hcmp : Part.cmp ∈ ps)
    (hmem : Part.mem ∈ ps) (hdict : Part.dict ∈ ps) (hbusy : Part.busy ∈ ps) (hout : Part.out ∈ ps) (hfresh : Part.fresh ∈ ps) (ko : BufferKeys K)
    (oCTR_LPI_TX_US : ∀ i, K (Obj.CTR_LPI_TX_US i)) (oCTR_TX_FLUSHED : ∀ i, K (Obj.CTR_TX_FLUSHED i)) (oCTR_TX_FRAMES : ∀ i, K (Obj.CTR_TX_FRAMES i))
    (oCTR_TX_LSO_SEGMENTS : ∀ i, K (Obj.CTR_TX_LSO_SEGMENTS i)) (oCTR_TX_OCTETS : ∀ i, K (Obj.CTR_TX_OCTETS i))
    (oCTR_TX_PAUSE : ∀ i, K (Obj.CTR_TX_PAUSE i)) (oGAL_C_FALLBACKS : ∀ i, K (Obj.GAL_C_FALLBACKS i))
    (oGAL_C_FREE_MIN : ∀ i, K (Obj.GAL_C_FREE_MIN i)) (oGAL_C_GRANTS : ∀ i, K (Obj.GAL_C_GRANTS i)) (oGAL_C_REFUSED : ∀ i, K (Obj.GAL_C_REFUSED i))
    (oQ_ENQ : ∀ i j, K (Obj.Q_ENQ i j)) (oQ_TAIL_DROPS : ∀ i j, K (Obj.Q_TAIL_DROPS i j)) (hK : Kept ps K z0 s)
    : Kept ps K z0 (State.sendFollowUp s d port) := by
  unfold State.sendFollowUp
  repeat' (first | with_reducible intro _ | with_reducible assumption | with_reducible exact oCTR_LPI_TX_US _
                 | with_reducible exact oCTR_TX_FLUSHED _ | with_reducible exact oCTR_TX_FRAMES _ | with_reducible exact oCTR_TX_LSO_SEGMENTS _
                 | with_reducible exact oCTR_TX_OCTETS _ | with_reducible exact oCTR_TX_PAUSE _ | with_reducible exact oGAL_C_FALLBACKS _
                 | with_reducible exact oGAL_C_FREE_MIN _ | with_reducible exact oGAL_C_GRANTS _ | with_reducible exact oGAL_C_REFUSED _
                 | with_reducible exact oQ_ENQ _ _ | with_reducible exact oQ_TAIL_DROPS _ _ | with_reducible apply State.ptpSend_kept
                 | with_reducible apply Kept.foldl | exact Or.inl ‹_› | with_reducible exact Or.inr rfl | with_reducible exact Or.inl rfl | split
                 | dsimp only | with_reducible exact Nat.le_max_right _ _ | with_reducible apply Kept.all)

theorem State.instReset_kept {ps : List Part} {K : Nat → Prop} {z0 : State} (s : State) (d : Nat) (hptp : Part.ptp ∈ ps) (hdict : Part.dict ∈ ps)
    (oTIM_P_GM : ∀ i, K (Obj.TIM_P_GM i)) (oTIM_P_PARENT : ∀ i, K (Obj.TIM_P_PARENT i)) (oTIM_P_PATH_DELAY : ∀ i, K (Obj.TIM_P_PATH_DELAY i))
    (oTIM_P_SLAVE_PORT : ∀ i, K (Obj.TIM_P_SLAVE_PORT i)) (hK : Kept ps K z0 s) : Kept ps K z0 (State.instReset s d) := by
  unfold State.instReset
  repeat' (first | with_reducible assumption | with_reducible exact oTIM_P_GM _ | with_reducible exact oTIM_P_PARENT _
                 | with_reducible exact oTIM_P_PATH_DELAY _ | with_reducible exact oTIM_P_SLAVE_PORT _ | with_reducible apply State.put_kept
                 | with_reducible apply State.modInst_kept)

end Sys2Proof.Machine
end

