-- ==== Sys2Proof/Laws/KeptCompositor.lean ====
section
/-! SUPPORT. What the operations of Machine/Compositor.lean keep (Laws/Kept.lean). -/

namespace Sys2Proof.Machine
open Sys2Proof

theorem State.readyCtxs_kept {ps : List Part} {K : Nat → Prop} {z0 : State} (s : State) (hcmp : Part.cmp ∈ ps) (hK : Kept ps K z0 s)
    : Kept ps K z0 (State.readyCtxs s) := by
  unfold State.readyCtxs
  repeat' (first | with_reducible intro _ | with_reducible assumption | with_reducible apply State.modCtx_kept | with_reducible apply Kept.foldl
                 | with_reducible apply Kept.ite | split | dsimp only)

theorem State.leaveSeq_kept {ps : List Part} {K : Nat → Prop} {z0 : State} (s : State) (c : Nat) (st : CtxState) (line : Nat) (hcmp : Part.cmp ∈ ps)
    (hK : Kept ps K z0 s) : Kept ps K z0 (State.leaveSeq s c st line) := by
  unfold State.leaveSeq
  repeat' (first | with_reducible intro _ | with_reducible assumption | with_reducible apply State.modCtx_kept | exact Or.inl ‹_›
                 | with_reducible exact Or.inr rfl | with_reducible exact Or.inl rfl | dsimp only | with_reducible exact Nat.le_max_right _ _
                 | with_reducible apply Kept.all)

theorem State.cmpFault_kept {ps : List Part} {K : Nat → Prop} {z0 : State} (s : State) (detail : Nat) (hwonel : Part.wonel ∈ ps)
    (hflt : Part.flt ∈ ps) (hlinks : Part.links ∈ ps) (hgalley : Part.galley ∈ ps) (htables : Part.tables ∈ ps) (htim : Part.tim ∈ ps)
    (hcmp : Part.cmp ∈ ps) (hdict : Part.dict ∈ ps) (hout : Part.out ∈ ps) (hfresh : Part.fresh ∈ ps) (ko : ReactKeys K) (hK : Kept ps K z0 s)
    : Kept ps K z0 (State.cmpFault s detail) := by
  unfold State.cmpFault
  repeat' (first | with_reducible assumption | with_reducible apply State.failureOf_kept)

theorem State.restartCtx_kept {ps : List Part} {K : Nat → Prop} {z0 : State} (s : State) (c : Nat) (hcmp : Part.cmp ∈ ps) (hdict : Part.dict ∈ ps)
    (oCMP_C_RESTARTS : ∀ i, K (Obj.CMP_C_RESTARTS i)) (hK : Kept ps K z0 s) : Kept ps K z0 (State.restartCtx s c) := by
  unfold State.restartCtx
  repeat' (first | with_reducible assumption | with_reducible exact oCMP_C_RESTARTS _ | with_reducible apply State.bump_kept
                 | with_reducible apply State.modCtx_kept)

theorem State.fetchLine_kept {ps : List Part} {K : Nat → Prop} {z0 : State} (s : State) (a : Nat) (hwonel : Part.wonel ∈ ps) (hflt : Part.flt ∈ ps)
    (hlinks : Part.links ∈ ps) (hgalley : Part.galley ∈ ps) (htables : Part.tables ∈ ps) (htim : Part.tim ∈ ps) (hcmp : Part.cmp ∈ ps)
    (hmem : Part.mem ∈ ps) (hdict : Part.dict ∈ ps) (hbusy : Part.busy ∈ ps) (hout : Part.out ∈ ps) (hfresh : Part.fresh ∈ ps) (ko : CodedKeys K) (hK
    : Kept ps K z0 s) : Kept ps K z0 (State.fetchLine s a).2 := by
  unfold State.fetchLine
  repeat' (first | with_reducible assumption | with_reducible apply State.readWord_kept)

theorem State.park_kept {ps : List Part} {K : Nat → Prop} {z0 : State} (s : State) (c : Nat) (hcmp : Part.cmp ∈ ps) (hdict : Part.dict ∈ ps)
    (oCMP_C_LINE : ∀ i, K (Obj.CMP_C_LINE i)) (hK : Kept ps K z0 s) : Kept ps K z0 (State.park s c) := by
  unfold State.park
  repeat' (first | with_reducible assumption | with_reducible exact oCMP_C_LINE _ | with_reducible apply State.put_kept
                 | with_reducible apply State.modCtx_kept)

theorem State.parkTouched_kept {ps : List Part} {K : Nat → Prop} {z0 : State} (s : State) (hcmp : Part.cmp ∈ ps) (hdict : Part.dict ∈ ps)
    (oCMP_C_LINE : ∀ i, K (Obj.CMP_C_LINE i)) (hK : Kept ps K z0 s) : Kept ps K z0 (State.parkTouched s) := by
  unfold State.parkTouched
  repeat' (first | with_reducible intro _ | with_reducible assumption | with_reducible exact oCMP_C_LINE _ | with_reducible apply State.park_kept
                 | with_reducible apply Kept.foldl | with_reducible apply Kept.ite)

theorem State.haltAll_kept {ps : List Part} {K : Nat → Prop} {z0 : State} (s : State) (r : PatchRun) (hcmp : Part.cmp ∈ ps) (hdict : Part.dict ∈ ps)
    (oCMP_C_LINE : ∀ i, K (Obj.CMP_C_LINE i)) (hK : Kept ps K z0 s) : Kept ps K z0 (State.haltAll s r) := by
  unfold State.haltAll
  repeat' (first | with_reducible intro _ | with_reducible assumption | with_reducible exact oCMP_C_LINE _ | with_reducible apply State.park_kept
                 | with_reducible apply Kept.foldl | with_reducible apply Kept.ite | exact Or.inl ‹_› | with_reducible exact Or.inr rfl
                 | with_reducible exact Or.inl rfl | dsimp only | with_reducible exact Nat.le_max_right _ _ | with_reducible apply Kept.all)

theorem State.settle_kept {ps : List Part} {K : Nat → Prop} {z0 : State} (s : State) (hcmp : Part.cmp ∈ ps) (hdict : Part.dict ∈ ps)
    (oCMP_C_LINE : ∀ i, K (Obj.CMP_C_LINE i)) (hK : Kept ps K z0 s) : Kept ps K z0 (State.settle s) := by
  unfold State.settle
  repeat' (first | with_reducible intro _ | with_reducible assumption | with_reducible exact oCMP_C_LINE _
                 | with_reducible apply State.parkTouched_kept | with_reducible apply State.haltAll_kept | with_reducible apply Kept.ite | split)

theorem State.beginPatch_kept {ps : List Part} {K : Nat → Prop} {z0 : State} (s : State) (remove : Bool) (own : Bool) (hcmp : Part.cmp ∈ ps)
    (hdict : Part.dict ∈ ps) (oCMP_C_LINE : ∀ i, K (Obj.CMP_C_LINE i)) (hK : Kept ps K z0 s) : Kept ps K z0 (State.beginPatch s remove own) := by
  unfold State.beginPatch
  repeat' (first | with_reducible intro _ | with_reducible assumption | with_reducible exact oCMP_C_LINE _
                 | with_reducible apply State.modCtx_kept | with_reducible apply State.settle_kept | with_reducible apply Kept.foldl
                 | exact Or.inl ‹_› | with_reducible exact Or.inr rfl | with_reducible exact Or.inl rfl | dsimp only
                 | with_reducible exact Nat.le_max_right _ _ | with_reducible apply Kept.all)

theorem State.unpark_kept {ps : List Part} {K : Nat → Prop} {z0 : State} (s : State) (c : Nat) (hcmp : Part.cmp ∈ ps) (hdict : Part.dict ∈ ps)
    (oCMP_C_RESTARTS : ∀ i, K (Obj.CMP_C_RESTARTS i)) (hK : Kept ps K z0 s) : Kept ps K z0 (State.unpark s c) := by
  unfold State.unpark
  repeat' (first | with_reducible intro _ | with_reducible assumption | with_reducible exact oCMP_C_RESTARTS _
                 | with_reducible apply State.restartCtx_kept | with_reducible apply State.modCtx_kept | with_reducible apply Kept.ite)

theorem State.switchPatch_kept {ps : List Part} {K : Nat → Prop} {z0 : State} (s : State) (r : PatchRun) (hwonel : Part.wonel ∈ ps)
    (hflt : Part.flt ∈ ps) (hlinks : Part.links ∈ ps) (hgalley : Part.galley ∈ ps) (htables : Part.tables ∈ ps) (htim : Part.tim ∈ ps)
    (hcmp : Part.cmp ∈ ps) (hmem : Part.mem ∈ ps) (hdict : Part.dict ∈ ps) (hout : Part.out ∈ ps) (ko : ReactKeys K)
    (oCMP_C_RESTARTS : ∀ i, K (Obj.CMP_C_RESTARTS i)) (oCMP_HALT_MAX : K Obj.CMP_HALT_MAX) (oCMP_PATCH_ID : K Obj.CMP_PATCH_ID)
    (oCMP_PATCH_MAPS : K Obj.CMP_PATCH_MAPS) (oCMP_PATCH_SEGS : K Obj.CMP_PATCH_SEGS) (hK : Kept ps K z0 s) : Kept ps K z0 (State.switchPatch s r)
    := by
  unfold State.switchPatch
  repeat' (first | with_reducible intro _ | with_reducible assumption | with_reducible exact ko.events | with_reducible exact ko.lost
                 | with_reducible exact ko.rungs | with_reducible exact ko.state | with_reducible exact ko.cause | with_reducible exact ko.shed _
                 | with_reducible exact oCMP_C_RESTARTS _ | with_reducible apply State.unpark_kept | with_reducible apply State.put_kept
                 | with_reducible apply State.dispatchForme_kept | with_reducible apply State.note_kept | with_reducible apply State.latch_kept
                 | with_reducible apply State.raiseTo_kept | with_reducible apply Kept.foldl | exact Or.inl ‹_› | with_reducible exact Or.inr rfl
                 | with_reducible exact Or.inl rfl | split | dsimp only | with_reducible exact Nat.le_max_right _ _ | with_reducible apply Kept.all)

theorem State.abortPatch_kept {ps : List Part} {K : Nat → Prop} {z0 : State} (s : State) (hcmp : Part.cmp ∈ ps) (hdict : Part.dict ∈ ps)
    (hbusy : Part.busy ∈ ps) (oCMP_PATCH_ACTIVATE : K Obj.CMP_PATCH_ACTIVATE) (oCMP_P_RESTART : ∀ i, K (Obj.CMP_P_RESTART i))
    (oCMP_P_STATE : ∀ i, K (Obj.CMP_P_STATE i)) (hK : Kept ps K z0 s) : Kept ps K z0 (State.abortPatch s) := by
  unfold State.abortPatch
  repeat' (first | with_reducible intro _ | with_reducible assumption | with_reducible exact oCMP_P_RESTART _
                 | with_reducible exact oCMP_P_STATE _ | with_reducible apply State.modCtx_kept | with_reducible apply State.progEnd_kept
                 | with_reducible apply State.runEnd_kept | with_reducible apply Kept.foldl | with_reducible apply Kept.ite | exact Or.inl ‹_›
                 | with_reducible exact Or.inr rfl | with_reducible exact Or.inl rfl | split | dsimp only
                 | with_reducible exact Nat.le_max_right _ _ | with_reducible apply Kept.all)

theorem State.removePatch_kept {ps : List Part} {K : Nat → Prop} {z0 : State} (s : State) (hcmp : Part.cmp ∈ ps) (hdict : Part.dict ∈ ps)
    (oCMP_C_LINE : ∀ i, K (Obj.CMP_C_LINE i)) (oCMP_P_DONE : ∀ i, K (Obj.CMP_P_DONE i)) (oCMP_P_RESTART : ∀ i, K (Obj.CMP_P_RESTART i))
    (oCMP_P_RUN : ∀ i, K (Obj.CMP_P_RUN i)) (oCMP_P_STATE : ∀ i, K (Obj.CMP_P_STATE i)) (oCMP_P_TOTAL : ∀ i, K (Obj.CMP_P_TOTAL i)) (hK
    : Kept ps K z0 s) : Kept ps K z0 (State.removePatch s) := by
  unfold State.removePatch
  repeat' (first | with_reducible intro _ | with_reducible assumption | with_reducible exact oCMP_C_LINE _ | with_reducible exact oCMP_P_DONE _
                 | with_reducible exact oCMP_P_RESTART _ | with_reducible exact oCMP_P_RUN _ | with_reducible exact oCMP_P_STATE _
                 | with_reducible exact oCMP_P_TOTAL _ | with_reducible apply State.beginPatch_kept | with_reducible apply State.progBegin_kept
                 | with_reducible apply Kept.ite)

theorem State.fetchLost_kept {ps : List Part} {K : Nat → Prop} {z0 : State} (s : State) (c : Nat) (patch : Bool) (hwonel : Part.wonel ∈ ps)
    (hcmp : Part.cmp ∈ ps) (hdict : Part.dict ∈ ps) (oCMP_C_LINE : ∀ i, K (Obj.CMP_C_LINE i)) (oCMP_C_RESTARTS : ∀ i, K (Obj.CMP_C_RESTARTS i))
    (oCMP_P_DONE : ∀ i, K (Obj.CMP_P_DONE i)) (oCMP_P_RESTART : ∀ i, K (Obj.CMP_P_RESTART i)) (oCMP_P_RUN : ∀ i, K (Obj.CMP_P_RUN i))
    (oCMP_P_STATE : ∀ i, K (Obj.CMP_P_STATE i)) (oCMP_P_TOTAL : ∀ i, K (Obj.CMP_P_TOTAL i)) (hK : Kept ps K z0 s)
    : Kept ps K z0 (State.fetchLost s c patch) := by
  unfold State.fetchLost
  repeat' (first | with_reducible intro _ | with_reducible assumption | with_reducible exact oCMP_C_LINE _
                 | with_reducible exact oCMP_C_RESTARTS _ | with_reducible exact oCMP_P_DONE _ | with_reducible exact oCMP_P_RESTART _
                 | with_reducible exact oCMP_P_RUN _ | with_reducible exact oCMP_P_STATE _ | with_reducible exact oCMP_P_TOTAL _
                 | with_reducible apply State.latch_kept | with_reducible apply State.removePatch_kept
                 | with_reducible apply State.restartCtx_kept | with_reducible apply Kept.ite)

theorem State.cmpMem_kept {ps : List Part} {K : Nat → Prop} {z0 : State} (s : State) (l : Microline) (adr : Nat) (val : Nat)
    (hwonel : Part.wonel ∈ ps) (hflt : Part.flt ∈ ps) (hlinks : Part.links ∈ ps) (hgalley : Part.galley ∈ ps) (htables : Part.tables ∈ ps)
    (htim : Part.tim ∈ ps) (hcmp : Part.cmp ∈ ps) (hmem : Part.mem ∈ ps) (hdict : Part.dict ∈ ps) (hbusy : Part.busy ∈ ps) (hout : Part.out ∈ ps)
    (hfresh : Part.fresh ∈ ps) (ko : CodedKeys K) (oFLT_DIAG_LOGGED : K Obj.FLT_DIAG_LOGGED) (hK : Kept ps K z0 s)
    : Kept ps K z0 (State.cmpMem s l adr val).2 := by
  unfold State.cmpMem
  repeat' (first | with_reducible intro _ | with_reducible assumption | exact ko.toReactKeys | with_reducible apply State.cmpFault_kept
                 | with_reducible apply State.readWord_kept | with_reducible apply State.memWritten_kept | with_reducible apply Kept.ite_snd
                 | exact Or.inl ‹_› | with_reducible exact Or.inr rfl | with_reducible exact Or.inl rfl | split | dsimp only
                 | with_reducible exact Nat.le_max_right _ _ | with_reducible apply Kept.all)

theorem State.ctxDone_kept {ps : List Part} {K : Nat → Prop} {z0 : State} (s : State) (c : Nat) (outcome : Nat) (detail : Nat)
    (htables : Part.tables ∈ ps) (hcmp : Part.cmp ∈ ps) (hdict : Part.dict ∈ ps) (hbusy : Part.busy ∈ ps) (hall : ∀ k, K k) (hK : Kept ps K z0 s)
    : Kept ps K z0 (State.ctxDone s c outcome detail) := by
  unfold State.ctxDone
  repeat' (first | with_reducible intro _ | with_reducible assumption | exact hall _ | with_reducible apply State.modCtx_kept
                 | with_reducible apply State.runEnd_kept | with_reducible apply State.progEnd_kept | exact Or.inl ‹_›
                 | with_reducible exact Or.inr rfl | with_reducible exact Or.inl rfl | split | dsimp only
                 | with_reducible exact Nat.le_max_right _ _ | with_reducible apply Kept.all)

theorem State.cmpEvent_kept {ps : List Part} {K : Nat → Prop} {z0 : State} (s : State) (c : Nat) (l : Microline) (a : Nat) (b : Nat)
    (hwonel : Part.wonel ∈ ps) (hflt : Part.flt ∈ ps) (hlinks : Part.links ∈ ps) (hgalley : Part.galley ∈ ps) (htables : Part.tables ∈ ps)
    (htim : Part.tim ∈ ps) (hcmp : Part.cmp ∈ ps) (hdict : Part.dict ∈ ps) (hbusy : Part.busy ∈ ps) (hout : Part.out ∈ ps) (hfresh : Part.fresh ∈ ps)
    (hall : ∀ k, K k) (hK : Kept ps K z0 s) : Kept ps K z0 (State.cmpEvent s c l a b) := by
  unfold State.cmpEvent
  repeat' (first | with_reducible intro _ | with_reducible assumption | exact hall _ | exact (BufferKeys.ofAll hall).toReactKeys
                 | with_reducible apply State.latch_kept | with_reducible apply State.failureOf_kept | with_reducible apply State.put_kept
                 | with_reducible apply State.ctxDone_kept | with_reducible apply State.modCtx_kept | with_reducible apply Kept.ite | split)

theorem State.cmpNet_kept {ps : List Part} {K : Nat → Prop} {z0 : State} (s : State) (c : Nat) (l : Microline) (adr : Nat) (val : Nat)
    (hcmp : Part.cmp ∈ ps) (hout : Part.out ∈ ps) (hK : Kept ps K z0 s) : Kept ps K z0 (State.cmpNet s c l adr val) := by
  unfold State.cmpNet
  repeat' (first | with_reducible assumption | with_reducible apply State.emit_kept | with_reducible apply State.modCtx_kept
                 | with_reducible apply Kept.ite)

theorem State.safeNoted_kept {ps : List Part} {K : Nat → Prop} {z0 : State} (s : State) (c : Nat) (a : Nat) (l : Microline) (htelem : Part.telem ∈ ps)
    (hdict : Part.dict ∈ ps) (oCMP_P_LINE : ∀ i, K (Obj.CMP_P_LINE i)) (oCMP_P_TIME : ∀ i, K (Obj.CMP_P_TIME i)) (hK : Kept ps K z0 s)
    : Kept ps K z0 (State.safeNoted s c a l) := by
  unfold State.safeNoted
  repeat' (first | with_reducible assumption | with_reducible exact oCMP_P_LINE _ | with_reducible exact oCMP_P_TIME _
                 | with_reducible apply State.pmc_kept | with_reducible apply State.put_kept | with_reducible apply Kept.ite | split)

theorem State.gapCounted_kept {ps : List Part} {K : Nat → Prop} {z0 : State} (s : State) (c : Nat) (l : Microline) (hcmp : Part.cmp ∈ ps)
    (hdict : Part.dict ∈ ps) (oCMP_SAFE_GAP_MAX : K Obj.CMP_SAFE_GAP_MAX) (hK : Kept ps K z0 s) : Kept ps K z0 (State.gapCounted s c l) := by
  unfold State.gapCounted
  repeat' (first | with_reducible assumption | with_reducible apply State.modCtx_kept | with_reducible apply State.raiseTo_kept
                 | with_reducible apply Kept.ite)

theorem State.yieldSeq_kept {ps : List Part} {K : Nat → Prop} {z0 : State} (s : State) (c : Nat) (n : Nat) (hcmp : Part.cmp ∈ ps)
    (hdict : Part.dict ∈ ps) (oCMP_C_LINE : ∀ i, K (Obj.CMP_C_LINE i)) (oCMP_P_STATE : ∀ i, K (Obj.CMP_P_STATE i)) (hK : Kept ps K z0 s)
    : Kept ps K z0 (State.yieldSeq s c n) := by
  unfold State.yieldSeq
  repeat' (first | with_reducible assumption | with_reducible exact oCMP_C_LINE _ | with_reducible exact oCMP_P_STATE _
                 | with_reducible apply State.put_kept | with_reducible apply State.leaveSeq_kept | with_reducible apply Kept.ite | split)

theorem State.freeSeq_kept {ps : List Part} {K : Nat → Prop} {z0 : State} (s : State) (hcmp : Part.cmp ∈ ps) (hK : Kept ps K z0 s)
    : Kept ps K z0 (State.freeSeq s) := by
  unfold State.freeSeq
  repeat' (first | with_reducible intro _ | with_reducible assumption | exact Or.inl ‹_› | with_reducible exact Or.inr rfl
                 | with_reducible exact Or.inl rfl | dsimp only | with_reducible exact Nat.le_max_right _ _ | with_reducible apply Kept.all)

theorem State.atSafe_kept {ps : List Part} {K : Nat → Prop} {z0 : State} (s : State) (c : Nat) (n : Nat) (doneMoved : Bool) (hcmp : Part.cmp ∈ ps)
    (hdict : Part.dict ∈ ps) (oCMP_C_LINE : ∀ i, K (Obj.CMP_C_LINE i)) (oCMP_P_STATE : ∀ i, K (Obj.CMP_P_STATE i)) (hK : Kept ps K z0 s)
    : Kept ps K z0 (State.atSafe s c n doneMoved) := by
  unfold State.atSafe
  repeat' (first | with_reducible intro _ | with_reducible assumption | with_reducible exact oCMP_C_LINE _ | with_reducible exact oCMP_P_STATE _
                 | with_reducible apply State.settle_kept | with_reducible apply State.freeSeq_kept | with_reducible apply State.park_kept
                 | with_reducible apply State.modCtx_kept | with_reducible apply State.yieldSeq_kept | with_reducible apply Kept.ite)

theorem State.safePoint_kept {ps : List Part} {K : Nat → Prop} {z0 : State} (s : State) (c : Nat) (a : Nat) (l : Microline) (next : NextLine)
    (doneMoved : Bool) (hwonel : Part.wonel ∈ ps) (hflt : Part.flt ∈ ps) (hlinks : Part.links ∈ ps) (hgalley : Part.galley ∈ ps)
    (htables : Part.tables ∈ ps) (htelem : Part.telem ∈ ps) (htim : Part.tim ∈ ps) (hcmp : Part.cmp ∈ ps) (hdict : Part.dict ∈ ps)
    (hout : Part.out ∈ ps) (hfresh : Part.fresh ∈ ps) (ko : ReactKeys K) (oCMP_C_LINE : ∀ i, K (Obj.CMP_C_LINE i))
    (oCMP_C_RESTARTS : ∀ i, K (Obj.CMP_C_RESTARTS i)) (oCMP_P_LINE : ∀ i, K (Obj.CMP_P_LINE i)) (oCMP_P_STATE : ∀ i, K (Obj.CMP_P_STATE i))
    (oCMP_P_TIME : ∀ i, K (Obj.CMP_P_TIME i)) (oCMP_SAFE_GAP_MAX : K Obj.CMP_SAFE_GAP_MAX) (hK : Kept ps K z0 s)
    : Kept ps K z0 (State.safePoint s c a l next doneMoved) := by
  unfold State.safePoint
  repeat' (first | with_reducible intro _ | with_reducible assumption | with_reducible exact oCMP_C_LINE _
                 | with_reducible exact oCMP_C_RESTARTS _ | with_reducible exact oCMP_P_LINE _ | with_reducible exact oCMP_P_STATE _
                 | with_reducible exact oCMP_P_TIME _ | with_reducible apply State.gapCounted_kept | with_reducible apply State.safeNoted_kept
                 | with_reducible apply State.restartCtx_kept | with_reducible apply State.cmpFault_kept
                 | with_reducible apply State.readyCtxs_kept | with_reducible apply State.settle_kept | with_reducible apply State.leaveSeq_kept
                 | with_reducible apply State.modCtx_kept | with_reducible apply State.atSafe_kept | with_reducible apply Kept.ite | split)

theorem State.lineCounted_kept {ps : List Part} {K : Nat → Prop} {z0 : State} (s : State) (c : Nat) (a : Nat) (patch : Bool)
    (htelem : Part.telem ∈ ps) (hcmp : Part.cmp ∈ ps) (hdict : Part.dict ∈ ps) (oCMP_C_LINES : ∀ i, K (Obj.CMP_C_LINES i))
    (oCMP_LINES : K Obj.CMP_LINES) (oCMP_PATCH_LINES : K Obj.CMP_PATCH_LINES) (hK : Kept ps K z0 s) : Kept ps K z0 (State.lineCounted s c a patch)
    := by
  unfold State.lineCounted
  repeat' (first | with_reducible assumption | with_reducible exact oCMP_C_LINES _ | with_reducible apply State.pmc_kept
                 | with_reducible apply State.modCtx_kept | with_reducible apply State.bump_kept | with_reducible apply Kept.ite)

theorem State.runLine_kept {ps : List Part} {K : Nat → Prop} {z0 : State} (s0 : State) (c : Nat) (a : Nat) (l : Microline) (patch : Bool)
    (hwonel : Part.wonel ∈ ps) (hflt : Part.flt ∈ ps) (hlinks : Part.links ∈ ps) (hgalley : Part.galley ∈ ps) (htables : Part.tables ∈ ps)
    (htelem : Part.telem ∈ ps) (htim : Part.tim ∈ ps) (hcmp : Part.cmp ∈ ps) (hmem : Part.mem ∈ ps) (hdict : Part.dict ∈ ps) (hbusy : Part.busy ∈ ps)
    (hout : Part.out ∈ ps) (hfresh : Part.fresh ∈ ps) (hall : ∀ k, K k) (hK : Kept ps K z0 s0) : Kept ps K z0 (State.runLine s0 c a l patch) := by
  unfold State.runLine
  repeat' (first | with_reducible intro _ | with_reducible assumption | exact hall _ | exact (BufferKeys.ofAll hall).toCodedKeys
                 | exact (BufferKeys.ofAll hall).toReactKeys | with_reducible apply State.lineCounted_kept
                 | with_reducible apply State.cmpMem_kept | with_reducible apply State.modCtx_kept | with_reducible apply State.useFree_kept
                 | with_reducible apply State.cmpEvent_kept | with_reducible apply State.cmpNet_kept | with_reducible apply State.safePoint_kept
                 | with_reducible apply Kept.ite)

theorem State.seqOp_kept {ps : List Part} {K : Nat → Prop} {z0 : State} (s : State) (op : Nat) (hwonel : Part.wonel ∈ ps) (hflt : Part.flt ∈ ps)
    (hlinks : Part.links ∈ ps) (hgalley : Part.galley ∈ ps) (htables : Part.tables ∈ ps) (htelem : Part.telem ∈ ps) (htim : Part.tim ∈ ps)
    (hcmp : Part.cmp ∈ ps) (hmem : Part.mem ∈ ps) (hdict : Part.dict ∈ ps) (hbusy : Part.busy ∈ ps) (hout : Part.out ∈ ps) (hfresh : Part.fresh ∈ ps)
    (hall : ∀ k, K k) (hK : Kept ps K z0 s) : Kept ps K z0 (State.seqOp s op) := by
  unfold State.seqOp
  repeat' (first | with_reducible intro _ | with_reducible assumption | exact hall _ | exact (BufferKeys.ofAll hall).toCodedKeys
                 | with_reducible apply State.fetchLine_kept | with_reducible apply State.fetchLost_kept | with_reducible apply State.modCtx_kept
                 | with_reducible apply State.runLine_kept | with_reducible apply Kept.ite | split | dsimp only)

theorem State.tagCounted_kept {ps : List Part} {K : Nat → Prop} {z0 : State} (s : State) (im : Bytes) (hdict : Part.dict ∈ ps)
    (oKCE_BLOCKS : K Obj.KCE_BLOCKS) (oKCE_MESSAGES : K Obj.KCE_MESSAGES) (hK : Kept ps K z0 s) : Kept ps K z0 (State.tagCounted s im) := by
  unfold State.tagCounted
  repeat' (first | with_reducible assumption | with_reducible apply State.bump_kept | with_reducible apply State.bumpBy_kept)

theorem State.checkPatch_kept {ps : List Part} {K : Nat → Prop} {z0 : State} (s : State) (im : Bytes) (total : Nat) (hstore : Part.store ∈ ps)
    (hwonel : Part.wonel ∈ ps) (hkce : Part.kce ∈ ps) (hflt : Part.flt ∈ ps) (hlinks : Part.links ∈ ps) (hgalley : Part.galley ∈ ps)
    (htables : Part.tables ∈ ps) (htim : Part.tim ∈ ps) (hcmp : Part.cmp ∈ ps) (hdict : Part.dict ∈ ps) (hout : Part.out ∈ ps)
    (hfresh : Part.fresh ∈ ps) (ko : ReactKeys K) (oKCE_BLOCKS : K Obj.KCE_BLOCKS) (oKCE_MESSAGES : K Obj.KCE_MESSAGES)
    (oLCY_PS_WEAR : K Obj.LCY_PS_WEAR) (hK : Kept ps K z0 s) : Kept ps K z0 (State.checkPatch s im total).2 := by
  unfold State.checkPatch
  repeat' (first | with_reducible assumption | with_reducible apply State.tagCounted_kept | with_reducible apply State.countUse_kept
                 | with_reducible apply Kept.ite)

theorem startCmpPatchCheck_kept {ps : List Part} {K : Nat → Prop} {z0 : State} (s : State) (hstore : Part.store ∈ ps) (hwonel : Part.wonel ∈ ps)
    (hkce : Part.kce ∈ ps) (hflt : Part.flt ∈ ps) (hlinks : Part.links ∈ ps) (hgalley : Part.galley ∈ ps) (htables : Part.tables ∈ ps)
    (htim : Part.tim ∈ ps) (hcmp : Part.cmp ∈ ps) (hdict : Part.dict ∈ ps) (hbusy : Part.busy ∈ ps) (hout : Part.out ∈ ps) (hfresh : Part.fresh ∈ ps)
    (ko : ReactKeys K) (oCMP_PATCH_CHECK : K Obj.CMP_PATCH_CHECK) (oCMP_PATCH_STAGED_ID : K Obj.CMP_PATCH_STAGED_ID)
    (oCMP_P_DONE : ∀ i, K (Obj.CMP_P_DONE i)) (oCMP_P_RESTART : ∀ i, K (Obj.CMP_P_RESTART i)) (oCMP_P_RUN : ∀ i, K (Obj.CMP_P_RUN i))
    (oCMP_P_STATE : ∀ i, K (Obj.CMP_P_STATE i)) (oCMP_P_TOTAL : ∀ i, K (Obj.CMP_P_TOTAL i)) (oKCE_BLOCKS : K Obj.KCE_BLOCKS)
    (oKCE_MESSAGES : K Obj.KCE_MESSAGES) (oLCY_PS_WEAR : K Obj.LCY_PS_WEAR) (hK : Kept ps K z0 s) : Kept ps K z0 (startCmpPatchCheck s).2 := by
  unfold startCmpPatchCheck
  repeat' (first | with_reducible intro _ | with_reducible assumption | with_reducible exact oCMP_P_DONE _
                 | with_reducible exact oCMP_P_RESTART _ | with_reducible exact oCMP_P_RUN _ | with_reducible exact oCMP_P_STATE _
                 | with_reducible exact oCMP_P_TOTAL _ | with_reducible apply State.checkPatch_kept | with_reducible apply State.progBegin_kept
                 | with_reducible apply State.progDone_kept | with_reducible apply State.put_kept | with_reducible apply State.latch_kept
                 | with_reducible apply State.progEnd_kept | with_reducible apply State.runOnce_kept | with_reducible apply Kept.ite
                 | with_reducible apply Kept.ite_snd)

theorem startCmpPatchActivate_kept {ps : List Part} {K : Nat → Prop} {z0 : State} (s : State) (hcmp : Part.cmp ∈ ps) (hdict : Part.dict ∈ ps)
    (hbusy : Part.busy ∈ ps) (oCMP_C_LINE : ∀ i, K (Obj.CMP_C_LINE i)) (oCMP_PATCH_ACTIVATE : K Obj.CMP_PATCH_ACTIVATE)
    (oCMP_P_DONE : ∀ i, K (Obj.CMP_P_DONE i)) (oCMP_P_RESTART : ∀ i, K (Obj.CMP_P_RESTART i)) (oCMP_P_RUN : ∀ i, K (Obj.CMP_P_RUN i))
    (oCMP_P_STATE : ∀ i, K (Obj.CMP_P_STATE i)) (oCMP_P_TOTAL : ∀ i, K (Obj.CMP_P_TOTAL i)) (hK : Kept ps K z0 s)
    : Kept ps K z0 (startCmpPatchActivate s).2 := by
  unfold startCmpPatchActivate
  repeat' (first | with_reducible intro _ | with_reducible assumption | with_reducible exact oCMP_C_LINE _ | with_reducible exact oCMP_P_DONE _
                 | with_reducible exact oCMP_P_RESTART _ | with_reducible exact oCMP_P_RUN _ | with_reducible exact oCMP_P_STATE _
                 | with_reducible exact oCMP_P_TOTAL _ | with_reducible apply State.runOnce_kept | with_reducible apply State.beginPatch_kept
                 | with_reducible apply State.runBegin_kept | with_reducible apply State.progBegin_kept | with_reducible apply Kept.ite_snd)

theorem startCmpPatchRemove_kept {ps : List Part} {K : Nat → Prop} {z0 : State} (s : State) (hcmp : Part.cmp ∈ ps) (hdict : Part.dict ∈ ps)
    (hbusy : Part.busy ∈ ps) (oCMP_C_LINE : ∀ i, K (Obj.CMP_C_LINE i)) (oCMP_PATCH_REMOVE : K Obj.CMP_PATCH_REMOVE)
    (oCMP_P_DONE : ∀ i, K (Obj.CMP_P_DONE i)) (oCMP_P_RESTART : ∀ i, K (Obj.CMP_P_RESTART i)) (oCMP_P_RUN : ∀ i, K (Obj.CMP_P_RUN i))
    (oCMP_P_STATE : ∀ i, K (Obj.CMP_P_STATE i)) (oCMP_P_TOTAL : ∀ i, K (Obj.CMP_P_TOTAL i)) (hK : Kept ps K z0 s)
    : Kept ps K z0 (startCmpPatchRemove s).2 := by
  unfold startCmpPatchRemove
  repeat' (first | with_reducible intro _ | with_reducible assumption | with_reducible exact oCMP_C_LINE _ | with_reducible exact oCMP_P_DONE _
                 | with_reducible exact oCMP_P_RESTART _ | with_reducible exact oCMP_P_RUN _ | with_reducible exact oCMP_P_STATE _
                 | with_reducible exact oCMP_P_TOTAL _ | with_reducible apply State.runOnce_kept | with_reducible apply State.beginPatch_kept
                 | with_reducible apply State.runBegin_kept | with_reducible apply State.progBegin_kept | with_reducible apply Kept.ite_snd)

end Sys2Proof.Machine
end

