-- ==== Sys2Proof/Laws/KeptMemory.lean ====
section
/-! SUPPORT. What the operations of Machine/Memory.lean keep (Laws/Kept.lean). -/

namespace Sys2Proof.Machine
open Sys2Proof

theorem State.scrubPass_kept {ps : List Part} {K : Nat → Prop} {z0 : State} (s : State) (kind : Nat) (inst : Nat) (hmem : Part.mem ∈ ps)
    (hdict : Part.dict ∈ ps) (oFLT_MI_SCRUB_PASSES : ∀ i, K (Obj.FLT_MI_SCRUB_PASSES i)) (oFLT_MI_SCRUB_PERIOD : ∀ i, K (Obj.FLT_MI_SCRUB_PERIOD i))
    (hK : Kept ps K z0 s) : Kept ps K z0 (State.scrubPass s kind inst) := by
  unfold State.scrubPass
  repeat' (first | with_reducible intro _ | with_reducible assumption | with_reducible exact oFLT_MI_SCRUB_PASSES _
                 | with_reducible exact oFLT_MI_SCRUB_PERIOD _ | with_reducible apply State.put_kept | exact Or.inl ‹_›
                 | with_reducible exact Or.inr rfl | with_reducible exact Or.inl rfl | dsimp only | with_reducible exact Nat.le_max_right _ _
                 | with_reducible apply Kept.all)

theorem State.scrubLost_kept {ps : List Part} {K : Nat → Prop} {z0 : State} (s : State) (kind : Nat) (inst : Nat) (addr : Nat)
    (hwonel : Part.wonel ∈ ps) (hflt : Part.flt ∈ ps) (hlinks : Part.links ∈ ps) (hgalley : Part.galley ∈ ps) (hsched : Part.sched ∈ ps)
    (hports : Part.ports ∈ ps) (htables : Part.tables ∈ ps) (htelem : Part.telem ∈ ps) (htim : Part.tim ∈ ps) (hcmp : Part.cmp ∈ ps)
    (hmem : Part.mem ∈ ps) (hdict : Part.dict ∈ ps) (hbusy : Part.busy ∈ ps) (hout : Part.out ∈ ps) (hfresh : Part.fresh ∈ ps) (ko : BufferKeys K)
    (oCMP_C_LINE : ∀ i, K (Obj.CMP_C_LINE i)) (oCMP_P_DONE : ∀ i, K (Obj.CMP_P_DONE i)) (oCMP_P_RESTART : ∀ i, K (Obj.CMP_P_RESTART i))
    (oCMP_P_RUN : ∀ i, K (Obj.CMP_P_RUN i)) (oCMP_P_STATE : ∀ i, K (Obj.CMP_P_STATE i)) (oCMP_P_TOTAL : ∀ i, K (Obj.CMP_P_TOTAL i))
    (oCTR_TX_FLUSHED : ∀ i, K (Obj.CTR_TX_FLUSHED i)) (oCTR_TX_FRAMES : ∀ i, K (Obj.CTR_TX_FRAMES i)) (oCTR_TX_OCTETS : ∀ i, K (Obj.CTR_TX_OCTETS i))
    (oCTR_TX_PAUSE : ∀ i, K (Obj.CTR_TX_PAUSE i)) (oFLT_MI_DISCARDS : ∀ i, K (Obj.FLT_MI_DISCARDS i)) (hK : Kept ps K z0 s)
    : Kept ps K z0 (State.scrubLost s kind inst addr) := by
  unfold State.scrubLost
  repeat' (first | with_reducible intro _ | with_reducible assumption | with_reducible exact ko.logged | with_reducible exact ko.galLost
                 | with_reducible exact oCMP_C_LINE _ | with_reducible exact oCMP_P_DONE _ | with_reducible exact oCMP_P_RESTART _
                 | with_reducible exact oCMP_P_RUN _ | with_reducible exact oCMP_P_STATE _ | with_reducible exact oCMP_P_TOTAL _
                 | with_reducible exact oCTR_TX_FLUSHED _ | with_reducible exact oCTR_TX_FRAMES _ | with_reducible exact oCTR_TX_OCTETS _
                 | with_reducible exact oCTR_TX_PAUSE _ | with_reducible exact oFLT_MI_DISCARDS _ | with_reducible apply State.descLost_kept
                 | with_reducible apply State.lrnWrite_kept | with_reducible apply State.modQueue_kept | with_reducible apply State.linkLost_kept
                 | with_reducible apply State.latch_kept | with_reducible apply State.removePatch_kept | with_reducible apply Kept.ite
                 | exact Or.inl ‹_› | with_reducible exact Or.inr rfl | with_reducible exact Or.inl rfl | dsimp only
                 | with_reducible exact Nat.le_max_right _ _ | with_reducible apply Kept.all)

theorem State.backLands_kept {ps : List Part} {K : Nat → Prop} {z0 : State} (s : State) (kind : Nat) (inst : Nat) (addr : Nat) (poison : Bool)
    (hwonel : Part.wonel ∈ ps) (hflt : Part.flt ∈ ps) (hgalley : Part.galley ∈ ps) (hmem : Part.mem ∈ ps) (hdict : Part.dict ∈ ps)
    (oFLT_DIAG_LOGGED : K Obj.FLT_DIAG_LOGGED) (oFLT_EVENTS : K Obj.FLT_EVENTS) (oFLT_EVENT_LOST : K Obj.FLT_EVENT_LOST)
    (oFLT_MI_WRITEBACKS : ∀ i, K (Obj.FLT_MI_WRITEBACKS i)) (hK : Kept ps K z0 s) : Kept ps K z0 (State.backLands s kind inst addr poison) := by
  unfold State.backLands
  repeat' (first | with_reducible assumption | with_reducible exact oFLT_MI_WRITEBACKS _ | with_reducible apply State.bump_kept
                 | with_reducible apply State.memWritten_kept | with_reducible apply State.modGalley_kept | with_reducible apply State.note_kept
                 | with_reducible apply State.setFlips_kept | with_reducible apply Kept.ite | split)

theorem startFltDiagRead_kept {ps : List Part} {K : Nat → Prop} {z0 : State} (s : State) (hdict : Part.dict ∈ ps) (hbusy : Part.busy ∈ ps)
    (oFLT_DIAG_CHECK : K Obj.FLT_DIAG_CHECK) (oFLT_DIAG_DATA : K Obj.FLT_DIAG_DATA) (oFLT_DIAG_READ : K Obj.FLT_DIAG_READ)
    (oFLT_DIAG_SYNDROME : K Obj.FLT_DIAG_SYNDROME) (hK : Kept ps K z0 s) : Kept ps K z0 (startFltDiagRead s).2 := by
  unfold startFltDiagRead
  repeat' (first | with_reducible assumption | with_reducible apply State.runOnce_kept | with_reducible apply State.put_kept
                 | with_reducible apply Kept.ite_snd | split)

theorem startFltDiagWrite_kept {ps : List Part} {K : Nat → Prop} {z0 : State} (s : State) (hmem : Part.mem ∈ ps) (hdict : Part.dict ∈ ps)
    (hbusy : Part.busy ∈ ps) (oFLT_DIAG_LOGGED : K Obj.FLT_DIAG_LOGGED) (oFLT_DIAG_WRITE : K Obj.FLT_DIAG_WRITE) (hK : Kept ps K z0 s)
    : Kept ps K z0 (startFltDiagWrite s).2 := by
  unfold startFltDiagWrite
  repeat' (first | with_reducible intro _ | with_reducible assumption | with_reducible apply State.runOnce_kept
                 | with_reducible apply State.setFlips_kept | with_reducible apply State.memWritten_kept | with_reducible apply State.put_kept
                 | with_reducible apply Kept.ite_snd | exact Or.inl ‹_› | with_reducible exact Or.inr rfl | with_reducible exact Or.inl rfl
                 | split | dsimp only | with_reducible exact Nat.le_max_right _ _ | with_reducible apply Kept.all)

theorem State.endDiag_kept {ps : List Part} {K : Nat → Prop} {z0 : State} (s : State) (htables : Part.tables ∈ ps) (hmem : Part.mem ∈ ps)
    (hdict : Part.dict ∈ ps) (oFLT_DIAG_ENABLE : K Obj.FLT_DIAG_ENABLE) (oFLT_DIAG_LOGGED : K Obj.FLT_DIAG_LOGGED) (hK : Kept ps K z0 s)
    : Kept ps K z0 (State.endDiag s) := by
  unfold State.endDiag
  repeat' (first | with_reducible intro _ | with_reducible assumption | with_reducible apply State.lrnWrite_kept
                 | with_reducible apply State.memWritten_kept | with_reducible apply State.put_kept | with_reducible apply Kept.foldl
                 | with_reducible apply Kept.ite | exact Or.inl ‹_› | with_reducible exact Or.inr rfl | with_reducible exact Or.inl rfl
                 | dsimp only | with_reducible exact Nat.le_max_right _ _ | with_reducible apply Kept.all)

end Sys2Proof.Machine
end

