-- ==== Sys2Proof/Laws/KeptCommit.lean ====
section
/-! SUPPORT. What the operations of Machine/Commit.lean keep (Laws/Kept.lean). -/

namespace Sys2Proof.Machine
open Sys2Proof

theorem State.commitBegin_kept {ps : List Part} {K : Nat → Prop} {z0 : State} (s : State) (snap : Snapshot) (hstore : Part.store ∈ ps)
    (hdict : Part.dict ∈ ps) (oCMP_P_DONE : ∀ i, K (Obj.CMP_P_DONE i)) (oCMP_P_RESTART : ∀ i, K (Obj.CMP_P_RESTART i))
    (oCMP_P_RUN : ∀ i, K (Obj.CMP_P_RUN i)) (oCMP_P_STATE : ∀ i, K (Obj.CMP_P_STATE i)) (oCMP_P_TOTAL : ∀ i, K (Obj.CMP_P_TOTAL i)) (hK
    : Kept ps K z0 s) : Kept ps K z0 (State.commitBegin s snap) := by
  unfold State.commitBegin
  repeat' (first | with_reducible intro _ | with_reducible assumption | with_reducible exact oCMP_P_DONE _
                 | with_reducible exact oCMP_P_RESTART _ | with_reducible exact oCMP_P_RUN _ | with_reducible exact oCMP_P_STATE _
                 | with_reducible exact oCMP_P_TOTAL _ | with_reducible apply State.progBegin_kept | exact Or.inl ‹_›
                 | with_reducible exact Or.inr rfl | with_reducible exact Or.inl rfl | split | dsimp only
                 | with_reducible exact Nat.le_max_right _ _ | with_reducible apply Kept.all)

theorem State.commitAsk_kept {ps : List Part} {K : Nat → Prop} {z0 : State} (s : State) (hstore : Part.store ∈ ps) (hdict : Part.dict ∈ ps)
    (hbusy : Part.busy ∈ ps) (oCMP_P_DONE : ∀ i, K (Obj.CMP_P_DONE i)) (oCMP_P_RESTART : ∀ i, K (Obj.CMP_P_RESTART i))
    (oCMP_P_RUN : ∀ i, K (Obj.CMP_P_RUN i)) (oCMP_P_STATE : ∀ i, K (Obj.CMP_P_STATE i)) (oCMP_P_TOTAL : ∀ i, K (Obj.CMP_P_TOTAL i)) (hK
    : Kept ps K z0 s) : Kept ps K z0 (State.commitAsk s) := by
  unfold State.commitAsk
  repeat' (first | with_reducible intro _ | with_reducible assumption | with_reducible exact oCMP_P_DONE _
                 | with_reducible exact oCMP_P_RESTART _ | with_reducible exact oCMP_P_RUN _ | with_reducible exact oCMP_P_STATE _
                 | with_reducible exact oCMP_P_TOTAL _ | with_reducible apply State.runBegin_kept | with_reducible apply State.commitBegin_kept
                 | with_reducible apply Kept.ite | exact Or.inl ‹_› | with_reducible exact Or.inr rfl | with_reducible exact Or.inl rfl
                 | dsimp only | with_reducible exact Nat.le_max_right _ _ | with_reducible apply Kept.all)

theorem startLcyPsCommit_kept {ps : List Part} {K : Nat → Prop} {z0 : State} (s : State) (cls : Nat) (hstore : Part.store ∈ ps)
    (hdict : Part.dict ∈ ps) (hbusy : Part.busy ∈ ps) (oCMP_P_DONE : ∀ i, K (Obj.CMP_P_DONE i)) (oCMP_P_RESTART : ∀ i, K (Obj.CMP_P_RESTART i))
    (oCMP_P_RUN : ∀ i, K (Obj.CMP_P_RUN i)) (oCMP_P_STATE : ∀ i, K (Obj.CMP_P_STATE i)) (oCMP_P_TOTAL : ∀ i, K (Obj.CMP_P_TOTAL i)) (hK
    : Kept ps K z0 s) : Kept ps K z0 (startLcyPsCommit s cls).2 := by
  unfold startLcyPsCommit
  repeat' (first | with_reducible intro _ | with_reducible assumption | with_reducible exact oCMP_P_DONE _
                 | with_reducible exact oCMP_P_RESTART _ | with_reducible exact oCMP_P_RUN _ | with_reducible exact oCMP_P_STATE _
                 | with_reducible exact oCMP_P_TOTAL _ | with_reducible apply State.commitAsk_kept | with_reducible apply Kept.ite_snd
                 | exact Or.inl ‹_› | with_reducible exact Or.inr rfl | with_reducible exact Or.inl rfl | split | dsimp only
                 | with_reducible exact Nat.le_max_right _ _ | with_reducible apply Kept.all)

theorem State.transitionCommit_kept {ps : List Part} {K : Nat → Prop} {z0 : State} (s : State) (t : Transition) (hstore : Part.store ∈ ps)
    (hdict : Part.dict ∈ ps) (oCMP_P_DONE : ∀ i, K (Obj.CMP_P_DONE i)) (oCMP_P_RESTART : ∀ i, K (Obj.CMP_P_RESTART i))
    (oCMP_P_RUN : ∀ i, K (Obj.CMP_P_RUN i)) (oCMP_P_STATE : ∀ i, K (Obj.CMP_P_STATE i)) (oCMP_P_TOTAL : ∀ i, K (Obj.CMP_P_TOTAL i)) (hK
    : Kept ps K z0 s) : Kept ps K z0 (State.transitionCommit s t) := by
  unfold State.transitionCommit
  repeat' (first | with_reducible intro _ | with_reducible assumption | with_reducible exact oCMP_P_DONE _
                 | with_reducible exact oCMP_P_RESTART _ | with_reducible exact oCMP_P_RUN _ | with_reducible exact oCMP_P_STATE _
                 | with_reducible exact oCMP_P_TOTAL _ | with_reducible apply State.commitBegin_kept | exact Or.inl ‹_›
                 | with_reducible exact Or.inr rfl | with_reducible exact Or.inl rfl | split | dsimp only
                 | with_reducible exact Nat.le_max_right _ _ | with_reducible apply Kept.all)

theorem State.afterCommit_kept {ps : List Part} {K : Nat → Prop} {z0 : State} (s : State) (hstore : Part.store ∈ ps) (hdict : Part.dict ∈ ps)
    (hbusy : Part.busy ∈ ps) (oCMP_P_DONE : ∀ i, K (Obj.CMP_P_DONE i)) (oCMP_P_RESTART : ∀ i, K (Obj.CMP_P_RESTART i))
    (oCMP_P_RUN : ∀ i, K (Obj.CMP_P_RUN i)) (oCMP_P_STATE : ∀ i, K (Obj.CMP_P_STATE i)) (oCMP_P_TOTAL : ∀ i, K (Obj.CMP_P_TOTAL i)) (hK
    : Kept ps K z0 s) : Kept ps K z0 (State.afterCommit s) := by
  unfold State.afterCommit
  repeat' (first | with_reducible intro _ | with_reducible assumption | with_reducible exact oCMP_P_DONE _
                 | with_reducible exact oCMP_P_RESTART _ | with_reducible exact oCMP_P_RUN _ | with_reducible exact oCMP_P_STATE _
                 | with_reducible exact oCMP_P_TOTAL _ | with_reducible apply State.transitionCommit_kept
                 | with_reducible apply State.commitAsk_kept | with_reducible apply Kept.ite | exact Or.inl ‹_› | with_reducible exact Or.inr rfl
                 | with_reducible exact Or.inl rfl | split | dsimp only | with_reducible exact Nat.le_max_right _ _ | with_reducible apply Kept.all)

theorem State.commitFails_kept {ps : List Part} {K : Nat → Prop} {z0 : State} (s : State) (outcome : Nat) (detail : Nat) (hstore : Part.store ∈ ps)
    (hwonel : Part.wonel ∈ ps) (hdict : Part.dict ∈ ps) (hbusy : Part.busy ∈ ps) (oCMP_P_DONE : ∀ i, K (Obj.CMP_P_DONE i))
    (oCMP_P_RESTART : ∀ i, K (Obj.CMP_P_RESTART i)) (oCMP_P_RUN : ∀ i, K (Obj.CMP_P_RUN i)) (oCMP_P_STATE : ∀ i, K (Obj.CMP_P_STATE i))
    (oCMP_P_TOTAL : ∀ i, K (Obj.CMP_P_TOTAL i)) (oLCY_PS_COMMIT : K Obj.LCY_PS_COMMIT) (hK : Kept ps K z0 s)
    : Kept ps K z0 (State.commitFails s outcome detail) := by
  unfold State.commitFails
  repeat' (first | with_reducible intro _ | with_reducible assumption | with_reducible exact oCMP_P_DONE _
                 | with_reducible exact oCMP_P_RESTART _ | with_reducible exact oCMP_P_RUN _ | with_reducible exact oCMP_P_STATE _
                 | with_reducible exact oCMP_P_TOTAL _ | with_reducible apply State.afterCommit_kept | with_reducible apply State.latch_kept
                 | with_reducible apply State.progEnd_kept | with_reducible apply State.runEnd_kept)

theorem State.abortCommit_kept {ps : List Part} {K : Nat → Prop} {z0 : State} (s : State) (hstore : Part.store ∈ ps) (hwonel : Part.wonel ∈ ps)
    (hdict : Part.dict ∈ ps) (hbusy : Part.busy ∈ ps) (oCMP_P_DONE : ∀ i, K (Obj.CMP_P_DONE i)) (oCMP_P_RESTART : ∀ i, K (Obj.CMP_P_RESTART i))
    (oCMP_P_RUN : ∀ i, K (Obj.CMP_P_RUN i)) (oCMP_P_STATE : ∀ i, K (Obj.CMP_P_STATE i)) (oCMP_P_TOTAL : ∀ i, K (Obj.CMP_P_TOTAL i))
    (oLCY_PS_COMMIT : K Obj.LCY_PS_COMMIT) (hK : Kept ps K z0 s) : Kept ps K z0 (State.abortCommit s) := by
  unfold State.abortCommit
  repeat' (first | with_reducible intro _ | with_reducible assumption | with_reducible exact oCMP_P_DONE _
                 | with_reducible exact oCMP_P_RESTART _ | with_reducible exact oCMP_P_RUN _ | with_reducible exact oCMP_P_STATE _
                 | with_reducible exact oCMP_P_TOTAL _ | with_reducible apply State.afterCommit_kept | with_reducible apply State.runEnd_kept
                 | with_reducible apply State.commitFails_kept | with_reducible apply Kept.ite | split)

theorem State.keysFollow_kept {ps : List Part} {K : Nat → Prop} {z0 : State} (s : State) (gen : Nat) (hstore : Part.store ∈ ps)
    (hwonel : Part.wonel ∈ ps) (hflt : Part.flt ∈ ps) (hlinks : Part.links ∈ ps) (hgalley : Part.galley ∈ ps) (htables : Part.tables ∈ ps)
    (htim : Part.tim ∈ ps) (hcmp : Part.cmp ∈ ps) (hdict : Part.dict ∈ ps) (hout : Part.out ∈ ps) (hfresh : Part.fresh ∈ ps) (ko : ReactKeys K)
    (oLCY_PS_WEAR : K Obj.LCY_PS_WEAR) (hK : Kept ps K z0 s) : Kept ps K z0 (State.keysFollow s gen) := by
  unfold State.keysFollow
  repeat' (first | with_reducible intro _ | with_reducible assumption | with_reducible apply State.wear_kept | exact Or.inl ‹_›
                 | with_reducible exact Or.inr rfl | with_reducible exact Or.inl rfl | split | dsimp only
                 | with_reducible exact Nat.le_max_right _ _ | with_reducible apply Kept.all)

theorem State.publish_kept {ps : List Part} {K : Nat → Prop} {z0 : State} (s : State) (lifecycle : Nat) (transitions : Nat) (key : Bytes)
    (images : Images) (hstore : Part.store ∈ ps) (hwonel : Part.wonel ∈ ps) (hflt : Part.flt ∈ ps) (hlinks : Part.links ∈ ps)
    (hgalley : Part.galley ∈ ps) (htables : Part.tables ∈ ps) (htim : Part.tim ∈ ps) (hcmp : Part.cmp ∈ ps) (hdict : Part.dict ∈ ps)
    (hout : Part.out ∈ ps) (hfresh : Part.fresh ∈ ps) (ko : ReactKeys K) (oLCY_PS_BANK : K Obj.LCY_PS_BANK)
    (oLCY_PS_GENERATION : K Obj.LCY_PS_GENERATION) (oLCY_PS_WEAR : K Obj.LCY_PS_WEAR) (hK : Kept ps K z0 s)
    : Kept ps K z0 (State.publish s lifecycle transitions key images) := by
  unfold State.publish
  repeat' (first | with_reducible intro _ | with_reducible assumption | with_reducible apply State.put_kept
                 | with_reducible apply State.wear_kept | with_reducible apply State.latch_kept | exact Or.inl ‹_›
                 | with_reducible exact Or.inr rfl | with_reducible exact Or.inl rfl | split | dsimp only
                 | with_reducible exact Nat.le_max_right _ _ | with_reducible apply Kept.all)

theorem State.ordinaryCommit_kept {ps : List Part} {K : Nat → Prop} {z0 : State} (s : State) (flashOk : Bool) (b : Bank) (hstore : Part.store ∈ ps)
    (hwonel : Part.wonel ∈ ps) (hflt : Part.flt ∈ ps) (hlinks : Part.links ∈ ps) (hgalley : Part.galley ∈ ps) (htables : Part.tables ∈ ps)
    (htim : Part.tim ∈ ps) (hcmp : Part.cmp ∈ ps) (hdict : Part.dict ∈ ps) (hbusy : Part.busy ∈ ps) (hout : Part.out ∈ ps) (hfresh : Part.fresh ∈ ps)
    (ko : ReactKeys K) (oCMP_P_DONE : ∀ i, K (Obj.CMP_P_DONE i)) (oCMP_P_RESTART : ∀ i, K (Obj.CMP_P_RESTART i))
    (oCMP_P_RUN : ∀ i, K (Obj.CMP_P_RUN i)) (oCMP_P_STATE : ∀ i, K (Obj.CMP_P_STATE i)) (oCMP_P_TOTAL : ∀ i, K (Obj.CMP_P_TOTAL i))
    (oLCY_PS_BANK : K Obj.LCY_PS_BANK) (oLCY_PS_COMMIT : K Obj.LCY_PS_COMMIT) (oLCY_PS_GENERATION : K Obj.LCY_PS_GENERATION)
    (oLCY_PS_WEAR : K Obj.LCY_PS_WEAR) (hK : Kept ps K z0 s) : Kept ps K z0 (State.ordinaryCommit s flashOk b) := by
  unfold State.ordinaryCommit
  repeat' (first | with_reducible intro _ | with_reducible assumption | with_reducible exact oCMP_P_DONE _
                 | with_reducible exact oCMP_P_RESTART _ | with_reducible exact oCMP_P_RUN _ | with_reducible exact oCMP_P_STATE _
                 | with_reducible exact oCMP_P_TOTAL _ | with_reducible apply State.afterCommit_kept | with_reducible apply State.progEnd_kept
                 | with_reducible apply State.progDone_kept | with_reducible apply State.runEnd_kept | with_reducible apply State.emit_kept
                 | with_reducible apply State.commitFails_kept | with_reducible apply State.publish_kept
                 | with_reducible apply State.keysFollow_kept | with_reducible apply Kept.ite | exact Or.inl ‹_›
                 | with_reducible exact Or.inr rfl | with_reducible exact Or.inl rfl | split | dsimp only
                 | with_reducible exact Nat.le_max_right _ _ | with_reducible apply Kept.all)

theorem startLcyTransition_kept {ps : List Part} {K : Nat → Prop} {z0 : State} (s : State) (session : Nat) (hstore : Part.store ∈ ps)
    (hdict : Part.dict ∈ ps) (hbusy : Part.busy ∈ ps) (oCMP_P_DONE : ∀ i, K (Obj.CMP_P_DONE i)) (oCMP_P_RESTART : ∀ i, K (Obj.CMP_P_RESTART i))
    (oCMP_P_RUN : ∀ i, K (Obj.CMP_P_RUN i)) (oCMP_P_STATE : ∀ i, K (Obj.CMP_P_STATE i)) (oCMP_P_TOTAL : ∀ i, K (Obj.CMP_P_TOTAL i)) (hK
    : Kept ps K z0 s) : Kept ps K z0 (startLcyTransition s session).2 := by
  unfold startLcyTransition
  repeat' (first | with_reducible intro _ | with_reducible assumption | with_reducible exact oCMP_P_DONE _
                 | with_reducible exact oCMP_P_RESTART _ | with_reducible exact oCMP_P_RUN _ | with_reducible exact oCMP_P_STATE _
                 | with_reducible exact oCMP_P_TOTAL _ | with_reducible apply State.runBegin_kept
                 | with_reducible apply State.transitionCommit_kept | with_reducible apply State.commitBegin_kept
                 | with_reducible apply Kept.ite_snd | exact Or.inl ‹_› | with_reducible exact Or.inr rfl | with_reducible exact Or.inl rfl
                 | split | dsimp only | with_reducible exact Nat.le_max_right _ _ | with_reducible apply Kept.all)

end Sys2Proof.Machine
end

