-- ==== Sys2Proof/Laws/KeptObjRead.lean ====
section
/-! SUPPORT. What the operations of Machine/ObjRead.lean keep (Laws/Kept.lean). -/

namespace Sys2Proof.Machine
open Sys2Proof

theorem State.popOr_kept {ps : List Part} {K : Nat → Prop} {z0 : State} (s : State) (key : Nat) (hwonel : Part.wonel ∈ ps) (hflt : Part.flt ∈ ps)
    (hlinks : Part.links ∈ ps) (hgalley : Part.galley ∈ ps) (htables : Part.tables ∈ ps) (htelem : Part.telem ∈ ps) (htim : Part.tim ∈ ps)
    (hcmp : Part.cmp ∈ ps) (hmem : Part.mem ∈ ps) (hdict : Part.dict ∈ ps) (hbusy : Part.busy ∈ ps) (hout : Part.out ∈ ps) (hfresh : Part.fresh ∈ ps)
    (ko : BufferKeys K) (oGAL_INVALID_READS : K Obj.GAL_INVALID_READS) (hK : Kept ps K z0 s) : KeptSome ps K z0 (State.popOr s key) fun y => y.2.2
    := by
  intro y hy
  unfold State.popOr at hy
  try dsimp only at hy
  repeat' split at hy
  all_goals cases hy
  all_goals repeat' (first | with_reducible intro _ | with_reducible assumption | with_reducible apply readPmcProof_kept | exact Or.inl ‹_›
                           | with_reducible exact Or.inr rfl | with_reducible exact Or.inl rfl | dsimp only
                           | with_reducible exact Nat.le_max_right _ _ | with_reducible apply Kept.all)
  all_goals (simp only [List.length_cons, *]; omega)

theorem State.readObject_kept {ps : List Part} {K : Nat → Prop} {z0 : State} (s : State) (req : Nat) (key : Nat) (hwonel : Part.wonel ∈ ps)
    (hflt : Part.flt ∈ ps) (hlinks : Part.links ∈ ps) (hgalley : Part.galley ∈ ps) (htables : Part.tables ∈ ps) (htelem : Part.telem ∈ ps)
    (htim : Part.tim ∈ ps) (hcmp : Part.cmp ∈ ps) (hmem : Part.mem ∈ ps) (hdict : Part.dict ∈ ps) (hbusy : Part.busy ∈ ps) (hout : Part.out ∈ ps)
    (hfresh : Part.fresh ∈ ps) (ko : BufferKeys K) (oGAL_INVALID_READS : K Obj.GAL_INVALID_READS) (hK : Kept ps K z0 s)
    : Kept ps K z0 (State.readObject s req key).2.2 := by
  unfold State.readObject
  repeat' (first | with_reducible assumption | with_reducible apply State.popOr_kept | refine Kept.ofSome3 (by with_reducible assumption) ?_ | split)

end Sys2Proof.Machine
end

