-- ==== Sys2Proof/Laws/KeptObjWrite.lean ====
section
/-! SUPPORT. What the operations of Machine/ObjWrite.lean keep (Laws/Kept.lean). -/

namespace Sys2Proof.Machine
open Sys2Proof

theorem State.badValue_kept {ps : List Part} {K : Nat → Prop} {z0 : State} (s : State)  (hK : Kept ps K z0 s) : Kept ps K z0 (State.badValue s).2
    := by
  unfold State.badValue
  repeat' (with_reducible assumption)

theorem State.badState_kept {ps : List Part} {K : Nat → Prop} {z0 : State} (s : State)  (hK : Kept ps K z0 s) : Kept ps K z0 (State.badState s).2
    := by
  unfold State.badState
  repeat' (with_reducible assumption)

theorem State.busyNow_kept {ps : List Part} {K : Nat → Prop} {z0 : State} (s : State)  (hK : Kept ps K z0 s) : Kept ps K z0 (State.busyNow s).2 := by
  unfold State.busyNow
  repeat' (with_reducible assumption)

theorem State.stored_kept {ps : List Part} {K : Nat → Prop} {z0 : State} (s : State) (key : Nat) (v : Nat) (hdict : Part.dict ∈ ps) (okey : K key) (hK
    : Kept ps K z0 s) : Kept ps K z0 (State.stored s key v).2 := by
  unfold State.stored
  repeat' (first | with_reducible assumption | with_reducible apply State.put_kept)

theorem State.storeIf_kept {ps : List Part} {K : Nat → Prop} {z0 : State} (s : State) (ok : Bool) (key : Nat) (v : Nat) (hdict : Part.dict ∈ ps)
    (okey : K key) (hK : Kept ps K z0 s) : Kept ps K z0 (State.storeIf s ok key v).2 := by
  unfold State.storeIf
  repeat' (first | with_reducible assumption | with_reducible apply State.stored_kept | with_reducible apply State.badValue_kept
                 | with_reducible apply Kept.ite_snd)

theorem State.freshSet_kept {ps : List Part} {K : Nat → Prop} {z0 : State} (s : State) (b : Nat) (htelem : Part.telem ∈ ps) (hK : Kept ps K z0 s)
    : Kept ps K z0 (State.freshSet s b) := by
  unfold State.freshSet
  repeat' (first | with_reducible intro _ | with_reducible assumption | exact Or.inl ‹_› | with_reducible exact Or.inr rfl
                 | with_reducible exact Or.inl rfl | dsimp only | with_reducible exact Nat.le_max_right _ _ | with_reducible apply Kept.all)

theorem State.gateOctet_kept {ps : List Part} {K : Nat → Prop} {z0 : State} (s : State) (o : Nat) (hlanes : Part.lanes ∈ ps)
    (htelem : Part.telem ∈ ps) (hdict : Part.dict ∈ ps) (hbusy : Part.busy ∈ ps) (hall : ∀ k, K k) (hK : Kept ps K z0 s)
    : Kept ps K z0 (State.gateOctet s o) := by
  unfold State.gateOctet
  repeat' (first | with_reducible intro _ | with_reducible assumption | exact hall _ | with_reducible apply State.modLane_kept
                 | with_reducible apply State.stopLane_kept | with_reducible apply State.clearKeys_kept
                 | with_reducible apply State.freshSet_kept | with_reducible apply Kept.foldl)

theorem State.gatePipe_kept {ps : List Part} {K : Nat → Prop} {z0 : State} (s : State) (k : Nat) (htables : Part.tables ∈ ps)
    (htelem : Part.telem ∈ ps) (hmem : Part.mem ∈ ps) (hdict : Part.dict ∈ ps) (hall : ∀ k, K k) (hK : Kept ps K z0 s)
    : Kept ps K z0 (State.gatePipe s k) := by
  unfold State.gatePipe
  repeat' (first | with_reducible intro _ | with_reducible assumption | exact hall _ | with_reducible apply State.modTables_kept
                 | with_reducible apply State.memRangeWritten_kept | with_reducible apply State.clearKeys_kept
                 | with_reducible apply State.freshSet_kept)

theorem State.ungatePipe_kept {ps : List Part} {K : Nat → Prop} {z0 : State} (s : State) (k : Nat) (hsched : Part.sched ∈ ps)
    (htelem : Part.telem ∈ ps) (hK : Kept ps K z0 s) : Kept ps K z0 (State.ungatePipe s k) := by
  unfold State.ungatePipe
  repeat' (first | with_reducible intro _ | with_reducible assumption | with_reducible apply State.freshSet_kept | exact Or.inl ‹_›
                 | with_reducible exact Or.inr rfl | with_reducible exact Or.inl rfl | dsimp only | with_reducible exact Nat.le_max_right _ _
                 | with_reducible apply Kept.all)

theorem State.gateChase_kept {ps : List Part} {K : Nat → Prop} {z0 : State} (s : State) (c : Nat) (hflt : Part.flt ∈ ps) (htables : Part.tables ∈ ps)
    (htelem : Part.telem ∈ ps) (hmem : Part.mem ∈ ps) (hdict : Part.dict ∈ ps) (hbusy : Part.busy ∈ ps) (hall : ∀ k, K k) (hK : Kept ps K z0 s)
    : Kept ps K z0 (State.gateChase s c) := by
  unfold State.gateChase
  repeat' (first | with_reducible intro _ | with_reducible assumption | exact hall _ | with_reducible apply State.modTables_kept
                 | with_reducible apply State.memRangeWritten_kept | with_reducible apply State.clearKeys_kept
                 | with_reducible apply State.freshSet_kept | with_reducible apply Kept.foldl | exact Or.inl ‹_›
                 | with_reducible exact Or.inr rfl | with_reducible exact Or.inl rfl | dsimp only | with_reducible exact Nat.le_max_right _ _
                 | with_reducible apply Kept.all)

theorem State.ungateChase_kept {ps : List Part} {K : Nat → Prop} {z0 : State} (s : State) (c : Nat) (htelem : Part.telem ∈ ps)
    (hdict : Part.dict ∈ ps) (oCHS_LPM_SPARE : ∀ i, K (Obj.CHS_LPM_SPARE i)) (hK : Kept ps K z0 s) : Kept ps K z0 (State.ungateChase s c) := by
  unfold State.ungateChase
  repeat' (first | with_reducible assumption | with_reducible exact oCHS_LPM_SPARE _ | with_reducible apply State.freshSet_kept
                 | with_reducible apply State.put_kept | split)

theorem State.setOctetGates_kept {ps : List Part} {K : Nat → Prop} {z0 : State} (s : State) (v : Nat) (hwonel : Part.wonel ∈ ps)
    (hlanes : Part.lanes ∈ ps) (hlinks : Part.links ∈ ps) (htelem : Part.telem ∈ ps) (hdict : Part.dict ∈ ps) (hbusy : Part.busy ∈ ps)
    (hall : ∀ k, K k) (hK : Kept ps K z0 s) : Kept ps K z0 (State.setOctetGates s v) := by
  unfold State.setOctetGates
  repeat' (first | with_reducible intro _ | with_reducible assumption | exact hall _ | with_reducible apply State.put_kept
                 | with_reducible apply State.gateOctet_kept | with_reducible apply State.freshSet_kept | with_reducible apply State.octetOn_kept
                 | with_reducible apply Kept.foldl | with_reducible apply Kept.ite)

theorem State.setPipeGates_kept {ps : List Part} {K : Nat → Prop} {z0 : State} (s : State) (v : Nat) (hsched : Part.sched ∈ ps)
    (htables : Part.tables ∈ ps) (htelem : Part.telem ∈ ps) (hmem : Part.mem ∈ ps) (hdict : Part.dict ∈ ps) (hall : ∀ k, K k) (hK : Kept ps K z0 s)
    : Kept ps K z0 (State.setPipeGates s v) := by
  unfold State.setPipeGates
  repeat' (first | with_reducible intro _ | with_reducible assumption | exact hall _ | with_reducible apply State.put_kept
                 | with_reducible apply State.gatePipe_kept | with_reducible apply State.ungatePipe_kept | with_reducible apply Kept.foldl
                 | with_reducible apply Kept.ite)

theorem State.setChaseGates_kept {ps : List Part} {K : Nat → Prop} {z0 : State} (s : State) (v : Nat) (hflt : Part.flt ∈ ps)
    (htables : Part.tables ∈ ps) (htelem : Part.telem ∈ ps) (hmem : Part.mem ∈ ps) (hdict : Part.dict ∈ ps) (hbusy : Part.busy ∈ ps) (hall : ∀ k, K k)
    (hK : Kept ps K z0 s) : Kept ps K z0 (State.setChaseGates s v) := by
  unfold State.setChaseGates
  repeat' (first | with_reducible intro _ | with_reducible assumption | exact hall _ | with_reducible apply State.gateChase_kept
                 | with_reducible apply State.putBit_kept | with_reducible apply State.ungateChase_kept | with_reducible apply Kept.foldl
                 | with_reducible apply Kept.ite)

theorem State.ungateFor_kept {ps : List Part} {K : Nat → Prop} {z0 : State} (s : State) (p : Nat) (k : Nat) (hwonel : Part.wonel ∈ ps)
    (hflt : Part.flt ∈ ps) (hlanes : Part.lanes ∈ ps) (hlinks : Part.links ∈ ps) (hsched : Part.sched ∈ ps) (htables : Part.tables ∈ ps)
    (htelem : Part.telem ∈ ps) (hmem : Part.mem ∈ ps) (hdict : Part.dict ∈ ps) (hbusy : Part.busy ∈ ps) (hall : ∀ k, K k) (hK : Kept ps K z0 s)
    : Kept ps K z0 (State.ungateFor s p k) := by
  unfold State.ungateFor
  repeat' (first | with_reducible intro _ | with_reducible assumption | exact hall _ | with_reducible apply State.setChaseGates_kept
                 | with_reducible apply State.setPipeGates_kept | with_reducible apply State.setOctetGates_kept)

theorem State.writeGateOctets_kept {ps : List Part} {K : Nat → Prop} {z0 : State} (s : State) (v : Nat) (hwonel : Part.wonel ∈ ps)
    (hlanes : Part.lanes ∈ ps) (hlinks : Part.links ∈ ps) (htelem : Part.telem ∈ ps) (hdict : Part.dict ∈ ps) (hbusy : Part.busy ∈ ps)
    (hall : ∀ k, K k) (hK : Kept ps K z0 s) : Kept ps K z0 (State.writeGateOctets s v).2 := by
  unfold State.writeGateOctets
  repeat' (first | with_reducible intro _ | with_reducible assumption | exact hall _ | with_reducible apply State.badState_kept
                 | with_reducible apply State.setOctetGates_kept | with_reducible apply Kept.ite_snd)

theorem State.writeGatePipes_kept {ps : List Part} {K : Nat → Prop} {z0 : State} (s : State) (v : Nat) (hsched : Part.sched ∈ ps)
    (htables : Part.tables ∈ ps) (htelem : Part.telem ∈ ps) (hmem : Part.mem ∈ ps) (hdict : Part.dict ∈ ps) (hall : ∀ k, K k) (hK : Kept ps K z0 s)
    : Kept ps K z0 (State.writeGatePipes s v).2 := by
  unfold State.writeGatePipes
  repeat' (first | with_reducible intro _ | with_reducible assumption | exact hall _ | with_reducible apply State.badState_kept
                 | with_reducible apply State.setPipeGates_kept | with_reducible apply Kept.ite_snd)

theorem State.writeGateChases_kept {ps : List Part} {K : Nat → Prop} {z0 : State} (s : State) (v : Nat) (hflt : Part.flt ∈ ps)
    (htables : Part.tables ∈ ps) (htelem : Part.telem ∈ ps) (hmem : Part.mem ∈ ps) (hdict : Part.dict ∈ ps) (hbusy : Part.busy ∈ ps) (hall : ∀ k, K k)
    (hK : Kept ps K z0 s) : Kept ps K z0 (State.writeGateChases s v).2 := by
  unfold State.writeGateChases
  repeat' (first | with_reducible intro _ | with_reducible assumption | exact hall _ | with_reducible apply State.badState_kept
                 | with_reducible apply State.setChaseGates_kept | with_reducible apply Kept.ite_snd)

theorem State.writeSes_kept {ps : List Part} {K : Nat → Prop} {z0 : State} (s : State) (key : Nat) (v : Nat) (hdict : Part.dict ∈ ps) (okey : K key)
    (hK : Kept ps K z0 s) : Kept ps K z0 (State.writeSes s key v).2 := by
  unfold State.writeSes
  repeat' (first | with_reducible assumption | with_reducible apply State.storeIf_kept | with_reducible apply State.stored_kept
                 | with_reducible apply Kept.ite_snd)

theorem State.afterWrite_kept {ps : List Part} {K : Nat → Prop} {z0 : State} (s : State) (key : Nat) (v : Nat) (hwonel : Part.wonel ∈ ps) (hK
    : Kept ps K z0 s) : Kept ps K z0 (State.afterWrite s key v) := by
  unfold State.afterWrite
  repeat' (first | with_reducible intro _ | with_reducible assumption | with_reducible apply State.latch_kept | with_reducible apply Kept.ite
                 | exact Or.inl ‹_› | with_reducible exact Or.inr rfl | with_reducible exact Or.inl rfl | dsimp only
                 | with_reducible exact Nat.le_max_right _ _ | with_reducible apply Kept.all)

theorem State.writePwr_kept {ps : List Part} {K : Nat → Prop} {z0 : State} (s : State) (key : Nat) (v : Nat) (hwonel : Part.wonel ∈ ps)
    (hflt : Part.flt ∈ ps) (hlanes : Part.lanes ∈ ps) (hlinks : Part.links ∈ ps) (hsched : Part.sched ∈ ps) (htables : Part.tables ∈ ps)
    (htelem : Part.telem ∈ ps) (hmem : Part.mem ∈ ps) (hdict : Part.dict ∈ ps) (hbusy : Part.busy ∈ ps) (hall : ∀ k, K k) (hK : Kept ps K z0 s)
    : Kept ps K z0 (State.writePwr s key v).2 := by
  unfold State.writePwr
  repeat' (first | with_reducible intro _ | with_reducible assumption | exact hall _ | with_reducible apply State.storeIf_kept
                 | with_reducible apply State.writeGateOctets_kept | with_reducible apply State.writeGatePipes_kept
                 | with_reducible apply State.writeGateChases_kept | with_reducible apply State.stored_kept | with_reducible apply Kept.ite_snd)

theorem State.writeFlt_kept {ps : List Part} {K : Nat → Prop} {z0 : State} (s : State) (key : Nat) (v : Nat) (htables : Part.tables ∈ ps)
    (hmem : Part.mem ∈ ps) (hdict : Part.dict ∈ ps) (oFLT_DIAG_ENABLE : K Obj.FLT_DIAG_ENABLE) (oFLT_DIAG_LOGGED : K Obj.FLT_DIAG_LOGGED)
    (okey : K key) (hK : Kept ps K z0 s) : Kept ps K z0 (State.writeFlt s key v).2 := by
  unfold State.writeFlt
  repeat' (first | with_reducible assumption | with_reducible apply State.badValue_kept | with_reducible apply State.busyNow_kept
                 | with_reducible apply State.stored_kept | with_reducible apply State.badState_kept | with_reducible apply State.endDiag_kept
                 | with_reducible apply State.storeIf_kept | with_reducible apply Kept.ite_snd)

theorem State.writeTim_kept {ps : List Part} {K : Nat → Prop} {z0 : State} (s : State) (key : Nat) (v : Nat) (hwonel : Part.wonel ∈ ps)
    (hflt : Part.flt ∈ ps) (htim : Part.tim ∈ ps) (hdict : Part.dict ∈ ps) (oFLT_EVENTS : K Obj.FLT_EVENTS) (oFLT_EVENT_LOST : K Obj.FLT_EVENT_LOST)
    (oTIM_D_ADJUST : ∀ i, K (Obj.TIM_D_ADJUST i)) (oTIM_D_FREQ : ∀ i, K (Obj.TIM_D_FREQ i)) (oTIM_D_SET : ∀ i, K (Obj.TIM_D_SET i))
    (oTIM_D_SOURCE : ∀ i, K (Obj.TIM_D_SOURCE i)) (oTIM_D_STATE : ∀ i, K (Obj.TIM_D_STATE i)) (oTIM_EVENT_LOST : K Obj.TIM_EVENT_LOST)
    (oTIM_OUT_ENGAGE : K Obj.TIM_OUT_ENGAGE) (oTIM_SELECT : K Obj.TIM_SELECT) (oTIM_SPLICES : K Obj.TIM_SPLICES)
    (oTIM_SPLICE_STATE : K Obj.TIM_SPLICE_STATE) (oTIM_TPO_MODE : ∀ i, K (Obj.TIM_TPO_MODE i)) (oTIM_TPO_SKIPPED : ∀ i, K (Obj.TIM_TPO_SKIPPED i))
    (oTIM_TPO_STATE : ∀ i, K (Obj.TIM_TPO_STATE i)) (okey : K key) (hK : Kept ps K z0 s) : Kept ps K z0 (State.writeTim s key v).2 := by
  unfold State.writeTim
  repeat' (first | with_reducible intro _ | with_reducible assumption | with_reducible exact oTIM_D_ADJUST _ | with_reducible exact oTIM_D_FREQ _
                 | with_reducible exact oTIM_D_SET _ | with_reducible exact oTIM_D_SOURCE _ | with_reducible exact oTIM_D_STATE _
                 | with_reducible exact oTIM_TPO_MODE _ | with_reducible exact oTIM_TPO_SKIPPED _ | with_reducible exact oTIM_TPO_STATE _
                 | with_reducible apply State.selectDomain_kept | with_reducible apply State.badValue_kept
                 | with_reducible apply State.autoSwitch_kept | with_reducible apply State.put_kept | with_reducible apply State.storeIf_kept
                 | with_reducible apply State.writeEngage_kept | with_reducible apply State.writeSource_kept
                 | with_reducible apply State.writeRate_kept | with_reducible apply State.writeSet_kept
                 | with_reducible apply State.writeAdjust_kept | with_reducible apply State.stored_kept | with_reducible apply State.armTpo_kept
                 | with_reducible apply Kept.ite_snd | exact Or.inl ‹_› | with_reducible exact Or.inr rfl | with_reducible exact Or.inl rfl
                 | split | dsimp only | with_reducible exact Nat.le_max_right _ _ | with_reducible apply Kept.all)
  all_goals rfl

theorem State.writePtp_kept {ps : List Part} {K : Nat → Prop} {z0 : State} (s : State) (key : Nat) (v : Nat) (hptp : Part.ptp ∈ ps)
    (hdict : Part.dict ∈ ps) (oTIM_P_DOMAIN : ∀ i, K (Obj.TIM_P_DOMAIN i)) (oTIM_P_GM : ∀ i, K (Obj.TIM_P_GM i))
    (oTIM_P_PARENT : ∀ i, K (Obj.TIM_P_PARENT i)) (oTIM_P_PATH_DELAY : ∀ i, K (Obj.TIM_P_PATH_DELAY i))
    (oTIM_P_SLAVE_PORT : ∀ i, K (Obj.TIM_P_SLAVE_PORT i)) (okey : K key) (hK : Kept ps K z0 s) : Kept ps K z0 (State.writePtp s key v).2 := by
  unfold State.writePtp
  repeat' (first | with_reducible intro _ | with_reducible assumption | with_reducible exact oTIM_P_DOMAIN _ | with_reducible exact oTIM_P_GM _
                 | with_reducible exact oTIM_P_PARENT _ | with_reducible exact oTIM_P_PATH_DELAY _ | with_reducible exact oTIM_P_SLAVE_PORT _
                 | with_reducible apply State.storeIf_kept | with_reducible apply State.badState_kept | with_reducible apply State.instReset_kept
                 | with_reducible apply State.put_kept | with_reducible apply State.badValue_kept | with_reducible apply State.stored_kept
                 | with_reducible apply Kept.ite | with_reducible apply Kept.ite_snd | split)

theorem State.writePmc_kept {ps : List Part} {K : Nat → Prop} {z0 : State} (s : State) (req : Nat) (key : Nat) (v : Nat) (hwonel : Part.wonel ∈ ps)
    (htelem : Part.telem ∈ ps) (hdict : Part.dict ∈ ps) (okey : K key) (hK : Kept ps K z0 s) : Kept ps K z0 (State.writePmc s req key v).2 := by
  unfold State.writePmc
  repeat' (first | with_reducible intro _ | with_reducible assumption | with_reducible apply State.storeIf_kept
                 | with_reducible apply State.put_kept | with_reducible apply State.badValue_kept | with_reducible apply State.stored_kept
                 | with_reducible apply State.modSession_kept | with_reducible apply State.writeCfg_kept | with_reducible apply Kept.ite_snd
                 | exact Or.inl ‹_› | with_reducible exact Or.inr rfl | with_reducible exact Or.inl rfl | split | dsimp only
                 | with_reducible exact Nat.le_max_right _ _ | with_reducible apply Kept.all)

theorem State.writeGal_kept {ps : List Part} {K : Nat → Prop} {z0 : State} (s : State) (key : Nat) (v : Nat) (hdict : Part.dict ∈ ps) (okey : K key)
    (hK : Kept ps K z0 s) : Kept ps K z0 (State.writeGal s key v).2 := by
  unfold State.writeGal
  repeat' (first | with_reducible assumption | with_reducible apply State.badValue_kept | with_reducible apply State.storeIf_kept
                 | with_reducible apply State.put_kept | with_reducible apply State.stored_kept | with_reducible apply Kept.ite_snd | split)

theorem State.writeSch_kept {ps : List Part} {K : Nat → Prop} {z0 : State} (s : State) (key : Nat) (v : Nat) (hdict : Part.dict ∈ ps)
    (oSCH_SP_PENDING : ∀ i, K (Obj.SCH_SP_PENDING i)) (okey : K key) (hK : Kept ps K z0 s) : Kept ps K z0 (State.writeSch s key v).2 := by
  unfold State.writeSch
  repeat' (first | with_reducible assumption | with_reducible exact oSCH_SP_PENDING _ | with_reducible apply State.storeIf_kept
                 | with_reducible apply State.put_kept | with_reducible apply State.badValue_kept | with_reducible apply Kept.ite_snd)

theorem State.writeQ_kept {ps : List Part} {K : Nat → Prop} {z0 : State} (s : State) (key : Nat) (v : Nat) (hsched : Part.sched ∈ ps)
    (hdict : Part.dict ∈ ps) (oSCH_SP_PENDING : ∀ i, K (Obj.SCH_SP_PENDING i)) (okey : K key) (hK : Kept ps K z0 s)
    : Kept ps K z0 (State.writeQ s key v).2 := by
  unfold State.writeQ
  repeat' (first | with_reducible assumption | with_reducible exact oSCH_SP_PENDING _ | with_reducible apply State.put_kept
                 | with_reducible apply State.badValue_kept | with_reducible apply State.retag_kept | with_reducible apply State.storeIf_kept
                 | with_reducible apply State.stored_kept | with_reducible apply Kept.ite | with_reducible apply Kept.ite_snd | split)

theorem State.writeTbl_kept {ps : List Part} {K : Nat → Prop} {z0 : State} (s : State) (key : Nat) (v : Nat) (hwonel : Part.wonel ∈ ps)
    (hdict : Part.dict ∈ ps) (okey : K key) (hK : Kept ps K z0 s) : Kept ps K z0 (State.writeTbl s key v).2 := by
  unfold State.writeTbl
  repeat' (first | with_reducible assumption | with_reducible apply State.storeIf_kept | with_reducible apply State.badValue_kept
                 | with_reducible apply State.latch_kept | with_reducible apply State.put_kept | with_reducible apply State.stored_kept
                 | with_reducible apply Kept.ite | with_reducible apply Kept.ite_snd)

theorem State.writePln_kept {ps : List Part} {K : Nat → Prop} {z0 : State} (s : State) (key : Nat) (v : Nat) (hdict : Part.dict ∈ ps) (okey : K key)
    (hK : Kept ps K z0 s) : Kept ps K z0 (State.writePln s key v).2 := by
  unfold State.writePln
  repeat' (first | with_reducible assumption | with_reducible apply State.storeIf_kept | with_reducible apply State.stored_kept
                 | with_reducible apply Kept.ite_snd)

theorem State.laneHoldCheck_kept {ps : List Part} {K : Nat → Prop} {z0 : State} (s : State) (n : Nat) (hwonel : Part.wonel ∈ ps)
    (hflt : Part.flt ∈ ps) (hlanes : Part.lanes ∈ ps) (hlinks : Part.links ∈ ps) (hgalley : Part.galley ∈ ps) (hsched : Part.sched ∈ ps)
    (hports : Part.ports ∈ ps) (htables : Part.tables ∈ ps) (htelem : Part.telem ∈ ps) (htim : Part.tim ∈ ps) (hptp : Part.ptp ∈ ps)
    (hcmp : Part.cmp ∈ ps) (hmem : Part.mem ∈ ps) (hdict : Part.dict ∈ ps) (hbusy : Part.busy ∈ ps) (hout : Part.out ∈ ps) (hfresh : Part.fresh ∈ ps)
    (ko : BufferKeys K) (oCTR_LPI_RX_US : ∀ i, K (Obj.CTR_LPI_RX_US i)) (oCTR_LPI_TX_US : ∀ i, K (Obj.CTR_LPI_TX_US i))
    (oCTR_RX_ABORTED : ∀ i, K (Obj.CTR_RX_ABORTED i)) (oCTR_TX_ABORTED : ∀ i, K (Obj.CTR_TX_ABORTED i))
    (oCTR_TX_FLUSHED : ∀ i, K (Obj.CTR_TX_FLUSHED i)) (oCTR_TX_FRAMES : ∀ i, K (Obj.CTR_TX_FRAMES i)) (oCTR_TX_OCTETS : ∀ i, K (Obj.CTR_TX_OCTETS i))
    (oCTR_TX_PAUSE : ∀ i, K (Obj.CTR_TX_PAUSE i)) (oGAL_CT_BAD : K Obj.GAL_CT_BAD) (oPT_LINK_CHANGES : ∀ i, K (Obj.PT_LINK_CHANGES i))
    (oQ_FLUSH_STATE : ∀ i, K (Obj.Q_FLUSH_STATE i)) (oTBL_LRN_INSTALLS : ∀ i, K (Obj.TBL_LRN_INSTALLS i)) (hK : Kept ps K z0 s)
    : Kept ps K z0 (State.laneHoldCheck s n) := by
  unfold State.laneHoldCheck
  repeat' (first | with_reducible intro _ | with_reducible assumption | with_reducible exact oCTR_LPI_RX_US _
                 | with_reducible exact oCTR_LPI_TX_US _ | with_reducible exact oCTR_RX_ABORTED _ | with_reducible exact oCTR_TX_ABORTED _
                 | with_reducible exact oCTR_TX_FLUSHED _ | with_reducible exact oCTR_TX_FRAMES _ | with_reducible exact oCTR_TX_OCTETS _
                 | with_reducible exact oCTR_TX_PAUSE _ | with_reducible exact oPT_LINK_CHANGES _ | with_reducible exact oQ_FLUSH_STATE _
                 | with_reducible exact oTBL_LRN_INSTALLS _ | with_reducible apply State.holdCheck_kept | split)

theorem State.writePrbs_kept {ps : List Part} {K : Nat → Prop} {z0 : State} (s : State) (n : Nat) (key : Nat) (v : Nat) (hwonel : Part.wonel ∈ ps)
    (hflt : Part.flt ∈ ps) (hlanes : Part.lanes ∈ ps) (hlinks : Part.links ∈ ps) (hgalley : Part.galley ∈ ps) (hsched : Part.sched ∈ ps)
    (hports : Part.ports ∈ ps) (htables : Part.tables ∈ ps) (htelem : Part.telem ∈ ps) (htim : Part.tim ∈ ps) (hptp : Part.ptp ∈ ps)
    (hcmp : Part.cmp ∈ ps) (hmem : Part.mem ∈ ps) (hdict : Part.dict ∈ ps) (hbusy : Part.busy ∈ ps) (hout : Part.out ∈ ps) (hfresh : Part.fresh ∈ ps)
    (hall : ∀ k, K k) (hK : Kept ps K z0 s) : Kept ps K z0 (State.writePrbs s n key v).2 := by
  unfold State.writePrbs
  repeat' (first | with_reducible intro _ | with_reducible assumption | exact hall _ | exact BufferKeys.ofAll hall
                 | with_reducible apply State.badValue_kept | with_reducible apply State.badState_kept | with_reducible apply State.put_kept
                 | with_reducible apply State.clearKeys_kept | with_reducible apply State.laneHoldCheck_kept
                 | with_reducible apply State.readapt_kept | with_reducible apply Kept.ite | with_reducible apply Kept.ite_snd)

theorem State.writeLn_kept {ps : List Part} {K : Nat → Prop} {z0 : State} (s : State) (key : Nat) (v : Nat) (hwonel : Part.wonel ∈ ps)
    (hflt : Part.flt ∈ ps) (hlanes : Part.lanes ∈ ps) (hlinks : Part.links ∈ ps) (hgalley : Part.galley ∈ ps) (hsched : Part.sched ∈ ps)
    (hports : Part.ports ∈ ps) (htables : Part.tables ∈ ps) (htelem : Part.telem ∈ ps) (htim : Part.tim ∈ ps) (hptp : Part.ptp ∈ ps)
    (hcmp : Part.cmp ∈ ps) (hmem : Part.mem ∈ ps) (hdict : Part.dict ∈ ps) (hbusy : Part.busy ∈ ps) (hout : Part.out ∈ ps) (hfresh : Part.fresh ∈ ps)
    (hall : ∀ k, K k) (hK : Kept ps K z0 s) : Kept ps K z0 (State.writeLn s key v).2 := by
  unfold State.writeLn
  repeat' (first | with_reducible intro _ | with_reducible assumption | exact hall _ | exact BufferKeys.ofAll hall
                 | with_reducible apply State.badValue_kept | with_reducible apply State.put_kept | with_reducible apply State.readapt_kept
                 | with_reducible apply State.modLane_kept | with_reducible apply State.storeIf_kept
                 | with_reducible apply State.laneHoldCheck_kept | with_reducible apply State.writePrbs_kept
                 | with_reducible apply State.stored_kept | with_reducible apply Kept.ite | with_reducible apply Kept.ite_snd | split)

theorem State.writeType_kept {ps : List Part} {K : Nat → Prop} {z0 : State} (s : State) (p : Nat) (v : Nat) (hwonel : Part.wonel ∈ ps)
    (hflt : Part.flt ∈ ps) (hlanes : Part.lanes ∈ ps) (hlinks : Part.links ∈ ps) (hgalley : Part.galley ∈ ps) (hsched : Part.sched ∈ ps)
    (hports : Part.ports ∈ ps) (htables : Part.tables ∈ ps) (htelem : Part.telem ∈ ps) (htim : Part.tim ∈ ps) (hptp : Part.ptp ∈ ps)
    (hcmp : Part.cmp ∈ ps) (hmem : Part.mem ∈ ps) (hdict : Part.dict ∈ ps) (hbusy : Part.busy ∈ ps) (hout : Part.out ∈ ps) (hfresh : Part.fresh ∈ ps)
    (hall : ∀ k, K k) (hK : Kept ps K z0 s) : Kept ps K z0 (State.writeType s p v).2 := by
  unfold State.writeType
  repeat' (first | with_reducible intro _ | with_reducible assumption | exact hall _ | with_reducible apply State.formPort_kept
                 | with_reducible apply State.ungateFor_kept | with_reducible apply Kept.ite | with_reducible apply Kept.ite_snd)

theorem State.writePt_kept {ps : List Part} {K : Nat → Prop} {z0 : State} (s : State) (key : Nat) (v : Nat) (hwonel : Part.wonel ∈ ps)
    (hflt : Part.flt ∈ ps) (hlanes : Part.lanes ∈ ps) (hlinks : Part.links ∈ ps) (hgalley : Part.galley ∈ ps) (hsched : Part.sched ∈ ps)
    (hports : Part.ports ∈ ps) (htables : Part.tables ∈ ps) (htelem : Part.telem ∈ ps) (htim : Part.tim ∈ ps) (hptp : Part.ptp ∈ ps)
    (hcmp : Part.cmp ∈ ps) (hmem : Part.mem ∈ ps) (hdict : Part.dict ∈ ps) (hbusy : Part.busy ∈ ps) (hout : Part.out ∈ ps) (hfresh : Part.fresh ∈ ps)
    (hall : ∀ k, K k) (hK : Kept ps K z0 s) : Kept ps K z0 (State.writePt s key v).2 := by
  unfold State.writePt
  repeat' (first | with_reducible intro _ | with_reducible assumption | exact hall _ | exact BufferKeys.ofAll hall
                 | with_reducible apply State.writeType_kept | with_reducible apply State.reFec_kept | with_reducible apply State.badValue_kept
                 | with_reducible apply State.lpiCheck_kept | with_reducible apply State.put_kept | with_reducible apply State.holdCheck_kept
                 | with_reducible apply State.storeIf_kept | with_reducible apply State.badState_kept | with_reducible apply State.stored_kept
                 | with_reducible apply State.writeFcMode_kept | with_reducible apply State.xoffEval_kept
                 | with_reducible apply State.pauseNow_kept | with_reducible apply State.modPort_kept | with_reducible apply State.unpaused_kept
                 | with_reducible apply State.wakeTx_kept | with_reducible apply Kept.ite_snd | split)

theorem State.writeQd_kept {ps : List Part} {K : Nat → Prop} {z0 : State} (s : State) (key : Nat) (v : Nat) (hdict : Part.dict ∈ ps) (okey : K key)
    (hK : Kept ps K z0 s) : Kept ps K z0 (State.writeQd s key v).2 := by
  unfold State.writeQd
  repeat' (first | with_reducible assumption | with_reducible apply State.storeIf_kept | with_reducible apply Kept.ite_snd)

theorem State.writeOne_kept {ps : List Part} {K : Nat → Prop} {z0 : State} (s : State) (req : Nat) (key : Nat) (v : Nat) (hwonel : Part.wonel ∈ ps)
    (hflt : Part.flt ∈ ps) (hlanes : Part.lanes ∈ ps) (hlinks : Part.links ∈ ps) (hgalley : Part.galley ∈ ps) (hsched : Part.sched ∈ ps)
    (hports : Part.ports ∈ ps) (htables : Part.tables ∈ ps) (htelem : Part.telem ∈ ps) (htim : Part.tim ∈ ps) (hptp : Part.ptp ∈ ps)
    (hcmp : Part.cmp ∈ ps) (hmem : Part.mem ∈ ps) (hdict : Part.dict ∈ ps) (hbusy : Part.busy ∈ ps) (hout : Part.out ∈ ps) (hfresh : Part.fresh ∈ ps)
    (hall : ∀ k, K k) (hK : Kept ps K z0 s) : Kept ps K z0 (State.writeOne s req key v).2 := by
  unfold State.writeOne
  repeat' (first | with_reducible intro _ | with_reducible assumption | exact hall _ | with_reducible apply State.writeSes_kept
                 | with_reducible apply State.stored_kept | with_reducible apply State.writePwr_kept | with_reducible apply State.writeFlt_kept
                 | with_reducible apply State.writeTim_kept | with_reducible apply State.writePtp_kept | with_reducible apply State.writePmc_kept
                 | with_reducible apply State.writeGal_kept | with_reducible apply State.writeSch_kept | with_reducible apply State.busyNow_kept
                 | with_reducible apply State.writeTbl_kept | with_reducible apply State.writePln_kept | with_reducible apply State.writeLn_kept
                 | with_reducible apply State.writePt_kept | with_reducible apply State.writeQ_kept | with_reducible apply State.writeQd_kept
                 | with_reducible apply Kept.ite_snd)

end Sys2Proof.Machine
end

