-- ==== Sys2Proof/Laws/KeptBulk.lean ====
section
/-! SUPPORT. What the operations of Machine/Bulk.lean keep (Laws/Kept.lean). -/

namespace Sys2Proof.Machine
open Sys2Proof

theorem readEntries_kept {ps : List Part} {K : Nat → Prop} {z0 : State} (size : Nat) (rd : State → Nat → Option Nat × State)
    (hrd : ∀ a e, Kept ps K z0 a → Kept ps K z0 (rd a e).2) (i : Nat) (s : State) (n : Nat) (hK : Kept ps K z0 s) :
    Kept ps K z0 (readEntries size rd i s n).2 := by
  induction n generalizing i s with
  | zero => exact hK
  | succ n ih => unfold readEntries; exact ih _ _ (hrd _ _ hK)

theorem codedWindow_kept {ps : List Part} {K : Nat → Prop} {z0 : State} (s : State) (idx : Nat) (hwonel : Part.wonel ∈ ps) (hflt : Part.flt ∈ ps)
    (hlinks : Part.links ∈ ps) (hgalley : Part.galley ∈ ps) (htables : Part.tables ∈ ps) (htim : Part.tim ∈ ps) (hcmp : Part.cmp ∈ ps)
    (hmem : Part.mem ∈ ps) (hdict : Part.dict ∈ ps) (hbusy : Part.busy ∈ ps) (hout : Part.out ∈ ps) (hfresh : Part.fresh ∈ ps)
    (ko : CodedKeys K) (oFLT_DIAG_LOGGED : K Obj.FLT_DIAG_LOGGED) (size : Nat) (rd : State → Nat → Option Nat × State) (hw : s.codedWindow idx = some (size, rd)) (a : State) (e : Nat) (hK : Kept ps K z0 a) :
    Kept ps K z0 (rd a e).2 := by
  unfold State.codedWindow at hw
  repeat' split at hw
  all_goals simp only [Option.some.injEq, Prod.mk.injEq, reduceCtorEq] at hw
  all_goals obtain ⟨-, rfl⟩ := hw
  all_goals dsimp only
  all_goals first | exact hK | (with_reducible apply State.labelRead_kept <;> assumption) | (with_reducible apply State.nhRead_kept <;> assumption) | (with_reducible apply State.lrnRead_kept <;> assumption)

theorem State.windowRead_kept {ps : List Part} {K : Nat → Prop} {z0 : State} (s : State) (idx : Nat) (off : Nat) (n : Nat) (hwonel : Part.wonel ∈ ps)
    (hflt : Part.flt ∈ ps) (hlinks : Part.links ∈ ps) (hgalley : Part.galley ∈ ps) (htables : Part.tables ∈ ps) (htim : Part.tim ∈ ps)
    (hcmp : Part.cmp ∈ ps) (hmem : Part.mem ∈ ps) (hdict : Part.dict ∈ ps) (hbusy : Part.busy ∈ ps) (hout : Part.out ∈ ps) (hfresh : Part.fresh ∈ ps)
    (ko : CodedKeys K) (oFLT_DIAG_LOGGED : K Obj.FLT_DIAG_LOGGED) (hK : Kept ps K z0 s) : Kept ps K z0 (State.windowRead s idx off n).2 := by
  unfold State.windowRead
  dsimp only
  split
  · rename_i size rd hw
    exact readEntries_kept _ _ (fun a e ha => codedWindow_kept s idx hwonel hflt hlinks hgalley htables htim hcmp hmem hdict hbusy hout hfresh ko oFLT_DIAG_LOGGED _ _ hw a e ha) _ _ _ hK
  · exact hK

theorem State.writeEntry_kept {ps : List Part} {K : Nat → Prop} {z0 : State} (s : State) (idx : Nat) (e : Nat) (b : Bytes) (hflt : Part.flt ∈ ps)
    (hsched : Part.sched ∈ ps) (htables : Part.tables ∈ ps) (hptp : Part.ptp ∈ ps) (hmem : Part.mem ∈ ps) (hdict : Part.dict ∈ ps)
    (oFLT_DIAG_LOGGED : K Obj.FLT_DIAG_LOGGED) (hK : Kept ps K z0 s) : Kept ps K z0 (State.writeEntry s idx e b) := by
  unfold State.writeEntry
  repeat' (first | with_reducible intro _ | with_reducible assumption | with_reducible apply State.writeLabel_kept
                 | with_reducible apply State.writeNh_kept | with_reducible apply State.memWritten_kept
                 | with_reducible apply State.writePolicer_kept | with_reducible apply Kept.ite | exact Or.inl ‹_›
                 | with_reducible exact Or.inr rfl | with_reducible exact Or.inl rfl | split | dsimp only
                 | with_reducible exact Nat.le_max_right _ _ | with_reducible apply Kept.all)

theorem State.segmentWrite_kept {ps : List Part} {K : Nat → Prop} {z0 : State} (s : State) (idx : Nat) (base : Nat) (off : Nat) (data : Bytes)
    (hflt : Part.flt ∈ ps) (hpipes : Part.pipes ∈ ps) (hsched : Part.sched ∈ ps) (htables : Part.tables ∈ ps) (hptp : Part.ptp ∈ ps)
    (hcmp : Part.cmp ∈ ps) (hmem : Part.mem ∈ ps) (hdict : Part.dict ∈ ps) (oCMP_PATCH_STAGED_ID : K Obj.CMP_PATCH_STAGED_ID)
    (oFLT_DIAG_LOGGED : K Obj.FLT_DIAG_LOGGED) (oPLN_CHECK_ID : K Obj.PLN_CHECK_ID) (hK : Kept ps K z0 s)
    : Kept ps K z0 (State.segmentWrite s idx base off data) := by
  unfold State.segmentWrite
  repeat' (first | with_reducible intro _ | with_reducible assumption | with_reducible apply State.writeEntry_kept
                 | with_reducible apply State.modTables_kept | with_reducible apply State.put_kept | with_reducible apply Kept.foldl
                 | with_reducible apply Kept.ite | exact Or.inl ‹_› | with_reducible exact Or.inr rfl | with_reducible exact Or.inl rfl
                 | dsimp only | with_reducible exact Nat.le_max_right _ _ | with_reducible apply Kept.all)

theorem State.transferDone_kept {ps : List Part} {K : Nat → Prop} {z0 : State} (s : State) (idx : Nat) (total : Nat) (hpipes : Part.pipes ∈ ps)
    (htables : Part.tables ∈ ps) (hcmp : Part.cmp ∈ ps) (hK : Kept ps K z0 s) : Kept ps K z0 (State.transferDone s idx total) := by
  unfold State.transferDone
  repeat' (first | with_reducible intro _ | with_reducible assumption | with_reducible apply State.modTables_kept | with_reducible apply Kept.ite
                 | exact Or.inl ‹_› | with_reducible exact Or.inr rfl | with_reducible exact Or.inl rfl | dsimp only
                 | with_reducible exact Nat.le_max_right _ _ | with_reducible apply Kept.all)

theorem State.bulkWrite_kept {ps : List Part} {K : Nat → Prop} {z0 : State} (s : State) (i : Nat) (idx : Nat) (sub : Nat) (sflags : Nat) (off : Nat)
    (total : Nat) (data : Bytes) (hwonel : Part.wonel ∈ ps) (hflt : Part.flt ∈ ps) (hpipes : Part.pipes ∈ ps) (hsched : Part.sched ∈ ps)
    (htables : Part.tables ∈ ps) (hptp : Part.ptp ∈ ps) (hcmp : Part.cmp ∈ ps) (hmem : Part.mem ∈ ps) (hdict : Part.dict ∈ ps)
    (oCMP_PATCH_STAGED_ID : K Obj.CMP_PATCH_STAGED_ID) (oFLT_DIAG_LOGGED : K Obj.FLT_DIAG_LOGGED) (oPLN_CHECK_ID : K Obj.PLN_CHECK_ID) (hK
    : Kept ps K z0 s) : Kept ps K z0 (State.bulkWrite s i idx sub sflags off total data).2.2 := by
  unfold State.bulkWrite
  repeat' (first | with_reducible assumption | with_reducible apply State.segmentWrite_kept | with_reducible apply State.modSession_kept
                 | with_reducible apply State.transferDone_kept | with_reducible apply Kept.ite | with_reducible apply Kept.ite_snd2)

theorem State.bulkRead_kept {ps : List Part} {K : Nat → Prop} {z0 : State} (s : State) (idx : Nat) (off : Nat) (len : Nat) (hwonel : Part.wonel ∈ ps)
    (hflt : Part.flt ∈ ps) (hlinks : Part.links ∈ ps) (hgalley : Part.galley ∈ ps) (htables : Part.tables ∈ ps) (htim : Part.tim ∈ ps)
    (hcmp : Part.cmp ∈ ps) (hmem : Part.mem ∈ ps) (hdict : Part.dict ∈ ps) (hbusy : Part.busy ∈ ps) (hout : Part.out ∈ ps) (hfresh : Part.fresh ∈ ps)
    (ko : CodedKeys K) (oFLT_DIAG_LOGGED : K Obj.FLT_DIAG_LOGGED) (hK : Kept ps K z0 s) : Kept ps K z0 (State.bulkRead s idx off len).2.2 := by
  unfold State.bulkRead
  repeat' (first | with_reducible assumption | with_reducible apply State.windowRead_kept | with_reducible apply Kept.ite_snd2)

end Sys2Proof.Machine
end

