-- ==== Sys2Proof/Laws/KeptStarts.lean ====
section
/-! SUPPORT. What the operations of Machine/Starts.lean keep (Laws/Kept.lean). -/

namespace Sys2Proof.Machine
open Sys2Proof

theorem State.startRun_kept {ps : List Part} {K : Nat → Prop} {z0 : State} (s : State) (session : Nat) (cls : Nat) (key : Nat) (gone : Bool)
    (hboot : Part.boot ∈ ps) (hstore : Part.store ∈ ps) (hwonel : Part.wonel ∈ ps) (hkce : Part.kce ∈ ps) (hflt : Part.flt ∈ ps)
    (hlanes : Part.lanes ∈ ps) (hlinks : Part.links ∈ ps) (hpipes : Part.pipes ∈ ps) (hgalley : Part.galley ∈ ps) (hsched : Part.sched ∈ ps)
    (hports : Part.ports ∈ ps) (htables : Part.tables ∈ ps) (htelem : Part.telem ∈ ps) (htim : Part.tim ∈ ps) (hptp : Part.ptp ∈ ps)
    (hcmp : Part.cmp ∈ ps) (hmem : Part.mem ∈ ps) (hdict : Part.dict ∈ ps) (hbusy : Part.busy ∈ ps) (hout : Part.out ∈ ps) (hfresh : Part.fresh ∈ ps)
    (hall : ∀ k, K k) (hK : Kept ps K z0 s) : Kept ps K z0 (State.startRun s session cls key gone).2 := by
  unfold State.startRun
  repeat' (first | with_reducible intro _ | with_reducible assumption | exact hall _ | exact (BufferKeys.ofAll hall).toCodedKeys
                 | exact (BufferKeys.ofAll hall).toReactKeys | with_reducible apply startLcySoftReset_kept
                 | with_reducible apply startLcyPsCommit_kept | with_reducible apply startLcyTransition_kept
                 | with_reducible apply startKceInstall_kept | with_reducible apply startKceEmpty_kept | with_reducible apply startLnAdapt_kept
                 | with_reducible apply startLnEyeRun_kept | with_reducible apply startLnRelease_kept | with_reducible apply startQdRepair_kept
                 | with_reducible apply startPlnCheck_kept | with_reducible apply startPlnInstall_kept | with_reducible apply startPlnSwitch_kept
                 | with_reducible apply startTblStaticAdd_kept | with_reducible apply startTblDelete_kept
                 | with_reducible apply startTblFlush_kept | with_reducible apply startTblLpmApply_kept
                 | with_reducible apply startChsLpmSpareIn_kept | with_reducible apply startGalCarveApply_kept
                 | with_reducible apply startGalRemap_kept | with_reducible apply startPmcBClear_kept | with_reducible apply startPmcSnap_kept
                 | with_reducible apply startCmpPatchCheck_kept | with_reducible apply startCmpPatchActivate_kept
                 | with_reducible apply startCmpPatchRemove_kept | with_reducible apply startFltDiagWrite_kept
                 | with_reducible apply startFltDiagRead_kept | with_reducible apply startFltClear_kept
                 | with_reducible apply startFltSafeEnter_kept | with_reducible apply startFltInjArm_kept
                 | with_reducible apply startPwrShutdown_kept | with_reducible apply startCtrClear_kept | with_reducible apply Kept.ite_snd)

theorem State.startObject_kept {ps : List Part} {K : Nat → Prop} {z0 : State} (s : State) (session : Nat) (cls : Nat) (key : Nat) (gone : Bool)
    (hboot : Part.boot ∈ ps) (hstore : Part.store ∈ ps) (hwonel : Part.wonel ∈ ps) (hkce : Part.kce ∈ ps) (hflt : Part.flt ∈ ps)
    (hlanes : Part.lanes ∈ ps) (hlinks : Part.links ∈ ps) (hpipes : Part.pipes ∈ ps) (hgalley : Part.galley ∈ ps) (hsched : Part.sched ∈ ps)
    (hports : Part.ports ∈ ps) (htables : Part.tables ∈ ps) (htelem : Part.telem ∈ ps) (htim : Part.tim ∈ ps) (hptp : Part.ptp ∈ ps)
    (hcmp : Part.cmp ∈ ps) (hmem : Part.mem ∈ ps) (hdict : Part.dict ∈ ps) (hbusy : Part.busy ∈ ps) (hout : Part.out ∈ ps) (hfresh : Part.fresh ∈ ps)
    (hall : ∀ k, K k) (hK : Kept ps K z0 s) : Kept ps K z0 (State.startObject s session cls key gone).2 := by
  unfold State.startObject
  repeat' (first | with_reducible intro _ | with_reducible assumption | exact hall _ | with_reducible apply State.startRun_kept
                 | with_reducible apply State.latch_kept | with_reducible apply Kept.ite | with_reducible apply Kept.ite_snd)

theorem State.closeOthers_kept {ps : List Part} {K : Nat → Prop} {z0 : State} (s : State) (session : Nat) (hwonel : Part.wonel ∈ ps) (hK
    : Kept ps K z0 s) : Kept ps K z0 (State.closeOthers s session) := by
  unfold State.closeOthers
  repeat' (first | with_reducible intro _ | with_reducible assumption | with_reducible apply State.closeSession_kept
                 | with_reducible apply Kept.foldl | with_reducible apply Kept.ite)

theorem State.afterStart_kept {ps : List Part} {K : Nat → Prop} {z0 : State} (s : State) (session : Nat) (key : Nat) (hboot : Part.boot ∈ ps)
    (hstore : Part.store ∈ ps) (hwonel : Part.wonel ∈ ps) (hkce : Part.kce ∈ ps) (hflt : Part.flt ∈ ps) (hpower : Part.power ∈ ps)
    (hlinks : Part.links ∈ ps) (hgalley : Part.galley ∈ ps) (htables : Part.tables ∈ ps) (htim : Part.tim ∈ ps) (hcmp : Part.cmp ∈ ps)
    (hdict : Part.dict ∈ ps) (hbusy : Part.busy ∈ ps) (hout : Part.out ∈ ps) (hfresh : Part.fresh ∈ ps) (ko : ReactKeys K)
    (oKCE_EMPTY : ∀ i, K (Obj.KCE_EMPTY i)) (oKCE_INSTALL : ∀ i, K (Obj.KCE_INSTALL i)) (oKCE_NEW_KEY : ∀ i, K (Obj.KCE_NEW_KEY i))
    (oKCE_NEW_KEYLEN : ∀ i, K (Obj.KCE_NEW_KEYLEN i)) (oLCY_PS_WEAR : K Obj.LCY_PS_WEAR) (oPWR_SHUTDOWN : K Obj.PWR_SHUTDOWN)
    (oPWR_STATE : K Obj.PWR_STATE) (oSES_GRANT : ∀ i, K (Obj.SES_GRANT i)) (hK : Kept ps K z0 s) : Kept ps K z0 (State.afterStart s session key) := by
  unfold State.afterStart
  repeat' (first | with_reducible intro _ | with_reducible assumption | with_reducible exact ko.state | with_reducible exact ko.cause
                 | with_reducible exact oKCE_EMPTY _ | with_reducible exact oKCE_INSTALL _ | with_reducible exact oKCE_NEW_KEY _
                 | with_reducible exact oKCE_NEW_KEYLEN _ | with_reducible exact oSES_GRANT _ | with_reducible apply State.keyOnset_kept
                 | with_reducible apply startKceInstall_kept | with_reducible apply startKceEmpty_kept
                 | with_reducible apply afterPwrShutdown_kept | with_reducible apply startPwrShutdown_kept
                 | with_reducible apply State.closeOthers_kept | with_reducible apply Kept.ite | with_reducible apply Kept.ite_snd)

theorem State.abortCtx_kept {ps : List Part} {K : Nat → Prop} {z0 : State} (s : State) (key : Nat) (hcmp : Part.cmp ∈ ps) (hK : Kept ps K z0 s)
    : Kept ps K z0 (State.abortCtx s key) := by
  unfold State.abortCtx
  repeat' (first | with_reducible intro _ | with_reducible assumption | with_reducible apply State.modCtx_kept | with_reducible apply Kept.foldl
                 | with_reducible apply Kept.ite)

theorem State.abortRun_kept {ps : List Part} {K : Nat → Prop} {z0 : State} (s : State) (key : Nat) (hstore : Part.store ∈ ps)
    (hwonel : Part.wonel ∈ ps) (hflt : Part.flt ∈ ps) (hlanes : Part.lanes ∈ ps) (hpipes : Part.pipes ∈ ps) (htables : Part.tables ∈ ps)
    (hcmp : Part.cmp ∈ ps) (hdict : Part.dict ∈ ps) (hbusy : Part.busy ∈ ps) (oCMP_PATCH_ACTIVATE : K Obj.CMP_PATCH_ACTIVATE)
    (oCMP_P_DONE : ∀ i, K (Obj.CMP_P_DONE i)) (oCMP_P_RESTART : ∀ i, K (Obj.CMP_P_RESTART i)) (oCMP_P_RUN : ∀ i, K (Obj.CMP_P_RUN i))
    (oCMP_P_STATE : ∀ i, K (Obj.CMP_P_STATE i)) (oCMP_P_TOTAL : ∀ i, K (Obj.CMP_P_TOTAL i)) (oFLT_INJ_ARM : K Obj.FLT_INJ_ARM)
    (oFLT_INJ_LEFT : K Obj.FLT_INJ_LEFT) (oLCY_PS_COMMIT : K Obj.LCY_PS_COMMIT) (okey : K key) (hK : Kept ps K z0 s)
    : Kept ps K z0 (State.abortRun s key) := by
  unfold State.abortRun
  repeat' (first | with_reducible intro _ | with_reducible assumption | with_reducible exact oCMP_P_DONE _
                 | with_reducible exact oCMP_P_RESTART _ | with_reducible exact oCMP_P_RUN _ | with_reducible exact oCMP_P_STATE _
                 | with_reducible exact oCMP_P_TOTAL _ | with_reducible apply State.abortCommit_kept
                 | with_reducible apply State.abortPlnSwitch_kept | with_reducible apply State.modTables_kept
                 | with_reducible apply State.abortPatch_kept | with_reducible apply abortFltInjArm_kept
                 | with_reducible apply State.modLane_kept | with_reducible apply State.runEnd_kept | with_reducible apply State.abortCtx_kept
                 | with_reducible apply Kept.ite)

theorem State.abortObject_kept {ps : List Part} {K : Nat → Prop} {z0 : State} (s : State) (key : Nat) (hboot : Part.boot ∈ ps)
    (hstore : Part.store ∈ ps) (hwonel : Part.wonel ∈ ps) (hflt : Part.flt ∈ ps) (hlanes : Part.lanes ∈ ps) (hpipes : Part.pipes ∈ ps)
    (htables : Part.tables ∈ ps) (hcmp : Part.cmp ∈ ps) (hdict : Part.dict ∈ ps) (hbusy : Part.busy ∈ ps)
    (oCMP_PATCH_ACTIVATE : K Obj.CMP_PATCH_ACTIVATE) (oCMP_P_DONE : ∀ i, K (Obj.CMP_P_DONE i)) (oCMP_P_RESTART : ∀ i, K (Obj.CMP_P_RESTART i))
    (oCMP_P_RUN : ∀ i, K (Obj.CMP_P_RUN i)) (oCMP_P_STATE : ∀ i, K (Obj.CMP_P_STATE i)) (oCMP_P_TOTAL : ∀ i, K (Obj.CMP_P_TOTAL i))
    (oFLT_INJ_ARM : K Obj.FLT_INJ_ARM) (oFLT_INJ_LEFT : K Obj.FLT_INJ_LEFT) (oLCY_PS_COMMIT : K Obj.LCY_PS_COMMIT) (okey : K key) (hK
    : Kept ps K z0 s) : Kept ps K z0 (State.abortObject s key).2 := by
  unfold State.abortObject
  repeat' (first | with_reducible intro _ | with_reducible assumption | with_reducible exact oCMP_P_DONE _
                 | with_reducible exact oCMP_P_RESTART _ | with_reducible exact oCMP_P_RUN _ | with_reducible exact oCMP_P_STATE _
                 | with_reducible exact oCMP_P_TOTAL _ | with_reducible apply State.abortRun_kept | with_reducible apply Kept.ite_snd
                 | exact Or.inl ‹_› | with_reducible exact Or.inr rfl | with_reducible exact Or.inl rfl | dsimp only
                 | with_reducible exact Nat.le_max_right _ _ | with_reducible apply Kept.all)

end Sys2Proof.Machine
end

