-- ==== Sys2Proof/Laws/KeptJudge.lean ====
section
/-! SUPPORT. What the operations of Machine/Judge.lean keep (Laws/Kept.lean). -/

namespace Sys2Proof.Machine
open Sys2Proof

theorem State.serveCmp_kept {ps : List Part} {K : Nat → Prop} {z0 : State} (s : State) (session : Nat) (key : Nat) (htelem : Part.telem ∈ ps)
    (hcmp : Part.cmp ∈ ps) (hfresh : Part.fresh ∈ ps) (hK : Kept ps K z0 s) : Kept ps K z0 (State.serveCmp s session key) := by
  unfold State.serveCmp
  repeat' (first | with_reducible assumption | with_reducible apply State.pmc_kept | with_reducible apply State.cmpPush_kept
                 | with_reducible apply Kept.ite)

theorem State.readRef_kept {ps : List Part} {K : Nat → Prop} {z0 : State} (s : State) (session : Nat) (grant : Nat) (r : Ref)
    (hwonel : Part.wonel ∈ ps) (hflt : Part.flt ∈ ps) (hlinks : Part.links ∈ ps) (hgalley : Part.galley ∈ ps) (htables : Part.tables ∈ ps)
    (htelem : Part.telem ∈ ps) (htim : Part.tim ∈ ps) (hcmp : Part.cmp ∈ ps) (hmem : Part.mem ∈ ps) (hdict : Part.dict ∈ ps) (hbusy : Part.busy ∈ ps)
    (hout : Part.out ∈ ps) (hfresh : Part.fresh ∈ ps) (ko : BufferKeys K) (oGAL_INVALID_READS : K Obj.GAL_INVALID_READS) (hK : Kept ps K z0 s)
    : Kept ps K z0 (State.readRef s session grant r).2.2 := by
  unfold State.readRef
  repeat' (first | with_reducible assumption | with_reducible apply State.serveCmp_kept | with_reducible apply State.readObject_kept
                 | with_reducible apply Kept.ite_snd2)

theorem State.readRefs_kept {ps : List Part} {K : Nat → Prop} {z0 : State} (s : State) (session : Nat) (grant : Nat) (result : Nat) (out : Bytes)
    (n : List Ref) (hwonel : Part.wonel ∈ ps) (hflt : Part.flt ∈ ps) (hlinks : Part.links ∈ ps) (hgalley : Part.galley ∈ ps)
    (htables : Part.tables ∈ ps) (htelem : Part.telem ∈ ps) (htim : Part.tim ∈ ps) (hcmp : Part.cmp ∈ ps) (hmem : Part.mem ∈ ps)
    (hdict : Part.dict ∈ ps) (hbusy : Part.busy ∈ ps) (hout : Part.out ∈ ps) (hfresh : Part.fresh ∈ ps) (ko : BufferKeys K)
    (oGAL_INVALID_READS : K Obj.GAL_INVALID_READS) (hK : Kept ps K z0 s) : Kept ps K z0 (State.readRefs s session grant result out n).2.2 := by
  induction n generalizing s session grant result out with
  | nil =>
    unfold State.readRefs
    repeat' (first | with_reducible assumption | with_reducible apply State.readRef_kept)
  | cons y ys ih =>
    unfold State.readRefs
    repeat' (first | with_reducible assumption | with_reducible apply State.readRef_kept | with_reducible apply ih)

theorem State.judgeItem_kept {ps : List Part} {K : Nat → Prop} {z0 : State} (s : State) (session : Nat) (grant : Nat) (x : WItem)
    (hwonel : Part.wonel ∈ ps) (hflt : Part.flt ∈ ps) (hlanes : Part.lanes ∈ ps) (hlinks : Part.links ∈ ps) (hgalley : Part.galley ∈ ps)
    (hsched : Part.sched ∈ ps) (hports : Part.ports ∈ ps) (htables : Part.tables ∈ ps) (htelem : Part.telem ∈ ps) (htim : Part.tim ∈ ps)
    (hptp : Part.ptp ∈ ps) (hcmp : Part.cmp ∈ ps) (hmem : Part.mem ∈ ps) (hdict : Part.dict ∈ ps) (hbusy : Part.busy ∈ ps) (hout : Part.out ∈ ps)
    (hfresh : Part.fresh ∈ ps) (hall : ∀ k, K k) (hK : Kept ps K z0 s) : Kept ps K z0 (State.judgeItem s session grant x).2.2.2 := by
  unfold State.judgeItem
  repeat' (first | with_reducible intro _ | with_reducible assumption | exact hall _ | with_reducible apply State.writeOne_kept
                 | with_reducible apply State.serveCmp_kept | with_reducible apply Kept.ite | with_reducible apply Kept.ite_snd3)

theorem State.applyItems_kept {ps : List Part} {K : Nat → Prop} {z0 : State} (s : State) (session : Nat) (grant : Nat) (n : List WItem)
    (hwonel : Part.wonel ∈ ps) (hflt : Part.flt ∈ ps) (hlanes : Part.lanes ∈ ps) (hlinks : Part.links ∈ ps) (hgalley : Part.galley ∈ ps)
    (hsched : Part.sched ∈ ps) (hports : Part.ports ∈ ps) (htables : Part.tables ∈ ps) (htelem : Part.telem ∈ ps) (htim : Part.tim ∈ ps)
    (hptp : Part.ptp ∈ ps) (hcmp : Part.cmp ∈ ps) (hmem : Part.mem ∈ ps) (hdict : Part.dict ∈ ps) (hbusy : Part.busy ∈ ps) (hout : Part.out ∈ ps)
    (hfresh : Part.fresh ∈ ps) (hall : ∀ k, K k) (hK : Kept ps K z0 s) : Kept ps K z0 (State.applyItems s session grant n).2.2.2 := by
  induction n generalizing s session grant with
  | nil =>
    unfold State.applyItems
    repeat' (first | with_reducible intro _ | with_reducible assumption | exact hall _ | with_reducible apply State.judgeItem_kept
                   | with_reducible apply Kept.ite_snd3)
  | cons y ys ih =>
    unfold State.applyItems
    repeat' (first | with_reducible intro _ | with_reducible assumption | exact hall _ | with_reducible apply State.judgeItem_kept
                   | with_reducible apply ih | with_reducible apply Kept.ite_snd3)

theorem State.writeItems_kept {ps : List Part} {K : Nat → Prop} {z0 : State} (s : State) (session : Nat) (grant : Nat) (l : List WItem)
    (hwonel : Part.wonel ∈ ps) (hflt : Part.flt ∈ ps) (hlanes : Part.lanes ∈ ps) (hlinks : Part.links ∈ ps) (hgalley : Part.galley ∈ ps)
    (hsched : Part.sched ∈ ps) (hports : Part.ports ∈ ps) (htables : Part.tables ∈ ps) (htelem : Part.telem ∈ ps) (htim : Part.tim ∈ ps)
    (hptp : Part.ptp ∈ ps) (hcmp : Part.cmp ∈ ps) (hmem : Part.mem ∈ ps) (hdict : Part.dict ∈ ps) (hbusy : Part.busy ∈ ps) (hout : Part.out ∈ ps)
    (hfresh : Part.fresh ∈ ps) (hall : ∀ k, K k) (hK : Kept ps K z0 s) : Kept ps K z0 (State.writeItems s session grant l).2.2.2 := by
  unfold State.writeItems
  repeat' (first | with_reducible intro _ | with_reducible assumption | exact hall _ | with_reducible apply State.applyItems_kept | split
                 | dsimp only)

end Sys2Proof.Machine
end

