-- ==== Sys2Proof/Laws/KeptWonel.lean ====
section
/-! SUPPORT. What the operations of Machine/Wonel.lean keep (Laws/Kept.lean). -/

namespace Sys2Proof.Machine
open Sys2Proof

theorem State.modMg_kept {ps : List Part} {K : Nat → Prop} {z0 : State} (s : State) (mg : Nat) (f : MgPort → MgPort) (hwonel : Part.wonel ∈ ps) (hK
    : Kept ps K z0 s) : Kept ps K z0 (State.modMg s mg f) := by
  unfold State.modMg
  repeat' (first | with_reducible intro _ | with_reducible assumption | exact Or.inl ‹_› | with_reducible exact Or.inr rfl
                 | with_reducible exact Or.inl rfl | split | dsimp only | with_reducible exact Nat.le_max_right _ _ | with_reducible apply Kept.all)

theorem State.wayOut_kept {ps : List Part} {K : Nat → Prop} {z0 : State} (s : State) (way : Nat) (f : Bytes) (hwonel : Part.wonel ∈ ps)
    (hflt : Part.flt ∈ ps) (hlinks : Part.links ∈ ps) (hgalley : Part.galley ∈ ps) (hsched : Part.sched ∈ ps) (hports : Part.ports ∈ ps)
    (htables : Part.tables ∈ ps) (htelem : Part.telem ∈ ps) (htim : Part.tim ∈ ps) (hcmp : Part.cmp ∈ ps) (hmem : Part.mem ∈ ps)
    (hdict : Part.dict ∈ ps) (hbusy : Part.busy ∈ ps) (hout : Part.out ∈ ps) (hfresh : Part.fresh ∈ ps) (ko : BufferKeys K)
    (oCTR_LPI_TX_US : ∀ i, K (Obj.CTR_LPI_TX_US i)) (oCTR_TX_FLUSHED : ∀ i, K (Obj.CTR_TX_FLUSHED i)) (oCTR_TX_FRAMES : ∀ i, K (Obj.CTR_TX_FRAMES i))
    (oCTR_TX_LSO_SEGMENTS : ∀ i, K (Obj.CTR_TX_LSO_SEGMENTS i)) (oCTR_TX_OCTETS : ∀ i, K (Obj.CTR_TX_OCTETS i))
    (oCTR_TX_PAUSE : ∀ i, K (Obj.CTR_TX_PAUSE i)) (oGAL_C_FALLBACKS : ∀ i, K (Obj.GAL_C_FALLBACKS i))
    (oGAL_C_FREE_MIN : ∀ i, K (Obj.GAL_C_FREE_MIN i)) (oGAL_C_GRANTS : ∀ i, K (Obj.GAL_C_GRANTS i)) (oGAL_C_REFUSED : ∀ i, K (Obj.GAL_C_REFUSED i))
    (oQ_ENQ : ∀ i j, K (Obj.Q_ENQ i j)) (oQ_TAIL_DROPS : ∀ i j, K (Obj.Q_TAIL_DROPS i j)) (hK : Kept ps K z0 s) : Kept ps K z0 (State.wayOut s way f)
    := by
  unfold State.wayOut
  repeat' (first | with_reducible intro _ | with_reducible assumption | with_reducible exact oCTR_LPI_TX_US _
                 | with_reducible exact oCTR_TX_FLUSHED _ | with_reducible exact oCTR_TX_FRAMES _ | with_reducible exact oCTR_TX_LSO_SEGMENTS _
                 | with_reducible exact oCTR_TX_OCTETS _ | with_reducible exact oCTR_TX_PAUSE _ | with_reducible exact oGAL_C_FALLBACKS _
                 | with_reducible exact oGAL_C_FREE_MIN _ | with_reducible exact oGAL_C_GRANTS _ | with_reducible exact oGAL_C_REFUSED _
                 | with_reducible exact oQ_ENQ _ _ | with_reducible exact oQ_TAIL_DROPS _ _ | with_reducible apply State.cmpSend_kept
                 | with_reducible apply State.emit_kept | with_reducible apply Kept.ite)

theorem State.sendBack_kept {ps : List Part} {K : Nat → Prop} {z0 : State} (s : State) (v : Via) (msg : Bytes) (hwonel : Part.wonel ∈ ps)
    (hflt : Part.flt ∈ ps) (hlinks : Part.links ∈ ps) (hgalley : Part.galley ∈ ps) (hsched : Part.sched ∈ ps) (hports : Part.ports ∈ ps)
    (htables : Part.tables ∈ ps) (htelem : Part.telem ∈ ps) (htim : Part.tim ∈ ps) (hcmp : Part.cmp ∈ ps) (hmem : Part.mem ∈ ps)
    (hdict : Part.dict ∈ ps) (hbusy : Part.busy ∈ ps) (hout : Part.out ∈ ps) (hfresh : Part.fresh ∈ ps) (ko : BufferKeys K)
    (oCTR_LPI_TX_US : ∀ i, K (Obj.CTR_LPI_TX_US i)) (oCTR_TX_FLUSHED : ∀ i, K (Obj.CTR_TX_FLUSHED i)) (oCTR_TX_FRAMES : ∀ i, K (Obj.CTR_TX_FRAMES i))
    (oCTR_TX_LSO_SEGMENTS : ∀ i, K (Obj.CTR_TX_LSO_SEGMENTS i)) (oCTR_TX_OCTETS : ∀ i, K (Obj.CTR_TX_OCTETS i))
    (oCTR_TX_PAUSE : ∀ i, K (Obj.CTR_TX_PAUSE i)) (oGAL_C_FALLBACKS : ∀ i, K (Obj.GAL_C_FALLBACKS i))
    (oGAL_C_FREE_MIN : ∀ i, K (Obj.GAL_C_FREE_MIN i)) (oGAL_C_GRANTS : ∀ i, K (Obj.GAL_C_GRANTS i)) (oGAL_C_REFUSED : ∀ i, K (Obj.GAL_C_REFUSED i))
    (oQ_ENQ : ∀ i j, K (Obj.Q_ENQ i j)) (oQ_TAIL_DROPS : ∀ i j, K (Obj.Q_TAIL_DROPS i j)) (hK : Kept ps K z0 s)
    : Kept ps K z0 (State.sendBack s v msg) := by
  unfold State.sendBack
  repeat' (first | with_reducible intro _ | with_reducible assumption | with_reducible exact oCTR_LPI_TX_US _
                 | with_reducible exact oCTR_TX_FLUSHED _ | with_reducible exact oCTR_TX_FRAMES _ | with_reducible exact oCTR_TX_LSO_SEGMENTS _
                 | with_reducible exact oCTR_TX_OCTETS _ | with_reducible exact oCTR_TX_PAUSE _ | with_reducible exact oGAL_C_FALLBACKS _
                 | with_reducible exact oGAL_C_FREE_MIN _ | with_reducible exact oGAL_C_GRANTS _ | with_reducible exact oGAL_C_REFUSED _
                 | with_reducible exact oQ_ENQ _ _ | with_reducible exact oQ_TAIL_DROPS _ _ | with_reducible apply State.wayOut_kept
                 | with_reducible apply State.useFree_kept | split)

theorem State.tagPasses_kept {ps : List Part} {K : Nat → Prop} {z0 : State} (s : State) (page : Nat) (m : Bytes) (hdict : Part.dict ∈ ps)
    (oKCE_BLOCKS : K Obj.KCE_BLOCKS) (oKCE_MESSAGES : K Obj.KCE_MESSAGES) (hK : Kept ps K z0 s) : Kept ps K z0 (State.tagPasses s page m).2 := by
  unfold State.tagPasses
  repeat' (first | with_reducible assumption | with_reducible apply State.kceTag_kept)

theorem State.answer_kept {ps : List Part} {K : Nat → Prop} {z0 : State} (s : State) (i : Nat) (m : Bytes) (v : Via) (code : Nat) (payload : Bytes)
    (cached : Bool) (hwonel : Part.wonel ∈ ps) (hflt : Part.flt ∈ ps) (hlinks : Part.links ∈ ps) (hgalley : Part.galley ∈ ps)
    (hsched : Part.sched ∈ ps) (hports : Part.ports ∈ ps) (htables : Part.tables ∈ ps) (htelem : Part.telem ∈ ps) (htim : Part.tim ∈ ps)
    (hcmp : Part.cmp ∈ ps) (hmem : Part.mem ∈ ps) (hdict : Part.dict ∈ ps) (hbusy : Part.busy ∈ ps) (hout : Part.out ∈ ps) (hfresh : Part.fresh ∈ ps)
    (ko : BufferKeys K) (oCTR_LPI_TX_US : ∀ i, K (Obj.CTR_LPI_TX_US i)) (oCTR_TX_FLUSHED : ∀ i, K (Obj.CTR_TX_FLUSHED i))
    (oCTR_TX_FRAMES : ∀ i, K (Obj.CTR_TX_FRAMES i)) (oCTR_TX_LSO_SEGMENTS : ∀ i, K (Obj.CTR_TX_LSO_SEGMENTS i))
    (oCTR_TX_OCTETS : ∀ i, K (Obj.CTR_TX_OCTETS i)) (oCTR_TX_PAUSE : ∀ i, K (Obj.CTR_TX_PAUSE i)) (oGAL_C_FALLBACKS : ∀ i, K (Obj.GAL_C_FALLBACKS i))
    (oGAL_C_FREE_MIN : ∀ i, K (Obj.GAL_C_FREE_MIN i)) (oGAL_C_GRANTS : ∀ i, K (Obj.GAL_C_GRANTS i)) (oGAL_C_REFUSED : ∀ i, K (Obj.GAL_C_REFUSED i))
    (oKCE_BLOCKS : K Obj.KCE_BLOCKS) (oKCE_MESSAGES : K Obj.KCE_MESSAGES) (oQ_ENQ : ∀ i j, K (Obj.Q_ENQ i j))
    (oQ_TAIL_DROPS : ∀ i j, K (Obj.Q_TAIL_DROPS i j)) (hK : Kept ps K z0 s) : Kept ps K z0 (State.answer s i m v code payload cached) := by
  unfold State.answer
  repeat' (first | with_reducible intro _ | with_reducible assumption | with_reducible exact oCTR_LPI_TX_US _
                 | with_reducible exact oCTR_TX_FLUSHED _ | with_reducible exact oCTR_TX_FRAMES _ | with_reducible exact oCTR_TX_LSO_SEGMENTS _
                 | with_reducible exact oCTR_TX_OCTETS _ | with_reducible exact oCTR_TX_PAUSE _ | with_reducible exact oGAL_C_FALLBACKS _
                 | with_reducible exact oGAL_C_FREE_MIN _ | with_reducible exact oGAL_C_GRANTS _ | with_reducible exact oGAL_C_REFUSED _
                 | with_reducible exact oQ_ENQ _ _ | with_reducible exact oQ_TAIL_DROPS _ _ | with_reducible apply State.kceTag_kept
                 | with_reducible apply State.modSession_kept | with_reducible apply State.sendBack_kept | with_reducible apply Kept.ite)

theorem State.closeSpent_kept {ps : List Part} {K : Nat → Prop} {z0 : State} (s : State) (hwonel : Part.wonel ∈ ps) (hK : Kept ps K z0 s)
    : Kept ps K z0 (State.closeSpent s) := by
  unfold State.closeSpent
  repeat' (first | with_reducible intro _ | with_reducible assumption | with_reducible apply State.closeSession_kept
                 | with_reducible apply Kept.foldl | with_reducible apply Kept.ite)

theorem State.touch_kept {ps : List Part} {K : Nat → Prop} {z0 : State} (s : State) (i : Nat) (hwonel : Part.wonel ∈ ps) (hK : Kept ps K z0 s)
    : Kept ps K z0 (State.touch s i) := by
  unfold State.touch
  repeat' (first | with_reducible assumption | with_reducible apply State.modSession_kept)

theorem State.queueRequest_kept {ps : List Part} {K : Nat → Prop} {z0 : State} (s : State) (i : Nat) (m : Bytes) (v : Via) (hstore : Part.store ∈ ps)
    (hwonel : Part.wonel ∈ ps) (hkce : Part.kce ∈ ps) (hflt : Part.flt ∈ ps) (hlinks : Part.links ∈ ps) (hgalley : Part.galley ∈ ps)
    (htables : Part.tables ∈ ps) (htim : Part.tim ∈ ps) (hcmp : Part.cmp ∈ ps) (hdict : Part.dict ∈ ps) (hout : Part.out ∈ ps)
    (hfresh : Part.fresh ∈ ps) (ko : ReactKeys K) (oLCY_PS_WEAR : K Obj.LCY_PS_WEAR) (oSES_ACCEPTED : ∀ i, K (Obj.SES_ACCEPTED i))
    (oSES_WAY : ∀ i, K (Obj.SES_WAY i)) (hK : Kept ps K z0 s) : Kept ps K z0 (State.queueRequest s i m v) := by
  unfold State.queueRequest
  repeat' (first | with_reducible assumption | with_reducible exact oSES_ACCEPTED _ | with_reducible exact oSES_WAY _
                 | with_reducible apply State.countUse_kept | with_reducible apply State.acceptSeq_kept
                 | with_reducible apply State.modSession_kept | with_reducible apply State.put_kept | with_reducible apply State.bump_kept
                 | with_reducible apply State.touch_kept)

theorem State.acceptMsg_kept {ps : List Part} {K : Nat → Prop} {z0 : State} (s : State) (v : Via) (m0 : Bytes) (hstore : Part.store ∈ ps)
    (hwonel : Part.wonel ∈ ps) (hkce : Part.kce ∈ ps) (hflt : Part.flt ∈ ps) (hlinks : Part.links ∈ ps) (hgalley : Part.galley ∈ ps)
    (hsched : Part.sched ∈ ps) (hports : Part.ports ∈ ps) (htables : Part.tables ∈ ps) (htelem : Part.telem ∈ ps) (htim : Part.tim ∈ ps)
    (hcmp : Part.cmp ∈ ps) (hmem : Part.mem ∈ ps) (hdict : Part.dict ∈ ps) (hbusy : Part.busy ∈ ps) (hout : Part.out ∈ ps) (hfresh : Part.fresh ∈ ps)
    (ko : BufferKeys K) (oCTR_LPI_TX_US : ∀ i, K (Obj.CTR_LPI_TX_US i)) (oCTR_TX_FLUSHED : ∀ i, K (Obj.CTR_TX_FLUSHED i))
    (oCTR_TX_FRAMES : ∀ i, K (Obj.CTR_TX_FRAMES i)) (oCTR_TX_LSO_SEGMENTS : ∀ i, K (Obj.CTR_TX_LSO_SEGMENTS i))
    (oCTR_TX_OCTETS : ∀ i, K (Obj.CTR_TX_OCTETS i)) (oCTR_TX_PAUSE : ∀ i, K (Obj.CTR_TX_PAUSE i)) (oGAL_C_FALLBACKS : ∀ i, K (Obj.GAL_C_FALLBACKS i))
    (oGAL_C_FREE_MIN : ∀ i, K (Obj.GAL_C_FREE_MIN i)) (oGAL_C_GRANTS : ∀ i, K (Obj.GAL_C_GRANTS i)) (oGAL_C_REFUSED : ∀ i, K (Obj.GAL_C_REFUSED i))
    (oKCE_BLOCKS : K Obj.KCE_BLOCKS) (oKCE_MESSAGES : K Obj.KCE_MESSAGES) (oLCY_PS_WEAR : K Obj.LCY_PS_WEAR) (oQ_ENQ : ∀ i j, K (Obj.Q_ENQ i j))
    (oQ_TAIL_DROPS : ∀ i j, K (Obj.Q_TAIL_DROPS i j)) (oSES_ACCEPTED : ∀ i, K (Obj.SES_ACCEPTED i)) (oSES_BAD_TAG : K Obj.SES_BAD_TAG)
    (oSES_PAGE_DROPS : K Obj.SES_PAGE_DROPS) (oSES_QUEUE_DROPS : K Obj.SES_QUEUE_DROPS) (oSES_WAY : ∀ i, K (Obj.SES_WAY i)) (hK : Kept ps K z0 s)
    : Kept ps K z0 (State.acceptMsg s v m0) := by
  unfold State.acceptMsg
  repeat' (first | with_reducible intro _ | with_reducible assumption | exact ko.toReactKeys | with_reducible exact oCTR_LPI_TX_US _
                 | with_reducible exact oCTR_TX_FLUSHED _ | with_reducible exact oCTR_TX_FRAMES _ | with_reducible exact oCTR_TX_LSO_SEGMENTS _
                 | with_reducible exact oCTR_TX_OCTETS _ | with_reducible exact oCTR_TX_PAUSE _ | with_reducible exact oGAL_C_FALLBACKS _
                 | with_reducible exact oGAL_C_FREE_MIN _ | with_reducible exact oGAL_C_GRANTS _ | with_reducible exact oGAL_C_REFUSED _
                 | with_reducible exact oQ_ENQ _ _ | with_reducible exact oQ_TAIL_DROPS _ _ | with_reducible exact oSES_ACCEPTED _
                 | with_reducible exact oSES_WAY _ | with_reducible apply State.sendBack_kept | with_reducible apply State.touch_kept
                 | with_reducible apply State.bump_kept | with_reducible apply State.modSession_kept | with_reducible apply State.tagPasses_kept
                 | with_reducible apply State.closeSpent_kept | with_reducible apply State.lockPage_kept | with_reducible apply State.answer_kept
                 | with_reducible apply State.countUse_kept | with_reducible apply State.queueRequest_kept | with_reducible apply Kept.ite | split)

theorem State.turnedAway_kept {ps : List Part} {K : Nat → Prop} {z0 : State} (s : State) (i : Nat) (m : Bytes) (code : Nat) (hfresh : Part.fresh ∈ ps)
    (hK : Kept ps K z0 s) : Kept ps K z0 (State.turnedAway s i m code).state := by
  unfold State.turnedAway
  repeat' (first | with_reducible assumption | with_reducible apply State.useFree_kept | split | dsimp only)

theorem State.doHello_kept {ps : List Part} {K : Nat → Prop} {z0 : State} (s : State) (i : Nat) (m : Bytes) (hwonel : Part.wonel ∈ ps)
    (hdict : Part.dict ∈ ps) (oSES_ACCEPTED : ∀ i, K (Obj.SES_ACCEPTED i)) (hK : Kept ps K z0 s) : Kept ps K z0 (State.doHello s i m).state := by
  unfold State.doHello
  repeat' (first | with_reducible assumption | with_reducible exact oSES_ACCEPTED _ | with_reducible apply State.modSession_kept
                 | with_reducible apply State.closeSession_kept | with_reducible apply State.put_kept | split | dsimp only)

theorem State.doReadMulti_kept {ps : List Part} {K : Nat → Prop} {z0 : State} (s : State) (i : Nat) (grant : Nat) (pl : Bytes)
    (hwonel : Part.wonel ∈ ps) (hflt : Part.flt ∈ ps) (hlinks : Part.links ∈ ps) (hgalley : Part.galley ∈ ps) (htables : Part.tables ∈ ps)
    (htelem : Part.telem ∈ ps) (htim : Part.tim ∈ ps) (hcmp : Part.cmp ∈ ps) (hmem : Part.mem ∈ ps) (hdict : Part.dict ∈ ps) (hbusy : Part.busy ∈ ps)
    (hout : Part.out ∈ ps) (hfresh : Part.fresh ∈ ps) (ko : BufferKeys K) (oGAL_INVALID_READS : K Obj.GAL_INVALID_READS) (hK : Kept ps K z0 s)
    : Kept ps K z0 (State.doReadMulti s i grant pl).state := by
  unfold State.doReadMulti
  repeat' (first | with_reducible assumption | with_reducible apply State.readRefs_kept | split | dsimp only)

theorem State.doBulkRead_kept {ps : List Part} {K : Nat → Prop} {z0 : State} (s : State) (i : Nat) (grant : Nat) (pl : Bytes)
    (hwonel : Part.wonel ∈ ps) (hflt : Part.flt ∈ ps) (hlinks : Part.links ∈ ps) (hgalley : Part.galley ∈ ps) (htables : Part.tables ∈ ps)
    (htelem : Part.telem ∈ ps) (htim : Part.tim ∈ ps) (hcmp : Part.cmp ∈ ps) (hmem : Part.mem ∈ ps) (hdict : Part.dict ∈ ps) (hbusy : Part.busy ∈ ps)
    (hout : Part.out ∈ ps) (hfresh : Part.fresh ∈ ps) (ko : CodedKeys K) (oFLT_DIAG_LOGGED : K Obj.FLT_DIAG_LOGGED) (hK : Kept ps K z0 s)
    : Kept ps K z0 (State.doBulkRead s i grant pl).state := by
  unfold State.doBulkRead
  repeat' (first | with_reducible assumption | with_reducible apply State.bulkRead_kept | with_reducible apply State.serveCmp_kept | split
                 | dsimp only)

theorem State.doBulkWrite_kept {ps : List Part} {K : Nat → Prop} {z0 : State} (s : State) (i : Nat) (grant : Nat) (pl : Bytes)
    (hwonel : Part.wonel ∈ ps) (hflt : Part.flt ∈ ps) (hpipes : Part.pipes ∈ ps) (hsched : Part.sched ∈ ps) (htables : Part.tables ∈ ps)
    (htelem : Part.telem ∈ ps) (hptp : Part.ptp ∈ ps) (hcmp : Part.cmp ∈ ps) (hmem : Part.mem ∈ ps) (hdict : Part.dict ∈ ps)
    (hfresh : Part.fresh ∈ ps) (oCMP_PATCH_STAGED_ID : K Obj.CMP_PATCH_STAGED_ID) (oFLT_DIAG_LOGGED : K Obj.FLT_DIAG_LOGGED)
    (oPLN_CHECK_ID : K Obj.PLN_CHECK_ID) (hK : Kept ps K z0 s) : Kept ps K z0 (State.doBulkWrite s i grant pl).state := by
  unfold State.doBulkWrite
  repeat' (first | with_reducible assumption | with_reducible apply State.bulkWrite_kept | with_reducible apply State.serveCmp_kept | split
                 | dsimp only)

theorem State.doStart_kept {ps : List Part} {K : Nat → Prop} {z0 : State} (s : State) (i : Nat) (grant : Nat) (pl : Bytes) (gone : Bool)
    (hboot : Part.boot ∈ ps) (hstore : Part.store ∈ ps) (hwonel : Part.wonel ∈ ps) (hkce : Part.kce ∈ ps) (hflt : Part.flt ∈ ps)
    (hlanes : Part.lanes ∈ ps) (hlinks : Part.links ∈ ps) (hpipes : Part.pipes ∈ ps) (hgalley : Part.galley ∈ ps) (hsched : Part.sched ∈ ps)
    (hports : Part.ports ∈ ps) (htables : Part.tables ∈ ps) (htelem : Part.telem ∈ ps) (htim : Part.tim ∈ ps) (hptp : Part.ptp ∈ ps)
    (hcmp : Part.cmp ∈ ps) (hmem : Part.mem ∈ ps) (hdict : Part.dict ∈ ps) (hbusy : Part.busy ∈ ps) (hout : Part.out ∈ ps) (hfresh : Part.fresh ∈ ps)
    (hall : ∀ k, K k) (hK : Kept ps K z0 s) : Kept ps K z0 (State.doStart s i grant pl gone).state := by
  unfold State.doStart
  repeat' (first | with_reducible intro _ | with_reducible assumption | exact hall _ | with_reducible apply State.startObject_kept
                 | with_reducible apply State.serveCmp_kept | split | dsimp only)

theorem State.doAbort_kept {ps : List Part} {K : Nat → Prop} {z0 : State} (s : State) (i : Nat) (grant : Nat) (pl : Bytes) (hboot : Part.boot ∈ ps)
    (hstore : Part.store ∈ ps) (hwonel : Part.wonel ∈ ps) (hflt : Part.flt ∈ ps) (hlanes : Part.lanes ∈ ps) (hpipes : Part.pipes ∈ ps)
    (htables : Part.tables ∈ ps) (htelem : Part.telem ∈ ps) (hcmp : Part.cmp ∈ ps) (hdict : Part.dict ∈ ps) (hbusy : Part.busy ∈ ps)
    (hfresh : Part.fresh ∈ ps) (hall : ∀ k, K k) (hK : Kept ps K z0 s) : Kept ps K z0 (State.doAbort s i grant pl).state := by
  unfold State.doAbort
  repeat' (first | with_reducible intro _ | with_reducible assumption | exact hall _ | with_reducible apply State.modSession_kept
                 | with_reducible apply State.abortObject_kept | with_reducible apply State.serveCmp_kept | split | dsimp only)

theorem State.perform_kept {ps : List Part} {K : Nat → Prop} {z0 : State} (s : State) (i : Nat) (r : Request) (gone : Bool) (hboot : Part.boot ∈ ps)
    (hstore : Part.store ∈ ps) (hwonel : Part.wonel ∈ ps) (hkce : Part.kce ∈ ps) (hflt : Part.flt ∈ ps) (hlanes : Part.lanes ∈ ps)
    (hlinks : Part.links ∈ ps) (hpipes : Part.pipes ∈ ps) (hgalley : Part.galley ∈ ps) (hsched : Part.sched ∈ ps) (hports : Part.ports ∈ ps)
    (htables : Part.tables ∈ ps) (htelem : Part.telem ∈ ps) (htim : Part.tim ∈ ps) (hptp : Part.ptp ∈ ps) (hcmp : Part.cmp ∈ ps)
    (hmem : Part.mem ∈ ps) (hdict : Part.dict ∈ ps) (hbusy : Part.busy ∈ ps) (hout : Part.out ∈ ps) (hfresh : Part.fresh ∈ ps) (hall : ∀ k, K k) (hK
    : Kept ps K z0 s) : Kept ps K z0 (State.perform s i r gone).state := by
  unfold State.perform
  repeat' (first | with_reducible intro _ | with_reducible assumption | exact hall _ | exact BufferKeys.ofAll hall
                 | exact (BufferKeys.ofAll hall).toCodedKeys | with_reducible apply State.turnedAway_kept
                 | with_reducible apply State.doHello_kept | with_reducible apply State.readRef_kept | with_reducible apply State.writeItems_kept
                 | with_reducible apply State.doReadMulti_kept | with_reducible apply State.doBulkRead_kept
                 | with_reducible apply State.doBulkWrite_kept | with_reducible apply State.doStart_kept
                 | with_reducible apply State.doAbort_kept | split | dsimp only)

theorem State.afterReply_kept {ps : List Part} {K : Nat → Prop} {z0 : State} (s : State) (i : Nat) (d : Done) (hboot : Part.boot ∈ ps)
    (hstore : Part.store ∈ ps) (hwonel : Part.wonel ∈ ps) (hkce : Part.kce ∈ ps) (hflt : Part.flt ∈ ps) (hpower : Part.power ∈ ps)
    (hlinks : Part.links ∈ ps) (hgalley : Part.galley ∈ ps) (htables : Part.tables ∈ ps) (htim : Part.tim ∈ ps) (hcmp : Part.cmp ∈ ps)
    (hdict : Part.dict ∈ ps) (hbusy : Part.busy ∈ ps) (hout : Part.out ∈ ps) (hfresh : Part.fresh ∈ ps) (ko : ReactKeys K)
    (oKCE_EMPTY : ∀ i, K (Obj.KCE_EMPTY i)) (oKCE_INSTALL : ∀ i, K (Obj.KCE_INSTALL i)) (oKCE_NEW_KEY : ∀ i, K (Obj.KCE_NEW_KEY i))
    (oKCE_NEW_KEYLEN : ∀ i, K (Obj.KCE_NEW_KEYLEN i)) (oLCY_PS_WEAR : K Obj.LCY_PS_WEAR) (oPWR_SHUTDOWN : K Obj.PWR_SHUTDOWN)
    (oPWR_STATE : K Obj.PWR_STATE) (oSES_GRANT : ∀ i, K (Obj.SES_GRANT i)) (hK : Kept ps K z0 s) : Kept ps K z0 (State.afterReply s i d) := by
  unfold State.afterReply
  repeat' (first | with_reducible intro _ | with_reducible assumption | with_reducible exact oKCE_EMPTY _ | with_reducible exact oKCE_INSTALL _
                 | with_reducible exact oKCE_NEW_KEY _ | with_reducible exact oKCE_NEW_KEYLEN _ | with_reducible exact oSES_GRANT _
                 | with_reducible apply State.afterWrite_kept | with_reducible apply State.afterStart_kept
                 | with_reducible apply State.closeSpent_kept | with_reducible apply State.closeSession_kept | with_reducible apply Kept.foldl
                 | with_reducible apply Kept.ite | split)

theorem State.serve_kept {ps : List Part} {K : Nat → Prop} {z0 : State} (s : State) (i : Nat) (gone : Bool) (hboot : Part.boot ∈ ps)
    (hstore : Part.store ∈ ps) (hwonel : Part.wonel ∈ ps) (hkce : Part.kce ∈ ps) (hflt : Part.flt ∈ ps) (hpower : Part.power ∈ ps)
    (hlanes : Part.lanes ∈ ps) (hlinks : Part.links ∈ ps) (hpipes : Part.pipes ∈ ps) (hgalley : Part.galley ∈ ps) (hsched : Part.sched ∈ ps)
    (hports : Part.ports ∈ ps) (htables : Part.tables ∈ ps) (htelem : Part.telem ∈ ps) (htim : Part.tim ∈ ps) (hptp : Part.ptp ∈ ps)
    (hcmp : Part.cmp ∈ ps) (hmem : Part.mem ∈ ps) (hdict : Part.dict ∈ ps) (hbusy : Part.busy ∈ ps) (hout : Part.out ∈ ps) (hfresh : Part.fresh ∈ ps)
    (hall : ∀ k, K k) (hK : Kept ps K z0 s) : Kept ps K z0 (State.serve s i gone) := by
  unfold State.serve
  repeat' (first | with_reducible intro _ | with_reducible assumption | exact hall _ | exact BufferKeys.ofAll hall
                 | exact (BufferKeys.ofAll hall).toReactKeys | with_reducible apply State.modSession_kept
                 | with_reducible apply State.perform_kept | with_reducible apply State.afterReply_kept | with_reducible apply State.answer_kept
                 | exact Or.inl ‹_› | with_reducible exact Or.inl rfl | split | dsimp only | with_reducible exact Nat.le_max_right _ _
                 | with_reducible apply Kept.all)

theorem State.drainUnknown_kept {ps : List Part} {K : Nat → Prop} {z0 : State} (s : State) (n : Nat) (hboot : Part.boot ∈ ps)
    (hstore : Part.store ∈ ps) (hwonel : Part.wonel ∈ ps) (hkce : Part.kce ∈ ps) (hflt : Part.flt ∈ ps) (hpower : Part.power ∈ ps)
    (hlanes : Part.lanes ∈ ps) (hlinks : Part.links ∈ ps) (hpipes : Part.pipes ∈ ps) (hgalley : Part.galley ∈ ps) (hsched : Part.sched ∈ ps)
    (hports : Part.ports ∈ ps) (htables : Part.tables ∈ ps) (htelem : Part.telem ∈ ps) (htim : Part.tim ∈ ps) (hptp : Part.ptp ∈ ps)
    (hcmp : Part.cmp ∈ ps) (hmem : Part.mem ∈ ps) (hdict : Part.dict ∈ ps) (hbusy : Part.busy ∈ ps) (hout : Part.out ∈ ps) (hfresh : Part.fresh ∈ ps)
    (hall : ∀ k, K k) (hK : Kept ps K z0 s) : Kept ps K z0 (State.drainUnknown s n) := by
  induction n generalizing s with
  | zero =>
    unfold State.drainUnknown
    repeat' (first | with_reducible intro _ | with_reducible assumption | exact hall _ | with_reducible apply State.serve_kept
                   | with_reducible apply Kept.ite | split)
  | succ n ih =>
    unfold State.drainUnknown
    repeat' (first | with_reducible intro _ | with_reducible assumption | exact hall _ | with_reducible apply State.serve_kept
                   | with_reducible apply ih | with_reducible apply Kept.ite | split)

theorem State.serveIf_kept {ps : List Part} {K : Nat → Prop} {z0 : State} (s : State) (p : Bytes → Bool) (gone : Bool) (hboot : Part.boot ∈ ps)
    (hstore : Part.store ∈ ps) (hwonel : Part.wonel ∈ ps) (hkce : Part.kce ∈ ps) (hflt : Part.flt ∈ ps) (hpower : Part.power ∈ ps)
    (hlanes : Part.lanes ∈ ps) (hlinks : Part.links ∈ ps) (hpipes : Part.pipes ∈ ps) (hgalley : Part.galley ∈ ps) (hsched : Part.sched ∈ ps)
    (hports : Part.ports ∈ ps) (htables : Part.tables ∈ ps) (htelem : Part.telem ∈ ps) (htim : Part.tim ∈ ps) (hptp : Part.ptp ∈ ps)
    (hcmp : Part.cmp ∈ ps) (hmem : Part.mem ∈ ps) (hdict : Part.dict ∈ ps) (hbusy : Part.busy ∈ ps) (hout : Part.out ∈ ps) (hfresh : Part.fresh ∈ ps)
    (hall : ∀ k, K k) (hK : Kept ps K z0 s) : Kept ps K z0 (State.serveIf s p gone) := by
  unfold State.serveIf
  repeat' (first | with_reducible intro _ | with_reducible assumption | exact hall _ | with_reducible apply State.drainUnknown_kept
                 | with_reducible apply State.serve_kept | with_reducible apply Kept.ite | split)

theorem State.takeRx_kept {ps : List Part} {K : Nat → Prop} {z0 : State} (s : State) (way : Nat) (f : Bytes) (hwonel : Part.wonel ∈ ps) (hK
    : Kept ps K z0 s) : KeptSome ps K z0 (State.takeRx s way f) fun y => y := by
  intro y hy
  unfold State.takeRx at hy
  try dsimp only at hy
  repeat' split at hy
  all_goals cases hy
  all_goals repeat' (first | with_reducible intro _ | with_reducible assumption | exact Or.inl ‹_› | with_reducible exact Or.inr rfl
                           | with_reducible exact Or.inl rfl | dsimp only | with_reducible exact Nat.le_max_right _ _ | with_reducible apply Kept.all)

theorem State.receive_kept {ps : List Part} {K : Nat → Prop} {z0 : State} (s : State) (way : Nat) (f : Bytes) (hboot : Part.boot ∈ ps)
    (hstore : Part.store ∈ ps) (hwonel : Part.wonel ∈ ps) (hkce : Part.kce ∈ ps) (hflt : Part.flt ∈ ps) (hpower : Part.power ∈ ps)
    (hlanes : Part.lanes ∈ ps) (hlinks : Part.links ∈ ps) (hpipes : Part.pipes ∈ ps) (hgalley : Part.galley ∈ ps) (hsched : Part.sched ∈ ps)
    (hports : Part.ports ∈ ps) (htables : Part.tables ∈ ps) (htelem : Part.telem ∈ ps) (htim : Part.tim ∈ ps) (hptp : Part.ptp ∈ ps)
    (hcmp : Part.cmp ∈ ps) (hmem : Part.mem ∈ ps) (hdict : Part.dict ∈ ps) (hbusy : Part.busy ∈ ps) (hout : Part.out ∈ ps) (hfresh : Part.fresh ∈ ps)
    (hall : ∀ k, K k) (hK : Kept ps K z0 s) : Kept ps K z0 (State.receive s way f) := by
  unfold State.receive
  repeat' (first | with_reducible intro _ | with_reducible assumption | exact hall _ | exact BufferKeys.ofAll hall
                 | with_reducible apply State.drainUnknown_kept | with_reducible apply State.bump_kept
                 | with_reducible apply State.acceptMsg_kept | with_reducible apply Kept.ite | split)

theorem State.arpReply_kept {ps : List Part} {K : Nat → Prop} {z0 : State} (s : State) (v : Via) (sender : Bytes) (hwonel : Part.wonel ∈ ps)
    (hflt : Part.flt ∈ ps) (hlinks : Part.links ∈ ps) (hgalley : Part.galley ∈ ps) (hsched : Part.sched ∈ ps) (hports : Part.ports ∈ ps)
    (htables : Part.tables ∈ ps) (htelem : Part.telem ∈ ps) (htim : Part.tim ∈ ps) (hcmp : Part.cmp ∈ ps) (hmem : Part.mem ∈ ps)
    (hdict : Part.dict ∈ ps) (hbusy : Part.busy ∈ ps) (hout : Part.out ∈ ps) (hfresh : Part.fresh ∈ ps) (ko : BufferKeys K)
    (oCTR_LPI_TX_US : ∀ i, K (Obj.CTR_LPI_TX_US i)) (oCTR_TX_FLUSHED : ∀ i, K (Obj.CTR_TX_FLUSHED i)) (oCTR_TX_FRAMES : ∀ i, K (Obj.CTR_TX_FRAMES i))
    (oCTR_TX_LSO_SEGMENTS : ∀ i, K (Obj.CTR_TX_LSO_SEGMENTS i)) (oCTR_TX_OCTETS : ∀ i, K (Obj.CTR_TX_OCTETS i))
    (oCTR_TX_PAUSE : ∀ i, K (Obj.CTR_TX_PAUSE i)) (oGAL_C_FALLBACKS : ∀ i, K (Obj.GAL_C_FALLBACKS i))
    (oGAL_C_FREE_MIN : ∀ i, K (Obj.GAL_C_FREE_MIN i)) (oGAL_C_GRANTS : ∀ i, K (Obj.GAL_C_GRANTS i)) (oGAL_C_REFUSED : ∀ i, K (Obj.GAL_C_REFUSED i))
    (oQ_ENQ : ∀ i j, K (Obj.Q_ENQ i j)) (oQ_TAIL_DROPS : ∀ i j, K (Obj.Q_TAIL_DROPS i j)) (hK : Kept ps K z0 s)
    : Kept ps K z0 (State.arpReply s v sender) := by
  unfold State.arpReply
  repeat' (first | with_reducible intro _ | with_reducible assumption | with_reducible exact oCTR_LPI_TX_US _
                 | with_reducible exact oCTR_TX_FLUSHED _ | with_reducible exact oCTR_TX_FRAMES _ | with_reducible exact oCTR_TX_LSO_SEGMENTS _
                 | with_reducible exact oCTR_TX_OCTETS _ | with_reducible exact oCTR_TX_PAUSE _ | with_reducible exact oGAL_C_FALLBACKS _
                 | with_reducible exact oGAL_C_FREE_MIN _ | with_reducible exact oGAL_C_GRANTS _ | with_reducible exact oGAL_C_REFUSED _
                 | with_reducible exact oQ_ENQ _ _ | with_reducible exact oQ_TAIL_DROPS _ _ | with_reducible apply State.wayOut_kept)

theorem State.arpIn_kept {ps : List Part} {K : Nat → Prop} {z0 : State} (s : State) (way : Nat) (f : Bytes) (count : Bool) (hwonel : Part.wonel ∈ ps)
    (hflt : Part.flt ∈ ps) (hlinks : Part.links ∈ ps) (hgalley : Part.galley ∈ ps) (hsched : Part.sched ∈ ps) (hports : Part.ports ∈ ps)
    (htables : Part.tables ∈ ps) (htelem : Part.telem ∈ ps) (htim : Part.tim ∈ ps) (hcmp : Part.cmp ∈ ps) (hmem : Part.mem ∈ ps)
    (hdict : Part.dict ∈ ps) (hbusy : Part.busy ∈ ps) (hout : Part.out ∈ ps) (hfresh : Part.fresh ∈ ps) (ko : BufferKeys K)
    (oCTR_LPI_TX_US : ∀ i, K (Obj.CTR_LPI_TX_US i)) (oCTR_TX_FLUSHED : ∀ i, K (Obj.CTR_TX_FLUSHED i)) (oCTR_TX_FRAMES : ∀ i, K (Obj.CTR_TX_FRAMES i))
    (oCTR_TX_LSO_SEGMENTS : ∀ i, K (Obj.CTR_TX_LSO_SEGMENTS i)) (oCTR_TX_OCTETS : ∀ i, K (Obj.CTR_TX_OCTETS i))
    (oCTR_TX_PAUSE : ∀ i, K (Obj.CTR_TX_PAUSE i)) (oGAL_C_FALLBACKS : ∀ i, K (Obj.GAL_C_FALLBACKS i))
    (oGAL_C_FREE_MIN : ∀ i, K (Obj.GAL_C_FREE_MIN i)) (oGAL_C_GRANTS : ∀ i, K (Obj.GAL_C_GRANTS i)) (oGAL_C_REFUSED : ∀ i, K (Obj.GAL_C_REFUSED i))
    (oQ_ENQ : ∀ i j, K (Obj.Q_ENQ i j)) (oQ_TAIL_DROPS : ∀ i j, K (Obj.Q_TAIL_DROPS i j)) (oSES_RX_DROPPED : K Obj.SES_RX_DROPPED) (hK
    : Kept ps K z0 s) : Kept ps K z0 (State.arpIn s way f count) := by
  unfold State.arpIn
  repeat' (first | with_reducible intro _ | with_reducible assumption | with_reducible exact oCTR_LPI_TX_US _
                 | with_reducible exact oCTR_TX_FLUSHED _ | with_reducible exact oCTR_TX_FRAMES _ | with_reducible exact oCTR_TX_LSO_SEGMENTS _
                 | with_reducible exact oCTR_TX_OCTETS _ | with_reducible exact oCTR_TX_PAUSE _ | with_reducible exact oGAL_C_FALLBACKS _
                 | with_reducible exact oGAL_C_FREE_MIN _ | with_reducible exact oGAL_C_GRANTS _ | with_reducible exact oGAL_C_REFUSED _
                 | with_reducible exact oQ_ENQ _ _ | with_reducible exact oQ_TAIL_DROPS _ _ | with_reducible apply State.arpReply_kept
                 | with_reducible apply State.bump_kept | with_reducible apply Kept.ite | split)

theorem State.mgBegin_kept {ps : List Part} {K : Nat → Prop} {z0 : State} (s : State) (mg : Nat) (hwonel : Part.wonel ∈ ps) (hK : Kept ps K z0 s)
    : Kept ps K z0 (State.mgBegin s mg) := by
  unfold State.mgBegin
  repeat' (first | with_reducible assumption | with_reducible apply State.modMg_kept)

end Sys2Proof.Machine
end

