-- ==== Sys2Proof/Laws/KeptRestore.lean ====
section
/-! SUPPORT. What the operations of Machine/Restore.lean keep (Laws/Kept.lean). -/

namespace Sys2Proof.Machine
open Sys2Proof

theorem State.loadPatch_kept {ps : List Part} {K : Nat → Prop} {z0 : State} (s : State) (im : Bytes) (hcmp : Part.cmp ∈ ps) (hdict : Part.dict ∈ ps)
    (oCMP_PATCH_ID : K Obj.CMP_PATCH_ID) (oCMP_PATCH_MAPS : K Obj.CMP_PATCH_MAPS) (oCMP_PATCH_SEGS : K Obj.CMP_PATCH_SEGS) (hK : Kept ps K z0 s)
    : Kept ps K z0 (State.loadPatch s im) := by
  unfold State.loadPatch
  repeat' (first | with_reducible intro _ | with_reducible assumption | with_reducible apply State.put_kept | exact Or.inl ‹_›
                 | with_reducible exact Or.inr rfl | with_reducible exact Or.inl rfl | dsimp only | with_reducible exact Nat.le_max_right _ _
                 | with_reducible apply Kept.all)

theorem State.loadStored_kept {ps : List Part} {K : Nat → Prop} {z0 : State} (s : State) (hstore : Part.store ∈ ps) (hwonel : Part.wonel ∈ ps)
    (hkce : Part.kce ∈ ps) (hflt : Part.flt ∈ ps) (hlinks : Part.links ∈ ps) (hgalley : Part.galley ∈ ps) (htables : Part.tables ∈ ps)
    (htim : Part.tim ∈ ps) (hcmp : Part.cmp ∈ ps) (hdict : Part.dict ∈ ps) (hout : Part.out ∈ ps) (hfresh : Part.fresh ∈ ps) (ko : ReactKeys K)
    (oCMP_PATCH_ID : K Obj.CMP_PATCH_ID) (oCMP_PATCH_MAPS : K Obj.CMP_PATCH_MAPS) (oCMP_PATCH_SEGS : K Obj.CMP_PATCH_SEGS)
    (oKCE_BLOCKS : K Obj.KCE_BLOCKS) (oKCE_MESSAGES : K Obj.KCE_MESSAGES) (oLCY_PS_WEAR : K Obj.LCY_PS_WEAR) (hK : Kept ps K z0 s)
    : Kept ps K z0 (State.loadStored s) := by
  unfold State.loadStored
  repeat' (first | with_reducible assumption | with_reducible apply State.checkPatch_kept | with_reducible apply State.latch_kept
                 | with_reducible apply State.loadPatch_kept | with_reducible apply State.failureOf_kept | with_reducible apply Kept.ite)

theorem State.restoreEntry_kept {ps : List Part} {K : Nat → Prop} {z0 : State} (s : State) (e : Nat × Nat) (hwonel : Part.wonel ∈ ps)
    (hflt : Part.flt ∈ ps) (hlanes : Part.lanes ∈ ps) (hlinks : Part.links ∈ ps) (hgalley : Part.galley ∈ ps) (hsched : Part.sched ∈ ps)
    (hports : Part.ports ∈ ps) (htables : Part.tables ∈ ps) (htelem : Part.telem ∈ ps) (htim : Part.tim ∈ ps) (hptp : Part.ptp ∈ ps)
    (hcmp : Part.cmp ∈ ps) (hmem : Part.mem ∈ ps) (hdict : Part.dict ∈ ps) (hbusy : Part.busy ∈ ps) (hout : Part.out ∈ ps) (hfresh : Part.fresh ∈ ps)
    (hall : ∀ k, K k) (hK : Kept ps K z0 s) : Kept ps K z0 (State.restoreEntry s e) := by
  unfold State.restoreEntry
  repeat' (first | with_reducible intro _ | with_reducible assumption | exact hall _ | exact (BufferKeys.ofAll hall).toReactKeys
                 | with_reducible apply State.put_kept | with_reducible apply State.restoreFault_kept | with_reducible apply State.writeOne_kept
                 | with_reducible apply Kept.ite)

theorem State.restoreRange_kept {ps : List Part} {K : Nat → Prop} {z0 : State} (s : State) (l : List (Nat × Nat)) (lo : Nat) (hi : Nat)
    (hwonel : Part.wonel ∈ ps) (hflt : Part.flt ∈ ps) (hlanes : Part.lanes ∈ ps) (hlinks : Part.links ∈ ps) (hgalley : Part.galley ∈ ps)
    (hsched : Part.sched ∈ ps) (hports : Part.ports ∈ ps) (htables : Part.tables ∈ ps) (htelem : Part.telem ∈ ps) (htim : Part.tim ∈ ps)
    (hptp : Part.ptp ∈ ps) (hcmp : Part.cmp ∈ ps) (hmem : Part.mem ∈ ps) (hdict : Part.dict ∈ ps) (hbusy : Part.busy ∈ ps) (hout : Part.out ∈ ps)
    (hfresh : Part.fresh ∈ ps) (hall : ∀ k, K k) (hK : Kept ps K z0 s) : Kept ps K z0 (State.restoreRange s l lo hi) := by
  unfold State.restoreRange
  repeat' (first | with_reducible intro _ | with_reducible assumption | exact hall _ | with_reducible apply State.restoreEntry_kept
                 | with_reducible apply Kept.foldl)

theorem State.restoreRecord_kept {ps : List Part} {K : Nat → Prop} {z0 : State} (s : State) (code : Nat) (size : Nat) (place : Nat → Nat × Nat)
    (l : List (Nat × Nat)) (hwonel : Part.wonel ∈ ps) (hflt : Part.flt ∈ ps) (hlinks : Part.links ∈ ps) (hgalley : Part.galley ∈ ps)
    (hsched : Part.sched ∈ ps) (htables : Part.tables ∈ ps) (htim : Part.tim ∈ ps) (hptp : Part.ptp ∈ ps) (hcmp : Part.cmp ∈ ps)
    (hmem : Part.mem ∈ ps) (hdict : Part.dict ∈ ps) (hout : Part.out ∈ ps) (hfresh : Part.fresh ∈ ps) (ko : ReactKeys K)
    (oFLT_DIAG_LOGGED : K Obj.FLT_DIAG_LOGGED) (hK : Kept ps K z0 s) : Kept ps K z0 (State.restoreRecord s code size place l) := by
  unfold State.restoreRecord
  repeat' (first | with_reducible intro _ | with_reducible assumption | with_reducible apply State.writeEntry_kept
                 | with_reducible apply State.restoreFault_kept | with_reducible apply Kept.foldl | with_reducible apply Kept.ite)

theorem State.restoreCarving_kept {ps : List Part} {K : Nat → Prop} {z0 : State} (s : State) (hwonel : Part.wonel ∈ ps) (hflt : Part.flt ∈ ps)
    (hlinks : Part.links ∈ ps) (hgalley : Part.galley ∈ ps) (htables : Part.tables ∈ ps) (htim : Part.tim ∈ ps) (hcmp : Part.cmp ∈ ps)
    (hmem : Part.mem ∈ ps) (hdict : Part.dict ∈ ps) (hbusy : Part.busy ∈ ps) (hout : Part.out ∈ ps) (hfresh : Part.fresh ∈ ps) (hall : ∀ k, K k) (hK
    : Kept ps K z0 s) : Kept ps K z0 (State.restoreCarving s) := by
  unfold State.restoreCarving
  repeat' (first | with_reducible intro _ | with_reducible assumption | exact hall _ | exact (BufferKeys.ofAll hall).toReactKeys
                 | with_reducible apply startGalCarveApply_kept | with_reducible apply State.restoreFault_kept | with_reducible apply Kept.ite)

theorem State.restoreInstances_kept {ps : List Part} {K : Nat → Prop} {z0 : State} (s : State) (l : List (Nat × Nat)) (hwonel : Part.wonel ∈ ps)
    (hflt : Part.flt ∈ ps) (hlanes : Part.lanes ∈ ps) (hlinks : Part.links ∈ ps) (hgalley : Part.galley ∈ ps) (hsched : Part.sched ∈ ps)
    (hports : Part.ports ∈ ps) (htables : Part.tables ∈ ps) (htelem : Part.telem ∈ ps) (htim : Part.tim ∈ ps) (hptp : Part.ptp ∈ ps)
    (hcmp : Part.cmp ∈ ps) (hmem : Part.mem ∈ ps) (hdict : Part.dict ∈ ps) (hbusy : Part.busy ∈ ps) (hout : Part.out ∈ ps) (hfresh : Part.fresh ∈ ps)
    (hall : ∀ k, K k) (hK : Kept ps K z0 s) : Kept ps K z0 (State.restoreInstances s l) := by
  unfold State.restoreInstances
  repeat' (first | with_reducible intro _ | with_reducible assumption | exact hall _ | exact (BufferKeys.ofAll hall).toReactKeys
                 | with_reducible apply State.writeOne_kept | with_reducible apply State.restoreFault_kept | with_reducible apply Kept.foldl
                 | with_reducible apply Kept.ite)

theorem State.restoreAll_kept {ps : List Part} {K : Nat → Prop} {z0 : State} (s : State) (hwonel : Part.wonel ∈ ps) (hflt : Part.flt ∈ ps)
    (hlanes : Part.lanes ∈ ps) (hlinks : Part.links ∈ ps) (hpipes : Part.pipes ∈ ps) (hgalley : Part.galley ∈ ps) (hsched : Part.sched ∈ ps)
    (hports : Part.ports ∈ ps) (htables : Part.tables ∈ ps) (htelem : Part.telem ∈ ps) (htim : Part.tim ∈ ps) (hptp : Part.ptp ∈ ps)
    (hcmp : Part.cmp ∈ ps) (hmem : Part.mem ∈ ps) (hdict : Part.dict ∈ ps) (hbusy : Part.busy ∈ ps) (hout : Part.out ∈ ps) (hfresh : Part.fresh ∈ ps)
    (hall : ∀ k, K k) (hK : Kept ps K z0 s) : Kept ps K z0 (State.restoreAll s) := by
  unfold State.restoreAll
  repeat' (first | with_reducible intro _ | with_reducible assumption | exact hall _ | exact (BufferKeys.ofAll hall).toReactKeys
                 | with_reducible apply State.restoreRecord_kept | with_reducible apply State.restoreRange_kept
                 | with_reducible apply State.restoreCarving_kept | with_reducible apply State.restoreInstances_kept
                 | with_reducible apply State.restorePrograms_kept | with_reducible apply State.restoreFault_kept | split | dsimp only)

theorem State.armRestored_kept {ps : List Part} {K : Nat → Prop} {z0 : State} (s : State) (t : Nat) (hwonel : Part.wonel ∈ ps) (hflt : Part.flt ∈ ps)
    (hlinks : Part.links ∈ ps) (hgalley : Part.galley ∈ ps) (htables : Part.tables ∈ ps) (htim : Part.tim ∈ ps) (hcmp : Part.cmp ∈ ps)
    (hdict : Part.dict ∈ ps) (hout : Part.out ∈ ps) (hfresh : Part.fresh ∈ ps) (ko : ReactKeys K) (oTIM_TPO_MODE : ∀ i, K (Obj.TIM_TPO_MODE i))
    (oTIM_TPO_STATE : ∀ i, K (Obj.TIM_TPO_STATE i)) (hK : Kept ps K z0 s) : Kept ps K z0 (State.armRestored s t) := by
  unfold State.armRestored
  repeat' (first | with_reducible intro _ | with_reducible assumption | with_reducible exact oTIM_TPO_MODE _
                 | with_reducible exact oTIM_TPO_STATE _ | with_reducible apply State.armTpo_kept | with_reducible apply State.restoreFault_kept
                 | with_reducible apply State.put_kept | with_reducible apply Kept.ite)

theorem State.safeFor_kept {ps : List Part} {K : Nat → Prop} {z0 : State} (s : State) (cause : Option Nat) (hwonel : Part.wonel ∈ ps)
    (hflt : Part.flt ∈ ps) (htim : Part.tim ∈ ps) (hdict : Part.dict ∈ ps) (hout : Part.out ∈ ps) (oFLT_STATE : K Obj.FLT_STATE)
    (oID_SAFE_CAUSE : K Obj.ID_SAFE_CAUSE) (hK : Kept ps K z0 s) : Kept ps K z0 (State.safeFor s cause) := by
  unfold State.safeFor
  repeat' (first | with_reducible assumption | with_reducible apply State.enterSafe_kept | split)

end Sys2Proof.Machine
end

