-- ==== Sys2Proof/Laws/KeptTick.lean ====
section
/-! SUPPORT. What the operations of Machine/Tick.lean keep (Laws/Kept.lean). -/

namespace Sys2Proof.Machine
open Sys2Proof

theorem State.ackWrites_kept {ps : List Part} {K : Nat → Prop} {z0 : State} (s : State) (hcmp : Part.cmp ∈ ps) (hK : Kept ps K z0 s)
    : Kept ps K z0 (State.ackWrites s) := by
  unfold State.ackWrites
  repeat' (first | with_reducible intro _ | with_reducible assumption | exact Or.inl ‹_› | with_reducible exact Or.inr rfl
                 | with_reducible exact Or.inl rfl | dsimp only | with_reducible exact Nat.le_max_right _ _ | with_reducible apply Kept.all)
  all_goals (simp [Nat.le_max_right]; done)

end Sys2Proof.Machine
end

