-- ==== Sys2Proof/WellFormed.lean ====
section
/-! DEFINITION. Well-formed commands: the operands that name a unit lie in the unit's numbering (R5, R6). A command outside it names
nothing the device has. -/

namespace Sys2Proof

/-- The ranges of the unit operands of a command (R5). -/
def Instr.WellFormed : Instr → Bool
  | .referenceAppears r | .referenceAbsent r | .referenceMonitorWindow r _ => decide (r < 2)
  | .railPoll r _ _ | .railDeadline r | .regulatorPoll r _ _ _ | .pmbusTransactionFailure r | .pmbusRetry r _
  | .railDroop r _ | .regulatorFaultReread r _ => decide (r < 5)
  | .mgFrameDropped m _ | .mgFecCycle m | .mgLinkChange m _ => decide (m < 2)
  | .wonelFrameRx w _ | .arpRequest w _ => decide (w < 0x402)
  | .sessionIdleTimeout s | .kcePageHoldExpiry s | .ceilingRaiseWritten s _ | .kceUncorrectable s _ | .keyRingEntryFree s _ =>
    decide (s < 16)
  | .kceMessage l p _ _ _ => decide (l < 5) && decide (p < 16)
  | .signalDetect n | .adaptationComplete n _ _ | .continuousAdaptation n _ _ _ | .linkTrainingRetry n | .cdrLock n
  | .cdrLockLoss n | .ppmUpdate n _ _ | .prbsLockChange n _ _ _ | .laneFailure n _ | .eyeScanPointComplete n _
  | .signalLoss n | .linkTrainingEnd n _ _ => decide (n < 1024)
  | .alignmentLoss p _ | .portUp p | .portDown p | .flushComplete p | .frameRx p _ _ _ | .pauseFrameRx p | .pauseRefresh p
  | .losslessRefusalCheck p | .lpiEntry p | .lpiWakeComplete p | .lldpSend p | .lldpRx p | .lldpTimeout p | .ingressPipeline p
  | .growthRequest p | .frameTailWritten p | .dequeue p | .frameTransmit p _ | .transmitComplete p | .pcsLockAcquired p
  | .linkFaultRx p _ | .lpiRxChange p _ | .authDeparture p => decide (p < 1024)
  | .pauseTimerExpiry p t => decide (p < 1024) && decide (t < 9)
  | .dieLinkSlotRx q d l o s => decide (q < 8) && decide (d < 2) && decide (l < 432) && decide (o < 2 ^ 64) && decide (s.length = 130)
  | .controlCellResend q d c _ => decide (q < 8) && decide (d < 2) && decide (c.length = 16)
  | .marginMeasure q d l _ | .dieLinkLockLoss q d l _ => decide (q < 8) && decide (d < 2) && decide (l < 432)
  | .repairSpareChoice q | .mirrorStart q | .mirrorSwitch q | .repairStopSlot q => decide (q < 8)
  | .hankRefill c h => decide (c < 4) && decide (h < 64)
  | .ringInject p | .ringMessageArrival p _ | .agerVisit p => decide (p < 32)
  | .entryRestoration c t _ => decide (c < 8) && decide (t < 2)
  | .lpmShadowRewrite c _ | .lpmSpareSwitch c => decide (c < 8)
  | .proofCapture s => decide (s < 8)
  | .exportSend c => decide (c < 4)
  | .tciEdge i _ f => decide (i < 16) && decide (f < 81920)
  | .tpoRisingEdge t | .tpoFallingEdge t => decide (t < 16)
  | .servoMeasurement d _ | .tciSourceTimeout d | .ptpMasterLost d | .ptpMessageTerminated d | .unicastGrantRenewal d => decide (d < 2)
  | .ptpMessageSend d p _ => decide (d < 2) && decide (p < 1024)
  | .contextWake c | .netReadResponse c _ | .contextTimerExpiry c => decide (c < 16)
  | .faultEvent s _ _ _ _ | .reactionTimerExpiry s | .rungNotBegun s => decide (s < 324)
  | .pmbAlert st => decide (st.length = 5)
  | .sensorRead s _ | .thermalTrip s => decide (s < 64)
  | .writeBack k _ _ | .scrubRead k _ _ => decide (k < 14)
  | .resetNAsserted _ | .resetNRelease .. | .supplyLoss _ | .supplyValid .. | .rootPllLock | .storeRead _ | .dieLinkTraining ..
  | .galleySelfTest .. | .wipe _ | .patchLoad _ | .dictionaryRestore | .wonelEnable | .revertiveSwitch | .lcySoftReset
  | .softReset | .lcyPsCommit | .commitHoldExpiry | .commitComplete _ | .lcyTransition | .transitionFinish | .hello | .bye
  | .read | .write | .readMulti | .writeMulti | .bulkRead | .bulkWrite | .start | .abort | .kceInstall | .kceEmpty
  | .kceSuspend _ | .kceMessageDone | .lnAdapt | .lnEyeRun | .lnRelease _ | .qdRepair | .largeSend .. | .shaperRefill
  | .queueSampleSweep | .multicastReplication | .tblStaticAdd | .tblDelete | .tblFlush | .tblLpmApply | .lpmRecordComplete
  | .chsLpmSpareIn | .galCarveApply | .galRemap | .bankRemapSwitch | .plnCheck | .plnInstall | .plnSwitch
  | .ingressBankSwitch | .egressBankSwitch | .proofBatchClose | .pmcSnap | .periodicSnapshot | .snapshotCapture | .pmcBClear
  | .ctrClear | .spliceEnd | .seqNext | .seqJump | .seqBrt | .seqBrf | .seqCall | .seqRet | .seqLoop | .seqWait | .seqDisp
  | .seqEnd | .fetchUncorrectable _ | .cmpPatchCheck | .cmpPatchActivate | .patchHaltLoad | .cmpPatchRemove | .fltClear
  | .fltSafeEnter | .fltInjArm | .fltDiagWrite | .fltDiagRead | .avsLoop _ | .pwrShutdown => true

end Sys2Proof
end

