-- ==== Sys2Proof/Tests/Slice0.lean ====
section
/-! SUPPORT. The author's tests: an ill-formed command for each check of WellFormed.lean, and for each statement of Obligations.lean small
concrete states that meet its hypotheses, clause by clause, at the values where clauses meet; where the conclusion can be evaluated it is. -/

namespace Sys2Proof.Tests
open Sys2Proof Sys2Proof.Machine
set_option Elab.async false

/-- What the next state of a command satisfies. -/
def after (o : Host.Outcome State Fault Refusal) (p : State → Bool) : Bool := match o with | .next t => p t | _ => false

/-- A device in service, one hundred seconds after its start. -/
def live : State :=
  { State.reset with
    now := 80000000000
    boot := { phase := .service, resetN := true, pllState := 1, ref0 := { present := true, qualified := true } }
    store := { bankA := { valid := true, generation := 1, lifecycle := 1 } }
    flt := { State.reset.flt with running := true }
    power := { State.reset.power with rails := List.replicate 5 { state := 2, set := 800, vout := 800, onSent := true } }
    links := List.replicate 8 { state := 2 }
    tim := { State.reset.tim with running := true }
    kce := { State.reset.kce with pages := List.replicate 16 { state := 1, cls := 3, key := List.replicate 16 7, ceilS := 4096, ceilU := 4096, writtenS := 4096, writtenU := 4096 } }
    dict := [(Obj.LCY_STATE, 1), (Obj.PWR_STATE, 2)] }

/-! ### Well-formed commands -/

theorem smoke_illFormed :
    [Instr.referenceAbsent 2, .railPoll 5 0 0, .mgFecCycle 2, .wonelFrameRx 0x402 [], .sessionIdleTimeout 16, .kceMessage 5 0 0 [] none,
     .kceMessage 0 16 0 [] none, .signalDetect 1024, .portUp 1024, .pauseTimerExpiry 1024 0, .pauseTimerExpiry 0 9, .dieLinkSlotRx 8 0 0 0 (zeros 130),
     .dieLinkSlotRx 0 2 0 0 (zeros 130), .dieLinkSlotRx 0 0 432 0 (zeros 130), .dieLinkSlotRx 0 0 0 (2 ^ 64) (zeros 130), .dieLinkSlotRx 0 0 0 0 [],
     .controlCellResend 8 0 (zeros 16) true, .controlCellResend 0 2 (zeros 16) true, .controlCellResend 0 0 [] true, .marginMeasure 8 0 0 0,
     .marginMeasure 0 2 0 0, .marginMeasure 0 0 432 0, .repairSpareChoice 8, .hankRefill 4 0, .hankRefill 0 64, .ringInject 32, .entryRestoration 8 0 0,
     .entryRestoration 0 2 0, .lpmShadowRewrite 8 0, .proofCapture 8, .exportSend 4, .tciEdge 16 true 0, .tciEdge 0 true 81920, .tpoRisingEdge 16,
     .servoMeasurement 2 0, .ptpMessageSend 2 0 0, .ptpMessageSend 0 1024 0, .contextWake 16, .faultEvent 324 0 0 0 false, .pmbAlert [],
     .sensorRead 64 0, .writeBack 14 0 0].all (fun c => !c.WellFormed) = true := by decide +kernel

theorem smoke_wellFormed :
    [Instr.referenceAbsent 1, .railPoll 4 0 0, .mgFecCycle 1, .wonelFrameRx 0x401 [], .sessionIdleTimeout 15, .kceMessage 4 15 0 [] none,
     .signalDetect 1023, .portUp 1023, .pauseTimerExpiry 1023 8, .dieLinkSlotRx 7 1 431 0 (zeros 130), .controlCellResend 7 1 (zeros 16) true,
     .marginMeasure 7 1 431 0, .repairSpareChoice 7, .hankRefill 3 63, .ringInject 31, .entryRestoration 7 1 0, .lpmShadowRewrite 7 0, .proofCapture 7,
     .exportSend 3, .tciEdge 15 true 81919, .tpoRisingEdge 15, .servoMeasurement 1 0, .ptpMessageSend 1 1023 0, .contextWake 15,
     .faultEvent 323 0 0 0 false, .pmbAlert [0, 0, 0, 0, 0], .sensorRead 63 0, .writeBack 13 0 0].all (fun c => c.WellFormed) = true := by decide +kernel

/-! ### Requests of the tests -/

/-- A request of session `i` with an opcode and a payload. -/
def req (op i : Nat) (pl : Bytes) : Request :=
  ⟨[1, u8 op, 0, u8 i] ++ beBytes 8 5 ++ zeros 4 ++ beBytes 2 pl.length ++ zeros 2 ++ pl ++ zeros 16, ⟨0x400, zeros 6, none, none⟩, 3, none, none⟩

/-- Session `i` is open and its only request waits. -/
def asked (s : State) (i : Nat) (r : Request) : State :=
  s.modSession i fun x => { x with isOpen := true, idle := 60, deadline := s.now + 48000000000, queue := [r] }

/-- The payload that names an object. -/
def name (key : Nat) : Bytes := beBytes 2 (key / 256) ++ [u8 (key % 256), 0]

/-- Session 0's START on an object, at its turn. -/
def begin_ (s : State) (key : Nat) : State := asked s 0 (req 0x30 0 (name key))

/-- The START on `key` is at its turn, and after the command the state satisfies `p`. -/
def starts (s : State) (key : Nat) (c : Instr) (p : State → Bool) : Bool :=
  (begin_ s key).readyToStart 0 (req 0x30 0 (name key)) key && after (exec c (begin_ s key)) p

/-- RESULT and payload of session `i`'s last reply. -/
def reply (t : State) (i : Nat) : Nat × Bytes :=
  match (t.session i).cache with | some (_, m) => (u m 14 2, (m.drop 20).take (m.length - 36)) | none => (0xFFFF, [])

/-- Objects given values. -/
def set (s : State) (l : List (Nat × Nat)) : State := { s with dict := l.foldl (fun d e => smInsert d e.1 e.2) s.dict }

/-- A device whose MAC address is 2, with MG0's link up, a 25G port 0 and a 100G port 8 of four lanes, both with every lane locked and up. -/
def open_ : State :=
  { live with
    wonel := { live.wonel with mg0 := { up := true, fec := 3 } }
    dict := [(Obj.LCY_STATE, 1), (Obj.SES_MAC_ADDR, 2), (Obj.SES_IPV4_ADDR, 0x0A000001), (Obj.PWR_STATE, 2), (Obj.PT_TYPE 0, 2), (Obj.PT_ENABLE 0, 1),
             (Obj.PT_TYPE 8, 5), (Obj.PT_ENABLE 8, 1)]
    ports := [(0, { up := true, okSince := some 0 }), (8, { up := true, okSince := some 0 })]
    lanes := [0, 8, 9, 10, 11].map fun n => (n, { signal := true, cdr := true, pcs := true, adapted := true }) }

/-! ### The block as a whole, reset and start-up (03) -/

theorem witness_idleStep : State.reset.pending = [] ∧ after (step State.reset) (fun t => t.now = 1) = true := by decide +kernel

theorem witness_stepKeepsWellFormed : live.wellFormed = true ∧ after (step live) (fun t => t.wellFormed) = true := by decide +kernel

theorem witness_commandFrame : objectsOf .revertiveSwitch ≠ none ∧ after (exec (.resetNAsserted 100) live) (fun t => t.boot.phase = .inReset) = true := by
  decide +kernel

theorem witness_vendorIndex : (live.judgeAccess 0 3 .read 0xF000 1).1 = Res.noObject ∧ (live.judgeAccess 0 3 .start 0xFFFF 255).1 = Res.noObject := by
  decide +kernel

theorem witness_resetPulse : after (exec (.resetNAsserted 100) live) (fun t => t.boot.phase = .inReset ∧ t.boot.resetN = false ∧
    t.store = live.store ∧ t.flt = State.reset.flt ∧ Out.tpo 15 false live.now 0 ∈ t.out ∧ Out.pin "THERMTRIP_N" true ∈ t.out) = true := by decide +kernel

theorem witness_resetShortPulse : after (exec (.resetNAsserted 99) live) (fun t => t.boot = live.boot) = true := by decide +kernel

theorem witness_supplyLoss : after (exec (.supplyLoss false) live) (fun t => t.boot.vstby = false ∧ t.power.tripSensor = 0xFF) = true ∧
    after (exec (.supplyLoss true) live) (fun t => t.boot.vio = false ∧ t.boot.vstby = true) = true := by decide +kernel

theorem witness_release : State.reset.boot.phase = .inReset ∧ State.reset.boot.resetN = false ∧ State.reset.boot.vio = true ∧ State.reset.boot.vstby = true ∧
    after (exec (.resetNRelease 1 1 1 false true) State.reset) (fun t => t.boot.phase = .pll ∧ t.boot.bootSel = 1 ∧ t.boot.activeRef = 1 ∧ t.boot.heldFaults = []) = true ∧
    after (exec (.resetNRelease 1 1 0 false false) State.reset)
      (fun t => t.boot.phase = .awaitReference ∧ t.boot.bootSel = 2 ∧ t.boot.heldFaults = [(251, 0x1F)]) = true := by decide +kernel

/-- A device without VSTBY. -/
def unsupplied : State := { State.reset with boot := { vstby := false } }

theorem witness_supplyValid : (unsupplied.boot.vio && unsupplied.boot.vstby) = false ∧ unsupplied.boot.phase = .inReset ∧ unsupplied.boot.resetN = false ∧
    after (exec (.resetNRelease 0 0 0 true true) unsupplied) (fun t => t.boot.phase = .inReset ∧ t.boot.resetN = true) = true ∧
    after (exec (.supplyValid false 0 0 0 true true) unsupplied) (fun t => t.boot.phase = .inReset ∧ t.boot.vstby = true) = true ∧
    after (exec (.supplyValid true 3 3 3 true true) unsupplied) (fun t => t.boot.phase = .pll ∧ t.boot.bootSel = 3 ∧ t.boot.activeRef = 0) = true := by decide +kernel

theorem witness_referenceAppears :
    let s := { State.reset with boot := { phase := .awaitReference, resetN := true } }
    (s.boot.ref 1).present = false ∧ after (exec (.referenceAppears 1) s) (fun t => t.boot.phase = .pll ∧ t.boot.activeRef = 1) = true ∧
    (live.boot.ref 1).present = false ∧ after (exec (.referenceAppears 1) live) (fun t => t.boot.phase = .service ∧ (t.boot.ref 1).present) = true := by decide +kernel

/-- Both references present; the second one qualified for 60 s. -/
def twoRefs : State := { live with boot := { live.boot with ref1 := { present := true, qualified := true, qualSince := 32000000000 } } }

theorem witness_referenceAbsent : twoRefs.boot.pllState = 1 ∧ (twoRefs.boot.ref 0).present = true ∧ (twoRefs.boot.ref 1).qualified = true ∧
    after (exec (.referenceAbsent 0) twoRefs) (fun t => t.boot.activeRef = 1 ∧ t.boot.pllState = 1 ∧ t.get Obj.CLK_REF_SWITCHES = 1 ∧ t.frc = twoRefs.frc) = true ∧
    after (exec (.referenceAbsent 1) twoRefs) (fun t => t.boot.activeRef = 0 ∧ t.boot.pllState = 1) = true ∧ (live.boot.ref 1).qualified = false ∧
    after (exec (.referenceAbsent 0) live) (fun t => t.boot.activeRef = 0 ∧ t.boot.pllState = 2) = true := by decide +kernel

theorem witness_referenceWindow :
    let held := { live with boot := { live.boot with pllState := 2 } }
    (live.boot.ref 0).present = true ∧ after (exec (.referenceMonitorWindow 0 100000) live) (fun t => (t.boot.ref 0).qualified) = true ∧
    after (exec (.referenceMonitorWindow 0 (-100001)) live) (fun t => !(t.boot.ref 0).qualified) = true ∧ held.boot.pllState = 2 ∧
    after (exec (.referenceMonitorWindow 0 5) held) (fun t => t.boot.pllState = 1 ∧ t.boot.activeRef = 0 ∧ t.frc = live.frc) = true := by decide +kernel

theorem witness_revertive :
    let s := (twoRefs.put Obj.CLK_REF_REVERT 1).put Obj.CLK_REF_PREFER 1
    s.get Obj.CLK_REF_REVERT = 1 ∧ s.boot.pllState = 1 ∧ s.boot.activeRef ≠ s.get Obj.CLK_REF_PREFER ∧ (s.boot.ref (s.get Obj.CLK_REF_PREFER)).qualified = true ∧
    (s.boot.ref (s.get Obj.CLK_REF_PREFER)).qualSince + 60 * 800000000 ≤ s.now ∧
    after (exec .revertiveSwitch s) (fun t => t.boot.activeRef = 1 ∧ t.get Obj.CLK_REF_SWITCHES = 1) = true := by decide +kernel

/-- A device whose PLL has just locked, at rail `ix` of the order, the rail's ON command sent. -/
def rising (ix tries : Nat) : State :=
  { State.reset with boot := { phase := .rails, resetN := true, railIx := ix, pllState := 1 }
                     power := { State.reset.power with rails := List.replicate 5 { state := 1, set := 800, onSent := true, tries := tries } } }

theorem witness_pllLock :
    let s := { State.reset with boot := { phase := .pll, resetN := true } }
    s.boot.phase = .pll ∧ s.power.rails.length = 5 ∧ after (exec .rootPllLock s)
      (fun t => t.boot.phase = .rails ∧ (t.rail 1).state = 1 ∧ t.get Obj.PWR_STATE = 1) = true := by decide +kernel

theorem witness_railPoll : (rising 0 0).busOn = true ∧ (rising 0 0).boot.restartAt = none ∧ upOrder[0]? = some 1 ∧ ((rising 0 0).rail 1).onSent = true ∧
    railValid ((rising 0 0).rail 1).set 840 0 = true ∧ railValid ((rising 0 0).rail 1).set 841 0 = false ∧
    after (exec (.railPoll 1 840 0) (rising 0 0)) (fun t => t.boot.railIx = 1 ∧ (t.rail 1).state = 2 ∧ t.boot.phase = .rails) = true ∧
    upOrder[4]? = some 0 ∧ after (exec (.railPoll 0 760 0) (rising 4 0))
      (fun t => t.boot.phase = .store ∧ t.tim.running ∧ t.frc = 0 ∧ t.flt.running ∧ t.get Obj.PWR_STATE = 2) = true := by decide +kernel

theorem witness_railDeadline : ((rising 0 0).rail 1).deadline ≤ (rising 0 0).now ∧
    after (exec (.railDeadline 1) (rising 0 0)) (fun t => (t.rail 1).tries = 1 ∧ (t.rail 1).onSent = false ∧ Out.pmbus 1 0x01 0 ∈ t.out) = true ∧
    after (exec (.railDeadline 1) (rising 0 1)) (fun t => t.boot.railFault = some 254 ∧ t.boot.railIx = 1) = true ∧
    after (exec (.railDeadline 0) (rising 4 1)) (fun t => t.boot.restartAt = some 800000000 ∧ t.boot.railIx = 4) = true := by decide +kernel

/-- A device in phase 4 with two banks of the given generations. -/
def reading (a b : Bank) : State := { live with boot := { live.boot with phase := .store }, store := { bankA := a, bankB := b } }

theorem witness_storeRead :
    (reading {} {}).store.bankA.valid = false ∧ (reading {} {}).store.choose = none ∧
    after (exec (.storeRead []) (reading {} {})) (fun t => t.boot.phase = .noImage) = true ∧
    (let s := reading { valid := true, generation := 3, lifecycle := 1 } { valid := true, generation := 3, lifecycle := 2 }
     s.store.choose = some 0 ∧ after (exec (.storeRead [5, 1024]) s) (fun t => t.boot.phase = .links ∧ t.store.active = 0 ∧ t.boot.badCal = [5]) = true) ∧
    (let s := reading { valid := true, generation := 3, lifecycle := 1 } { valid := true, generation := 4, lifecycle := 3 }
     s.store.choose = some 1 ∧ after (exec (.storeRead []) s) (fun t => t.store.active = 1 ∧ t.store.bankA = {}) = true) := by
  decide +kernel

/-- A device in a phase of its start-up. -/
def inPhase (p : Phase) : State := { live with boot := { live.boot with phase := p } }

theorem witness_startUp :
    (inPhase .links).boot.phase = .links ∧ (inPhase .links).links.length = 8 ∧
    after (exec (.galleySelfTest [1, 2] [] true 900) (inPhase .selfTest)) (fun t => t.boot.phase = .wipe ∧ t.get Obj.FLT_BIST_WEAK = 2 ∧ t.get Obj.FLT_BIST_TIME = 900) = true ∧
    after (exec (.galleySelfTest [] [] false 900) (inPhase .selfTest)) (fun t => t.boot.phase = .wipe ∧ t.get Obj.FLT_BIST_RESULT = 3 ∧ t.boot.selfTestFail.isSome) = true ∧
    after (exec (.wipe 500) (inPhase .wipe)) (fun t => t.boot.phase = .patch ∧ t.get Obj.LCY_WIPE_STATE = 2 ∧ t.get Obj.LCY_WIPE_TIME = 500) = true := by decide +kernel

theorem witness_startUpEnds :
    after (exec (.patchLoad true) (inPhase .patch)) (fun t => t.boot.phase = .restore ∧ t.store.flashPresent = false) = true ∧
    after (exec .dictionaryRestore (inPhase .restore)) (fun t => t.boot.phase = .enable) = true ∧
    after (exec .wonelEnable (inPhase .enable)) (fun t => t.boot.phase = .service ∧ t.get Obj.LCY_START_TIME = 100000000) = true := by decide +kernel

theorem witness_softReset :
    let s := { live with boot := { live.boot with softPending := true } }
    let run := { s with store := { s.store with stage := .running } }
    let tr := { s with store := { s.store with transition := some ⟨2, [], 0, 1⟩ } }
    s.boot.softPending = true ∧ s.store.transition = none ∧ s.store.stage ≠ .running ∧
    after (exec .softReset s) (fun t => t.boot.phase = .store ∧ t.boot.cause = 2 ∧ t.frc = 0 ∧ t.power.rails = s.power.rails ∧ t.get Obj.PWR_STATE = 2) = true ∧
    run.store.stage = .running ∧ after (exec .softReset run) (fun t => t.boot.softPending) = true ∧ tr.store.transition.isSome = true ∧
    after (exec .softReset tr) (fun t => t.boot.softPending = false ∧ t.boot.phase = .service) = true := by decide +kernel

/-- A transition to a state, at a step, with its commit at a stage. -/
def moving (target step : Nat) (stage : CommitStage) : State :=
  { live with store := { live.store with transition := some ⟨target, List.replicate 16 9, 0, step⟩, stage := stage } }

theorem witness_transition :
    (moving 2 3 .running).store.stage = .running ∧ after (exec (.commitComplete true) (moving 2 3 .running)) (fun t => t.store.active = 1 ∧ t.store.bankB.lifecycle = 2 ∧
      t.store.bankB.transitions = 1 ∧ t.store.bankB.generation = 2 ∧ t.store.bankB.carriedKey = List.replicate 16 9 ∧ t.store.transition = some ⟨2, List.replicate 16 9, 0, 4⟩) = true ∧
    after (exec .transitionFinish (moving 2 4 .idle)) (fun t => t.store.transition = none ∧ t.boot.phase = .store ∧ t.boot.cause = 3 ∧ t.store.keys0 = {} ∧
      t.power.rails = live.power.rails) = true ∧
    after (exec .transitionFinish (moving 3 4 .idle)) (fun t => t.store.bankB = {} ∧ t.store.bankA = live.store.bankA) = true := by decide +kernel

/-- A commit at a stage, the last one begun at an instant. -/
def committing (stage : CommitStage) (last : Option Nat) : State := { live with store := { live.store with stage := stage, lastStart := last } }

theorem witness_commit :
    after (exec .commitHoldExpiry (committing .held (some 76000000000))) (fun t => t.store.stage = .running ∧ t.store.lastStart = some live.now ∧
      t.store.bankB.valid = false ∧ t.get (Obj.CMP_P_STATE 1) = 1) = true ∧
    after (exec .commitHoldExpiry (committing .held (some 76000000001))) (fun t => t.store.stage = .held) = true ∧
    firstUnfit 16 (committing .running none).store.snap.images.records = none ∧
    after (exec (.commitComplete true) (committing .running none)) (fun t => t.store.active = 1 ∧ t.store.bankB.valid ∧ t.store.bankB.generation = 2 ∧
      t.store.keys0.tag = some 2 ∧ t.store.keys1.tag = some 2 ∧ t.get Obj.LCY_PS_COMMIT = 2 ^ 32) = true := by decide +kernel

/-! ### Wonel (04, 05), the check engine (06) -/

/-- AES-CMAC of RFC 4493: the empty message and the message of 16 bytes. -/
theorem test_cmac :
    let key := beBytes 16 0x2b7e151628aed2a6abf7158809cf4f3c
    cmac key [] = beBytes 16 0xbb1d6929e95937287fa37d129b756746 ∧
    cmac key (beBytes 16 0x6bc1bee22e409f96e93d7e117393172a) = beBytes 16 0x070a16b46b4d4144f79bdd9dd04a287c := by decide +kernel

/-- A frame of EtherType 0x88B5 to a MAC address, with a message of session 0 whose TAG is right or wrong. -/
def wonelFrame (dst seq : Nat) (good : Bool) : Bytes :=
  let m : Bytes := [1, 0x02, 0, 0] ++ beBytes 8 seq ++ zeros 8
  beBytes 6 dst ++ zeros 6 ++ [0x88, 0xB5] ++ m ++ (if good then (open_.kceTag 0 m).1 else zeros 16)

theorem test_accept : open_.mgListens 0 = true ∧ open_.mgEnabled 0 = true ∧
    after (exec (.wonelFrameRx 0x400 (wonelFrame 2 1 true)) open_)
      (fun t => (t.page 0).counter = 1 ∧ (t.page 0).used = 2 ∧ (t.session 0).queue.length = 1 ∧ t.get (Obj.SES_WAY 0) = 0x400) = true := by decide +kernel

theorem test_acceptRefusals :
    after (exec (.wonelFrameRx 0x400 (wonelFrame 2 0 true)) open_) (fun t => (t.page 0).counter = 0 ∧ (t.session 0).queue = [] ∧ t.out.length = 1) = true ∧
    after (exec (.wonelFrameRx 0x400 (wonelFrame 2 1 false)) open_) (fun t => t.get Obj.SES_BAD_TAG = 1 ∧ (t.session 0).queue = []) = true ∧
    after (exec (.wonelFrameRx 0x400 (wonelFrame 3 1 true)) open_) (fun t => t.get Obj.SES_RX_DROPPED = 1) = true ∧
    after (exec (.wonelFrameRx 0x400 (wonelFrame 2 1 true)) (open_.modPage 0 fun p => { p with state := 3 })) (fun t => t.get Obj.SES_PAGE_DROPS = 1) = true := by
  decide +kernel

/-- An ARP request from 10.0.0.9 for 10.0.0.1. -/
def arp : Bytes := beBytes 6 0xFFFFFFFFFFFF ++ beBytes 6 9 ++ [8, 6] ++ beBytes 8 0x0001080006040001 ++ beBytes 6 9 ++ beBytes 4 0x0A000009 ++ zeros 6 ++ beBytes 4 0x0A000001

theorem test_arp : (open_.arpOf 0x400 arp).isSome = true ∧ open_.wonelOf 0x400 (zeros 60) = none ∧ open_.arpOf 0x400 (zeros 60) = none ∧
    after (exec (.arpRequest 0x400 arp) open_) (fun t => decide (t.out.length = 1) && match t.out with
      | .mgFrame 0 f :: _ => decide (f.take 22 = beBytes 6 9 ++ beBytes 6 2 ++ [8, 6] ++ beBytes 8 0x0001080006040002)
      | _ => false) = true ∧
    after (exec (.mgFrameDropped 0 (zeros 60)) open_) (fun t => t.get Obj.SES_RX_DROPPED = 1) = true := by decide +kernel

theorem test_waysIn :
    let off := { open_ with dict := [(Obj.LCY_STATE, 1), (Obj.SES_MAC_ADDR, 2), (Obj.SES_MG_ENABLE, 2)] }
    let front := { open_ with wonel := { open_.wonel with rx := [(7, arp)] } }
    off.mgListens 0 = true ∧ off.mgEnabled 0 = false ∧ after (exec (.arpRequest 0x400 arp) off) (fun t => t.get Obj.SES_RX_DROPPED = 1 ∧ t.out = []) = true ∧
    front.wonel.rx.contains (7, arp) = true ∧ front.get Obj.SES_INBAND ≠ 1 ∧ after (exec (.arpRequest 7 arp) front) (fun t => t.wonel.rx = [] ∧ t.out = []) = true := by
  decide +kernel

theorem test_mgFec : (live.mgPort 1).up = false ∧ live.get Obj.SES_MG_FEC = 0 ∧ (live.mgPort 1).since + 1600000000 ≤ live.now ∧
    after (exec (.mgFecCycle 0) (open_.modMg 0 fun _ => { up := false, fec := 3 })) (fun t => (t.mgPort 0).fec = 2 ∧ (t.mgPort 0).since = live.now) = true ∧
    after (exec (.mgFecCycle 1) (live.modMg 1 fun _ => { up := false, fec := 1 })) (fun t => (t.mgPort 1).fec = 3) = true := by decide +kernel

theorem test_mgLink : (open_.mgPort 0).up = true ∧
    after (exec (.mgLinkChange 0 false) (open_.modSession 3 fun x => { x with isOpen := true })) (fun t => (t.mgPort 0).up = false ∧ (t.mgPort 0).fec = 3 ∧
      (t.session 3).latches = 16) = true ∧
    after (exec (.mgLinkChange 1 true) (live.modMg 1 fun _ => { fec := 1 })) (fun t => (t.mgPort 1).up ∧ (t.mgPort 1).fec = 1) = true := by decide +kernel

theorem test_idleSession :
    let s := live.modSession 15 fun x => { x with isOpen := true, deadline := live.now, latches := 3, cache := some (4, []) }
    (s.session 15).isOpen = true ∧ (s.session 15).deadline ≤ s.now ∧
    after (exec (.sessionIdleTimeout 15) s) (fun t => (t.session 15).isOpen = false ∧ (t.session 15).latches = 0 ∧ (t.session 15).cache = some (4, [])) = true := by decide +kernel

theorem test_hello :
    let s := asked open_ 5 (req 0x01 5 (beBytes 4 (3601 * 65536)))
    let b := asked { open_ with dict := [(Obj.LCY_STATE, 3), (Obj.SES_MAC_ADDR, 2)] } 5 (req 0x01 5 (zeros 4))
    s.readyFor 5 (req 0x01 5 (beBytes 4 (3601 * 65536))) 0x01 = true ∧
    after (exec .hello s) (fun t => (t.session 5).isOpen ∧ (t.session 5).idle = 3600 ∧ (t.session 5).deadline = live.now + 3600 * 800000000 ∧
      t.get (Obj.SES_ACCEPTED 5) = 1 ∧ reply t 5 = (0, [3, 1] ++ beBytes 2 3600 ++ beBytes 2 1280 ++ [0, 0] ++ zeros 8 ++ beBytes 8 (2 ^ 48))) = true ∧
    b.readyFor 5 (req 0x01 5 (zeros 4)) 0x01 = true ∧ b.get Obj.LCY_STATE = 3 ∧
    after (exec .hello b) (fun t => reply t 5 = (Res.badState, [])) = true := by decide +kernel

theorem test_bye :
    let s := asked open_ 0 (req 0x02 0 [])
    s.readyFor 0 (req 0x02 0 []) 0x02 = true ∧ after (exec .bye s) (fun t => (t.session 0).isOpen = false ∧ reply t 0 = (0, [])) = true := by decide +kernel

theorem test_read :
    let r := req 0x10 0 (name Obj.LCY_STATE)
    let v := req 0x10 0 (name (0xF000 * 256))
    let m := req 0x12 0 ([0, 2, 0, 0] ++ name (0xF000 * 256) ++ name Obj.LCY_STATE)
    (asked open_ 0 r).readyFor 0 r 0x10 = true ∧ (asked open_ 0 v).readyFor 0 v 0x10 = true ∧ (asked open_ 0 m).readyFor 0 m 0x12 = true ∧
    after (exec .read (asked open_ 0 r)) (fun t => reply t 0 = (0, beBytes 2 (Obj.LCY_STATE / 256) ++ [u8 (Obj.LCY_STATE % 256), u8 OType.u8.code, 0, 1, 0, 0, 1])) = true ∧
    after (exec .read (asked open_ 0 v)) (fun t => reply t 0 = (Res.noObject, [0xF0, 0, 0, 0, 0, 0, 0, 4])) = true ∧
    after (exec .readMulti (asked open_ 0 m)) (fun t => (reply t 0).1 = Res.noObject ∧ (reply t 0).2.length = 21) = true := by decide +kernel

/-- The count of sub-indexes of an index is its sub-index 0. -/
theorem test_readSubZero :
    let r := req 0x10 0 (name (Obj.LCY_STATE / 256 * 256))
    (asked open_ 0 r).readyFor 0 r 0x10 = true ∧ after (exec .read (asked open_ 0 r)) (fun t => (reply t 0).1 = 0 ∧ (reply t 0).2.length = 9) = true := by decide +kernel

/-- A write item of type U16. -/
def item16 (key v : Nat) : Bytes := beBytes 2 (key / 256) ++ [u8 (key % 256), u8 OType.u16.code, 0, 2, 0, 0] ++ beBytes 2 v

theorem test_write :
    let good := req 0x11 0 (item16 Obj.SES_IDLE_DEFAULT 100)
    let bad := req 0x13 0 ([0, 2, 0, 0] ++ item16 Obj.SES_IDLE_DEFAULT 100 ++ item16 (0xF000 * 256) 1)
    let both := req 0x13 0 ([0, 1, 0, 0] ++ item16 Obj.SES_IDLE_DEFAULT 101)
    (asked open_ 0 good).readyFor 0 good 0x11 = true ∧ (asked open_ 0 bad).readyFor 0 bad 0x13 = true ∧ (asked open_ 0 both).readyFor 0 both 0x13 = true ∧
    after (exec .write (asked open_ 0 good)) (fun t => (reply t 0).1 = 0 ∧ t.get Obj.SES_IDLE_DEFAULT = 100) = true ∧
    after (exec .writeMulti (asked open_ 0 bad)) (fun t => (reply t 0).1 = Res.noObject ∧ t.get Obj.SES_IDLE_DEFAULT = 10) = true ∧
    after (exec .writeMulti (asked open_ 0 both)) (fun t => (reply t 0).1 = 0 ∧ t.get Obj.SES_IDLE_DEFAULT = 101) = true := by decide +kernel

theorem test_bulk :
    let past := req 0x20 0 (beBytes 2 0x3500 ++ [1, 0] ++ beBytes 4 294912 ++ beBytes 4 (16 * 65536))
    let in_ := req 0x20 0 (beBytes 2 0x3500 ++ [1, 0] ++ beBytes 4 294908 ++ beBytes 4 (16 * 65536))
    let w := req 0x21 0 (beBytes 2 0x3500 ++ [1, 1] ++ beBytes 4 0 ++ beBytes 4 8 ++ [1, 2, 3, 4])
    let last := req 0x21 0 (beBytes 2 0x3500 ++ [1, 3] ++ beBytes 4 0 ++ beBytes 4 4 ++ [1, 2, 3, 4])
    (asked open_ 0 in_).readyFor 0 in_ 0x20 = true ∧ (asked open_ 0 w).readyFor 0 w 0x21 = true ∧ (asked open_ 0 last).readyFor 0 last 0x21 = true ∧
    (asked open_ 0 past).readyFor 0 past 0x20 = true ∧
    after (exec .bulkRead (asked open_ 0 past)) (fun t => (reply t 0).1 = Res.badOffset) = true ∧
    after (exec .bulkRead (asked open_ 0 in_)) (fun t => reply t 0 = (0, beBytes 4 294908 ++ [0, 4, 0, 0, 0, 0, 0, 0])) = true ∧
    after (exec .bulkWrite (asked open_ 0 w)) (fun t => reply t 0 = (0, [0, 0, 0, 4]) ∧ (t.session 0).bulk = some ⟨0x3500, 1, 4, 8, 0⟩) = true ∧
    after (exec .bulkWrite (asked open_ 0 last)) (fun t => reply t 0 = (0, [0, 0, 0, 4]) ∧ (t.session 0).bulk = none ∧ t.cmp.stagedTotal = 4) = true := by decide +kernel

theorem test_bulkRefused :
    let w := req 0x21 0 (beBytes 2 0x3500 ++ [1, 0] ++ beBytes 4 4 ++ beBytes 4 8 ++ [1, 2, 3, 4])
    (asked open_ 0 w).readyFor 0 w 0x21 = true ∧ after (exec .bulkWrite (asked open_ 0 w)) (fun t => (reply t 0).1 ≠ 0 ∧ (t.session 0).bulk = none) = true := by
  decide +kernel

/-- ABORTs: of a run that ABORT may stop, of one it may not, of one that does not run, and of a window. -/
theorem test_abort :
    let busy := { open_ with busy := [Obj.TBL_LPM_APPLY, Obj.GAL_CARVE_APPLY], tables := { open_.tables with apply := some (1, 5, false) } }
    let of := fun key => asked busy 0 (req 0x31 0 (name key))
    let win := (asked open_ 0 (req 0x31 0 [0x35, 0, 1, 0])).modSession 0 fun x => { x with bulk := some ⟨0x3500, 1, 4, 8, 0⟩ }
    (of Obj.TBL_LPM_APPLY).readyFor 0 (req 0x31 0 (name Obj.TBL_LPM_APPLY)) 0x31 = true ∧ win.readyFor 0 (req 0x31 0 [0x35, 0, 1, 0]) 0x31 = true ∧
    after (exec .abort (of Obj.TBL_LPM_APPLY)) (fun t => reply t 0 = (0, []) ∧ t.tables.apply = some (1, 5, true)) = true ∧
    after (exec .abort (of Obj.GAL_CARVE_APPLY)) (fun t => reply t 0 = (Res.notAbortable, [])) = true ∧
    after (exec .abort (of Obj.PLN_SWITCH)) (fun t => reply t 0 = (0, [])) = true ∧
    after (exec .abort (of Obj.FLT_CLEAR)) (fun t => reply t 0 = (0, [])) = true ∧
    after (exec .abort win) (fun t => reply t 0 = (0, []) ∧ (t.session 0).bulk = none) = true := by decide +kernel

theorem test_startBusy : starts { open_ with busy := [Obj.TBL_LPM_APPLY] } Obj.TBL_LPM_APPLY .start (fun t => reply t 0 = (Res.busy, [])) = true ∧
    starts open_ Obj.FLT_SAFE_ENTER .start (fun t => reply t 0 = (0, []) ∧ t.flt.safe) = true := by decide +kernel

theorem test_lifecycleStarts :
    starts open_ Obj.LCY_SOFT_RESET .lcySoftReset (fun t => t.boot.softPending ∧ reply t 0 = (0, [])) = true ∧
    starts open_ Obj.LCY_PS_COMMIT .lcyPsCommit (fun t => t.store.stage = .running ∧ t.isBusy Obj.LCY_PS_COMMIT ∧ t.store.lastStart = some live.now) = true ∧
    starts { open_ with store := { open_.store with lastStart := some 76000000001 } } Obj.LCY_PS_COMMIT .lcyPsCommit (fun t => t.store.stage = .held) = true ∧
    starts { open_ with store := { open_.store with stage := .running, lastStart := some 1 } } Obj.LCY_PS_COMMIT .lcyPsCommit
      (fun t => t.store.stage = .running ∧ t.store.queued) = true := by decide +kernel

theorem test_transitionStart :
    let s := { open_ with dict := [(Obj.LCY_STATE, 1), (Obj.LCY_TARGET, 2), (Obj.LCY_NEXT_KEY, 5), (Obj.LCY_NEXT_KEY_LEN, 16), (Obj.LCY_CONFIRM, 1), (Obj.SES_MAC_ADDR, 2)] }
    transitionAllowed (s.get Obj.LCY_STATE) (s.get Obj.LCY_TARGET) = true ∧ s.get Obj.LCY_CONFIRM = (s.get Obj.LCY_TRANSITIONS + 1) % 2 ^ 32 ∧
    starts (s.modSession 4 fun x => { x with isOpen := true }) Obj.LCY_TRANSITION .lcyTransition (fun t => t.store.stage = .running ∧ t.store.transition = some ⟨2, zeros 16, 0, 3⟩ ∧
      t.store.bankB.valid = false ∧ (t.session 4).isOpen = false ∧ (t.session 0).isOpen) = true := by decide +kernel

theorem test_ceiling :
    let s := live.modPage 2 fun p => { p with raiseU := some 9000, raiseS := some 8000, counter := 7 }
    let full := s.modPage 2 fun p => { p with timesU := List.replicate 32 (live.now - 3999999999) }
    let free := s.modPage 2 fun p => { p with timesU := List.replicate 32 (live.now - 4000000000) }
    after (exec (.ceilingRaiseWritten 2 true) s) (fun t => (t.page 2).writtenU = 9000 ∧ (t.page 2).raiseU = none ∧ (t.page 2).posU = 1 ∧ (t.page 2).counter = 7 ∧
      ((t.store.keys0.ring.find? fun x => decide (x.1 = ringKey 2 true 0)).map Prod.snd = some (9000, 0))) = true ∧
    after (exec (.ceilingRaiseWritten 2 false) s) (fun t => (t.page 2).writtenS = 8000 ∧ (t.page 2).raiseS = none ∧ (t.page 2).raiseU = some 9000) = true ∧
    after (exec (.ceilingRaiseWritten 2 true) full) (fun t => (t.page 2).raiseU = some 9000) = true ∧ (full.page 2).timesU[31]? = some (live.now - 3999999999) ∧
    (free.page 2).timesU[31]? = some (live.now - 4000000000) ∧ after (exec (.keyRingEntryFree 2 true) free) (fun t => (t.page 2).writtenU = 9000) = true := by decide +kernel

theorem test_pageHold :
    after (exec (.kcePageHoldExpiry 2) (live.modPage 2 fun p => { p with holdUntil := live.now })) (fun t => (t.page 2).holdUntil = 0) = true := by decide +kernel

/-- Page 3's staged key of sixteen bytes, class 1, use 0. -/
def staged (p : Nat) : State := { open_ with dict := [(Obj.LCY_STATE, 1), (Obj.SES_MAC_ADDR, 2), (Obj.SES_GRANT p, 3), (Obj.KCE_NEW_KEY p, 2 ^ 255), (Obj.KCE_NEW_KEYLEN p, 16), (Obj.KCE_NEW_CLASS p, 1)] }

theorem test_keyInstall : (staged 3).installDetail 3 = 0 ∧ (staged 0).installDetail 0 = 6 ∧ (staged 3).pageHold 3 = 0 ∧
    starts (staged 3) (Obj.KCE_INSTALL 3) .kceInstall (fun t => (t.page 3).key = 128 :: zeros 15 ∧ (t.page 3).cls = 1 ∧ (t.page 3).counter = 0 ∧ (t.page 3).installs = 1 ∧
      (t.page 3).ceilS = 2 ^ 40 ∧ (t.page 3).holdUntil = live.now + 4000000000 ∧ t.get (Obj.KCE_NEW_KEY 3) = 0 ∧ t.get (Obj.SES_GRANT 3) = 0 ∧
      t.get (Obj.KCE_INSTALL 3) = 2 ^ 32) = true ∧
    starts (staged 0) (Obj.KCE_INSTALL 0) .kceInstall (fun t => (t.page 0).key = (live.page 0).key ∧ t.get (Obj.KCE_INSTALL 0) = 2 ^ 32 + 7 * 65536 + 6) = true := by decide +kernel

theorem test_keyEmpty :
    starts (staged 3) (Obj.KCE_EMPTY 3) .kceEmpty (fun t => (t.page 3).state = 0 ∧ (t.page 3).key = [] ∧ (t.page 3).installs = 1 ∧ t.get (Obj.KCE_EMPTY 3) = 2 ^ 32) = true ∧
    starts (staged 3) (Obj.KCE_EMPTY 0) .kceEmpty (fun t => (t.page 0).state = 1 ∧ t.get (Obj.KCE_EMPTY 0) = 2 ^ 32 + 7 * 65536 + 6) = true := by decide +kernel

/-- A message of a level that waits in, or runs in, the engine. -/
def msg (level : Nat) : KceMsg := ⟨level, 1, 77, zeros 32, none, [], 0, 0⟩

/-- Page 1 serves PTP. -/
def keyed : State := live.modPage 1 fun p => { p with use := 1 }

theorem test_kceQueue :
    let busy := { keyed with kce := { keyed.kce with running := some (msg 4) } }
    let full := { keyed with kce := { keyed.kce with running := some (msg 4), queues := List.replicate 16 (msg 2) } }
    after (exec (.kceMessage 2 1 9 (zeros 32) none) busy) (fun t => t.kce.queues.length = 1 ∧ t.kce.running = some (msg 4)) = true ∧
    after (exec (.kceMessage 2 1 9 (zeros 32) none) full) (fun t => t.kce.queues.length = 16) = true ∧
    keyed.kce.running = none ∧ keyed.kce.queues = [] ∧ keyed.kce.slots = [] ∧
    after (exec (.kceMessage 0 1 9 (zeros 32) none) keyed) (fun t => t.kce.queues = [] ∧ t.kce.running = some { msg 0 with handle := 9, key := (keyed.page 1).key, arrived := live.now }) = true ∧
    after (exec (.kceMessage 3 1 9 (zeros 32) none) keyed) (fun t => (t.kce.running.isSome ↔ (keyed.page 1).serves (levelUse 3) = true)) = true := by decide +kernel

theorem test_kceSuspend :
    let s := { keyed with kce := { keyed.kce with running := some { msg 4 with key := zeros 16 }, queues := [msg 0] } }
    let low := { keyed with kce := { keyed.kce with running := some { msg 0 with key := zeros 16 }, queues := [msg 4] } }
    1 < kceBlocks (zeros 32) ∧ after (exec (.kceSuspend 1) s) (fun t => t.kce.slots = [{ msg 4 with key := zeros 16, done := 1 }] ∧ t.kce.queues = [] ∧
      t.kce.running = some { msg 0 with key := (keyed.page 1).key }) = true ∧
    after (exec (.kceSuspend 1) low) (fun t => t.kce.slots = [] ∧ t.kce.running = some { msg 0 with key := zeros 16 }) = true := by decide +kernel

theorem test_kceDone :
    let key := beBytes 16 0x2b7e151628aed2a6abf7158809cf4f3c
    let m := { msg 0 with data := [], key := key, expect := some (beBytes 8 0xbb1d6929e9593728) }
    let s := { keyed with kce := { keyed.kce with running := some m } }
    usedTag 0 (cmac key []) = beBytes 8 0xbb1d6929e9593728 ∧
    after (exec .kceMessageDone s) (fun t => t.kce.running = none ∧ t.kce.results = [(77, [], true)] ∧ (t.page 1).used = 1 ∧ t.get Obj.KCE_MESSAGES = 1) = true := by decide +kernel

theorem test_kceUncorrectable :
    let s := { keyed with kce := { keyed.kce with slots := [msg 2], queues := [msg 3], running := some (msg 1) } }
    after (exec (.kceUncorrectable 1 (some 0)) s) (fun t => t.kce.slots = [] ∧ t.kce.results = [(77, [], false)] ∧ t.kce.queues = [msg 3]) = true ∧
    after (exec (.kceUncorrectable 1 none) s) (fun t => t.kce.slots = [] ∧ t.kce.queues = [] ∧ t.kce.running = none ∧ (t.page 1).state = 0) = true := by decide +kernel

/-! ### Lanes (07) -/

/-- Lane 0 changed. -/
def lane0 (f : Lane → Lane) : State := open_.modLane 0 f

theorem test_signal :
    let off := lane0 fun _ => {}
    let loop := set off [(Obj.LN_LOOPBACK 0, 1)]
    (off.lane 0).signal = false ∧ after (exec (.signalDetect 0) off) (fun t => (t.lane 0).signal ∧ (t.lane 0).adapted = false) = true ∧
    loop.get (Obj.LN_LOOPBACK 0) = 1 ∧ after (exec (.signalDetect 0) loop) (fun t => (t.lane 0).signal ∧ t.ports = loop.ports) = true ∧
    after (exec (.signalLoss 0) open_) (fun t => (t.lane 0).signal = false ∧ (t.lane 0).cdr = false ∧ (t.lane 0).pcs = false ∧ (t.port 0).badSince = some live.now) = true ∧
    after (exec (.signalLoss 0) (set open_ [(Obj.LN_LOOPBACK 0, 2)])) (fun t => (t.lane 0).signal = false ∧ (t.lane 0).cdr) = true := by decide +kernel

theorem test_adaptation :
    let s := { (lane0 fun l => { l with adapted := false, cdr := false }) with busy := [Obj.LN_ADAPT 0] }
    s.laneOn 0 = true ∧ s.rxOn 0 = true ∧
    after (exec (.adaptationComplete 0 49 70000) s) (fun t => (t.lane 0).adapted ∧ t.get (Obj.LN_RX_CTLE 0) = 48 ∧ t.get (Obj.LN_RX_SNR 0) = 4464 ∧
      t.isBusy (Obj.LN_ADAPT 0) = false ∧ t.get (Obj.LN_ADAPT 0) = 2 ^ 32) = true ∧
    after (exec (.continuousAdaptation 0 3 4 200) open_) (fun t => t.get (Obj.LN_RX_CTLE 0) = 3 ∧ (t.lane 0).adaptedAt = live.now) = true ∧
    after (exec (.continuousAdaptation 0 3 4 201) open_) (fun t => t.get (Obj.LN_RX_CTLE 0) = 0) = true ∧
    after (exec (.continuousAdaptation 0 3 4 0) (lane0 fun l => { l with adaptedAt := live.now - 79999 })) (fun t => t.get (Obj.LN_RX_CTLE 0) = 0) = true ∧
    after (exec (.continuousAdaptation 0 3 4 0) (lane0 fun l => { l with adaptedAt := live.now - 80000 })) (fun t => t.get (Obj.LN_RX_CTLE 0) = 3) = true := by decide +kernel

theorem test_cdr :
    let s := set (lane0 fun l => { l with cdr := false }) [(Obj.LN_CDR_PHASE 0, 9)]
    s.laneOn 0 = true ∧ s.rxOn 0 = true ∧ (s.lane 0).adapted = true ∧ after (exec (.cdrLock 0) s) (fun t => (t.lane 0).cdr ∧ t.get (Obj.LN_CDR_PHASE 0) = 0) = true ∧
    after (exec (.cdrLockLoss 8) (open_.modLane 8 fun l => { l with eye := some ⟨1, 9, 6, true, 0, 0, 0, false, 0, false⟩ })) (fun t => (t.lane 8).cdr = false ∧
      (t.lane 11).pcs = false ∧ (t.lane 11).cdr ∧ (t.lane 8).eye = none ∧ t.get (Obj.LN_EYE_RUN 8) = 2 ^ 32 + 8 * 65536 + 1) = true := by decide +kernel

theorem test_ppm :
    after (exec (.ppmUpdate 0 25000 5) open_) (fun t => (t.lane 0).cdr ∧ t.get (Obj.LN_RX_PPM 0) = 25000 ∧ t.get (Obj.LN_CDR_PHASE 0) = 5) = true ∧
    after (exec (.ppmUpdate 0 (-25001) 0) open_) (fun t => (t.lane 0).cdr = false ∧ t.get (Obj.LN_RX_PPM 0) = 2 ^ 32 - 25001) = true ∧
    after (exec (.ppmUpdate 0 20000 0) open_) (fun t => t.flt = open_.flt) = true := by decide +kernel

/-- Taps of R176: main tap 40, the others 0. -/
theorem test_training :
    let s := set open_ [(Obj.LN_EQ_MODE 0, 1)]
    let taps : Bytes := [0, 0, 0, 40, 0, 0]
    ffeOk taps = true ∧ ffeOk [0, 0, 0, 15, 0, 0] = false ∧ ffeOk [0, 0, 33, 16, 0, 0] = false ∧ ffeOk [0, 0, 32, 32, 1, 0] = false ∧ s.laneOn 0 = true ∧
    after (exec (.linkTrainingEnd 0 true taps) s) (fun t => (t.lane 0).trainDone ∧ t.ffeActive 0 = beNat taps) = true ∧
    after (exec (.linkTrainingEnd 0 false taps) s) (fun t => (t.lane 0).retryAt = some (live.now + 800000000)) = true ∧
    after (exec (.linkTrainingRetry 0) (lane0 fun l => { l with retryAt := some live.now })) (fun t => (t.lane 0).retryAt = none) = true ∧
    after (exec (.linkTrainingRetry 0) (lane0 fun l => { l with retryAt := some (live.now + 1) })) (fun t => (t.lane 0).retryAt ≠ none) = true := by decide +kernel

theorem test_prbs :
    let s := set open_ [(Obj.LN_PRBS_RX 0, 3), (Obj.LN_PRBS_LOCK 0, 1)]
    let u := set open_ [(Obj.LN_PRBS_RX 0, 3)]
    after (exec (.prbsLockChange 0 false 1000 1000) s) (fun t => t.get (Obj.LN_PRBS_LOCK 0) = 0 ∧ t.get (Obj.LN_PRBS_BITS 0) = 1000 ∧ t.get (Obj.LN_PRBS_ERRORS 0) = 1000) = true ∧
    after (exec (.prbsLockChange 0 true 1000 1) u) (fun t => t.get (Obj.LN_PRBS_LOCK 0) = 1 ∧ t.get (Obj.LN_PRBS_BITS 0) = 0) = true := by decide +kernel

theorem test_pcs :
    let s := (open_.modLane 0 fun l => { l with pcs := false }).modPort 0 fun x => { x with up := false, okSince := none, badSince := some 5 }
    after (exec (.pcsLockAcquired 0) s) (fun t => (t.lane 0).pcs ∧ (t.port 0).okSince = some live.now ∧ (t.port 0).badSince = none) = true ∧
    after (exec (.alignmentLoss 8 4001) open_) (fun t => (t.lane 8).pcs = false ∧ (t.lane 11).flaps = [live.now] ∧ t.get (Obj.LN_FLAPS 11) = 1 ∧ (t.port 8).okSince = none) = true ∧
    after (exec (.alignmentLoss 8 4000) open_) (fun t => (t.lane 8).pcs) = true ∧
    after (exec (.linkFaultRx 8 2) open_) (fun t => (t.port 8).fault = 2 ∧ (t.port 8).badSince = some live.now ∧ (t.port 8).okSince = none) = true ∧
    after (exec (.linkFaultRx 8 0) open_) (fun t => (t.port 8).fault = 0 ∧ (t.port 8).okSince = some 0) = true := by decide +kernel

theorem test_laneFailure :
    let old := open_.modLane 0 fun l => { l with flaps := List.replicate 7 (live.now - 47999999999) ++ [live.now - 48000000000] }
    let eight := open_.modLane 0 fun l => { l with flaps := List.replicate 8 (live.now - 47999999999) }
    after (exec (.laneFailure 0 1) open_) (fun t => (t.lane 0).failCause = 1 ∧ (t.lane 0).cdr = false ∧ (t.port 0).up = false) = true ∧
    after (exec (.laneFailure 8 2) open_) (fun t => (t.lane 11).failCause = 2 ∧ (t.lane 0).failCause = 0) = true ∧
    after (exec (.laneFailure 0 4) old) (fun t => (t.lane 0).failCause = 0) = true ∧ after (exec (.laneFailure 0 4) eight) (fun t => (t.lane 0).failCause = 4) = true := by
  decide +kernel

theorem test_laneRelease :
    let s := fun (c : Nat) => open_.modLane 0 fun l => { l with failCause := c, flaps := [5] }
    starts (s 3) (Obj.LN_RELEASE 0) (.lnRelease true) (fun t => (t.lane 0).failCause = 0 ∧ t.get (Obj.LN_RELEASE 0) = 2 ^ 32) = true ∧
    starts (s 3) (Obj.LN_RELEASE 0) (.lnRelease false) (fun t => (t.lane 0).failCause = 3 ∧ t.get (Obj.LN_RELEASE 0) = 2 ^ 32 + 14 * 65536) = true ∧
    starts (s 4) (Obj.LN_RELEASE 0) (.lnRelease false) (fun t => (t.lane 0).failCause = 0) = true ∧
    starts open_ (Obj.LN_ADAPT 0) .lnAdapt (fun t => t.isBusy (Obj.LN_ADAPT 0) ∧ (t.lane 0).adapted = false ∧ (t.port 0).up = false) = true ∧
    starts open_ (Obj.LN_ADAPT 5) .lnAdapt (fun t => t.get (Obj.LN_ADAPT 5) = 2 ^ 32 + 8 * 65536) = true := by decide +kernel

theorem test_eyeStart :
    let other := open_.modLane 9 fun l => { l with eye := some ⟨1, 9, 6, true, 0, 0, 0, false, 0, false⟩ }
    starts open_ (Obj.LN_EYE_RUN 8) .lnEyeRun (fun t => t.isBusy (Obj.LN_EYE_RUN 8) ∧ (t.lane 8).eye.isSome) = true ∧
    starts other (Obj.LN_EYE_RUN 8) .lnEyeRun (fun t => reply t 0 = (Res.busy, [])) = true ∧
    starts open_ (Obj.LN_EYE_RUN 5) .lnEyeRun (fun t => reply t 0 = (Res.badState, [])) = true ∧
    starts (set open_ [(Obj.LN_LOOPBACK 0, 2)]) (Obj.LN_EYE_RUN 0) .lnEyeRun (fun t => reply t 0 = (Res.badState, [])) = true := by decide +kernel

/-- Mode 1, threshold 2⁹ / 10² = 5 errors. -/
def eye1 : EyeScan := ⟨1, 9, 2, true, 0, 0, 0, false, 0, false⟩

theorem test_eyePoints :
    let s := fun (e : EyeScan) => lane0 fun l => { l with eye := some e }
    eye1.passes 5 = true ∧ eye1.passes 6 = false ∧
    after (exec (.eyeScanPointComplete 0 5) (s eye1)) (fun t => (t.lane 0).eye = some { eye1 with centre := true, offset := 1, count := 512 } ∧ t.get (Obj.LN_EYE_COUNT 0) = 512) = true ∧
    after (exec (.eyeScanPointComplete 0 6) (s eye1)) (fun t => (t.lane 0).eye = none ∧ t.get (Obj.LN_EYE_RESULT 0) = 0 ∧ t.get (Obj.LN_EYE_RUN 0) = 2 ^ 32) = true ∧
    after (exec (.eyeScanPointComplete 0 9) (s { eye1 with centre := true, offset := 3, high := 2 })) (fun t => (t.lane 0).eye = some { eye1 with centre := true, offset := -1, dirUp := false, high := 2, count := 512 }) = true ∧
    after (exec (.eyeScanPointComplete 0 9) (s { eye1 with centre := true, offset := -3, dirUp := false, low := -2, high := 2 }))
      (fun t => (t.lane 0).eye = none ∧ t.get (Obj.LN_EYE_RESULT 0) = 254 + 2 * 256 + 65536) = true ∧
    after (exec (.eyeScanPointComplete 0 9) (s { eye1 with mode := 0 })) (fun t => (t.lane 0).eye = none ∧ t.get (Obj.LN_EYE_RESULT 0) = 9 ∧ t.get (Obj.LN_EYE_COUNT 0) = 512) = true ∧
    after (exec (.eyeScanPointComplete 0 5) (s { eye1 with abort := true })) (fun t => t.get (Obj.LN_EYE_RUN 0) = 2 ^ 32 + 15 * 65536) = true := by decide +kernel

/-! ### Die-links (07) -/

/-- A slot with SYNC 10 and a stuffing violation (R195). -/
def badSlot : Bytes := [128] ++ zeros 129

theorem test_slotRx :
    (open_.link 3).state = 2 ∧ (open_.dlane 3 0 1).locked = true ∧ (open_.dlane 3 0 1).state ≠ 3 ∧
    after (exec (.dieLinkSlotRx 3 0 1 0 badSlot) open_) (fun t => (t.dlane 3 0 1).crcErrors = 1 ∧ (t.dlane 3 0 1).badSlot ∧ (t.dlane 3 0 1).slot = 1 ∧ t.get (Obj.QD_CRC_UP 3) = 1) = true ∧
    after (exec (.dieLinkSlotRx 3 1 1 0 badSlot) open_) (fun t => t.get (Obj.QD_CRC_DOWN 3) = 1) = true := by decide +kernel

theorem test_slotLock :
    let s := fun (n : Nat) => open_.modDlane 3 1 1 fun d => { d with locked := false, goodSync := n }
    after (exec (.dieLinkSlotRx 3 1 1 0 badSlot) (s 63)) (fun t => (t.dlane 3 1 1).locked) = true ∧
    after (exec (.dieLinkSlotRx 3 1 1 0 badSlot) (s 62)) (fun t => (t.dlane 3 1 1).locked = false ∧ (t.dlane 3 1 1).goodSync = 63) = true := by decide +kernel

/-- A slot of zeros with SYNC 10, as the receive end sees it where its generator stands at 0: after 63 zeros a stuffed one (R193 to R195). -/
def goodSlot : Bytes := ((List.replicate 17 ([128] ++ zeros 7)).flatten).take 130

theorem test_goodSlot :
    let s := fun (slot mk : Nat) => open_.modDlane 3 0 1 fun d => { d with scr := 0, slot := slot, marker := mk, markerOk := true }
    (readSlot 1 0 goodSlot).ok ∧ (readSlot 1 0 goodSlot).marker = false ∧ (readSlot 1 0 goodSlot).body = 0 ∧
    after (exec (.dieLinkSlotRx 3 0 1 0 goodSlot) (s 5 0)) (fun t => (t.dlane 3 0 1).crcErrors = 0 ∧ (t.dlane 3 0 1).slot = 6) = true ∧
    after (exec (.dieLinkSlotRx 3 0 1 0 goodSlot) (s 126 21)) (fun t => (t.link 3).stampUp = 42) = true := by decide +kernel

/-- Stuffing (R195): after 63 equal bits the opposite bit is not counted, the same bit is a violation. -/
theorem test_stuffing :
    destuff false 0 64 (List.replicate 63 true ++ [false, true]) = some (List.replicate 64 true) ∧
    destuff false 0 64 (List.replicate 65 true) = none ∧ destuff false 0 63 (List.replicate 65 true) = some (List.replicate 63 true) := by decide +kernel

theorem test_controlCell :
    let s := fun (n : Nat) => open_.modLink 2 fun l => { l with resendUp := n }
    after (exec (.controlCellResend 2 0 (zeros 16) false) (s 3)) (fun t => (t.link 2).resendUp = 4) = true ∧
    after (exec (.controlCellResend 2 0 (zeros 16) false) (s 4)) (fun t => (t.link 2).resendUp = 0) = true ∧
    after (exec (.controlCellResend 2 0 (zeros 16) true) (s 1)) (fun t => (t.link 2).resendUp = 0) = true := by decide +kernel

theorem test_margin :
    let th := open_.get (Obj.QD_MARGIN_THRESH 3)
    let low := fun (t0 : Nat) => open_.modDlane 3 0 1 fun d => { d with lowSince := some t0 }
    0 < th ∧ after (exec (.marginMeasure 3 0 1 th) (low 5)) (fun t => (t.dlane 3 0 1).margin = some th ∧ (t.dlane 3 0 1).lowSince = none) = true ∧
    after (exec (.marginMeasure 3 0 1 (th - 1)) open_) (fun t => (t.dlane 3 0 1).lowSince = some live.now) = true ∧
    after (exec (.marginMeasure 3 0 1 (th - 1)) (low (live.now - 7999999))) (fun t => t.flt.repairs = []) = true ∧
    after (exec (.marginMeasure 3 0 1 (th - 1)) (low (live.now - 8000000))) (fun t => (t.source 134).status = 3 ∧ t.flt.repairs.length = 1) = true ∧
    after (exec (.dieLinkLockLoss 3 0 1 false) open_) (fun t => (t.dlane 3 0 1).locked = false ∧ (t.source 134).status = 3 ∧
      (t.flt.repairs.map fun x => (x.stack, x.kind)) = [(6, .dieLink 3 0 1)]) = true ∧
    after (exec (.dieLinkLockLoss 3 0 0 true) open_) (fun t => (t.link 3).state = 4 ∧ t.get Obj.FLT_EVENTS = 2) = true := by decide +kernel

/-- Quoin 3's manager has a repair of lane 1 waiting. -/
def broken : State := { open_ with flt := { open_.flt with repairs := [⟨6, some 134, .dieLink 3 0 1, 1, live.now, false⟩] } }

/-- The repair of lane 1 by spare 26, at a stage. -/
def mending (stage : RepStage) (clean : Nat) : State :=
  (((broken.modLink 3 fun l => { l with repair := some ⟨0, 1, 1, 26, 1, stage, false, some 134, clean, none⟩ }).modDlane 3 0 26 fun d => { d with state := 2 }).modSource 134
    fun x => { x with status := 3 })

theorem test_mirrorMismatch :
    let s := fun (body : Nat) => ((mending .mirroring 9).modLink 3 fun l => { l with repair := l.repair.map fun r => { r with held := some (26, 6, body) } }).modDlane 3 0 1
      fun d => { d with scr := 0, slot := 5 }
    ((s 7).mirrorOf 3 0 1).isSome ∧
    after (exec (.dieLinkSlotRx 3 0 1 0 goodSlot) (s 7)) (fun t => (t.link 3).mismatches = 1 ∧ t.get (Obj.QD_LOST_SLOTS 3) = 0) = true ∧
    after (exec (.dieLinkSlotRx 3 0 1 0 goodSlot) (s 0)) (fun t => (t.link 3).mismatches = 0) = true := by decide +kernel

theorem test_repair :
    (open_.dlane 3 0 1).logical = some 1 ∧ open_.spareFor 3 0 1 = some 26 ∧
    after (exec (.repairSpareChoice 3) broken) (fun t => (t.link 3).repair = some ⟨0, 1, 1, 26, 1, .chosen, false, some 134, 0, none⟩ ∧ (t.dlane 3 0 26).state = 2) = true ∧
    after (exec (.mirrorStart 3) (mending .chosen 9)) (fun t => (t.dlane 3 0 26).logical = some 1 ∧ (t.dlane 3 0 1).logical = some 1) = true ∧
    after (exec (.mirrorSwitch 3) (mending .mirroring 4095)) (fun t => (t.dlane 3 0 1).logical = some 1) = true ∧
    after (exec (.mirrorSwitch 3) (mending .mirroring 4096)) (fun t => (t.dlane 3 0 1).logical = none ∧ (t.dlane 3 0 26).state = 0) = true ∧
    after (exec (.mirrorSwitch 3) ((mending .mirroring 0).modDlane 3 0 1 fun d => { d with locked := false })) (fun t => (t.dlane 3 0 1).logical = none) = true ∧
    after (exec (.repairStopSlot 3) (mending .switched 0)) (fun t => (t.link 3).repair = none ∧ (t.dlane 3 0 1).state = 3 ∧ t.get (Obj.QD_REPAIRS 3) = 1 ∧
      t.get (Obj.QD_LAST_REPAIR 3) = 2 ^ 56 + 2 ^ 32 + 65536 + 26) = true := by decide +kernel

theorem test_repairStart :
    let s := fun (w : Nat) => set open_ [(Obj.QD_REPAIR_LANE 3, w)]
    let noSpare := s 1 |>.modLink 3 fun l => { l with lanes := (upTo 16).map fun g => (27 * g + 26, { state := 3, logical := none }) }
    starts (s 432) (Obj.QD_REPAIR 3) .qdRepair (fun t => t.get (Obj.QD_REPAIR 3) = 2 ^ 32 + 7 * 65536 + 1) = true ∧
    starts ((s 1).modDlane 3 0 1 fun d => { d with state := 3, logical := none }) (Obj.QD_REPAIR 3) .qdRepair (fun t => t.get (Obj.QD_REPAIR 3) = 2 ^ 32 + 7 * 65536 + 2) = true ∧
    starts (s (32768 + 26)) (Obj.QD_REPAIR 3) .qdRepair (fun t => (t.dlane 3 1 26).state = 3 ∧ t.get (Obj.QD_REPAIR 3) = 2 ^ 32) = true ∧
    noSpare.spareFor 3 0 1 = none ∧ noSpare.gatedLane 3 0 = none ∧
    starts noSpare (Obj.QD_REPAIR 3) .qdRepair (fun t => t.get (Obj.QD_REPAIR 3) = 2 ^ 32 + 7 * 65536 + 3) = true ∧
    starts (s 1) (Obj.QD_REPAIR 3) .qdRepair (fun t => t.isBusy (Obj.QD_REPAIR 3) ∧ t.flt.repairs = [⟨6, none, .dieLink 3 0 1, 4, live.now, false⟩]) = true := by decide +kernel

/-! ### Ports (08) -/

theorem test_portUp :
    let s := fun (t : Nat) => (set open_ [(Obj.PT_UP_HOLD 0, 10)]).modPort 0 fun x => { x with up := false, okSince := some t }
    (s (live.now - 8000000)).mayComeUp 0 = true ∧ after (exec (.portUp 0) (s (live.now - 8000000))) (fun t => (t.port 0).up ∧ t.get (Obj.PT_LINK_CHANGES 0) = 1) = true ∧
    (s (live.now - 7999999)).mayComeUp 0 = false ∧ after (exec (.portUp 0) (s (live.now - 7999999))) (fun t => (t.port 0).up = false) = true := by decide +kernel

theorem test_portDown :
    let s := fun (b : Nat) => (set open_ [(Obj.PT_DOWN_HOLD 8, 10)]).modPort 8 fun x => { x with badSince := some b, timers := [(8, 5)] }
    after (exec (.portDown 8) (s (live.now - 8000000))) (fun t => (t.port 8).up = false ∧ (t.port 8).flushing ∧ (t.port 8).timers = [] ∧ t.get (Obj.Q_FLUSH_STATE 8) = 1) = true ∧
    after (exec (.portDown 8) (s (live.now - 7999999))) (fun t => (t.port 8).up) = true ∧
    (set open_ [(Obj.LN_TX_DISABLE 9, 1)]).portHeld 8 = true ∧ after (exec (.portDown 8) (set open_ [(Obj.LN_TX_DISABLE 9, 1)])) (fun t => (t.port 8).up = false) = true ∧
    after (exec (.portDown 8) (set open_ [(Obj.PT_ENABLE 8, 0)])) (fun t => (t.port 8).up = false) = true ∧
    after (exec (.portDown 8) open_) (fun t => (t.port 8).up) = true := by decide +kernel

theorem test_flush :
    after (exec (.flushComplete 8) ((set open_ [(Obj.Q_FLUSH_STATE 8, 1)]).modPort 8 fun x => { x with up := false, okSince := none, flushing := true }))
      (fun t => (t.port 8).flushing = false ∧ t.get (Obj.Q_FLUSH_STATE 8) = 0 ∧ (t.queue 8 15).entries = []) = true := by decide +kernel

theorem test_pauseRx :
    let l : PauseLoad := ⟨live.now, true, 0, [10]⟩
    let pfc : PauseLoad := ⟨live.now, false, 3, [0, 7, 0, 0, 0, 0, 0, 0]⟩
    let s := fun (x : PauseLoad) => (set open_ [(Obj.PT_PFC_ENABLE 0, 2)]).modPort 0 fun p => { p with loads := [x], timers := [(0, 9), (1, 9)] }
    after (exec (.pauseFrameRx 0) (s l)) (fun t => (t.port 0).loads = [] ∧ smGet 0 (t.port 0).timers 8 = live.now + 164 ∧ quantaTicks 25 10 = 164) = true ∧
    after (exec (.pauseFrameRx 0) (s { l with at_ := live.now + 1 })) (fun t => (t.port 0).loads.length = 1) = true ∧
    after (exec (.pauseFrameRx 0) (s pfc)) (fun t => smGet 0 (t.port 0).timers 0 = 9 ∧ smGet 0 (t.port 0).timers 1 = live.now + 115) = true ∧
    after (exec (.pauseTimerExpiry 0 1) (s pfc)) (fun t => (t.port 0).timers = [(0, 9)]) = true ∧
    after (exec (.pauseTimerExpiry 0 1) (open_.modPort 0 fun p => { p with timers := [(1, live.now + 1)] })) (fun t => (t.port 0).timers.length = 1) = true := by decide +kernel

theorem test_pauseTx :
    let s := (set open_ [(Obj.PT_FC_MODE 0, 2), (Obj.PT_PFC_ENABLE 0, 1)]).modPort 0 fun p => { p with xoff := 1, refused := [(0, 0)] }
    after (exec (.pauseRefresh 0) s) (fun t => (t.port 0).lastPause = live.now ∧ t.out.length = 1 ∧ t.get (Obj.CTR_TX_PAUSE 0) = 1) = true ∧
    after (exec (.pauseRefresh 0) (s.modPort 0 fun p => { p with sending := some ⟨0, [], 0, 0, 0, false, none, 0, none, 0, false, false, false⟩ }))
      (fun t => t.out = [] ∧ (t.port 0).pauseDue = some 0) = true ∧
    s.admits 0 0 = true ∧ after (exec (.losslessRefusalCheck 0) s) (fun t => (t.port 0).refused = [] ∧ (t.port 0).xoff = 0) = true := by decide +kernel

theorem test_lpi :
    let s := set open_ [(Obj.PT_LPI_ENABLE 0, 1)]
    after (exec (.lpiEntry 0) s) (fun t => (t.port 0).txLpi ∧ (t.port 0).txLpiSince = live.now ∧ t.out = [.lpi 0 true] ∧ t.get (Obj.CTR_LPI_TX_ENTRIES 0) = 1) = true ∧
    after (exec (.lpiRxChange 0 true) open_) (fun t => (t.port 0).rxLpi ∧ (t.port 0).rxLpiSince = live.now) = true ∧
    after (exec (.lpiRxChange 0 false) (open_.modPort 0 fun p => { p with rxLpi := true, rxLpiSince := live.now - 1600 })) (fun t => (t.port 0).rxLpi = false ∧
      t.get (Obj.CTR_LPI_RX_US 0) = 2) = true := by decide +kernel

/-- A wake whose time has passed for every value of Tw that a port may have. -/
theorem witness_lpiWake : (open_.modPort 0 fun p => { p with waking := some 0 }).port 0 ≠ {} ∧
    ((open_.modPort 0 fun p => { p with waking := some 0 }).port 0).waking = some 0 ∧ 0 + 65536 * 800 ≤ live.now := by decide +kernel

theorem test_lldp :
    let eee : Bytes := beBytes 6 0x0180C200000E ++ zeros 6 ++ [0x88, 0xCC] ++ lldpTlv 127 ([0x00, 0x12, 0x0F, 0x05] ++ beBytes 2 0 ++ beBytes 2 77 ++ zeros 6) ++ zeros 2
    let s := fun (f : Bytes) => (set open_ [(Obj.PT_LPI_TW 0, 5), (Obj.PT_LLDP 0, 1)]).modPort 0 fun p => { p with lldpRx := [f], lldpHeard := live.now - 72000000000, lldpSent := some (live.now - 23999999999) }
    lldpEee (eee.drop 14) eee.length = some 77 ∧ after (exec (.lldpRx 0) (s eee)) (fun t => t.get (Obj.PT_LPI_TW 0) = 77 ∧ (t.port 0).lldpHeard = live.now ∧ (t.port 0).lldpRx = []) = true ∧
    after (exec (.lldpRx 0) (s (zeros 60))) (fun t => t.get (Obj.PT_LPI_TW 0) = 5 ∧ (t.port 0).lldpRx = []) = true ∧
    after (exec (.lldpTimeout 0) (s eee)) (fun t => t.get (Obj.PT_LPI_TW 0) = 0) = true ∧
    after (exec (.lldpSend 0) (s eee)) (fun t => (t.port 0).lldpSent = some (live.now - 23999999999)) = true := by decide +kernel

theorem witness_lldpSend : (set open_ [(Obj.PT_LLDP 0, 1)]).portUp 0 = true ∧ (set open_ [(Obj.PT_LLDP 0, 1)]).get (Obj.PT_LLDP 0) = 1 ∧
    ((set open_ [(Obj.PT_LLDP 0, 1)]).port 0).lldpSent = none := by decide +kernel

/-- A frame of 60 bytes without FCS, untagged, of an EtherType outside the rules of R222. -/
def frame60 : Bytes := beBytes 6 7 ++ beBytes 6 9 ++ [0x12, 0x34] ++ zeros 46

theorem test_frameRx :
    let good := frame60 ++ fcsBytes frame60
    let rx := fun (f : Bytes) (s : State) (p : State → Bool) => after (exec (.frameRx 0 f false {}) s) p
    let full := open_.modPort 0 fun p => { p with fifo := [⟨zeros 32768, false, 0, 0, false, false, .pipeline, 0⟩] }
    good.length = 64 ∧ open_.tagRefused 0 false 0 = false ∧ ptpFind (open_.get (Obj.PT_STAG_TPID 0)) frame60 = none ∧
    rx good open_ (fun t => ((t.port 0).fifo.map fun x => (x.bytes.length, x.bad)) = [(60, false)] ∧ t.get (Obj.CTR_RX_FRAMES 0) = 1 ∧ t.get (Obj.CTR_RX_OCTETS 0) = 64) = true ∧
    rx (frame60 ++ zeros 4) open_ (fun t => ((t.port 0).fifo.map fun x => x.bad) = [true] ∧ t.get (Obj.CTR_RX_FCS_ERR 0) = 1 ∧ t.get (Obj.CTR_RX_FRAMES 0) = 0) = true ∧
    rx (good.take 63) open_ (fun t => (t.port 0).fifo = [] ∧ t.get (Obj.CTR_RX_FRAGMENT 0) = 1) = true ∧
    rx good full (fun t => (t.port 0).fifo.length = 1 ∧ t.get (Obj.CTR_RX_OVERFLOW_DROP 0) = 1 ∧ t.get (Obj.CTR_RX_FRAMES 0) = 1) = true ∧
    rx good (open_.modPort 0 fun p => { p with up := false }) (fun t => t.get (Obj.CTR_RX_FRAMES 0) = 0) = true := by decide +kernel

/-- R185: under near-end loopback the frame that was sent arrives and the balls are ignored; under far-end loopback the balls carry the frame back. -/
theorem test_loopback :
    let good := frame60 ++ fcsBytes frame60
    let near := fun (l : List Bytes) => (set open_ [(Obj.LN_LOOPBACK 0, 1)]).modPort 0 fun p => { p with loop := l }
    let far := ((set open_ [(Obj.LN_LOOPBACK 0, 3)]).modPort 0 fun p => { p with up := false }).modLane 0 fun l => { l with cdr := true }
    let rx := fun (s : State) (p : State → Bool) => after (exec (.frameRx 0 (zeros 64) false {}) s) p
    (near [good]).portUp 0 = true ∧ (near [good]).nearLoop 0 = true ∧ far.portUp 0 = false ∧ far.farLoop 0 = true ∧
    rx (near [good, []]) (fun t => ((t.port 0).fifo.map fun x => (x.bytes, x.bad)) = [(frame60, false)] ∧ (t.port 0).loop = [[]]) = true ∧
    rx (near []) (fun t => (t.port 0).fifo = [] ∧ t.get (Obj.CTR_RX_FCS_ERR 0) = 0) = true ∧
    rx far (fun t => t.out = [.frame 0 (zeros 64) false] ∧ (t.port 0).fifo = []) = true := by decide +kernel

/-- The CRC-32 of IEEE 802.3 over the nine digits, 0xCBF43926, sent low byte first. -/
theorem test_fcs : fcsBytes [0x31, 0x32, 0x33, 0x34, 0x35, 0x36, 0x37, 0x38, 0x39] = [0x26, 0x39, 0xF4, 0xCB] := by decide +kernel


/-! ### Large sends, statistics, frames into the galley (08, 11) -/

/-- The record of a large send to port 0, queue 2: L3 kind, header length, L3 offset, payload of a segment, total. -/
def sendRec (l3 hdr off seg total : Nat) : Bytes := beBytes 8 (2 * 2 ^ 50 + l3 * 2 ^ 48 + hdr * 2 ^ 39 + off * 2 ^ 31 + seg * 2 ^ 17 + total)

theorem test_largeSend :
    let r := sendRec 0 14 0 10 25
    (parseLarge r).queue = 2 ∧ (parseLarge r).hdrLen = 14 ∧ (parseLarge r).seg = 10 ∧ (parseLarge r).total = 25 ∧
    open_.largeRefused (parseLarge r) (zeros 14) = false ∧
    (segmentsFrom (parseLarge r) (zeros 14) 0 (zeros 25) 25).map List.length = [24, 24, 19] ∧
    after (exec (.largeSend r (zeros 14) (zeros 25)) open_) (fun t => t.get (Obj.CTR_TX_LSO_SEGMENTS 0) = 3 ∧ (t.queue 0 2).entries.length = 3) = true ∧
    live.largeRefused (parseLarge r) (zeros 14) = true ∧
    after (exec (.largeSend r (zeros 14) (zeros 25)) live) (fun t => t.get (Obj.CTR_TX_LSO_REFUSED 0) = 1) = true ∧
    (8 + 128 + 65400 = 65536 ∧ (parseLarge (sendRec 2 128 80 1 65400)).l3 = 2 ∧ (parseLarge (sendRec 2 128 80 1 65400)).total = 65400) := by decide +kernel

/-- The IPv4 identification of a segment counts up and its header checksum is right (R233). -/
theorem test_segment :
    let t := zeros 14 ++ [0x45, 0, 0, 0, 0, 9, 0x40, 0, 64, 17, 0, 0, 10, 0, 0, 1, 10, 0, 0, 2] ++ zeros 8
    let f := segment (parseLarge (sendRec 1 42 14 4 8)) t 1 (zeros 4)
    u f 16 2 = 32 ∧ u f 18 2 = 10 ∧ u f 38 2 = 12 ∧ inetChecksum (slice f 14 20) = 0 := by decide +kernel

theorem test_ctrClear :
    starts (set live [(Obj.CTR_RX_FRAMES 3, 9), (Obj.CTR_RX_FRAMES 2, 7)]) (Obj.CTR_CLEAR 3) .ctrClear
      (fun t => t.get (Obj.CTR_RX_FRAMES 3) = 0 ∧ t.get (Obj.CTR_RX_FRAMES 2) = 7 ∧ t.get (Obj.CTR_CLEAR 3) / 2 ^ 32 = 1) = true := by decide +kernel

/-- A frame of the management engine's and one of the pipeline's in port 0's FIFO. -/
def fed (d : RxDest) : State := open_.modPort 0 fun x => { x with fifo := [⟨frame60, false, 0, 0, false, false, d, 0⟩] }

theorem test_ingress :
    let free := fun (s : State) => s.modGalley fun g => { g with free := [0, 0, 0, 0] }
    (fed .management).entersParser ⟨frame60, false, 0, 0, false, false, .management, 0⟩ = false ∧
    (fed .pipeline).entersParser ⟨frame60, false, 0, 0, false, false, .pipeline, 0⟩ = true ∧
    after (exec (.ingressPipeline 0) (fed .management)) (fun t => (t.port 0).fifo = [] ∧
      ((t.port 0).writing.map fun w => (w.rest, w.dtype, t.chainOf w.desc, t.storedOf w.desc)) = some ([], 3, [(0, 0)], 92)) = true ∧
    after (exec (.ingressPipeline 0) (free (fed .management))) (fun t => (t.port 0).writing = none) = true ∧
    after (exec (.ingressPipeline 0) (free (fed .pipeline))) (fun t => t.get (Obj.PLN_IN_PKTS 0) = 1 ∧ (t.port 0).writing = none) = true := by decide +kernel

/-- A frame of port 0 being written to its only buffer, destined for queue 2 of port 8. -/
def writing_ (rest : Bytes) (failed : Bool) : State :=
  { (open_.modPort 0 fun x => { x with writing := some ⟨0, rest, false, .pipeline, 1, 8, 2, false, false, failed, none, 1538, 0⟩ }) with
    galley := { open_.galley with descs := [(0, some (.frame 0 0 0 false false false 224 1 [(0, 0)] 0 1538))], held := [(0, 1)],
                                  free := [1048575, 196608, 47104, 20480] } }

theorem test_growth :
    let none_ := (writing_ (zeros 100) false).modGalley fun g => { g with free := [1, 0, 0, 0] }
    after (exec (.growthRequest 0) (writing_ (zeros 100) false)) (fun t => t.chainOf 0 = [(0, 0), (1, 1048576)] ∧
      ((t.port 0).writing.map fun w => (w.rest, w.failed)) = some ([], false) ∧ t.storedOf 0 = 324) = true ∧
    after (exec (.growthRequest 0) none_) (fun t => ((t.port 0).writing.map fun w => w.failed) = some true) = true ∧
    after (exec (.frameTailWritten 0) (writing_ (zeros 100) true)) (fun t => (t.port 0).writing = none ∧ t.sched = open_.sched) = true ∧
    after (exec (.frameTailWritten 0) (writing_ [] false)) (fun t => (t.port 0).writing = none ∧ ((t.queue 8 2).entries.map fun e => e.desc) = [0] ∧
      t.dstateOf 0 = 1) = true := by decide +kernel

/-! ### Programs (09) -/

/-- A sound header of an image with IMAGE_ID 7. -/
def header7 : Nat := 0x4A5A5350 * 2 ^ 224 + 2 ^ 208 + 90176 * 2 ^ 160 + 7 * 2 ^ 128

theorem crcR_lt (l : Bytes) (r : Nat) (h : r < 2 ^ 32) : crcR 0xEDB88320 r l < 2 ^ 32 := by
  have step : ∀ r, r < 2 ^ 32 → crcRStep 0xEDB88320 r < 2 ^ 32 := fun r h => by
    unfold crcRStep
    split
    · exact Nat.xor_lt_two_pow (by omega) (by decide)
    · omega
  induction l generalizing r with
  | nil => exact h
  | cons b t ih =>
    refine ih _ ?_
    simp only [crcRByte]
    have hb : r ^^^ b.toNat < 2 ^ 32 := Nat.xor_lt_two_pow h (by have := b.isLt; omega)
    repeat' first | exact hb | apply step

theorem imageCrc_lt (im : Image) : imageCrc im < 2 ^ 32 := Nat.xor_lt_two_pow (crcR_lt _ _ (by decide)) (by decide)

theorem imageBytes_append (im : Image) (a b : List Nat) : imageBytes im (a ++ b) = imageBytes im a ++ imageBytes im b := by
  simp [imageBytes]

theorem length_beBytes (n v : Nat) : (beBytes n v).length = n := by
  induction n with
  | zero => rfl
  | succ n ih => simp [beBytes, ih]

/-- The bytes above the last four of a 32-bit number's 32 bytes are zero. -/
theorem take_beBytes (v : Nat) (h : v < 2 ^ 32) : (beBytes 32 v).take 28 = zeros 28 := by
  have z : ∀ k, 32 ≤ k → (BitVec.ofNat 8 (v >>> k)) = 0#8 := fun k hk => by
    have : v >>> k = 0 := by
      rw [Nat.shiftRight_eq_div_pow]
      exact Nat.div_eq_of_lt (Nat.lt_of_lt_of_le h (Nat.pow_le_pow_right (by omega) hk))
    simp [this]
  have e : ∀ m, (beBytes (m + 4) v).take m = zeros m := fun m => by
    induction m with
    | zero => rfl
    | succ m ih =>
      rw [show m + 1 + 4 = (m + 4) + 1 by omega]
      rw [beBytes, List.take_succ_cons, z (8 * (m + 4)) (by omega), ih]
      rfl
  exact e 28

/-- The bytes that the CRC of an image covers, when only the header and the CRC field are written. -/
theorem imageBytes_cut (h v n : Nat) (hv : v < 2 ^ 32) :
    (imageBytes [(0, h), (1, v)] (upTo (2 + n))).take 60 ++ (imageBytes [(0, h), (1, v)] (upTo (2 + n))).drop 64 =
      beBytes 32 h ++ zeros 28 ++ imageBytes [] ((List.range n).map (2 + ·)) := by
  have hr : upTo (2 + n) = [0, 1] ++ (List.range n).map (2 + ·) := by simp [upTo, List.range_add, List.range_succ]
  have tail : imageBytes [(0, h), (1, v)] ((List.range n).map (2 + ·)) = imageBytes [] ((List.range n).map (2 + ·)) := by
    have : ∀ k, smGet 0 [(0, h), (1, v)] (2 + k) = smGet 0 [] (2 + k) := fun k => by
      simp only [smGet, if_neg (show ¬ (0 = 2 + k) by omega), if_neg (show ¬ (1 = 2 + k) by omega)]
    simp only [imageBytes, List.map_map]
    exact congrArg List.flatten (List.map_congr_left fun k _ => by simp only [Function.comp, this])
  have head : imageBytes [(0, h), (1, v)] [0, 1] = beBytes 32 h ++ beBytes 32 v := by
    simp only [imageBytes, List.map_cons, List.map_nil, List.flatten_cons, List.flatten_nil, List.append_nil, smGet]
    rfl
  rw [hr, imageBytes_append, tail, head]
  have lh := length_beBytes 32 h
  have lv := length_beBytes 32 v
  rw [List.take_append_of_le_length (by rw [List.length_append, lh, lv] <;> omega), List.drop_append, List.take_append, lh, List.drop_eq_nil_of_le (by rw [List.length_append, lh, lv] <;> omega),
      List.take_of_length_le (by omega), take_beBytes v hv, List.length_append, lh, lv]
  simp

/-- The CRC of an image does not depend on a CRC field that fits it. -/
theorem imageCrc_field (h v : Nat) (hv : v < 2 ^ 32) : imageCrc [(0, h), (1, v)] = imageCrc [(0, h), (1, 0)] := by
  have e : ∀ w, imageCrc [(0, h), (1, w)] = crc32 ((imageBytes [(0, h), (1, w)] (upTo (2 + 2816))).take 60 ++
    (imageBytes [(0, h), (1, w)] (upTo (2 + 2816))).drop 64) := fun _ => rfl
  rw [e, e, imageBytes_cut h v 2816 hv, imageBytes_cut h 0 2816 (by decide)]

theorem header7_ok (v : Nat) : imageHeaderOk [(0, header7), (1, v)] = true := by
  have h : smGet 0 ([(0, header7), (1, v)] : Image) 0 = header7 := by simp [smGet]
  unfold imageHeaderOk imageId
  rw [h]
  decide +kernel

theorem header7_field (v : Nat) (hv : v < 2 ^ 32) : imageCrcField [(0, header7), (1, v)] = v := by
  have h : smGet 0 ([(0, header7), (1, v)] : Image) 1 = v := by simp [smGet]
  unfold imageCrcField
  rw [h]
  exact Nat.mod_eq_of_lt hv

theorem header7_words (v : Nat) : imageWords [(0, header7), (1, v)] = [] := by simp [imageWords]

theorem header7_nodes (v : Nat) : ([(0, header7), (1, v)] : Image).find? (fun e => decide (2 ≤ e.1 ∧ e.1 < 258) && !nodeOk e.2) = none := by
  rw [List.find?_eq_none]
  intro e he
  simp only [List.mem_cons, List.not_mem_nil, or_false] at he
  rcases he with rfl | rfl <;> simp

/-- An image without stage words and nodes passes the check when its header and its CRC do. -/
theorem imageCheck_none (im : Image) (hh : imageHeaderOk im = true) (hc : imageCrc im = imageCrcField im)
    (hn : im.find? (fun e => decide (2 ≤ e.1 ∧ e.1 < 258) && !nodeOk e.2) = none) (hw : imageWords im = []) : imageCheck im 90176 = none := by
  unfold imageCheck
  rw [hh, hc, hn, hw]
  simp [firstBad]

/-- An image of which only the header and the CRC are written, and which passes the check (R266). -/
theorem witness_imageCheck : ∃ v, imageCheck [(0, header7), (1, v)] 90176 = none :=
  ⟨_, imageCheck_none _ (header7_ok _) ((imageCrc_field _ _ (imageCrc_lt _)).trans (header7_field _ (imageCrc_lt _)).symm) (header7_nodes _) (header7_words _)⟩

theorem test_plnCheck :
    starts live Obj.PLN_CHECK .plnCheck (fun t => t.get Obj.PLN_CHECK % 2 ^ 16 = 1 ∧ (t.get Obj.PLN_CHECK / 2 ^ 16) % 256 = Res.badValue) = true ∧
    imageCheck [] 90176 = some (1, 0) ∧ imageCheck [(0, header7)] 90175 = some (2, 0) ∧ live.plnBusy = false := by decide +kernel

theorem test_plnInstall :
    let go := fun (id mask : Nat) (p : State → Bool) =>
      starts ({ set live [(Obj.PLN_CHECK_ID, id), (Obj.PLN_INSTALL_MASK, mask)] with pipes := { live.pipes with staging := [(0, header7)] } }) Obj.PLN_INSTALL .plnInstall p
    go 0 5 (fun t => t.standbyId 0 = 0 ∧ t.get Obj.PLN_INSTALL % 2 ^ 16 = 1) = true ∧
    go 7 0 (fun t => t.standbyId 0 = 0 ∧ t.get Obj.PLN_INSTALL % 2 ^ 16 = 2) = true ∧
    go 7 0x80000001 (fun t => t.standbyId 0 = 7 ∧ t.standbyId 1 = 0 ∧ t.standbyId 31 = 7 ∧ t.activeId 31 = 0 ∧ (t.pipe 31).bank1 = [(0, header7)] ∧
      (t.pipe 31).ingress1 = false) = true := by decide +kernel

/-- Pipelines 0 and 31 hold an image in their standby bank. -/
def standby : State := { live with pipes := { live.pipes with pipes := [(0, { id1 := 7 }), (31, { id1 := 7 })] } }

theorem test_plnSwitch :
    let go := fun (mask mode : Nat) (p : State → Bool) => starts (set standby [(Obj.PLN_SWITCH_MASK, mask), (Obj.PLN_SWITCH_MODE, mode)]) Obj.PLN_SWITCH .plnSwitch p
    go 3 0 (fun t => t.pipes.switch = none ∧ t.get Obj.PLN_SWITCH % 2 ^ 16 = 1) = true ∧
    go 0x80000001 1 (fun t => t.pipes.switch = some ⟨0x80000001, 1, false, 0, 0, false⟩ ∧ t.isBusy Obj.PLN_SWITCH) = true := by decide +kernel

/-- A switch of pipelines 0 and 31, and one frame waiting for port 8. -/
def switching (mode : Nat) (passed abort : Bool) (deadline : Nat) : State :=
  { standby with
    pipes := { standby.pipes with switch := some ⟨0x80000001, mode, passed, if passed then 5 else 0, deadline, abort⟩ }
    sched := { live.sched with queues := [(128, { entries := [⟨0, 84, 4, 0⟩] })], enqSeq := 4 } }

theorem test_ingressBankSwitch :
    after (exec .ingressBankSwitch (switching 0 false false 0)) (fun t => (t.pipe 0).ingress1 ∧ (t.pipe 0).egress1 ∧ (t.pipe 31).egress1 ∧ (t.pipe 1).ingress1 = false ∧
      t.pipes.switch = none) = true ∧
    after (exec .ingressBankSwitch (switching 1 false false 0)) (fun t => (t.pipe 0).ingress1 ∧ (t.pipe 0).egress1 = false ∧
      (t.pipes.switch.map fun x => (x.passed, x.seqT)) = some (true, 5)) = true := by decide +kernel

theorem test_egressBankSwitch :
    let up := fun (s : State) => { s with pipes := { s.pipes with pipes := [(0, { id1 := 7, ingress1 := true }), (31, { id1 := 7, ingress1 := true })] } }
    let empty := fun (s : State) => { s with sched := live.sched }
    let go := fun (s : State) (p : State → Bool) => after (exec .egressBankSwitch (up s)) p
    (switching 1 true false 0).drainLeft ⟨0x80000001, 1, true, 5, 0, false⟩ = 1 ∧
    (switching 1 true false 0).drainLeft ⟨0x80000001, 1, true, 4, 0, false⟩ = 0 ∧
    go (switching 1 true false (live.now + 1)) (fun t => (t.pipe 0).egress1 = false ∧ t.pipes.switch.isSome) = true ∧
    go (switching 1 true false live.now) (fun t => (t.pipe 0).egress1 ∧ t.get Obj.PLN_DRAIN_LEFT = 1 ∧ t.get Obj.PLN_SWITCH % 2 ^ 16 = 1) = true ∧
    go (switching 1 true true (live.now + 1)) (fun t => (t.pipe 0).egress1 ∧ (t.get Obj.PLN_SWITCH / 2 ^ 16) % 256 = Res.aborted) = true ∧
    go (empty (switching 1 true false (live.now + 1))) (fun t => (t.pipe 31).egress1 ∧ t.get Obj.PLN_DRAIN_LEFT = 0 ∧ t.pipes.switch = none) = true := by decide +kernel

/-! ### Tables and learning (10) -/

/-- A LEARN of pipeline 31 for MAC 0x22 in VLAN 5 at port 995. -/
def learn31 : LMsg := ⟨1, 31, false, false, 5, 0x22, 995, 77⟩

/-- Pipeline 31 wants to inject it, and a second message waits behind. -/
def injecting : State := live.modLearner 31 fun x => { x with inj := [learn31], waiting := [{ learn31 with kind := 3 }] }

theorem test_ringInject :
    let full := injecting.modTables fun t => { t with ring := List.replicate 32 (learn31, 0) }
    let room := injecting.modTables fun t => { t with ring := List.replicate 31 (learn31, 1) }
    after (exec (.ringInject 31) room) (fun t => t.tables.ring.length = 32 ∧ t.tables.ring.getLast? = some (learn31, 0) ∧ ((t.learner 31).inj.map fun m => m.kind) = [3] ∧
      (t.learner 31).waiting = [] ∧ t.get (Obj.TBL_LRN_EVENTS 31) = 1) = true ∧
    after (exec (.ringInject 31) full) (fun t => t.tables.ring.length = 32 ∧ (t.learner 31).inj = [learn31]) = true := by decide +kernel

/-- A message on the ring at pipeline 3. -/
def onRing (m : LMsg) : State := live.modTables fun t => { t with ring := [(m, 3)] }

theorem test_ringArrival :
    let arr := fun (s : State) (bad : Bool) (p : State → Bool) => after (exec (.ringMessageArrival 3 bad) s) p
    let slot := 3 * 65536 + 4 * live.bucket 5 0x22
    let held := fun (e : Nat) (m : LMsg) => (onRing m).modTables fun t => { t with learn := [(slot, e)] }
    let e0 := Lrn.entry false true false 5 0x22 995 77
    arr (onRing learn31) true (fun t => t.tables.ring = [] ∧ t.get (Obj.TBL_LRN_RING_ERR 3) = 1) = true ∧
    arr (onRing { learn31 with origin := 3 }) false (fun t => t.tables.ring = [] ∧ t.tables.learn = []) = true ∧
    (live.pipeGated 3 = false ∧ (set (onRing learn31) [(Obj.PWR_GATE_PIPES, 8)]).pipeGated 3 = true) ∧
    arr (set (onRing learn31) [(Obj.PWR_GATE_PIPES, 8)]) false (fun t => t.tables.ring = [(learn31, 4)] ∧ t.tables.learn = []) = true ∧
    arr (onRing learn31) false (fun t => t.tables.ring = [(learn31, 4)] ∧ t.tables.learn = [(slot, e0)] ∧ t.get (Obj.TBL_LRN_LAG_MAX 3) = 2 ^ 32 - 1) = true ∧
    ((live.install 3 learn31).1 = .created ∧ ((held e0 learn31).install 3 learn31).1 = .nothing) ∧
    arr (held e0 { learn31 with kind := 2 }) false (fun t => t.tables.learn = []) = true ∧
    arr (held e0 { learn31 with stamp := 76, port := 996 }) false (fun t => t.tables.learn = [(slot, e0)]) = true := by decide +kernel

/-- A dynamic entry of port 96, unused since the last visit, in bucket 0 of pipeline 3. -/
def aged (visit : Nat) : State :=
  (live.modTables fun t => { t with learn := [(3 * 65536, Lrn.entry false false false 5 0x22 96 77)] }).modLearner 3 fun x => { x with visit := visit }

theorem test_ager :
    let at_ := fun (v start : Nat) => (aged v).modLearner 3 fun x => { x with passStart := start }
    live.uptime = 100000000000 ∧
    after (exec (.agerVisit 3) (aged 0)) (fun t => (t.learner 3).visit = 1 ∧ t.tables.learn = [] ∧ ((t.learner 3).inj.map fun m => m.kind) = [2]) = true ∧
    after (exec (.agerVisit 3) (aged 16384)) (fun t => t.tables.learn.length = 1) = true ∧
    32767 * 300 * 1000000000 ≤ 32768 * 300000000000 ∧
    after (exec (.agerVisit 3) ({ at_ 32767 0 with now := 240000000000 })) (fun t => (t.learner 3).visit = 0 ∧ (t.learner 3).passStart = 300000000000) = true ∧
    32768 * 100000000000 < 32767 * 300 * 1000000000 ∧ after (exec (.agerVisit 3) (at_ 32767 0)) (fun t => (t.learner 3).visit = 32767) = true ∧
    ((aged 0).ageWay 3 0 true true).lrn 3 0 = 0 ∧ (((aged 0).lrnRead 3 0 1).1 ≠ 0) := by decide +kernel

/-- The staged key of the table operations. -/
def keyed_ (vid mac port : Nat) : State := set live [(Obj.TBL_KEY, vid * 2 ^ 48 + mac), (Obj.TBL_KEY_PORT, port)]

theorem test_staticAdd :
    let add := fun (s : State) (p : State → Bool) => starts s Obj.TBL_STATIC_ADD .tblStaticAdd p
    let rec_ := fun (t : State) => ((t.get Obj.TBL_STATIC_ADD / 2 ^ 16) % 256, t.get Obj.TBL_STATIC_ADD % 2 ^ 16)
    let b := 4 * live.bucket 5 0x22
    let full := (keyed_ 5 0x22 1023).modTables fun t => { t with learn := (upTo 4).map fun w => (31 * 65536 + b + w, Lrn.entry true false false 6 w 0 0) }
    add (keyed_ 5 0x22 1024) (fun t => rec_ t = (Res.badValue, 1) ∧ t.tables.learn = []) = true ∧
    add (keyed_ 4096 0x22 0) (fun t => rec_ t = (Res.badValue, 1)) = true ∧
    add (keyed_ 5 0x010000000022 0) (fun t => rec_ t = (Res.badValue, 1)) = true ∧
    add (keyed_ 4095 0x22 1023) (fun t => rec_ t = (Res.ok, 0) ∧ t.tables.learn.length = 1 ∧ (t.learner 31).inj.length = 1) = true ∧
    add full (fun t => rec_ t = (Res.badLength, 2) ∧ t.tables.learn.length = 4) = true := by decide +kernel

theorem test_delete_flush :
    let s := (keyed_ 5 0x22 0).modTables fun t => { t with learn := [(3 * 65536 + 4 * live.bucket 5 0x22, Lrn.entry true true false 5 0x22 96 77)] }
    let f := fun (port vid : Nat) => set (aged 0) [(Obj.TBL_FLUSH_PORT, port), (Obj.TBL_FLUSH_VID, vid)]
    starts (keyed_ 5 0x23 0) Obj.TBL_DELETE .tblDelete (fun t => t.get Obj.TBL_DELETE % 2 ^ 16 = 3) = true ∧
    starts s Obj.TBL_DELETE .tblDelete (fun t => t.tables.learn = [] ∧ ((t.learner 3).inj.map fun m => (m.kind, m.force)) = [(2, true)] ∧ t.get Obj.TBL_DELETE % 2 ^ 24 = Res.ok * 65536) = true ∧
    starts (f 0xFFFF 0xFFFF) Obj.TBL_FLUSH .tblFlush (fun t => t.tables.learn = [] ∧ (t.learner 3).inj.length = 1) = true ∧
    starts (f 96 5) Obj.TBL_FLUSH .tblFlush (fun t => t.tables.learn = []) = true ∧
    starts (f 97 0xFFFF) Obj.TBL_FLUSH .tblFlush (fun t => t.tables.learn.length = 1) = true ∧
    starts (f 0xFFFF 6) Obj.TBL_FLUSH .tblFlush (fun t => t.tables.learn.length = 1) = true := by decide +kernel

/-! ### Routes (10) -/

/-- Routes in the window: each record's operation, family, PLEN, VRF, address and result. -/
def window (l : List (Nat × Nat × Nat × Nat × Nat × Nat)) : State :=
  let bytes : Bytes := l.flatMap fun (r : Nat × Nat × Nat × Nat × Nat × Nat) => [u8 r.1, u8 r.2.1, u8 r.2.2.1, 0] ++ beBytes 2 r.2.2.2.1 ++ [0, 0] ++ beBytes 16 r.2.2.2.2.1 ++ beBytes 4 r.2.2.2.2.2 ++ zeros 4
  live.modTables fun t => { t with ops := ((upTo bytes.length).zip bytes).filterMap (fun (e : Nat × Byte) => if e.2 = 0 then none else some (e.1, e.2.toNat)), opsTotal := some bytes.length }

/-- The same with the run at a record. -/
def applying (l : List (Nat × Nat × Nat × Nat × Nat × Nat)) (k : Nat) (abort : Bool) : State :=
  (window l).modTables fun t => { t with apply := some (k, l.length, abort) }

theorem test_lpmApply :
    starts live Obj.TBL_LPM_APPLY .tblLpmApply (fun t => t.get Obj.TBL_LPM_APPLY % 2 ^ 16 = 1 ∧ t.isBusy Obj.TBL_LPM_APPLY = false) = true ∧
    starts (window [(1, 0, 24, 3, 0x0A000100, 9), (1, 0, 0, 3, 0, 8)]) Obj.TBL_LPM_APPLY .tblLpmApply
      (fun t => t.isBusy Obj.TBL_LPM_APPLY ∧ t.tables.apply = some (0, 2, false)) = true := by decide +kernel

theorem test_lpmRecord :
    let run := fun (s : State) (p : State → Bool) => after (exec .lpmRecordComplete s) p
    let two := [(1, 0, 24, 3, 0x0A000100, 9), (1, 0, 32, 3, 0x0A000101, 8)]
    let rec_ := fun (t : State) => ((t.get Obj.TBL_LPM_APPLY / 2 ^ 16) % 256, t.get Obj.TBL_LPM_APPLY % 2 ^ 16)
    run (applying two 0 false) (fun t => t.get Obj.TBL_LPM_DONE = 1 ∧ t.tables.apply = some (1, 2, false) ∧ t.tables.dir4 = [(0x0A0, 128)] ∧
      t.get Obj.TBL_LPM_V4 = 1 ∧ t.get Obj.TBL_LPM_BLOCKS = 1 ∧ (t.lpm 0 false 3 0x0A0001FF).1 = some (24 * 2 ^ 56 + 9) ∧ (t.lpm 0 false 4 0x0A0001FF).1 = none) = true ∧
    run (applying two 0 true) (fun t => t.tables.apply = none ∧ rec_ t = (Res.aborted, 0) ∧ t.get Obj.TBL_LPM_DONE = 1) = true ∧
    run (applying two 1 true) (fun t => t.tables.apply = none ∧ rec_ t = (Res.ok, 0) ∧ t.get Obj.TBL_LPM_DONE = 2) = true ∧
    run (applying [(3, 0, 0, 0, 0, 0)] 0 false) (fun t => rec_ t = (Res.badValue, 2)) = true ∧
    run (applying [(1, 0, 33, 0, 0, 0)] 0 false) (fun t => rec_ t = (Res.badValue, 3)) = true ∧
    run (applying [(1, 1, 128, 0, 5, 0)] 0 false) (fun t => rec_ t = (Res.ok, 0) ∧ t.tables.dir6 = [(0, 128)]) = true ∧
    run (applying [(1, 0, 24, 0, 1, 0)] 0 false) (fun t => rec_ t = (Res.badValue, 4)) = true ∧
    run (applying [(2, 0, 24, 0, 0x0A000100, 0)] 0 false) (fun t => rec_ t = (Res.badValue, 5) ∧ t.tables.slots = []) = true ∧
    (let h := { applying two 0 false with cmp := { live.cmp with patchRun := some ⟨false, true, some 0⟩ } }; h.halted = true ∧ run h (fun t => t.tables.apply.isSome) = true) := by decide +kernel

/-- The longest prefix wins whatever the order of insertion, and deletion uncovers the shorter (R283, R287). -/
theorem test_longestPrefix :
    let r := fun (plen addr res : Nat) => (⟨false, 3, plen, addr, res⟩ : Route)
    let t0 : Tables := live.tables
    let add := fun (t : Tables) (x : Route) => match t.addRoute x with | .ok t1 => t1 | .error _ => t
    let t := add (add (add t0 (r 24 0x0A000100 9)) (r 32 0x0A000101 8)) (r 16 0x0A000000 7)
    let look := fun (t : Tables) (a : Nat) => (({ live with tables := t }).lpm 0 false 3 a).1.map fun v => v % 2 ^ 32
    look t 0x0A000101 = some 8 ∧ look t 0x0A000102 = some 9 ∧ look t 0x0A000201 = some 7 ∧ look t 0x0A010001 = none ∧
    look (t.deleteRoute (r 32 0x0A000101 0)) 0x0A000101 = some 9 ∧
    (t.deleteRoute (r 32 0x0A000101 0)).routes false 0 = [r 24 0x0A000100 9, r 16 0x0A000000 7] := by decide +kernel

/-! ### Restoration, sparing, the galley (10, 11) -/

/-- Flipped bits of one code word. -/
def flips (l : List (Nat × Nat)) : State := { live with mem := { live.mem with flips := l } }

theorem test_restoration :
    let two := flips [(memKey 3 (2 * 2 ^ 24) 10, 3)]
    (∃ syn, decodeKind 3 3 = .bad syn) ∧
    after (exec (.entryRestoration 2 0 5) two) (fun t => t.mem.flips = [] ∧ t.get (Obj.CHS_RESTORED 2) = 1) = true ∧
    after (exec (.entryRestoration 7 1 0) (flips [(memKey 4 (7 * 2 ^ 24) 1, 3)])) (fun t => t.mem.flips = [] ∧ t.get (Obj.CHS_RESTORED 7) = 1) = true ∧
    after (exec (.lpmShadowRewrite 7 131071) (flips [(memKey 5 (7 * 2 ^ 24) 131071, 1)])) (fun t => t.mem.flips = []) = true :=
  ⟨⟨_, rfl⟩, by decide +kernel⟩

/-- The spare of chase 7 is being filled for logical block 63. -/
def sparing : State := (set live [(Obj.CHS_LPM_SPARE_LBLOCK 7, 63)]).modTables fun t => { t with spares := [(7, ⟨63, 63, none⟩)] }

theorem test_lpmSpare :
    starts (set live [(Obj.CHS_LPM_SPARE_LBLOCK 7, 63)]) (Obj.CHS_LPM_SPARE_IN 7) .chsLpmSpareIn (fun t => t.tables.spares = [(7, ⟨63, 63, none⟩)] ∧ t.isBusy (Obj.CHS_LPM_SPARE_IN 7)) = true ∧
    starts (set live [(Obj.CHS_LPM_SPARE 7, 1)]) (Obj.CHS_LPM_SPARE_IN 7) .chsLpmSpareIn (fun t => t.get (Obj.CHS_LPM_SPARE_IN 7) % 2 ^ 16 = 1) = true ∧
    after (exec (.lpmSpareSwitch 7) (sparing.runBegin (Obj.CHS_LPM_SPARE_IN 7))) (fun t => t.get (Obj.CHS_LPM_SPARE 7) = 63 ∧ t.tables.spares = [] ∧
      (t.get (Obj.CHS_LPM_SPARE_IN 7) / 2 ^ 16) % 256 = Res.ok) = true := by decide +kernel

theorem test_hankRefill :
    let g := live.galley.setHank 3 63 { live.galley.hank 3 63 with pf := List.replicate 15 0 }
    let last := live.galley.setHank 0 0 { live.galley.hank 0 0 with head := 1048512 }
    after (exec (.hankRefill 0 0) live) (fun t => (t.galley.hank 0 0).pf = [0] ∧ (t.galley.hank 0 0).head = 64 ∧ (t.galley.hank 0 0).len = 16383 ∧
      t.galley.freeOf 0 = 1048576) = true ∧
    after (exec (.hankRefill 3 63) { live with galley := g }) (fun t => (t.galley.hank 3 63).pf.length = 16) = true ∧
    after (exec (.hankRefill 0 0) { live with galley := last }) (fun t => (t.galley.hank 0 0).headV = false ∧ (t.galley.hank 0 0).pf = [1048512]) = true := by decide +kernel

theorem test_carve :
    let staged := fun (n a b c d : Nat) => set live [(Obj.GAL_CARVE_GROUPS, n), (Obj.GAL_CARVE_AGATE, a), (Obj.GAL_CARVE_BREVIER, b), (Obj.GAL_CARVE_PICA, c), (Obj.GAL_CARVE_CANON, d)]
    let go := fun (s : State) (p : State → Bool) => starts s Obj.GAL_CARVE_APPLY .galCarveApply p
    let rec_ := fun (t : State) => ((t.get Obj.GAL_CARVE_APPLY / 2 ^ 16) % 256, t.get Obj.GAL_CARVE_APPLY % 2 ^ 16)
    go (staged 16 524288 98304 23552 10240) (fun t => rec_ t = (Res.ok, 0) ∧ t.galley.groups = 16 ∧ t.galley.free = [524288, 98304, 23552, 10240] ∧
      t.get Obj.GAL_CAPACITY = 512 ∧ t.get Obj.PWR_GATED_GROUPS = 0xFF00FF00) = true ∧
    go (staged 16 524289 98304 23552 10240) (fun t => rec_ t = (Res.badValue, 2) ∧ t.galley = live.galley) = true ∧
    go (staged 16 1048576 196608 47104 20480) (fun t => rec_ t = (Res.badValue, 3)) = true ∧
    go ((staged 16 524288 98304 23552 10240).modGalley fun g => { g with held := [(0, 1)] }) (fun t => rec_ t = (Res.badState, 1)) = true := by decide +kernel

theorem test_galRemap :
    let go := fun (s : State) (die group bank : Nat) (p : State → Bool) => starts (set s [(Obj.GAL_REMAP_BANK, die * 2 ^ 15 + group * 2 ^ 11 + bank)]) Obj.GAL_REMAP .galRemap p
    let rec_ := fun (t : State) => ((t.get Obj.GAL_REMAP / 2 ^ 16) % 256, t.get Obj.GAL_REMAP % 2 ^ 16)
    let gone := live.modGalley fun g => { g with retired := [(16 + 15) * 66 + 63] }
    let half := live.modGalley fun g => { g with groups := 16 }
    go live 1 15 66 (fun t => rec_ t = (Res.badValue, 1)) = true ∧
    go half 1 8 63 (fun t => rec_ t = (Res.badState, 0)) = true ∧
    go gone 1 15 63 (fun t => rec_ t = (Res.badValue, 2)) = true ∧
    go live 1 15 65 (fun t => rec_ t = (Res.ok, 0) ∧ t.galley.retired = [31 * 66 + 65]) = true ∧
    go live 1 15 63 (fun t => t.isBusy Obj.GAL_REMAP ∧ t.galley.copying = some ⟨1, 15, 63, 63, 64, 2⟩) = true ∧
    go (live.modGalley fun g => { g with retired := [31 * 66 + 64] }) 1 15 63 (fun t => t.galley.copying = some ⟨1, 15, 63, 63, 65, 2⟩) = true := by decide +kernel

theorem test_bankSwitch :
    let s := (live.modGalley fun g => { g with copying := some ⟨1, 15, 63, 63, 64, 2⟩ }).runBegin Obj.GAL_REMAP
    after (exec .bankRemapSwitch s) (fun t => t.galley.copying = none ∧ t.galley.remap = [(1024 + 15 * 64 + 63, 65)] ∧ t.galley.retired = [31 * 66 + 63] ∧
      t.get Obj.GAL_REMAPS = 1 ∧ (t.get Obj.GAL_REMAP / 2 ^ 16) % 256 = Res.ok ∧ t.bankLogical 1 15 64 = some 63 ∧ t.bankLogical 1 15 63 = none) = true := by decide +kernel

/-! ### Transmission, shaping, multicast (12, 08) -/

/-- The state a command leaves. -/
def left_ (o : Host.Outcome State Fault Refusal) : State := match o with | .next t => t | _ => State.reset

/-- A frame of 60 bytes from the Compositor waits in queue 2 of port 8, and no lane has a calibration record. -/
def queued : State := { open_.cmpSend 8 2 frame60 with store := { open_.store with bankA := { open_.store.bankA with calib := { factory := false } } } }

theorem test_pick :
    let two := (queued.cmpSend 8 15 frame60).cmpSend 8 7 frame60
    queued.pick 8 = some 2 ∧ two.get (Obj.Q_TIER 8 15) = 1 ∧ two.pick 8 = some 15 ∧ (queued.cmpSend 8 7 frame60).pick 8 = some 2 ∧
    (set (queued.cmpSend 8 7 frame60) [(Obj.Q_TIER 8 7, 1)]).pick 8 = some 7 := by decide +kernel

theorem test_dequeue :
    let shaped := (queued.modQueue 8 2 fun x => { x with shaped := true, credit := 0 })
    let dropped := { queued with galley := { queued.galley with words := [] } }
    queued.mem.flips = [] ∧ queued.flt.inj = none ∧ queued.portEligible 8 = true ∧ queued.storedOf 0 = 92 ∧ queued.headWanted 0 = 92 ∧
    after (exec (.dequeue 8) queued) (fun t => (t.queue 8 2).entries = [] ∧ t.get (Obj.Q_DEQ 8 2) = 1 ∧ t.inflight 8 = 84 ∧
      ((t.port 8).tx.map fun f => (f.desc, f.queue, f.cl, f.win == frame60, f.fromCmp)) = [(0, 2, 84, true, true)] ∧ t.get (Obj.PLN_OUT_PKTS 0) = 1) = true ∧
    after (exec (.dequeue 8) shaped) (fun t => (t.queue 8 2).credit = -672000) = true ∧
    after (exec (.dequeue 8) dropped) (fun t => (t.queue 8 2).entries = [] ∧ t.inflight 8 = 0 ∧ (t.port 8).tx = [] ∧ t.get (Obj.PLN_DROPS 0) = 1) = true ∧
    (let s := { queued with sched := { queued.sched with inflight := [(8, queued.window 8)] } }; s.portEligible 8 = false ∧
      after (exec (.dequeue 8) s) (fun t => (t.queue 8 2).entries.length = 1) = true) := by decide +kernel

theorem test_transmit :
    let s := left_ (exec (.dequeue 8) queued)
    s.txPtp 8 (listAt ⟨0, [], 0, 0, 0, false, none, 0, none, 0, false, false, false⟩ (s.port 8).tx 0) = none ∧
    after (exec (.frameTransmit 8 {}) s) (fun t => (t.port 8).tx = [] ∧ ((t.port 8).sending.map fun f => f.win == frame60) = some true) = true ∧
    after (exec (.transmitComplete 8) (left_ (exec (.frameTransmit 8 {}) s))) (fun t => t.out = [.frame 8 (frame60 ++ fcsBytes frame60) false] ∧
      (t.port 8).sending = none ∧ t.inflight 8 = 0 ∧ t.galley.descs = [] ∧ t.galley.held = [] ∧ t.get (Obj.CTR_TX_FRAMES 8) = 1) = true ∧
    after (exec (.transmitComplete 8) queued) (fun t => t.out = []) = true := by decide +kernel

/-- A PTP message of a type over Ethernet; with an AUTHENTICATION TLV it is 18 bytes longer. -/
def ptpFrame (type : Nat) (auth : Bool) : Bytes :=
  let n := if auth then 62 else 44
  beBytes 6 0x011B19000000 ++ beBytes 6 9 ++ [0x88, 0xF7, u8 type, 2] ++ beBytes 2 n ++ [0, 0] ++ zeros 38 ++
    (if auth then [0x80, 0x09, 0, 14, 5, 0] ++ beBytes 4 77 ++ zeros 8 else [0, 0])

/-- A transit frame ready for port 8's transmit MAC, the replica of its quoin valid and key page 1 serving authentication entry 1. -/
def transit (f : Bytes) (more : List (Nat × Nat)) : State :=
  (set { queued with sched := {}, galley := {}, kce := { live.kce with pages := listMod live.kce.pages 1 fun p => { p with use := 1 } } }
    ([(Obj.TIM_REPLICA_VALID, 255), (Obj.TIM_TC_ENABLE, 1), (Obj.TIM_AUTH_KEY 0, 0x0501000000000000 + 77), (Obj.TIM_AUTH_HOLD, 1000)] ++ more)).modPort 8
    fun x => { x with tx := [⟨9, f, f.length, 84, 2, false, none, 0, none, 0, false, false, false⟩] }

/-- The frame at the head of a port's transmitter. -/
def headTx (s : State) (p : Nat) : TxFrame := listAt ⟨0, [], 0, 0, 0, false, none, 0, none, 0, false, false, false⟩ (s.port p).tx 0

theorem test_transmitPtp :
    let go := fun (s : State) (p : State → Bool) => after (exec (.frameTransmit 8 { start := 500 * 65536, lane := 8 }) s) p
    let sync := transit (ptpFrame 0 false) []
    (sync.txPtp 8 (headTx sync 8)).isSome = true ∧ sync.txValid 8 { lane := 8 } = true ∧ sync.txWaits 8 (headTx sync 8) = false ∧
    go sync (fun t => ((t.port 8).sending.map fun f => u f.win 22 8) = some (500 * 65536) ∧ t.get Obj.TIM_TC_CORRECTED = 1) = true ∧
    go (set sync [(Obj.TIM_REPLICA_VALID, 254)]) (fun t => (t.port 8).sending = none ∧ (t.port 8).tx = [] ∧ t.get Obj.TIM_TS_INVALID = 1) = true ∧
    go (transit (ptpFrame 11 false) []) (fun t => ((t.port 8).sending.map fun f => u f.win 22 8) = some 0 ∧ t.get Obj.TIM_TC_CORRECTED = 0) = true := by decide +kernel

/-- A stored frame behind descriptor 9, complete or still arriving. -/
def stored9 (s : State) (st : Nat) : State :=
  { s with galley := { s.galley with descs := [(9, some (.frame st 0 0 false false false 108 1 [(0, 0)] 0 84))] } }

theorem test_transmitAuth :
    let s := transit (ptpFrame 0 true) []
    let go := fun (x : State) (p : State → Bool) => after (exec (.frameTransmit 8 { start := 500 * 65536, lane := 8 }) x) p
    ((s.txPtp 8 (headTx s 8)).bind fun x => s.txAuth (headTx s 8) x) = some (1, 68, 0) ∧
    go (stored9 s 0) (fun t => (t.port 8).tx.length = 1 ∧ t.ptp.auth = []) = true ∧
    (s.page 1).serves 1 = true ∧
    go (stored9 s 1) (fun t => (t.port 8).tx = [] ∧ (t.port 8).sending = none ∧
      (t.ptp.auth.map fun e => (e.1, e.2.departure, e.2.attempts)) = [(8, live.now + 800, 1)] ∧ t.kce.running.isSome) = true := by decide +kernel

/-- The authenticated Sync held for its departure, at an attempt, with the KCE's verdict. -/
def heldAuth (at_ attempts : Nat) (verdict : Option (Bytes × Bool)) : State :=
  let s := stored9 (transit (ptpFrame 0 true) []) 1
  { s with
    ptp := { s.ptp with auth := [(8, ⟨at_, attempts, live.now - 800, 500 * 65536, (headTx s 8).win, headTx s 8⟩)] }
    kce := { s.kce with results := match verdict with | some v => [(authHandle 8 attempts, v.1, v.2)] | none => [] } }

theorem test_authDeparture :
    let go := fun (s : State) (p : State → Bool) => after (exec (.authDeparture 8) s) p
    let tag := beBytes 16 0x01020304050607080000000000000000
    go (heldAuth (live.now + 1) 1 none) (fun t => t.ptp.auth.length = 1 ∧ t.get Obj.TIM_AUTH_LATE = 0) = true ∧
    go (heldAuth live.now 1 (some (tag, true))) (fun t => t.ptp.auth = [] ∧ ((t.port 8).sending.map fun f => u f.win 68 8) = some 0x0102030405060708) = true ∧
    go (heldAuth live.now 1 (some (tag, false))) (fun t => t.ptp.auth = [] ∧ (t.port 8).sending = none ∧ t.get Obj.TIM_AUTH_REFUSED = 1) = true ∧
    go (heldAuth live.now 3 none) (fun t => t.get Obj.TIM_AUTH_LATE = 1 ∧ (t.ptp.auth.map fun e => (e.2.departure, e.2.attempts)) = [(live.now + 800, 4)]) = true ∧
    go (heldAuth live.now 4 none) (fun t => t.get Obj.TIM_AUTH_LATE = 1 ∧ t.ptp.auth = []) = true := by decide +kernel

/-- Queue 2 of port 8 has shaper profile 127: a rate and a burst. -/
def shaping (rate burst : Nat) (shaped : Bool) (credit : Int) : State :=
  (set { live with now := 200000 } [(Obj.Q_SHAPER 8 2, 127), (Obj.SCH_SP_PARAM 127, rate * 2 ^ 32 + burst)]).modQueue 8 2 fun x => { x with shaped := shaped, credit := credit }

theorem test_shaperRefill :
    let go := fun (s : State) (p : State → Bool) => after (exec .shaperRefill s) p
    (live.clock16 = 160000000000 ∧ 16 * 8 + 2 ∈ (shaping 7 5 true 1).shapedQueues) ∧
    go (shaping 7 5 true 1) (fun t => (t.queue 8 2).credit = 8 ∧ (t.queue 8 2).shaped ∧ t.sched.lastRefill = 1) = true ∧
    go (shaping 7 5 true 39994) (fun t => (t.queue 8 2).credit = 40000) = true ∧
    go (shaping 7 5 false 1) (fun t => (t.queue 8 2).credit = 40000 ∧ (t.queue 8 2).shaped) = true ∧
    go (shaping 0 5 true 1) (fun t => (t.queue 8 2).credit = 0 ∧ (t.queue 8 2).shaped = false) = true ∧
    go { shaping 7 5 true 1 with now := 799 } (fun t => (t.queue 8 2).credit = 1) = true ∧
    go { shaping 7 5 true 1 with now := 800 } (fun t => (t.queue 8 2).credit = 8) = true := by decide +kernel

theorem test_policer :
    (({} : Policer).colour true 2 5) = (2, { red := 1 }) ∧ (({} : Policer).colour false 2 5) = (0, { green := 1 }) ∧
    (⟨10, 20, 1, 2, 7995, 15980, 0, 0, 0, false, 0, 0, 0, 0⟩ : Policer).refill = ⟨10, 20, 1, 2, 8000, 16000, 0, 0, 0, false, 0, 0, 0, 0⟩ ∧
    (⟨0, 0, 0, 0, 0, 0, 0, 0, 0, true, 10, 20, 1, 2⟩ : Policer).refill = ⟨10, 20, 1, 2, 8000, 16000, 0, 0, 0, false, 10, 20, 1, 2⟩ := by decide +kernel

/-- A frame for a group waits in the replication engine. -/
def replicating (group : Nat) : State :=
  { (left_ (exec (.frameTailWritten 0) (writing_ [] false))) with
    sched := { mcQueue := [(0, 4095, 2, 0)], groups := [(4095, group)] } }

/-- The bit of a port in a group's map. -/
def portBit (p : Nat) : Nat := 2 ^ (8 * (127 - p / 8) + p % 8)

/-- What the replication of a group's frame leaves. -/
def copies (group : Nat) (p : State → Bool) : Bool := after (exec .multicastReplication (replicating group)) p

theorem test_multicast_none : octBit 128 (portBit 8) 8 = true ∧
    copies 0 (fun t => t.sched.mcQueue = [] ∧ t.get Obj.SCH_MC_FRAMES = 1 ∧ t.get Obj.SCH_MC_NONE = 1) = true ∧
    copies (portBit 1023) (fun t => t.get (Obj.Q_MC_DOWN 1023) = 1 ∧ t.get Obj.SCH_MC_NONE = 1) = true := by decide +kernel

theorem test_multicast_copies :
    copies (portBit 8 + portBit 0) (fun t => ((t.queue 8 2).entries.map fun e => t.descr e.desc) = [some (.copy 0 8 2)] ∧ (t.queue 0 2).entries.length = 1 ∧
      t.get (Obj.Q_MC_COPIES 8) = 1) = true ∧
    copies (portBit 8 + portBit 0 + 2 ^ (8 * 131)) (fun t => (t.queue 8 2).entries.length = 1 ∧ (t.queue 0 2).entries = []) = true := by decide +kernel

/-! ### Telemetry (13) -/

/-- Sampler 7 has selected the frame queued for port 8. -/
def selected_ : State := { queued with telem := { queued.telem with engine := [⟨7, 0, false, 0, 8, 32, 0, 60, 0, 0, 1⟩] } }

/-- What the capture of sampler 7 leaves. -/
def captured (s : State) (p : State → Bool) : Bool := after (exec (.proofCapture 7) s) p

theorem test_proofReady : selected_.proofReady ⟨7, 0, false, 0, 8, 32, 0, 60, 0, 0, 1⟩ = true := by decide +kernel

theorem test_proofCapture : captured selected_ (fun t => t.telem.engine = [] ∧ (t.telem.proofs.map fun x => (x.rlen, x.at_)) = [(92, live.now)] ∧
    t.get (Obj.PMC_PS_MADE 7) = 1) = true := by decide +kernel

theorem test_proofRefused : captured (selected_.modGalley fun g => { g with free := [0, 0, 0, 0] })
    (fun t => t.telem.proofs = [] ∧ t.get (Obj.PMC_PS_REFUSED 7) = 1) = true := by decide +kernel

theorem test_proofLost : captured { selected_ with telem := { selected_.telem with proofs := List.replicate 4096 ⟨(0, 64), 32, 0⟩ } }
    (fun t => t.telem.proofs.length = 4096 ∧ t.get Obj.PMC_PROOF_LOST = 1) = true := by decide +kernel

/-- Export channel 3 takes the proofs, in datagrams of a payload. -/
def exporting (batch seg : Nat) : State :=
  set { queued with telem := { queued.telem with proofs := List.replicate 3 ⟨(0, 64), 96, live.now - 800⟩ } }
    [(Obj.PMC_STREAM_CHAN, 3 * 65536 + 0xFFFF), (Obj.PMC_CH_ENABLE 3, 1), (Obj.PMC_CH_SEG 3, seg), (Obj.PMC_PROOF_BATCH, batch), (Obj.PMC_PROOF_HOLD, 2),
     (Obj.PMC_CH_HDR_LEN 3, 42), (Obj.PMC_CH_L3_OFF 3, 14), (Obj.PMC_CH_PORT 3, 8), (Obj.PMC_CH_QUEUE 3, 0),
     (Obj.PMC_CH_TEMPLATE 3, beNat (zeros 14 ++ [0x45, 0, 0, 0, 0, 0, 0, 0, 64, 17] ++ zeros 104))]

theorem test_batch :
    let go := fun (s : State) (p : State → Bool) => after (exec .proofBatchClose s) p
    batchCount 256 240 [96, 96, 96] 0 3 = 2 ∧ batchCount 256 1000 [96, 96, 96] 0 3 = 3 ∧ (exporting 240 256).streamChan 0 = some 3 ∧
    go (exporting 240 256) (fun t => t.telem.proofs.length = 1 ∧ (t.telem.units.map fun x => (x.stream, x.proofs.length)) = [(1, 2)]) = true ∧
    go (exporting 1000 256) (fun t => t.telem.proofs.length = 3 ∧ t.telem.units = []) = true ∧
    go (set (exporting 1000 256) [(Obj.PMC_PROOF_HOLD, 1)]) (fun t => t.telem.proofs = [] ∧ t.telem.units.length = 1) = true := by decide +kernel

theorem test_export :
    let s := { exporting 240 256 with telem := { (exporting 240 256).telem with units := [⟨1, 0, 0, List.replicate 3 ⟨(0, 64), 96, 0⟩, []⟩] } }
    after (exec (.exportSend 3) s) (fun t => t.telem.units = [] ∧ t.get (Obj.PMC_CH_DATAGRAMS 3) = 2 ∧ (t.queue 8 0).entries.length = 2) = true := by decide +kernel

theorem test_sweep :
    let s := fun (i last : Nat) => { set queued [(Obj.SCH_SAMPLE_INTERVAL, i), (Obj.SCH_SAMPLE_SEQ, 15)] with sched := { queued.sched with lastSweep := last } }
    let go := fun (x : State) (p : State → Bool) => after (exec .queueSampleSweep x) p
    go (s 0 0) (fun t => t.sched.ring = []) = true ∧ go (s 1000 100000000000) (fun t => t.sched.ring = []) = true ∧
    go (s 1000 99999999999) (fun t => (t.sched.ring.map fun e => (e.1, e.2.seq, e.2.time, e.2.interval, smGet 0 e.2.entries 130 / 2 ^ 32)) = [(7, 16, 100000000000, 1000, 60)] ∧
      t.get Obj.SCH_SAMPLE_SEQ = 16) = true := by decide +kernel

theorem test_snapStart :
    let go := fun (at_ : Nat) (p : State → Bool) => starts (set live [(Obj.PMC_SNAP_AT, at_)]) Obj.PMC_SNAP .pmcSnap p
    go 0 (fun t => t.telem.snapAt = some (100000005000, true) ∧ t.isBusy Obj.PMC_SNAP) = true ∧
    go 100000005000 (fun t => t.telem.snapAt = some (100000005000, true)) = true ∧
    go 110000000000 (fun t => t.telem.snapAt = some (110000000000, true)) = true ∧
    go 100000004999 (fun t => t.telem.snapAt = none ∧ t.get Obj.PMC_SNAP % 2 ^ 16 = 1) = true ∧
    go 110000000001 (fun t => t.telem.snapAt = none) = true ∧
    starts { live with telem := { live.telem with snapAt := some (9, false) } } Obj.PMC_SNAP .pmcSnap (fun t => t.telem.snapAt = some (9, false) ∧ (reply t 0).1 = Res.busy) = true := by decide +kernel

theorem test_periodic :
    let s := fun (i last : Nat) (w : Option (Nat × Bool)) => { set live [(Obj.PMC_SNAP_INTERVAL, i)] with telem := { live.telem with lastSnap := last, snapAt := w } }
    let go := fun (x : State) (p : State → Bool) => after (exec .periodicSnapshot x) p
    go (s 0 0 none) (fun t => t.telem.snapAt = none) = true ∧ go (s 1000 100000000000 none) (fun t => t.telem.snapAt = none) = true ∧
    go (s 1000 99999999999 none) (fun t => t.telem.snapAt = some (100000000000, false) ∧ t.telem.lastSnap = 100000000000) = true ∧
    go (s 1000 0 (some (9, true))) (fun t => t.telem.snapAt = some (9, true) ∧ t.get Obj.PMC_SNAP_SKIPPED = 1) = true := by decide +kernel

theorem test_snapshot :
    let s := fun (at_ : Nat) => { live with telem := { live.telem with snapAt := some (at_, true), sets := [(1200, { ctr := [2 ^ 63 + 5, 0, 0, 0, 0, 0, 0, 0] })] } }.runBegin Obj.PMC_SNAP
    after (exec .snapshotCapture (s 100000000001)) (fun t => t.telem.snapAt.isSome) = true ∧
    after (exec .snapshotCapture (s 100000000000)) (fun t => t.telem.snapAt = none ∧ t.telem.snap.seq = 1 ∧ t.get Obj.PMC_SNAP_TIME = 100000000000 ∧
      (t.ctrSet 1200).ctr = [5, 0, 0, 0, 0, 0, 0, 0] ∧ (smGet 0 t.telem.snap.records 1200 / 2 ^ 448) % 2 ^ 64 = 2 ^ 63 + 5 ∧ t.isBusy Obj.PMC_SNAP = false) = true := by decide +kernel

theorem test_blockClear :
    starts ({ live with telem := { live.telem with sets := [(5, { cfg := [1, 0, 0, 0, 0, 0, 0, 0], ctr := [3, 0, 0, 0, 0, 0, 0, 1] })] } }.modSession 0 fun x => { x with pmcSel := 5 })
      Obj.PMC_B_CLEAR .pmcBClear (fun t => t.ctrSet 5 = { cfg := [1, 0, 0, 0, 0, 0, 0, 0], since := live.now }) = true := by decide +kernel

/-! ### Time (14) -/

/-- Domain 0 has a PTP source and a state, 1 µs as step threshold and 100 ns as lock threshold. -/
def servoing (dstate good bad : Nat) : State :=
  { set live [(Obj.TIM_D_SOURCE 0, 1), (Obj.TIM_D_STATE 0, dstate), (Obj.TIM_D_STEP_THRESH 0, 1000), (Obj.TIM_D_LOCK_THRESH 0, 100)] with
    tim := { live.tim with domains := [{ good := good, bad := bad }, {}] } }

/-- What a measurement of domain 0 leaves. -/
def measured_ (m : Int) (s : State) (p : State → Bool) : Bool := after (exec (.servoMeasurement 0 m) s) p

theorem test_servoStep :
    (servoing 1 3 1).frc = 80000000000 * 81920 ∧ 1000 * 65536 < (65536001 : Int).natAbs ∧
    measured_ 65536001 (servoing 1 3 1) (fun t => (t.domain 0).time live.frc = live.frc - 65536001 ∧ t.dstate 0 = 1 ∧ t.get (Obj.TIM_D_STEPS 0) = 1 ∧
      t.get (Obj.TIM_D_LAST_OFFSET 0) = 65536001) = true ∧
    measured_ 65536001 (servoing 2 3 1) (fun t => t.dstate 0 = 2 ∧ (t.domain 0).bad = 2 ∧ t.get (Obj.TIM_D_OUTLIERS 0) = 1 ∧ (t.domain 0).time live.frc = live.frc) = true ∧
    measured_ 65536001 (servoing 2 3 2) (fun t => t.dstate 0 = 1 ∧ t.get (Obj.TIM_D_STEPS 0) = 1) = true ∧
    measured_ 5 live (fun t => t.get (Obj.TIM_D_LAST_OFFSET 0) = 0) = true := by decide +kernel

theorem test_servoWaits :
    let s := { servoing 1 3 1 with tim := { live.tim with domains := [{ segAt := some (live.now - 799999) }, {}] } }
    (s.domain 0).segBusy s.now ∧ measured_ 65536001 s (fun t => t.tim = s.tim ∧ (t.inst 0).measured = [65536001]) = true := by decide +kernel

theorem test_servoLock :
    measured_ 65536000 (servoing 1 15 1) (fun t => t.dstate 0 = 1 ∧ (t.domain 0).good = 0 ∧ (t.domain 0).bad = 0 ∧ (t.domain 0).time live.frc = live.frc) = true ∧
    measured_ 6553599 (servoing 1 15 1) (fun t => t.dstate 0 = 2 ∧ (t.domain 0).good = 16 ∧ (t.domain 0).rate < 0 ∧ t.get Obj.TIM_OUT_ENGAGE = 1) = true ∧
    measured_ 6553600 (servoing 1 15 1) (fun t => t.dstate 0 = 1 ∧ (t.domain 0).good = 0) = true ∧
    measured_ 6553599 (servoing 1 14 1) (fun t => t.dstate 0 = 1 ∧ (t.domain 0).good = 15) = true ∧
    measured_ (-6553599) (servoing 2 0 1) (fun t => t.dstate 0 = 2 ∧ 0 < (t.domain 0).rate) = true := by decide +kernel

theorem test_tciTimeout :
    let s := fun (t0 : Nat) => { set live [(Obj.TIM_D_SOURCE 1, 2), (Obj.TIM_D_STATE 1, 2)] with tim := { live.tim with domains := [{}, { lastPps := some t0 }] } }
    after (exec (.tciSourceTimeout 1) (s (live.now - 1199999999))) (fun t => t.dstate 1 = 2) = true ∧
    after (exec (.tciSourceTimeout 1) (s (live.now - 1200000000))) (fun t => t.dstate 1 = 3 ∧ (t.domain 1).holdSince = some live.now ∧ t.get (Obj.TIM_D_HOLDOVERS 1) = 1) = true := by
  decide +kernel

theorem test_splice :
    let s := fun (res : Int) (fs : Nat) => { set live [(Obj.TIM_SPLICE_STATE, 1)] with tim := { live.tim with splicing := true, res0 := res, fs := fs } }
    after (exec .spliceEnd (s 5 0)) (fun t => t.tim.splicing = false ∧ t.tim.res0 = 0 ∧ t.get Obj.TIM_SPLICE_STATE = 0 ∧ t.tim.events.length = 1) = true ∧
    after (exec .spliceEnd (s 5 live.frc)) (fun t => t.tim.splicing) = true ∧
    after (exec .spliceEnd live) (fun t => t.tim.events = []) = true := by decide +kernel

/-- Output 15 is armed in a mode for an instant, with a pulse of 100 ns. -/
def armed (mode start : Nat) (fall : Option Nat) (lastFall nextK : Nat) : State :=
  { live with tim := { live.tim with tpo := List.replicate 15 {} ++ [⟨mode, start, 10000 * 65536, 100 * 65536, 0, nextK, fall, lastFall⟩] } }

/-- What output 15's rising edge leaves. -/
def risen (s : State) (p : State → Bool) : Bool := after (exec (.tpoRisingEdge 15) s) p

theorem test_tpoRise :
    let f := live.frc
    live.tpoHeldLow = false ∧ (armed 1 (f + 81919) none 0 0).edgeFE (f + 81919) 0 = f + 81919 ∧
    risen (armed 1 (f + 81919) none 0 0) (fun t => t.out = [.tpo 15 true (live.now + 1) 0] ∧ (t.tpo 15).fall = some (f + 81919 + 6553600) ∧ (t.tpo 15).nextK = 1 ∧
      t.get (Obj.TIM_TPO_STATE 15) = 2 ∧ t.get (Obj.TIM_TPO_EDGES 15) = 1) = true ∧
    risen (armed 1 (f + 640) none 0 0) (fun t => t.out = [.tpo 15 true live.now 1]) = true ∧
    risen (armed 1 (f + 81920) none 0 0) (fun t => t.out = []) = true ∧
    risen (armed 1 f none 0 1) (fun t => t.out = [] ∧ t.get (Obj.TIM_TPO_SKIPPED 15) = 0) = true ∧
    risen (armed 0 f none 0 0) (fun t => t.out = []) = true ∧
    risen { armed 1 f none 0 0 with flt := { live.flt with safe := true } } (fun t => t.out = []) = true := by decide +kernel

theorem test_tpoSkip :
    let f := live.frc
    risen (armed 2 f none (f - 655360) 0) (fun t => t.out.length = 1) = true ∧
    risen (armed 2 f none (f - 655359) 0) (fun t => t.out = [] ∧ (t.tpo 15).nextK = 1 ∧ t.get (Obj.TIM_TPO_SKIPPED 15) = 1) = true ∧
    risen (armed 1 f (some 5) 0 0) (fun t => t.out = [] ∧ (t.tpo 15).mode = 0 ∧ t.get (Obj.TIM_TPO_SKIPPED 15) = 1) = true := by decide +kernel

theorem test_tpoFall :
    let f := live.frc
    after (exec (.tpoFallingEdge 15) (armed 1 0 (some (f + 81919)) 0 1)) (fun t => t.out = [.tpo 15 false (live.now + 1) 0] ∧ (t.tpo 15).fall = none ∧ (t.tpo 15).mode = 0 ∧
      t.get (Obj.TIM_TPO_STATE 15) = 3 ∧ (t.tpo 15).lastFall = f + 81919) = true ∧
    after (exec (.tpoFallingEdge 15) (armed 1 0 (some (f + 81920)) 0 1)) (fun t => t.out = []) = true := by decide +kernel

/-- Input 15 queues its rising edges, and domain 1 follows it; its last edge was so many units ago. -/
def edged (ago seen divide : Nat) : State :=
  let s := set { live with now := live.now + 160 } [(Obj.TIM_TCI_EDGE 15, 1), (Obj.TIM_TCI_QUEUE 15, 1), (Obj.TIM_TCI_DIVIDE 15, divide), (Obj.TIM_D_SOURCE 1, 2), (Obj.TIM_D_TCI 1, 15)]
  { s with tim := { s.tim with tci := List.replicate 15 {} ++ [⟨seen, some (s.frc - ago)⟩] } }

theorem test_tciEdge :
    let go := fun (rising : Bool) (fine : Nat) (s : State) (p : State → Bool) => after (exec (.tciEdge 15 rising fine) s) p
    go true 81919 (edged (6553600 - 81919) 0 1) (fun t => t.get (Obj.TIM_TCI_COUNT 15) = 1 ∧ t.tim.events.length = 1 ∧ (t.domain 1).lastPps = some (live.now + 160) ∧
      (t.inst 1).measured = [200 * 65536 + 63 * 1280]) = true ∧
    go true 81918 (edged (6553600 - 81919) 0 1) (fun t => t.get (Obj.TIM_TCI_COUNT 15) = 0 ∧ t.get (Obj.TIM_TCI_OVERRUN 15) = 1 ∧ t.tim.events = []) = true ∧
    go true 0 (edged 6553600 1 2) (fun t => t.get (Obj.TIM_TCI_COUNT 15) = 0 ∧ (listAt {} t.tim.tci 15).seen = 2) = true ∧
    go true 0 (edged 6553600 2 2) (fun t => t.get (Obj.TIM_TCI_COUNT 15) = 1) = true ∧
    go false 0 (edged 6553600 0 1) (fun t => t.get (Obj.TIM_TCI_COUNT 15) = 0) = true ∧
    go true 0 { edged 6553600 0 1 with tim := { (edged 6553600 0 1).tim with running := false } } (fun t => t.get (Obj.TIM_TCI_COUNT 15) = 0) = true := by decide +kernel

/-! ### PTP (15) -/

/-- Instance 0 is on, port 8 is its only member, its domain follows PTP, and port 8 has a state; no lane has a calibration record. -/
def ptpOn (state profile : Nat) : State :=
  { set open_ [(Obj.TIM_P_ENABLE 0, 1), (Obj.TIM_P_PROFILE 0, profile), (Obj.TIM_D_SOURCE 0, 1), (Obj.TIM_D_STATE 0, 2)] with
    ptp := { insts := [{ states := [(8, state)] }, {}], ports := [(8, 2 ^ 248)] } }

/-- The parent: a clock 7 behind port 8, heard now. -/
def parent7 : Foreign := ⟨8, beBytes 10 0x00010002000300040001, beBytes 8 7, 6, 0x21, 0x4E5D, 128, 0, 2, live.now, 0, 0, 0x20⟩

/-- A PTP message of a type: flags, sequenceId and origin time. -/
def message (type flags seq ns : Nat) : Bytes :=
  [u8 type, 0x12] ++ beBytes 2 44 ++ [0, 0] ++ beBytes 2 flags ++ zeros 12 ++ parent7.sender ++ beBytes 2 seq ++ [0, 0] ++ beBytes 6 0 ++ beBytes 4 ns

/-- A message terminated for instance 0 at port 8. -/
def terminated (s : State) (m : Bytes) : State := { s with ptp := { s.ptp with rx := [⟨0, 8, 900 * 65536, m, zeros 6, 0⟩] } }

/-- What the termination leaves. -/
def taken (s : State) (p : State → Bool) : Bool := after (exec (.ptpMessageTerminated 0) s) p

theorem test_ptpTerminated :
    let slave := (ptpOn 9 0).modInst 0 fun x => { x with parent := some parent7, delays := [100 * 65536] }
    (ptpOn 9 0).member 0 8 = true ∧ (ptpOn 9 0).portStateOf 0 8 = 9 ∧ slave.fromParent 0 ⟨0, 8, 0, message 0 0 1 5, zeros 6, 0⟩ = true ∧
    taken (terminated slave (message 0 0 1 500)) (fun t => t.ptp.rx = [] ∧ (t.inst 0).measured = [300 * 65536] ∧ smGet 0 t.ptp.rxCount 8 = 1 ∧ (t.inst 0).syncAt = live.now) = true ∧
    taken (terminated slave (message 0 0x0200 1 500)) (fun t => (t.inst 0).sync = some (1, 900 * 65536, 0) ∧ (t.inst 0).measured = []) = true ∧
    taken (terminated (ptpOn 6 0) (message 1 0 1 0)) (fun t => (t.inst 0).reqs.length = 1) = true ∧
    taken (terminated (ptpOn 9 0) (message 1 0 1 0)) (fun t => (t.inst 0).reqs = []) = true ∧
    taken (terminated (set slave [(Obj.TIM_P_ENABLE 0, 0)]) (message 0 0 1 500)) (fun t => t.ptp.rx = [] ∧ (t.inst 0).measured = []) = true ∧
    taken { terminated slave (message 0 0 1 500) with cmp := { live.cmp with patchRun := some ⟨false, true, some 0⟩ } } (fun t => t.ptp.rx.length = 1) = true := by decide +kernel

/-- A Sync with an AUTHENTICATION TLV of a sequenceId, where the last one had another. -/
theorem test_replay :
    let m := fun (seq : Nat) => patchBytes (message 0 0 seq 500) 2 (beBytes 2 62) ++ [0x80, 0x09, 0, 14, 5, 0] ++ beBytes 4 77 ++ zeros 8
    let s := (ptpOn 9 0).modInst 0 fun x => { x with replay := [(beNat parent7.sender * 16, 9)] }
    taken (terminated s (m 9)) (fun t => t.get Obj.TIM_AUTH_REPLAY = 1 ∧ t.ptp.insts = s.ptp.insts) = true ∧
    taken (terminated s (m 10)) (fun t => t.get Obj.TIM_AUTH_REPLAY = 0 ∧ (t.inst 0).replay = [(beNat parent7.sender * 16, 10)]) = true ∧
    s.replayOk 0 (m 32776) = true ∧ s.replayOk 0 (m 32777) = false := by decide +kernel

/-- What a message's sending from port 8 leaves. -/
def sends (kind : Nat) (s : State) (p : State → Bool) : Bool := after (exec (.ptpMessageSend 0 8 kind) s) p

theorem test_ptpSend :
    let sent := fun (t0 : Nat) => (ptpOn 6 0).modInst 0 fun x => { x with sentAt := [(128, t0)] }
    (ptpOn 6 0).portUp 8 = true ∧ logTicks ((ptpOn 6 0).get (Obj.TIM_P_SYNC_LOG 0)) = 50000000 ∧
    sends 0 (ptpOn 6 0) (fun t => (t.inst 0).sentAt = [(128, live.now)] ∧ smGet 0 (t.inst 0).seqIds 128 = 1 ∧ (t.queue 8 (t.get (Obj.TIM_P_QUEUE 0))).entries.length = 1) = true ∧
    sends 0 (sent (live.now - 49999999)) (fun t => (t.inst 0).seqIds = []) = true ∧
    sends 0 (sent (live.now - 50000000)) (fun t => smGet 0 (t.inst 0).seqIds 128 = 1) = true ∧
    sends 0xB (ptpOn 6 0) (fun t => smGet 0 (t.inst 0).seqIds 139 = 1) = true ∧
    sends 0 (ptpOn 9 0) (fun t => (t.inst 0).seqIds = []) = true := by decide +kernel

theorem test_ptpAnswer :
    let req := (ptpOn 6 0).modInst 0 fun x => { x with reqs := [⟨0, 8, 900 * 65536, message 1 0 3 0, zeros 6, 0⟩] }
    let tx := { ptpOn 6 0 with ptp := { (ptpOn 6 0).ptp with tx := [⟨0, 8, 0, 7, 5⟩] } }
    sends 9 req (fun t => (t.inst 0).reqs = [] ∧ (t.queue 8 (t.get (Obj.TIM_P_QUEUE 0))).entries.length = 1) = true ∧
    sends 8 tx (fun t => t.ptp.tx = []) = true ∧
    sends 9 { req with boot := { req.boot with phase := .restore }, ports := [] } (fun t => (t.inst 0).reqs.length = 1) = true := by decide +kernel

theorem test_grants :
    let s := ptpOn 9 1
    s.memberPorts 0 = [8] ∧ s.masterOnly 0 8 = false ∧ s.wants 0 8 = [0xB, 0, 9] ∧
    after (exec (.unicastGrantRenewal 0) s) (fun t => smGet 0 (t.inst 0).seqIds 140 = 1 ∧ (t.inst 0).grants = []) = true ∧
    after (exec (.unicastGrantRenewal 0) (s.modInst 0 fun x => { x with grants := [0xB, 0, 9].map fun k => ⟨false, k, 8, 0, zeros 6, 0, 300, live.now - 119999999999⟩ }))
      (fun t => (t.inst 0).seqIds = []) = true ∧
    s.portUp 8 = true := by decide +kernel

theorem test_masterLost :
    let s := fun (at_ : Nat) => (ptpOn 9 0).modInst 0 fun x => { x with parent := some { parent7 with at_ := at_ }, foreign := [{ parent7 with at_ := at_ }], syncAt := live.now }
    (s live.now).parentLost 0 = false ∧ after (exec (.ptpMasterLost 0) (s live.now)) (fun t => (t.inst 0).parent.isSome) = true ∧
    (s 0).parentLost 0 = true ∧ after (exec (.ptpMasterLost 0) (s 0)) (fun t => (t.inst 0).parent = none ∧ t.dstate 0 = 3 ∧ t.get (Obj.TIM_P_SLAVE_PORT 0) = 0xFFFF) = true := by
  decide +kernel

/-! ### The sequencer (16) -/

/-- A line from some of its fields. -/
def lineWord (seqOp cond target : Nat) (safe : Bool) (rest : Nat) : Nat := seqOp * 2 ^ 140 + cond * 2 ^ 134 + target * 2 ^ 117 + b2n safe * 2 ^ 116 + rest

/-- Context 3 runs at line 5, which a patch overlays with a line. -/
def running (x : Ctx) (w : Nat) : State :=
  { live with cmp := { live.cmp with overlay := [(0, 1)], ram := if w = 0 then [] else [(5, w)], current := some 3,
                                     ctxs := live.cmp.ctxs.set 3 { x with state := .running, line := 5 } } }

/-- What a command leaves of context 3. -/
def ran (cmd : Instr) (x : Ctx) (w : Nat) (p : Ctx → Bool) : Bool := after (exec cmd (running x w)) fun t => p (t.ctx 3)

theorem test_microline :
    let l := microline (lineWord 8 3 0x1ABCD true (4 * 2 ^ 111 + 9 * 2 ^ 105 + 10 * 2 ^ 99 + 2 ^ 98 + 11 * 2 ^ 92 + 2 * 2 ^ 90 + 2 ^ 89 + 2 ^ 87 + 12 * 2 ^ 81 + 13 * 2 ^ 75 +
      2 * 2 ^ 72 + 14 * 2 ^ 66 + 15 * 2 ^ 60 + 6 * 2 ^ 57 + 17 * 2 ^ 52 + 3 * 2 ^ 48 + 0x123456789ABC))
    l = { seqOp := 8, cond := 3, target := 0x1ABCD, safe := true, aluOp := 4, a := 9, b := 10, bImm := true, d := 11, dSrc := 2, fWe := true, memOp := 1, memA := 12,
          memD := 13, netOp := 2, netA := 14, netD := 15, evtOp := 6, evtArg := 17, rsv := 3, imm := 0x123456789ABC } := by decide +kernel

theorem test_seqFlow :
    ran .seqNext {} 0 (fun x => x.line = 6 ∧ x.gap = 1) = true ∧ ran .seqJump {} 0 (fun x => x.line = 5) = true ∧
    ran .seqJump {} (lineWord 1 0 0x13FFF false 0) (fun x => x.line = 0x13FFF) = true ∧
    ran .seqBrt { z := true } (lineWord 2 1 9 false 0) (fun x => x.line = 9) = true ∧ ran .seqBrt {} (lineWord 2 1 9 false 0) (fun x => x.line = 6) = true ∧
    ran .seqBrf { z := true } (lineWord 3 1 9 false 0) (fun x => x.line = 6) = true ∧ ran .seqBrf {} (lineWord 3 1 9 false 0) (fun x => x.line = 9) = true ∧
    ran .seqDisp { regs := [(2, 0x1FF)] } (lineWord 8 0 9 true (2 * 2 ^ 105)) (fun x => x.line = 9 + 255) = true ∧
    ran .seqNext { gap := 1022 } 0 (fun x => x.line = 6 ∧ x.gap = 1023) = true := by decide +kernel

theorem test_seqStack :
    ran .seqCall { stack := [1, 2, 3, 4, 5, 6, 7] } (lineWord 4 0 9 true 0) (fun x => x.line = 9 ∧ x.stack = [6, 1, 2, 3, 4, 5, 6, 7]) = true ∧
    ran .seqCall { stack := [1, 2, 3, 4, 5, 6, 7, 8] } (lineWord 4 0 9 true 0) (fun x => x.line = 3 ∧ x.stack = []) = true ∧
    ran .seqRet { stack := [77, 2] } (lineWord 5 0 0 true 0) (fun x => x.line = 77 ∧ x.stack = [2]) = true ∧
    ran .seqRet {} (lineWord 5 0 0 true 0) (fun x => x.line = 3 ∧ x.stack = []) = true ∧
    ran .seqLoop { lc := 1 } (lineWord 6 0 4 true 0) (fun x => x.line = 4 ∧ x.lc = 0) = true ∧
    ran .seqLoop {} (lineWord 6 0 4 true 0) (fun x => x.line = 6 ∧ x.lc = 0) = true := by decide +kernel

theorem test_seqWaitEnd :
    after (exec .seqWait (running {} (lineWord 7 1 0 true 0))) (fun t => t.cmp.current = none ∧ (t.ctx 3).state = .waiting ∧ (t.ctx 3).line = 5) = true ∧
    after (exec .seqWait (running { z := true } (lineWord 7 1 0 true 0))) (fun t => t.cmp.current = none ∧ (t.ctx 3).state = .ready ∧ (t.ctx 3).line = 6) = true ∧
    after (exec .seqEnd (running {} (lineWord 9 0 0 true 0))) (fun t => t.cmp.current = none ∧ (t.ctx 3).state = .idle ∧ (t.ctx 3).line = 3) = true ∧
    after (exec .seqEnd (running { queue := [9] } (lineWord 9 0 0 true 0))) (fun t => (t.ctx 3).state = .ready ∧ (t.ctx 3).line = 3) = true := by decide +kernel

/-- SUB of W01 and W02 into W04 with the flags. -/
theorem test_seqAlu :
    let w := lineWord 0 0 0 false (4 * 2 ^ 111 + 1 * 2 ^ 105 + 2 * 2 ^ 99 + 4 * 2 ^ 92 + 1 * 2 ^ 90 + 2 ^ 89)
    ran .seqNext { regs := [(1, 5), (2, 7)] } w (fun x => x.reg 4 = 2 ^ 64 - 2 ∧ x.c ∧ x.n ∧ x.v = false ∧ x.z = false) = true ∧
    ran .seqNext { regs := [(1, 2 ^ 63), (2, 1)] } w (fun x => x.reg 4 = 2 ^ 63 - 1 ∧ x.v ∧ x.c = false) = true ∧
    ran .seqNext { regs := [(1, 5), (2, 5)], c := true } w (fun x => x.reg 4 = 0 ∧ x.z ∧ x.c = false) = true ∧
    ran .seqNext { regs := [(1, 5), (2, 7)], c := true } (w - 2 ^ 89) (fun x => x.reg 4 = 2 ^ 64 - 2 ∧ x.c ∧ x.n = false) = true := by decide +kernel

theorem test_conditions :
    let s := fun (x : Ctx) => { live with cmp := { live.cmp with ctxs := live.cmp.ctxs.set 3 x } }
    (s {}).condOf 3 0 = true ∧ (s { z := true }).condOf 3 1 = true ∧ (s { n := true }).condOf 3 2 = true ∧ (s { c := true }).condOf 3 3 = true ∧ (s { v := true }).condOf 3 4 = true ∧
    (s {}).condOf 3 5 = true ∧ (s { lc := 1 }).condOf 3 5 = false ∧ (s { queue := [1] }).condOf 3 6 = true ∧ (s { abort := true }).condOf 3 7 = true ∧
    (s { expired := true }).condOf 3 8 = true ∧ (s { pend := [(1, none)] }).condOf 3 9 = false ∧ (s { netWrites := 1 }).condOf 3 11 = false := by decide +kernel

theorem test_wake :
    let c := fun (st : CtxState) (i : Nat) (s : State) => s.modCtx i fun x => { x with state := st, line := 99 }
    let two := c .ready 2 (c .ready 0 live)
    two.chooseCtx = some 0 ∧
    after (exec (.contextWake 0) two) (fun t => t.cmp.current = some 0 ∧ (t.ctx 0).state = .running ∧ (t.ctx 0).line = 99 ∧ (t.ctx 2).state = .ready) = true ∧
    after (exec (.contextWake 2) two) (fun t => t.cmp.current = none) = true ∧
    after (exec (.contextWake 0) { two with cmp := { two.cmp with current := some 5 } }) (fun t => t.cmp.current = some 5) = true ∧
    after (exec (.contextWake 15) (live.modCtx 15 fun x => { x with queue := [7] })) (fun t => t.cmp.current = some 15 ∧ (t.ctx 15).line = 15) = true := by decide +kernel

theorem test_ctxEvents :
    let m := fun (f : Ctx → Ctx) => live.modCtx 15 f
    after (exec (.netReadResponse 15 0x1234567890ABCDEF) (m fun x => { x with pend := [(4, none), (5, none)] })) (fun t => (t.ctx 15).pend = [(5, none)] ∧ (t.ctx 15).reg 4 = 0x1234567890ABCDEF) = true ∧
    after (exec (.netReadResponse 15 0x1234567890ABCDEF) (m fun x => { x with pend := [(0, none)] })) (fun t => (t.ctx 15).lc = 0x90ABCDEF) = true ∧
    after (exec (.contextTimerExpiry 15) (m fun x => { x with timer := some live.now })) (fun t => (t.ctx 15).expired ∧ (t.ctx 15).timer = none) = true ∧
    after (exec (.contextTimerExpiry 15) (m fun x => { x with timer := some (live.now + 1) })) (fun t => (t.ctx 15).expired = false) = true ∧
    after (exec (.fetchUncorrectable true) (running { stack := [1] } 0)) (fun t => (t.ctx 3).line = 3 ∧ (t.ctx 3).stack = [] ∧ t.get Obj.CMP_FETCH_UE = 1 ∧ t.get (Obj.CMP_C_RESTARTS 3) = 1) = true ∧
    after (exec (.fetchUncorrectable false) (running { stack := [1] } 0)) (fun t => (t.ctx 3).stack = [1]) = true := by decide +kernel

/-! ### Patches (16) -/

/-- An image of one segment of SAFE lines, mapped to ROM segment 0, with the tag of page 00's key. -/
def patchImage : Bytes :=
  let b := beBytes 4 0x4A5A4350 ++ beBytes 4 (2 ^ 16) ++ beBytes 4 (64 + 4 + 288 + 16) ++ beBytes 4 9 ++ beBytes 4 (live.get Obj.ID_ROM_VERSION) ++ beBytes 4 (live.get Obj.ID_DICT_VERSION) ++
    beBytes 2 1 ++ beBytes 2 1 ++ zeros 36 ++ beBytes 4 0 ++ ((List.replicate 16 (beBytes 18 (2 ^ 116))).flatten)
  b ++ cmac (live.page 0).key b

/-- It stands in the staging window. -/
def staged_ (im : Bytes) (total : Nat) : State :=
  { live with cmp := { live.cmp with staged := ((upTo im.length).zip im).filterMap (fun (e : Nat × Byte) => if e.2 = 0 then none else some (e.1, e.2.toNat)), stagedTotal := total } }

theorem test_patchCheck :
    let go := fun (s : State) (p : State → Bool) => starts s Obj.CMP_PATCH_CHECK .cmpPatchCheck p
    let rec_ := fun (t : State) => ((t.get Obj.CMP_PATCH_CHECK / 2 ^ 16) % 256, t.get Obj.CMP_PATCH_CHECK % 2 ^ 16)
    go live (fun t => rec_ t = (Res.badValue, 1) ∧ t.get Obj.CMP_PATCH_STAGED_ID = 0) = true ∧
    go (staged_ (patchImage.take 356) 371) (fun t => rec_ t = (Res.badValue, 2)) = true ∧
    go (set live [(Obj.LCY_STATE, 3)]) (fun t => (reply t 0).1 = Res.badState) = true ∧
    go { live with boot := { live.boot with bootSel := 2 } } (fun t => (reply t 0).1 = Res.badState) = true := by decide +kernel

theorem test_patchCheck_ok : starts (staged_ patchImage 372) Obj.CMP_PATCH_CHECK .cmpPatchCheck (fun t => (t.get Obj.CMP_PATCH_CHECK / 2 ^ 16) % 256 = Res.ok ∧
    t.get Obj.CMP_PATCH_STAGED_ID = 9) = true := by decide +kernel

theorem test_patchStarts :
    let act := fun (s : State) (p : State → Bool) => starts s Obj.CMP_PATCH_ACTIVATE .cmpPatchActivate p
    let rem := fun (s : State) (p : State → Bool) => starts s Obj.CMP_PATCH_REMOVE .cmpPatchRemove p
    act live (fun t => t.get Obj.CMP_PATCH_ACTIVATE % 2 ^ 16 = 1 ∧ t.cmp.patchRun = none) = true ∧
    act (set (staged_ (patchImage.take 356) 372) [(Obj.CMP_PATCH_STAGED_ID, 9)]) (fun t => t.isBusy Obj.CMP_PATCH_ACTIVATE ∧ (t.ctx 3).touched ∧ (t.ctx 3).state = .parked) = true ∧
    rem live (fun t => (t.get Obj.CMP_PATCH_REMOVE / 2 ^ 16) % 256 = Res.ok ∧ t.cmp.patchRun = none) = true ∧
    rem (set live [(Obj.CMP_PATCH_ID, 9)]) (fun t => t.isBusy Obj.CMP_PATCH_REMOVE ∧ t.cmp.patchRun.isSome) = true ∧ live.patchBusy = false := by decide +kernel

/-- Every context is parked for a change, context 3 touched. -/
def parked_ (remove : Bool) (halted : Option Nat) : State :=
  let s := staged_ (patchImage.take 356) 372
  { s with cmp := { s.cmp with patchRun := some ⟨remove, false, halted⟩,
                               ctxs := (List.replicate 16 { state := .parked, was := .waiting, line := 99, stack := [4] }).set 3 { state := .parked, was := .running, line := 99, stack := [4], touched := true } } }

theorem test_haltLoad :
    after (exec .patchHaltLoad (parked_ false none)) (fun t => t.cmp.patchRun.isSome) = true ∧
    after (exec .patchHaltLoad ((parked_ false (some 0)).modCtx 15 fun x => { x with state := .running })) (fun t => t.cmp.patchRun.isSome) = true ∧
    after (exec .patchHaltLoad ((parked_ false (some 0)).runBegin Obj.CMP_PATCH_ACTIVATE)) (fun t => t.cmp.patchRun = none ∧ t.get Obj.CMP_PATCH_ID = 9 ∧ t.get Obj.CMP_PATCH_SEGS = 1 ∧
      smGet 0 t.cmp.ram 15 = 2 ^ 116 ∧ t.cmp.overlay = [(0, 1)] ∧ (t.ctx 3).line = 3 ∧ (t.ctx 3).stack = [] ∧ (t.ctx 2).line = 99 ∧ (t.ctx 2).state = .waiting ∧
      (t.get Obj.CMP_PATCH_ACTIVATE / 2 ^ 16) % 256 = Res.ok) = true ∧
    after (exec .patchHaltLoad (parked_ true (some 0))) (fun t => t.get Obj.CMP_PATCH_ID = 0 ∧ t.cmp.overlay = [] ∧ (t.get Obj.CMP_PATCH_REMOVE / 2 ^ 16) % 256 = Res.ok) = true := by decide +kernel

/-- An injection that falls on a word in error (R491): a real uncorrectable read, whatever the injected type. -/
theorem test_coincident :
    let s := { live with flt := { live.flt with inj := some { kind := 3, inst := 3 * 2 ^ 24, type := 1, bit := 0, path := 1, left := 2, escalate := false } },
                         mem := { live.mem with flips := [(memKey 3 (3 * 2 ^ 24) 7, 1)] } }
    let r := s.readWord 3 (3 * 2 ^ 24) 7 1
    r.diff = none ∧ r.state.get (Obj.FLT_MI_UE 3) = 1 ∧ r.state.get (Obj.CHS_LABEL_UE 3) = 1 ∧ r.state.get Obj.FLT_INJ_COINCIDENT = 1 ∧
      (r.state.flt.queue.map fun (x : FltRec) => (x.source, x.flags)) = [(195, 3)] ∧ (r.state.source 195).trackers.length = 1 := by decide +kernel

/-! ### Memory integrity (17) -/

/-- A state whose word (kind, inst, addr) has flipped bits and a pending write-back. -/
def pending_ (kind inst addr pat : Nat) (poison : Bool) : State :=
  { live with mem := { live.mem with flips := [(memKey kind inst addr, pat)], backs := [⟨memKey kind inst addr, poison, 0⟩] } }

theorem test_writeBack :
    after (exec (.writeBack 1 0 5) live) (fun t => t = live) = true ∧
    after (exec (.writeBack 1 0 6) (pending_ 1 0 5 4 false)) (fun t => t = pending_ 1 0 5 4 false) = true ∧
    after (exec (.writeBack 1 0 5) (pending_ 1 0 5 4 false)) (fun t => t.flipsAt 1 0 5 = 0 ∧ t.mem.backs = [] ∧ t.get (Obj.FLT_MI_WRITEBACKS 1) = 1 ∧ t.galley = live.galley) = true ∧
    after (exec (.writeBack 5 0 5) (pending_ 5 0 5 0 false)) (fun t => t.mem.backs = []) = true := by decide +kernel

theorem test_writeBack_poison :
    (pending_ 0 0 0 (3 * 2 ^ 20) true).galleyWord 0 0 = some 0 ∧
    after (exec (.writeBack 0 0 0) (pending_ 0 0 0 (3 * 2 ^ 20) true)) (fun t => t.flipsAt 0 0 0 = 0 ∧ t.mem.backs = [] ∧
      t.galley.word 0 = (live.galley.word 0 ^^^ 3) % 2 ^ 256 + 2 ^ 256) = true := by decide +kernel

theorem test_scrub_size : scrubSize 1 0 = 65536 ∧ scrubSize 12 0 = 0 ∧ scrubSize 5 (2 ^ 24) = 133120 ∧ scrubAddr 9 65535 = 65535 ∧ scrubAddr 9 65536 = 0x20000 := by decide +kernel

theorem test_scrub :
    let s := { live with mem := { live.mem with scrub := [(2 ^ 32, 7)] } }
    live.inService = true ∧ live.wiping = false ∧ s.scrubGated 1 0 = false ∧ s.scrubSkips 1 0 = false ∧
    after (exec (.scrubRead 1 0 0) s) (fun t => smGet 0 t.mem.scrub (2 ^ 32) = 8 ∧ t.dict = s.dict ∧ t.flt = s.flt ∧ t.mem.backs = []) = true ∧
    after (exec (.scrubRead 1 0 1) s) (fun t => smGet 0 t.mem.scrub (2 ^ 32) = 8 ∧ (t.mem.backs.any fun b => b.key = memKey 1 0 7 ∧ ¬ b.poison) ∧ t.get (Obj.FLT_MI_CE 1) = 1) = true ∧
    after (exec (.scrubRead 1 0 3) s) (fun t => t.get (Obj.FLT_MI_UE 1) = 1 ∧ t.get (Obj.FLT_MI_CE 1) = 0) = true := by decide +kernel

theorem test_scrub_wrap :
    let s := { live with mem := { live.mem with scrub := [(2 ^ 32, 65535)] } }
    after (exec (.scrubRead 1 0 0) s) (fun t => t.mem.scrub = [] ∧ t.get (Obj.FLT_MI_SCRUB_PASSES 1) = 1) = true ∧
    after (exec (.scrubRead 1 1 0) s) (fun t => t = s) = true := by decide +kernel

/-- A device in the diagnostic mode with the label word 10 of chase 0 named, and its first data. -/
def diag_ (l : List (Nat × Nat)) : State := set { live with tables := { live.tables with label := [(5, 2 ^ 64 * 6 + 9)] } } ([(Obj.FLT_DIAG_KIND, 3), (Obj.FLT_DIAG_ADDR, 10)] ++ l)

theorem test_diagRead :
    let go := fun (s : State) (p : State → Bool) => starts s Obj.FLT_DIAG_READ .fltDiagRead p
    let rec_ := fun (t : State) => ((t.get Obj.FLT_DIAG_READ / 2 ^ 16) % 256, t.get Obj.FLT_DIAG_READ % 2 ^ 16)
    go (diag_ []) (fun t => rec_ t = (Res.badState, 3)) = true ∧
    (diag_ [(Obj.FLT_DIAG_ENABLE, 1)]).diagWord = some (3, 0, 10, 6) ∧
    go (diag_ [(Obj.FLT_DIAG_ENABLE, 1)]) (fun t => rec_ t = (Res.ok, 0) ∧ t.get Obj.FLT_DIAG_DATA = 6 ∧ t.get Obj.FLT_DIAG_CHECK = check72 6) = true ∧
    go (diag_ [(Obj.FLT_DIAG_ENABLE, 1), (Obj.FLT_DIAG_ADDR, 2097151)]) (fun t => rec_ t = (Res.ok, 0)) = true ∧
    go (diag_ [(Obj.FLT_DIAG_ENABLE, 1), (Obj.FLT_DIAG_ADDR, 2097152)]) (fun t => rec_ t = (Res.badValue, 0)) = true ∧
    go { diag_ [(Obj.FLT_DIAG_ENABLE, 1)] with mem := { live.mem with flips := [(memKey 3 0 10, 2 ^ 65 + 1)] } } (fun t => rec_ t = (Res.ok, 0) ∧ t.get Obj.FLT_DIAG_DATA = 7 ∧
      t.get Obj.FLT_DIAG_CHECK = check72 6 ^^^ 2 ∧ t.flt = live.flt) = true := by decide +kernel

theorem test_diagWrite :
    let go := fun (s : State) (p : State → Bool) => starts s Obj.FLT_DIAG_WRITE .fltDiagWrite p
    let rec_ := fun (t : State) => ((t.get Obj.FLT_DIAG_WRITE / 2 ^ 16) % 256, t.get Obj.FLT_DIAG_WRITE % 2 ^ 16)
    let on := diag_ [(Obj.FLT_DIAG_ENABLE, 1), (Obj.FLT_DIAG_DATA, 7), (Obj.FLT_DIAG_CHECK, 5)]
    let full := fun (k : Nat) => { on with mem := { on.mem with log := upTo k } }
    go (diag_ []) (fun t => rec_ t = (Res.badState, 3)) = true ∧
    go (set on [(Obj.PWR_GATE_CHASES, 1)]) (fun t => rec_ t = (Res.badState, 1) ∧ t.mem = on.mem) = true ∧
    go (full 63) (fun t => rec_ t = (Res.ok, 0) ∧ t.mem.log.length = 64 ∧ t.get Obj.FLT_DIAG_LOGGED = 64 ∧ 6 ^^^ (t.flipsAt 3 0 10 % 2 ^ 64) = 7) = true ∧
    go (full 64) (fun t => rec_ t = (Res.badState, 2) ∧ t.mem.log = upTo 64) = true ∧
    go { on with mem := { on.mem with log := upTo 63 ++ [memKey 3 0 10] } } (fun t => rec_ t = (Res.ok, 0) ∧ t.mem.log.length = 64) = true := by decide +kernel

/-! ### Faults (18) -/

theorem test_faultEvent :
    let ev := fun (s : State) (src cause : Nat) (f : Bool) (p : State → Bool) => after (exec (.faultEvent src cause 0 0 f) s) p
    ev live 324 0 true (fun t => t = live) = true ∧
    ev live 323 0x23 false (fun t => (t.source 323).count = 1 ∧ (t.source 323).last = live.uptime ∧ (t.source 323).status = 0 ∧ t.flt.queue.length = 1) = true ∧
    ev live 192 0 true (fun t => (t.source 192).status = 1 ∧ (t.flt.queue.map fun e => (e.cls, e.seq)) = [(Cls.failure, 1)] ∧ (t.source 192).timer = none) = true ∧
    ev live 192 0 false (fun t => (t.source 192).status = 0 ∧ t.flt.queue = [] ∧ t.get Obj.FLT_EVENTS = 1) = true ∧
    ev live 249 0x25 true (fun t => (t.source 249).status = 2 ∧ (t.source 249).timer = some (live.now + msTicks 600000) ∧ (t.flt.queue.map fun e => (e.cls, e.flags)) = [(Cls.failure, 8), (Cls.severe, 8)]) = true ∧
    ev live 251 0x1E true (fun t => (t.source 251).status = 2 ∧ (t.source 251).timer = none) = true ∧
    ev live 259 0x19 true (fun t => (t.source 259).level ∧ t.causePresent 259 ∧ (t.source 259).count = 1) = true ∧
    ev (live.modSource 259 fun x => { x with level := true }) 259 0x19 false (fun t => ¬ t.causePresent 259 ∧ (t.flt.queue.map fun e => e.cls) = [Cls.causeGone]) = true ∧
    ev live 128 0x13 true (fun t => (t.source 128).status = 3) = true := by decide +kernel

/-- Source `src` has a status and a timer. -/
def timed (src st : Nat) (at_ : Option Nat) : State := live.modSource src fun x => { x with status := st, timer := at_ }

theorem test_reactionTimer :
    let ex := fun (src : Nat) (s : State) (p : State → Bool) => after (exec (.reactionTimerExpiry src) s) p
    ex 0 (timed 0 2 none) (fun t => t = timed 0 2 none) = true ∧
    ex 0 (timed 0 1 (some 0)) (fun t => t = timed 0 1 (some 0)) = true ∧
    ex 0 (timed 0 2 (some (live.now + 1))) (fun t => t = timed 0 2 (some (live.now + 1))) = true ∧
    ex 0 (timed 0 2 (some live.now)) (fun t => (t.source 0).status = 4 ∧ (t.source 0).timer = none ∧ t.octetShed 0 ∧ ¬ t.octetShed 1 ∧ ¬ t.flt.safe) = true ∧
    ex 127 (timed 127 2 (some live.now)) (fun t => (t.source 127).status = 4 ∧ t.octetShed 127 ∧ ¬ t.flt.safe) = true ∧
    ex 144 (timed 144 2 (some live.now)) (fun t => (t.source 144).status = 4 ∧ ((upTo 128).all fun o => t.octetShed o = (o < 16)) ∧ ¬ t.flt.safe) = true ∧
    ex 151 (timed 151 2 (some live.now)) (fun t => (t.source 151).status = 4 ∧ ((upTo 128).all fun o => t.octetShed o = (112 ≤ o)) ∧ ¬ t.flt.safe) = true ∧
    ex 192 (timed 192 2 (some live.now)) (fun t => (t.source 192).status = 5 ∧ t.flt.safe ∧ t.get Obj.ID_SAFE_CAUSE = 192) = true ∧
    ex 257 (timed 257 2 (some live.now)) (fun t => (t.source 257).status = 5 ∧ t.flt.safe) = true ∧
    ex 248 (timed 248 2 (some live.now)) (fun t => ¬ t.flt.safe) = true := by decide +kernel

theorem test_rungWithoutSpare :
    let ex := fun (src : Nat) (s : State) (p : State → Bool) => after (exec (.reactionTimerExpiry src) s) p
    let idle := (timed 128 2 (some live.now)).modSource 128 fun x => { x with sevTile := 26 }
    let none_ := { timed 152 2 (some live.now) with galley := { live.galley with retired := [64, 65] } }
    idle.idleLane 128 = true ∧ none_.noSpare 152 = true ∧ live.noSpare 152 = false ∧ live.noSpare 128 = false ∧ live.noSpare 184 = false ∧
    ex 128 idle (fun t => (t.source 128).status = 0 ∧ (t.dlane 0 0 26).state = 3 ∧ t.flt.queue = []) = true ∧
    ex 152 none_ (fun t => (t.source 152).status = 5 ∧ t.flt.safe ∧ (t.flt.queue.map fun e => (e.cls, e.rung)) = [(Cls.rungRefused, 1), (Cls.rungTaken, 3)] ∧
      t.get Obj.FLT_RUNGS = 1) = true := by decide +kernel

/-- A repair of source 152 fell due at an instant. -/
def due (t : Nat) (begun : Bool) : State := { live with flt := { live.flt with repairs := [⟨0, some 152, .bank 0 0 1, 1, t, begun⟩] } }

theorem test_rungNotBegun :
    after (exec (.rungNotBegun 152) (due (live.now - 800000) false)) (fun t => t.flt.safe ∧ (t.source 249).status = 5) = true ∧
    after (exec (.rungNotBegun 152) (due (live.now - 799999) false)) (fun t => ¬ t.flt.safe ∧ (t.source 249).count = 0) = true ∧
    after (exec (.rungNotBegun 152) (due (live.now - 800000) true)) (fun t => ¬ t.flt.safe) = true ∧
    after (exec (.rungNotBegun 153) (due (live.now - 800000) false)) (fun t => ¬ t.flt.safe) = true := by decide +kernel

theorem test_fltClear :
    let go := fun (n : Nat) (s : State) (p : State → Bool) => starts (set s [(Obj.FLT_CLEAR_SRC, n)]) Obj.FLT_CLEAR .fltClear p
    let rec_ := fun (t : State) => ((t.get Obj.FLT_CLEAR / 2 ^ 16) % 256, t.get Obj.FLT_CLEAR % 2 ^ 16)
    let two := (timed 192 2 (some live.now)).modSource 0 fun x => { x with status := 4 }
    let counted := live.modSource 192 fun x => { x with status := 2, trackers := [⟨0, (List.replicate 64 (live.now, none))⟩] }
    go 324 live (fun t => rec_ t = (Res.badValue, 1)) = true ∧ go 0xFFFE live (fun t => rec_ t = (Res.badValue, 1)) = true ∧
    go 323 live (fun t => rec_ t = (Res.ok, 0)) = true ∧
    go 0 (timed 0 3 none) (fun t => rec_ t = (Res.badState, 2)) = true ∧
    go 192 counted (fun t => rec_ t = (Res.causePresent, 0) ∧ (t.source 192).status = 2) = true ∧
    go 192 two (fun t => rec_ t = (Res.ok, 0) ∧ (t.source 192).status = 0 ∧ (t.source 192).timer = none ∧ (t.source 0).status = 4) = true ∧
    go 0xFFFF two (fun t => rec_ t = (Res.ok, 1) ∧ (t.source 192).status = 0 ∧ (t.source 0).status = 4) = true := by decide +kernel

theorem test_safeEnter :
    starts live Obj.FLT_SAFE_ENTER .fltSafeEnter (fun t => t.flt.safe ∧ t.get Obj.FLT_STATE = 1 ∧ t.get Obj.ID_SAFE_CAUSE = 0xFFFE ∧
      (upTo 16).all fun k => t.out.contains (Out.tpo k false live.now 0)) = true ∧
    starts { live with flt := { live.flt with safe := true } } Obj.FLT_SAFE_ENTER .fltSafeEnter (fun t => t.flt.safe ∧ t.get Obj.ID_SAFE_CAUSE = live.get Obj.ID_SAFE_CAUSE) = true := by decide +kernel

theorem test_injArm :
    let go := fun (l : List (Nat × Nat)) (p : State → Bool) => starts (set live l) Obj.FLT_INJ_ARM .fltInjArm p
    let rec_ := fun (t : State) => ((t.get Obj.FLT_INJ_ARM / 2 ^ 16) % 256, t.get Obj.FLT_INJ_ARM % 2 ^ 16)
    let m := fun (k ty p b : Nat) => [(Obj.FLT_INJ_KIND, k), (Obj.FLT_INJ_TYPE, ty), (Obj.FLT_INJ_PATH, p), (Obj.FLT_INJ_BIT, b), (Obj.FLT_INJ_COUNT, 3)]
    starts { live with flt := { live.flt with inj := some ⟨0, 0, 0, 0, 0, 1, false⟩ } } Obj.FLT_INJ_ARM .fltInjArm (fun t => (reply t 0).1 = Res.busy) = true ∧
    go [(Obj.LCY_STATE, 0)] (fun t => (reply t 0).1 = Res.badState) = true ∧ go [(Obj.LCY_STATE, 3)] (fun t => (reply t 0).1 = Res.badState) = true ∧
    go ([(Obj.LCY_STATE, 2)] ++ m 0 0 1 0) (fun t => (reply t 0).1 = Res.badState) = true ∧
    go (m 1 2 0 0) (fun t => rec_ t = (Res.badValue, 1) ∧ t.flt.inj = none) = true ∧
    go (m 12 0 0 0) (fun t => rec_ t = (Res.badValue, 2)) = true ∧
    go (m 13 3 0 0) (fun t => rec_ t = (Res.badValue, 2)) = true ∧
    go (m 0 0 0 20) (fun t => rec_ t = (Res.badValue, 3)) = true ∧
    go (m 1 0 0 8) (fun t => rec_ t = (Res.badValue, 3)) = true ∧
    go (m 12 0 1 7) (fun t => t.isBusy Obj.FLT_INJ_ARM ∧ t.flt.inj.isSome) = true ∧
    go (m 0 2 0 19) (fun t => t.isBusy Obj.FLT_INJ_ARM ∧ t.get Obj.FLT_INJ_LEFT = 3 ∧ t.flt.inj = some ⟨0, 0, 2, 19, 0, 3, false⟩) = true := by decide +kernel

/-! ### Power (19) -/

/-- Rail `r` changed. -/
def railed (r : Nat) (f : Rail → Rail) : State := live.modRail r f

theorem test_regulator :
    let bad : BitVec 16 := 0x8000#16
    live.polled = true ∧
    after (exec (.regulatorPoll 4 1199 10 0) live) (fun t => (t.rail 4).vout = 1199 ∧ (t.rail 4).iout = 10 ∧ (t.rail 4).rereadAt = none ∧ t.flt = live.flt) = true ∧
    after (exec (.regulatorPoll 0 1 2 bad) live) (fun t => (t.source 253).count = 1 ∧ (t.rail 0).rereadAt = some (live.now + 800000) ∧ t.out.contains (Out.pmbus 0 3 0) ∧
      t.get (Obj.PWR_R_STATUS 0) = 0x8000) = true ∧
    after (exec (.regulatorPoll 0 1 2 bad) (railed 0 fun x => { x with rereadAt := some 0 })) (fun t => (t.source 253).count = 0 ∧ t.get (Obj.PWR_R_STATUS 0) = 0x8000) = true ∧
    after (exec (.regulatorFaultReread 4 bad) (railed 4 fun x => { x with rereadAt := some live.now })) (fun t => (t.source 257).count = 1 ∧ (t.rail 4).rereadAt = some (live.now + 800000)) = true ∧
    after (exec (.regulatorFaultReread 4 0) (railed 4 fun x => { x with rereadAt := some live.now })) (fun t => (t.rail 4).rereadAt = none ∧ t.flt = live.flt) = true ∧
    after (exec (.regulatorFaultReread 4 0) (railed 4 fun x => { x with rereadAt := some (live.now + 1) })) (fun t => (t.rail 4).rereadAt = some (live.now + 1)) = true ∧
    after (exec (.pmbAlert [0, bad, 0, 0, bad]) live) (fun t => t.get Obj.PWR_ALERTS = 1 ∧ (t.rail 1).rereadAt = some (live.now + 800000) ∧ (t.rail 0).rereadAt = none ∧
      (t.rail 4).rereadAt = some (live.now + 800000) ∧ t.get (Obj.PWR_R_STATUS 4) = 0x8000) = true := by decide +kernel

theorem test_pmbus :
    let wait := fun (t0 n : Nat) => railed 2 fun x => { x with fails := n, retryAt := some t0 }
    after (exec (.pmbusTransactionFailure 2) live) (fun t => (t.rail 2).fails = 1 ∧ (t.rail 2).retryAt = some (live.now + 800000) ∧ (t.source 255).count = 1) = true ∧
    after (exec (.pmbusTransactionFailure 2) { live with flt := { live.flt with running := false } }) (fun t => t.boot.heldFaults = [(255, 0x21)] ∧ (t.source 255).count = 0) = true ∧
    after (exec (.pmbusRetry 2 false) (wait (live.now + 1) 1)) (fun t => (t.rail 2).fails = 1) = true ∧
    after (exec (.pmbusRetry 2 true) (wait live.now 1)) (fun t => (t.rail 2).fails = 0 ∧ (t.rail 2).retryAt = none ∧ (t.flt.queue.map fun e => (e.source, e.cls)) = [(255, Cls.causeGone)]) = true ∧
    after (exec (.pmbusRetry 2 false) (wait live.now 1)) (fun t => (t.rail 2).fails = 2 ∧ (t.rail 2).retryAt = some (live.now + 800000)) = true := by decide +kernel

theorem test_sensor :
    let s := set live [(Obj.PWR_S_WARN 63, 1000), (Obj.PWR_S_MAX 63, 900)]
    let w := s.modSensor 63 fun x => { x with warn := true, temp := 1001, own := 1001 }
    after (exec (.sensorRead 63 (-481)) s) (fun t => (t.sensor 63).failed ∧ (t.sensor 63).own = -481 ∧ (t.flt.queue.map fun e => (e.source, e.cls, e.cause)) = [(323, Cls.failure, 0x23), (323, Cls.severe, 0x23)]) = true ∧
    after (exec (.sensorRead 63 1601) s) (fun t => (t.sensor 63).failed) = true ∧
    after (exec (.sensorRead 63 (-480)) s) (fun t => ¬ (t.sensor 63).failed ∧ (t.sensor 63).temp = -480 ∧ t.get (Obj.PWR_S_MAX 63) = 900) = true ∧
    after (exec (.sensorRead 63 1600) s) (fun t => ¬ (t.sensor 63).failed ∧ (t.sensor 63).warn ∧ t.get (Obj.PWR_S_MAX 63) = 1600) = true ∧
    after (exec (.sensorRead 63 1000) s) (fun t => ¬ (t.sensor 63).warn) = true ∧ after (exec (.sensorRead 63 1001) s) (fun t => (t.sensor 63).warn) = true ∧
    after (exec (.sensorRead 63 961) w) (fun t => (t.sensor 63).warn) = true ∧ after (exec (.sensorRead 63 960) w) (fun t => ¬ (t.sensor 63).warn) = true := by decide +kernel

theorem test_trip :
    after (exec (.thermalTrip 5) { live with boot := { live.boot with vstby := false } }) (fun t => t.power.thermtrip = false) = true ∧
    after (exec (.thermalTrip 63) live) (fun t => t.power.thermtrip ∧ t.power.tripSensor = 63 ∧ t.out.contains (Out.pin "THERMTRIP_N" false) ∧ ¬ t.busOn ∧ t.flt.safe) = true ∧
    starts live Obj.PWR_SHUTDOWN .pwrShutdown (fun t => t.boot.phase = .shutDown ∧ t.flt.safe ∧ t.get Obj.PWR_STATE = 3 ∧ (upTo 5).all fun r => (t.rail r).state = 0) = true := by decide +kernel

theorem test_droop :
    let at_ := fun (v : Nat) => railed 0 fun x => { x with set := v }
    after (exec (.railDroop 0 999) live) (fun t => t = live) = true ∧
    after (exec (.railDroop 0 1000) (at_ 839)) (fun t => (t.rail 0).set = 849 ∧ t.out.contains (Out.avs 849) ∧ t.get (Obj.PWR_R_DROOPS 0) = 1 ∧ (t.source 253).count = 1 ∧ (t.source 253).status = 1) = true ∧
    after (exec (.railDroop 0 1000) (at_ 845)) (fun t => (t.rail 0).set = 850 ∧ t.out.contains (Out.avs 850)) = true ∧
    after (exec (.railDroop 0 1000) (at_ 850)) (fun t => (t.rail 0).set = 850 ∧ t.power = (at_ 850).power) = true ∧
    after (exec (.railDroop 4 1000) live) (fun t => t.power = live.power ∧ (t.source 257).count = 1) = true := by decide +kernel

theorem test_avs :
    let at_ := fun (v n : Nat) => let s := railed 0 fun x => { x with set := v }; { s with power := { s.power with marginRun := n } }
    let go := fun (m : Int) (s : State) (p : State → Bool) => after (exec (.avsLoop m) s) p
    go 10 { live with boot := { live.boot with phase := .enable } } (fun t => t.power.margin = 0) = true ∧
    go (-1) (at_ 800 5) (fun t => (t.source 253).count = 1 ∧ (t.rail 0).set = 805 ∧ t.get Obj.PWR_AVS_MARGIN = 0xFFFFFFFF ∧ t.power.margin = -1) = true ∧
    go 0 (at_ 800 5) (fun t => (t.source 253).count = 0 ∧ (t.rail 0).set = 805) = true ∧
    go 9 (at_ 848 5) (fun t => (t.rail 0).set = 850) = true ∧ go 9 (at_ 850 5) (fun t => (t.rail 0).set = 850 ∧ t.power.marginRun = 0) = true ∧
    go 10 (at_ 800 5) (fun t => (t.rail 0).set = 800 ∧ t.power.marginRun = 0) = true ∧ go 25 (at_ 800 99) (fun t => (t.rail 0).set = 800 ∧ t.power.marginRun = 0) = true ∧
    go 26 (at_ 800 98) (fun t => (t.rail 0).set = 800 ∧ t.power.marginRun = 99) = true ∧
    go 26 (at_ 800 99) (fun t => (t.rail 0).set = 795 ∧ t.power.marginRun = 0 ∧ t.out.contains (Out.avs 795)) = true ∧
    go 26 (at_ 652 99) (fun t => (t.rail 0).set = 650) = true ∧
    go 5 (set (at_ 800 0) [(Obj.PWR_AVS_MODE, 1), (Obj.PWR_AVS_FIXED, 777)]) (fun t => (t.rail 0).set = 777) = true := by decide +kernel

end Sys2Proof.Tests
end

section
/-! PROOFS. Scope (00): a written object and its frame, the state after reset, and the vendor test indexes. -/

namespace Sys2Proof.Machine
open Sys2Proof

/-! ### Writing an object (R12, R120) -/

theorem State.put_objectsBut (s : State) (k v : Nat) : objectsBut [k] s (s.put k v) := fun j hj =>
  State.get_put_ne s k v j fun hkj => hj (List.mem_singleton.2 hkj.symm)

theorem State.put_unchangedBut_dict (s : State) (k v : Nat) : unchangedBut [.dict] s (s.put k v) := by
  intro p hp
  cases p with
  | dict => exact absurd (List.mem_singleton.2 rfl) hp
  | _ => rfl

theorem State.put_smWf (s : State) (k v : Nat) (hwf : smWf dictDefault s.dict = true) :
    smWf dictDefault (s.put k v).dict = true := smWf_set dictDefault k v s.dict hwf

/-- Settles O8: the read-back and the two frames are the rules of `State.put`, and setting a key keeps a sparse map canonical. -/
theorem objectReadsWhatWasWritten : Obligations.ObjectReadsWhatWasWritten := fun s k v =>
  ⟨State.get_put_same s k v, State.put_objectsBut s k v, State.put_unchangedBut_dict s k v, State.put_smWf s k v⟩

/-! ### The state after reset (R5, R132) -/

@[simp] theorem State.dict_reset : State.reset.dict = [] := rfl

theorem State.get_reset (k : Nat) : State.reset.get k = dictDefault k := by
  rw [State.get, State.dict_reset, smGet]

theorem State.units_reset : State.reset.units = [16, 16, 16, 8, 5, 2, 2] := by decide

/-- The empty dictionary is canonical, and the collector starts with no record waiting. -/
theorem State.bounded_reset : State.reset.bounded = true := by
  have hdict : smWf dictDefault State.reset.dict = true := by rw [State.dict_reset, smWf, smWfFrom]
  have hqueue : State.reset.flt.queue.length ≤ 1024 := Nat.zero_le _
  rw [State.bounded, hdict, decide_eq_true hqueue, Bool.and_self]

theorem State.wellFormed_reset : State.reset.wellFormed = true := by
  rw [State.wellFormed, State.bounded_reset, decide_eq_true State.units_reset, Bool.and_self]

/-- Settles O3: reset lists no object, so each one reads its value after wipe, and the units are counted. -/
theorem resetStateIsWellFormed : Obligations.ResetStateIsWellFormed := ⟨State.wellFormed_reset, State.get_reset⟩

/-! ### Indexes that no object has (R8, R135) -/

/-- An index of an unallocated range is no object's before class, grant or kind of access are looked at (R129 step 1). -/
theorem State.judgeAccess_of_unallocated (s : State) (session grant : Nat) (acc : Access) {idx : Nat} (sub : Nat)
    (h : unallocated idx = true) : s.judgeAccess session grant acc idx sub = (Res.noObject, .u8) := by
  rw [State.judgeAccess, if_pos h]

theorem unallocated_of_le {idx : Nat} (h : 0x4000 ≤ idx) : unallocated idx = true := by
  rw [unallocated, decide_eq_true h, Bool.or_true]

/-- Settles O9: the vendor test range lies in the unallocated range from 0x4000 up. -/
theorem vendorIndexesDoNotExist : Obligations.VendorIndexesDoNotExist := by
  intro s session grant idx sub acc hlo _
  have hun : unallocated idx = true := unallocated_of_le (by omega)
  rw [State.judgeAccess_of_unallocated s session grant acc sub hun]

end Sys2Proof.Machine
end

section
/-! PROOFS. Package signals (02): what an external reset and a supply's loss leave, and how start-up begins at the release, at a supply's return
and at a reference's appearance. -/

namespace Sys2Proof.Machine
open Sys2Proof

/-! ### Frames over parts -/

theorem unchangedBut_trans {l : List Part} {s t u : State} (hst : unchangedBut l s t) (htu : unchangedBut l t u) : unchangedBut l s u := by
  intro p hp
  have h₁ := hst p hp
  have h₂ := htu p hp
  cases p <;> exact Eq.trans h₂ h₁

theorem unchangedBut_mono {l l' : List Part} {s t : State} (hsub : l ⊆ l') (h : unchangedBut l s t) : unchangedBut l' s t :=
  fun p hp => h p fun hmem => hp (hsub hmem)

theorem unchangedBut_boot (s : State) (b : Boot) : unchangedBut [.boot] s { s with boot := b } := by
  intro p hp
  cases p with
  | boot => exact absurd (List.mem_singleton.2 rfl) hp
  | _ => rfl

/-! ### The pins of a device in reset (R48, R50) -/

/-- The falling edges of time outputs at one instant only add to what has left the device. -/
theorem State.foldl_emit_tpo (l : List Nat) (s : State) :
    l.foldl (fun a i => a.emit (.tpo i false a.now 0)) s = { s with out := (l.map fun i => Out.tpo i false s.now 0).reverse ++ s.out } := by
  induction l generalizing s with
  | nil => rfl
  | cons i l ih => rw [List.foldl_cons, ih]; simp [State.emit]

/-- In reset THERMTRIP_N is released, and then the sixteen time outputs go low. -/
theorem State.resetPins_eq (s : State) :
    s.resetPins = { s with out := ((upTo 16).map fun i => Out.tpo i false s.now 0).reverse ++ .pin "THERMTRIP_N" true :: s.out } :=
  State.foldl_emit_tpo (upTo 16) (s.emit (.pin "THERMTRIP_N" true))

@[simp] theorem State.boot_resetPins (s : State) : s.resetPins.boot = s.boot := by rw [State.resetPins_eq]

@[simp] theorem State.power_resetPins (s : State) : s.resetPins.power = s.power := by rw [State.resetPins_eq]

theorem State.resetPins_unchangedBut (s : State) : unchangedBut [.out] s s.resetPins :=
  (State.resetPins_kept s (List.mem_singleton.2 rfl) (Kept.refl [.out] (fun _ => False) s)).1

theorem State.tpo_mem_resetPins (s : State) {n i : Nat} (hnow : s.now = n) (hi : i < 16) : Out.tpo i false n 0 ∈ s.resetPins.out := by
  subst hnow
  have hmem : Out.tpo i false s.now 0 ∈ (upTo 16).map fun i => Out.tpo i false s.now 0 := List.mem_map_of_mem (List.mem_range.2 hi)
  rw [State.resetPins_eq]
  exact List.mem_append_left _ (List.mem_reverse.2 hmem)

theorem State.thermtrip_mem_resetPins (s : State) : Out.pin "THERMTRIP_N" true ∈ s.resetPins.out := by
  rw [State.resetPins_eq]
  exact List.mem_append_right _ List.mem_cons_self

/-! ### The state an external reset leaves (R51, R79) -/

theorem State.keepLinks_unchangedBut (s old : State) : unchangedBut [.links, .dict] s (s.keepLinks old) := by
  have hlinks (ls : List Link) : unchangedBut [.links, .dict] s { s with links := ls } := by
    intro p hp
    cases p with
    | links => exact absurd (by decide) hp
    | _ => rfl
  have hshed (x : State) : unchangedBut [.links, .dict] x
      ((upTo 8).foldl (fun a q => a.put (Obj.QD_OCTETS_SHED q) (old.get (Obj.QD_OCTETS_SHED q))) x) :=
    (Kept.foldl _ _ (fun a q ha => State.put_kept a _ _ (by decide) trivial ha) x (Kept.refl [.links, .dict] (fun _ => True) x)).1
  exact unchangedBut_trans (hlinks _) (hshed _)

/-- What an external reset decides by itself: start-up, power, and what the die-links keep. -/
def resetOwnParts : List Part := [.boot, .power, .links, .dict]

/-- The rest is as `State.fresh0` leaves it: at its reset value, or kept with the store and the clock. -/
theorem State.externalReset_unchangedBut (s : State) : unchangedBut resetOwnParts s.fresh0 s.externalReset := by
  have hown (x : State) (b : Boot) (w : Power) : unchangedBut resetOwnParts x { x with boot := b, power := w } := by
    intro p hp
    cases p with
    | boot | power => exact absurd (by decide) hp
    | _ => rfl
  rw [State.externalReset]
  refine unchangedBut_trans ?_ (hown _ _ _)
  split
  · exact unchangedBut_mono (by decide) (State.keepLinks_unchangedBut s.fresh0 s)
  · exact hown _ _ _

/-- The same with the pins driven, whatever level RESET_N is then known to have. -/
theorem State.externalReset_resetPins_unchangedBut (s : State) (b : Boot) :
    unchangedBut (.out :: resetOwnParts) s.fresh0 { s.externalReset with boot := b }.resetPins := by
  refine unchangedBut_trans (unchangedBut_mono (by decide) s.externalReset_unchangedBut) ?_
  refine unchangedBut_trans (unchangedBut_mono (by decide) (unchangedBut_boot s.externalReset b)) ?_
  exact unchangedBut_mono (by decide) (State.resetPins_unchangedBut { s.externalReset with boot := b })

theorem State.externalReset_boot (s : State) :
    s.externalReset.boot = { vstby := s.boot.vstby, vio := s.boot.vio, resetN := s.boot.resetN, ref0 := { present := s.boot.ref0.present, since := s.boot.ref0.since },
                             ref1 := { present := s.boot.ref1.present, since := s.boot.ref1.since } } := rfl

theorem State.externalReset_power (s : State) :
    s.externalReset.power = { tripSensor := if s.boot.vstby then s.power.tripSensor else 0xFF } := rfl

theorem State.externalReset_now (s : State) : s.externalReset.now = s.now := s.externalReset_unchangedBut .now (by decide)

theorem exec_resetNAsserted_of_lt (s : State) {ns : Nat} (hns : ns < 100) : exec (.resetNAsserted ns) s = .next s := by
  change execResetNAsserted ns s = _
  rw [execResetNAsserted, if_pos hns]

theorem exec_resetNAsserted_of_le (s : State) {ns : Nat} (hns : 100 ≤ ns) :
    exec (.resetNAsserted ns) s = .next { s.externalReset with boot := { s.externalReset.boot with resetN := false } }.resetPins := by
  change execResetNAsserted ns s = _
  rw [execResetNAsserted, if_neg (by omega)]

theorem exec_supplyLoss (s : State) (vio : Bool) :
    exec (.supplyLoss vio) s =
      .next { s with boot := { s.boot with vio := s.boot.vio && !vio, vstby := s.boot.vstby && vio } }.externalReset.resetPins := rfl

/-- Settles O10: a low level of 100 ns and a supply's loss are both `State.externalReset` with the pins driven. -/
theorem externalResetReturnsToPhaseOne : Obligations.ExternalResetReturnsToPhaseOne := by
  refine ⟨fun s ns hns => exec_resetNAsserted_of_lt s hns, fun s ns hns => ⟨_, exec_resetNAsserted_of_le s hns, ?_⟩,
    fun s vio => ⟨_, exec_supplyLoss s vio, ?_⟩⟩
  · have hkept := s.externalReset_resetPins_unchangedBut { s.externalReset.boot with resetN := false }
    rw [State.boot_resetPins, State.power_resetPins, State.externalReset_boot, State.externalReset_power]
    exact ⟨rfl, rfl, rfl, rfl, hkept .store (by decide), hkept .galley (by decide), hkept .tables (by decide), hkept .sched (by decide),
      hkept .ports (by decide), hkept .lanes (by decide), hkept .flt (by decide), hkept .kce (by decide), hkept .cmp (by decide),
      hkept .tim (by decide), hkept .ptp (by decide), hkept .telem (by decide), hkept .wonel (by decide), hkept .mem (by decide),
      hkept .pipes (by decide), rfl, hkept .now (by decide), hkept .pending (by decide),
      fun i => State.tpo_mem_resetPins _ s.externalReset_now, State.thermtrip_mem_resetPins _⟩
  · generalize hlost : ({ s with boot := { s.boot with vio := s.boot.vio && !vio, vstby := s.boot.vstby && vio } } : State) = lost
    have hkept := lost.externalReset_resetPins_unchangedBut lost.externalReset.boot
    rw [State.boot_resetPins, State.power_resetPins, State.externalReset_boot, State.externalReset_power]
    subst hlost
    refine ⟨rfl, rfl, rfl, hkept .store (by decide), hkept .galley (by decide), hkept .tables (by decide), hkept .kce (by decide), rfl, ?_,
      fun i => State.tpo_mem_resetPins _ (State.externalReset_now _), hkept .now (by decide), hkept .pending (by decide)⟩
    rintro rfl
    simp

/-! ### The release of an external reset (R54, R60, R66, R67) -/

theorem strapOf_of_agree {s0 s1 s2 : BitVec 2} (h : s0 = s1 ∧ s1 = s2) : strapOf s0 s1 s2 = (s0.toNat, false) := if_pos h

theorem strapOf_of_unstable {s0 s1 s2 : BitVec 2} (h : ¬ (s0 = s1 ∧ s1 = s2)) : strapOf s0 s1 s2 = (2, true) := if_neg h

section
variable (s : State) (s0 s1 s2 : BitVec 2) (a0 a1 : Bool)

theorem State.release_unchangedBut : unchangedBut [.boot] s (s.release s0 s1 s2 a0 a1) := unchangedBut_boot s _

theorem State.release_bootSel : (s.release s0 s1 s2 a0 a1).boot.bootSel = (strapOf s0 s1 s2).1 := rfl

theorem State.release_heldFaults :
    (s.release s0 s1 s2 a0 a1).boot.heldFaults = if (strapOf s0 s1 s2).2 then [(251, 0x1F)] else [] := rfl

theorem State.release_phase : (s.release s0 s1 s2 a0 a1).boot.phase = if a0 || a1 then .pll else .awaitReference := by
  simp only [State.release, Bool.or_eq_true]

theorem exec_resetNRelease_of_supplied (hphase : s.boot.phase = .inReset) (hlow : s.boot.resetN = false) (hvio : s.boot.vio = true)
    (hvstby : s.boot.vstby = true) : exec (.resetNRelease s0 s1 s2 a0 a1) s = .next (s.release s0 s1 s2 a0 a1) := by
  change execResetNRelease s0 s1 s2 a0 a1 s = _
  simp [execResetNRelease, hphase, hlow, hvio, hvstby]

theorem exec_resetNRelease_of_unsupplied (hphase : s.boot.phase = .inReset) (hlow : s.boot.resetN = false)
    (hsupply : (s.boot.vio && s.boot.vstby) = false) :
    exec (.resetNRelease s0 s1 s2 a0 a1) s = .next { s with boot := { s.boot with resetN := true } } := by
  have hnot : ¬ (s.boot.vio ∧ s.boot.vstby) := by simpa using hsupply
  change execResetNRelease s0 s1 s2 a0 a1 s = _
  rw [execResetNRelease, if_neg (by simp [hphase, hlow]), if_pos hnot]

theorem exec_supplyValid_of_unsupplied (high : Bool) (hsupply : (s.boot.vio && s.boot.vstby) = false) :
    exec (.supplyValid high s0 s1 s2 a0 a1) s =
      .next (let supplied := { s with boot := { s.boot with vio := true, vstby := true, resetN := high } }
        if high then supplied.release s0 s1 s2 a0 a1 else supplied) := by
  have hnot : ¬ (s.boot.vio ∧ s.boot.vstby) := by simpa using hsupply
  change execSupplyValid high s0 s1 s2 a0 a1 s = _
  rw [execSupplyValid, if_neg hnot]

end

/-! ### A reference's appearance (R60, R61) -/

theorem Boot.ref_setRef_same (b : Boot) (r : Nat) (x : RefIn) : (b.setRef r x).ref r = x := by
  unfold Boot.setRef Boot.ref
  split <;> rfl

theorem Boot.phase_setRef (b : Boot) (r : Nat) (x : RefIn) : (b.setRef r x).phase = b.phase := by
  unfold Boot.setRef
  split <;> rfl

theorem Boot.activeRef_setRef (b : Boot) (r : Nat) (x : RefIn) : (b.setRef r x).activeRef = b.activeRef := by
  unfold Boot.setRef
  split <;> rfl

/-- Start-up and references once an absent reference shows edges: the device that waited for one takes it. -/
def Boot.appear (b : Boot) (r now : Nat) : Boot :=
  let seen := b.setRef r { present := true, since := now }
  if b.phase = .awaitReference then { seen with activeRef := r, phase := .pll } else seen

theorem Boot.ref_appear (b : Boot) (r now : Nat) : (b.appear r now).ref r = { present := true, since := now } := by
  unfold Boot.appear
  split
  · exact Boot.ref_setRef_same b r _
  · exact Boot.ref_setRef_same b r _

theorem Boot.appear_of_waiting {b : Boot} (r now : Nat) (h : b.phase = .awaitReference) :
    (b.appear r now).phase = .pll ∧ (b.appear r now).activeRef = r := by
  rw [Boot.appear, if_pos h]
  exact ⟨rfl, rfl⟩

theorem Boot.appear_of_not_waiting {b : Boot} (r now : Nat) (h : b.phase ≠ .awaitReference) :
    (b.appear r now).phase = b.phase ∧ (b.appear r now).activeRef = b.activeRef := by
  rw [Boot.appear, if_neg h]
  exact ⟨Boot.phase_setRef b r _, Boot.activeRef_setRef b r _⟩

theorem exec_referenceAppears_of_absent (s : State) {r : Nat} (hr : r < 2) (habsent : (s.boot.ref r).present = false) :
    exec (.referenceAppears r) s = .next { s with boot := s.boot.appear r s.now } := by
  change execReferenceAppears r s = _
  rw [execReferenceAppears, if_neg (by simp [habsent, hr]), Boot.appear]
  split <;> rfl

/-- Settles O11: a rise with both supplies valid, and the later supply's return with RESET_N high, are both `State.release`. -/
theorem releaseLatchesStrapsAndChoosesReference : Obligations.ReleaseLatchesStrapsAndChoosesReference := by
  refine ⟨fun s s0 s1 s2 a0 a1 hphase hlow hvio hvstby => ⟨_, exec_resetNRelease_of_supplied s s0 s1 s2 a0 a1 hphase hlow hvio hvstby, ?_⟩,
    fun s s0 s1 s2 a0 a1 => exec_resetNRelease_of_unsupplied s s0 s1 s2 a0 a1,
    fun s s0 s1 s2 a0 a1 hsupply => ⟨exec_supplyValid_of_unsupplied s s0 s1 s2 a0 a1 false hsupply,
      _, exec_supplyValid_of_unsupplied s s0 s1 s2 a0 a1 true hsupply, ?_⟩,
    fun s r hr habsent => ⟨_, exec_referenceAppears_of_absent s hr habsent, ?_⟩⟩
  · refine ⟨rfl, rfl, rfl, fun hagree => ?_, fun hunstable => ?_, rfl, s.release_phase s0 s1 s2 a0 a1, s.release_unchangedBut s0 s1 s2 a0 a1⟩
    · rw [State.release_bootSel, State.release_heldFaults, strapOf_of_agree hagree]
      exact ⟨rfl, rfl⟩
    · rw [State.release_bootSel, State.release_heldFaults, strapOf_of_unstable hunstable]
      exact ⟨rfl, rfl⟩
  · exact ⟨rfl, rfl, rfl, rfl, apply_ite Prod.fst _ _ _, rfl, State.release_phase _ s0 s1 s2 a0 a1, unchangedBut_boot s _⟩
  · have hseen : (s.boot.appear r s.now).ref r = { present := true, since := s.now } := Boot.ref_appear s.boot r s.now
    exact ⟨congrArg RefIn.present hseen, congrArg RefIn.since hseen, Boot.appear_of_waiting r s.now, Boot.appear_of_not_waiting r s.now,
      unchangedBut_boot s _⟩

end Sys2Proof.Machine
end

section
/-! PROOFS. The Wonel protocol (04): management ports, sessions, and what a request at its turn is answered. -/

namespace Sys2Proof.Machine
open Sys2Proof

/-! ### A management port's frames (R86, R88) -/

theorem State.mgListens_iff (s : State) (mg : Nat) : s.mgListens mg = true ↔ mg < 2 ∧ s.wonelOn = true ∧ (s.mgPort mg).up = true := by
  simp [State.mgListens, and_assoc]

theorem parseWay_way {way : Nat} {f : Bytes} {x : WayFrame} (h : parseWay way f = some x) : x.via.way = way := by
  unfold parseWay at h
  split at h
  · cases h
  · split at h
    · cases h; rfl
    · split at h
      · cases h
      · cases h; rfl

theorem State.arpOf_way {s : State} {way : Nat} {f : Bytes} {e : Via × Bytes} (h : s.arpOf way f = some e) : e.1.way = way := by
  unfold State.arpOf at h
  cases hparse : parseWay way f with
  | none => rw [hparse] at h; cases h
  | some x =>
    simp only [hparse] at h
    split at h
    · cases h; exact parseWay_way hparse
    · cases h

theorem State.wayOut_of_up (s : State) {mg : Nat} (f : Bytes) (hup : (s.mgPort mg).up = true) :
    s.wayOut (0x400 + mg) f = s.emit (.mgFrame mg (f ++ fcsBytes f)) := by
  rw [State.wayOut, if_neg (by omega), Nat.add_sub_cancel_left, if_pos hup]

/-- An ARP reply goes out of the port its request came in by. -/
theorem State.arpIn_of_request {s : State} {mg : Nat} {frame sender : Bytes} {v : Via} (count : Bool) (hup : (s.mgPort mg).up = true)
    (harp : s.arpOf (0x400 + mg) frame = some (v, sender)) :
    let f := s.backFrame v 0x0806
      (beBytes 8 0x0001080006040002 ++ beBytes 6 (s.get Obj.SES_MAC_ADDR) ++ beBytes 4 (s.get Obj.SES_IPV4_ADDR) ++ sender)
    s.arpIn (0x400 + mg) frame count = s.emit (.mgFrame mg (f ++ fcsBytes f)) := by
  have hway : v.way = 0x400 + mg := State.arpOf_way harp
  simp only [State.arpIn, harp, State.arpReply, hway, State.wayOut_of_up s _ hup]

theorem State.emit_unchangedBut (s : State) (o : Out) : unchangedBut [.out] s (s.emit o) :=
  (State.emit_kept s o (List.mem_singleton.2 rfl) (Kept.refl [.out] (fun _ => False) s)).1

section
variable {s : State} {mg : Nat} (frame : Bytes) (hlisten : s.mgListens mg = true)
include hlisten

theorem exec_arpRequest_of_listening : exec (.arpRequest (0x400 + mg) frame) s =
    .next (if s.mgEnabled mg then s.arpIn (0x400 + mg) frame true else s.bump Obj.SES_RX_DROPPED) := by
  change execArpRequest (0x400 + mg) frame s = _
  rw [execArpRequest, if_neg (by omega), Nat.add_sub_cancel_left, if_neg (not_not_intro hlisten), ite_not]

theorem exec_wonelFrameRx_of_listening : exec (.wonelFrameRx (0x400 + mg) frame) s =
    .next (if s.mgEnabled mg then s.receive (0x400 + mg) frame else s.bump Obj.SES_RX_DROPPED) := by
  change execWonelFrameRx (0x400 + mg) frame s = _
  rw [execWonelFrameRx, if_neg (by omega), Nat.add_sub_cancel_left, if_neg (not_not_intro hlisten), ite_not]

theorem exec_mgFrameDropped_of_untaken
    (huntaken : (s.mgEnabled mg && ((s.wonelOf (0x400 + mg) frame).isSome || (s.arpOf (0x400 + mg) frame).isSome)) = false) :
    exec (.mgFrameDropped mg frame) s = .next (s.bump Obj.SES_RX_DROPPED) := by
  change execMgFrameDropped mg frame s = _
  simp [execMgFrameDropped, huntaken, hlisten]

end

/-! ### A front port's frames (R86) -/

section
variable {s : State} {way : Nat} {frame : Bytes}

theorem State.takeRx_of_delivered (hrx : s.wonel.rx.contains (way, frame) = true) :
    s.takeRx way frame = some { s with wonel := { s.wonel with rx := s.wonel.rx.erase (way, frame) } } := if_pos hrx

theorem exec_wonelFrameRx_of_inband_off (hway : way < 0x400) (hrx : s.wonel.rx.contains (way, frame) = true) (hoff : s.get Obj.SES_INBAND ≠ 1) :
    exec (.wonelFrameRx way frame) s = .next { s with wonel := { s.wonel with rx := s.wonel.rx.erase (way, frame) } } := by
  change execWonelFrameRx way frame s = _
  simp only [execWonelFrameRx, if_pos hway, State.takeRx_of_delivered hrx, hoff, false_and, if_false]

theorem exec_arpRequest_of_inband_off (hway : way < 0x400) (hrx : s.wonel.rx.contains (way, frame) = true) (hoff : s.get Obj.SES_INBAND ≠ 1) :
    exec (.arpRequest way frame) s = .next { s with wonel := { s.wonel with rx := s.wonel.rx.erase (way, frame) } } := by
  change execArpRequest way frame s = _
  simp only [execArpRequest, if_pos hway, State.takeRx_of_delivered hrx, hoff, false_and, if_false]

end

/-- Settles O19: each way in is first asked whether it listens and is enabled, then the frame what it carries; an ARP reply leaves by the way
of its request. -/
theorem arpIsAnsweredAndOtherFramesDropped : Obligations.ArpIsAnsweredAndOtherFramesDropped := by
  refine ⟨fun s mg frame v sender hlisten henabled harp => ?_,
    fun s mg frame hlisten => ⟨fun hdisabled => ⟨?_, ?_, ?_⟩, fun hwonel harp => ?_⟩,
    fun s way frame hway hrx hoff => ⟨exec_wonelFrameRx_of_inband_off hway hrx hoff, exec_arpRequest_of_inband_off hway hrx hoff⟩⟩
  · obtain ⟨-, -, hup⟩ := (s.mgListens_iff mg).1 hlisten
    refine ⟨_, ?_, rfl, State.emit_unchangedBut s _⟩
    rw [exec_arpRequest_of_listening frame hlisten, if_pos henabled, State.arpIn_of_request true hup harp]
  · rw [exec_arpRequest_of_listening frame hlisten, if_neg (by simp [hdisabled])]
  · rw [exec_wonelFrameRx_of_listening frame hlisten, if_neg (by simp [hdisabled])]
  · exact exec_mgFrameDropped_of_untaken frame hlisten (by simp [hdisabled])
  · exact exec_mgFrameDropped_of_untaken frame hlisten (by simp [hwonel, harp])

/-! ### A change of one session (R97 to R99) -/

theorem listAt_listMod {α : Type} (d : α) (l : List α) (i : Nat) (f : α → α) (j : Nat) :
    listAt d (listMod l i f) j = if i = j ∧ j < l.length then f (listAt d l j) else listAt d l j := by
  induction l generalizing i j with
  | nil => simp [listMod]
  | cons x t ih =>
    cases i with
    | zero => cases j <;> simp [listMod, listAt]
    | succ i =>
      cases j with
      | zero => simp [listMod, listAt]
      | succ j => simpa [listMod, listAt] using ih i j

theorem State.session_modSession_same (s : State) {i : Nat} (f : Session → Session) (hi : i < s.wonel.sessions.length) :
    (s.modSession i f).session i = f (s.session i) := by
  rw [State.session, State.modSession, listAt_listMod, if_pos ⟨rfl, hi⟩]
  rfl

theorem State.session_modSession_ne (s : State) {i j : Nat} (f : Session → Session) (hij : j ≠ i) :
    (s.modSession i f).session j = s.session j := by
  rw [State.session, State.modSession, listAt_listMod, if_neg fun h => hij h.1.symm]
  rfl

@[simp] theorem State.sessions_length_modSession (s : State) (i : Nat) (f : Session → Session) :
    (s.modSession i f).wonel.sessions.length = s.wonel.sessions.length := listMod_length _ _ _

theorem State.closeSession_unchangedBut (s : State) (i : Nat) : unchangedBut [.wonel] s (s.closeSession i) :=
  (State.closeSession_kept s i (List.mem_singleton.2 rfl) (Kept.refl [.wonel] (fun _ => False) s)).1

/-- What closing a session leaves of it: the cached reply, and nothing else (R98, R99). -/
theorem State.session_closeSession_same (s : State) {i : Nat} (hi : i < s.wonel.sessions.length) :
    (s.closeSession i).session i = { cache := (s.session i).cache } := State.session_modSession_same s _ hi

theorem State.session_closeSession_ne (s : State) {i j : Nat} (hij : j ≠ i) : (s.closeSession i).session j = s.session j :=
  State.session_modSession_ne s _ hij

/-- A session that is not open stays so when another one, or itself, closes. -/
theorem State.closed_closeSession (s : State) {i : Nat} (j : Nat) (hclosed : (s.session i).isOpen = false) :
    ((s.closeSession j).session i).isOpen = false := by
  rw [State.session, State.closeSession, State.modSession, listAt_listMod]
  split
  · rfl
  · exact hclosed

theorem State.closed_closeSpent (s : State) {i : Nat} (hclosed : (s.session i).isOpen = false) : (s.closeSpent.session i).isOpen = false := by
  unfold State.closeSpent
  generalize upTo 16 = l
  induction l generalizing s with
  | nil => exact hclosed
  | cons j l ih =>
    rw [List.foldl_cons]
    apply ih
    split
    · exact State.closed_closeSession s j hclosed
    · exact hclosed

/-! ### Attention latches (R115, R116) -/

theorem State.session_latchIf (s : State) (bit : Nat) (p : Nat → Bool) {i : Nat} (hi : i < s.wonel.sessions.length) :
    (s.latchIf bit p).session i =
      if (s.session i).isOpen && sees (s.page i).cls bit && p (s.page i).cls then
        { s.session i with latches := (s.session i).latches ||| (1 <<< bit) }
      else s.session i := by
  simp [State.session, State.latchIf, listAt, hi]

/-- LINK is seen by every class. -/
theorem State.latches_latch_link (s : State) {i : Nat} (hi : i < s.wonel.sessions.length) (hopen : (s.session i).isOpen = true) :
    ((s.latch Attn.link).session i).latches = (s.session i).latches ||| 16 := by
  have hsees : sees (s.page i).cls Attn.link = true := rfl
  rw [State.latch, State.session_latchIf s _ _ hi, hopen, hsees]
  rfl

@[simp] theorem State.mgPort_latch (s : State) (bit mg : Nat) : (s.latch bit).mgPort mg = s.mgPort mg := rfl

/-! ### Management links (R89) -/

theorem State.mgPort_modMg_same (s : State) (mg : Nat) (f : MgPort → MgPort) : (s.modMg mg f).mgPort mg = f (s.mgPort mg) := by
  by_cases h : mg = 0 <;> simp [State.modMg, State.mgPort, h]

@[simp] theorem State.sessions_modMg (s : State) (mg : Nat) (f : MgPort → MgPort) : (s.modMg mg f).wonel.sessions = s.wonel.sessions := by
  unfold State.modMg
  split <;> rfl

@[simp] theorem State.session_modMg (s : State) (mg : Nat) (f : MgPort → MgPort) (i : Nat) : (s.modMg mg f).session i = s.session i := by
  rw [State.session, State.sessions_modMg, State.session]

theorem State.modMg_unchangedBut (s : State) (mg : Nat) (f : MgPort → MgPort) : unchangedBut [.wonel] s (s.modMg mg f) :=
  (State.modMg_kept s mg f (List.mem_singleton.2 rfl) (Kept.refl [.wonel] (fun _ => False) s)).1

/-- A port as a change of its link leaves it (R89). -/
def State.mgChanged (s : State) (mg : Nat) (up : Bool) : MgPort :=
  if up then { s.mgPort mg with up := true, since := s.now }
  else { up := false, fec := if s.get Obj.SES_MG_FEC = 0 then 3 else s.get Obj.SES_MG_FEC, since := s.now }

theorem State.modMg_congr {s : State} {mg : Nat} {f g : MgPort → MgPort} (h : f (s.mgPort mg) = g (s.mgPort mg)) :
    s.modMg mg f = s.modMg mg g := by
  unfold State.mgPort at h
  unfold State.modMg
  split at h
  case isTrue hmg => rw [if_pos hmg, if_pos hmg, h]
  case isFalse hmg => rw [if_neg hmg, if_neg hmg, h]

section
variable {s : State} {mg : Nat} (hmg : mg < 2) (hon : s.wonelOn = true)
include hmg hon

theorem exec_mgFecCycle_of_overdue (hdown : (s.mgPort mg).up = false) (hround : s.get Obj.SES_MG_FEC = 0)
    (hdue : (s.mgPort mg).since + 1600000000 ≤ s.now) :
    exec (.mgFecCycle mg) s =
      .next (s.modMg mg fun y => { y with fec := if y.fec = 3 then 2 else if y.fec = 2 then 1 else 3, since := s.now }) := by
  have hwait : ¬ s.now < (s.mgPort mg).since + secTicks 2 := Nat.not_lt.2 hdue
  have htries : ¬ (2 ≤ mg ∨ ¬ s.wonelOn ∨ (s.mgPort mg).up ∨ s.get Obj.SES_MG_FEC ≠ 0 ∨ s.now < (s.mgPort mg).since + secTicks 2) := by
    simp [Nat.not_le.2 hmg, hon, hdown, hround, hwait]
  change execMgFecCycle mg s = _
  rw [execMgFecCycle, if_neg htries]

theorem exec_mgLinkChange_of_ne {up : Bool} (hne : (s.mgPort mg).up ≠ up) :
    exec (.mgLinkChange mg up) s = .next ((s.modMg mg fun _ => s.mgChanged mg up).latch Attn.link) := by
  have hserved : ¬ (2 ≤ mg ∨ ¬ s.wonelOn ∨ (s.mgPort mg).up = up) := by simp [Nat.not_le.2 hmg, hon, hne]
  change execMgLinkChange mg up s = _
  rw [execMgLinkChange, if_neg hserved]
  cases up with
  | true => exact congrArg (fun t : State => Host.Outcome.next (t.latch Attn.link)) (State.modMg_congr rfl)
  | false => rfl

end

theorem State.latches_of_linkChange (s : State) (mg : Nat) (x : MgPort) {i : Nat} (hi : i < s.wonel.sessions.length)
    (hopen : (s.session i).isOpen = true) :
    (((s.modMg mg fun _ => x).latch Attn.link).session i).latches = (s.session i).latches ||| 16 := by
  rw [State.latches_latch_link _ (by simpa using hi) (by simpa using hopen), State.session_modMg]

theorem State.linkChange_unchangedBut (s : State) (mg : Nat) (x : MgPort) : unchangedBut [.wonel] s ((s.modMg mg fun _ => x).latch Attn.link) :=
  have hmem : Part.wonel ∈ [Part.wonel] := List.mem_singleton.2 rfl
  (State.latch_kept _ Attn.link hmem (State.modMg_kept s mg _ hmem (Kept.refl [.wonel] (fun _ => False) s))).1

theorem exec_sessionIdleTimeout_of_overdue {s : State} {i : Nat} (hopen : (s.session i).isOpen = true) (hdue : (s.session i).deadline ≤ s.now) :
    exec (.sessionIdleTimeout i) s = .next (s.closeSession i) := by
  change execSessionIdleTimeout i s = _
  rw [execSessionIdleTimeout, if_pos ⟨hopen, hdue⟩]

/-- Settles O20: the two port commands are one change of the port, the second with LINK latched in every open session; the idle timeout is
`State.closeSession`. -/
theorem managementLinksAndIdleSessions : Obligations.ManagementLinksAndIdleSessions := by
  refine ⟨fun s mg hmg hon hdown hround hdue => ⟨_, exec_mgFecCycle_of_overdue hmg hon hdown hround hdue, ?_⟩,
    fun s mg up hmg hon hne hlen => ⟨_, exec_mgLinkChange_of_ne hmg hon hne, ?_⟩,
    fun s i hi hlen hopen hdue => ⟨_, exec_sessionIdleTimeout_of_overdue hopen hdue, ?_⟩⟩
  · rw [State.mgPort_modMg_same]
    exact ⟨rfl, rfl, hdown, State.modMg_unchangedBut s mg _⟩
  · rw [State.mgPort_latch, State.mgPort_modMg_same]
    have hlatched (i : Nat) (hi : i < 16) := State.latches_of_linkChange s mg (s.mgChanged mg up) (i := i) (by omega)
    have hframe := State.linkChange_unchangedBut s mg (s.mgChanged mg up)
    cases up with
    | true => exact ⟨rfl, rfl, fun _ => rfl, Bool.noConfusion, hlatched, hframe⟩
    | false => exact ⟨rfl, rfl, Bool.noConfusion, fun _ => rfl, hlatched, hframe⟩
  · rw [State.session_closeSession_same s (by omega)]
    exact ⟨rfl, rfl, rfl, rfl, rfl, fun j hj => State.session_closeSession_ne s hj, State.closeSession_unchangedBut s i⟩

/-! ### A request at its turn (R96, R532) -/

/-- The request served next is the head of a session's queue. -/
theorem State.nextRequest_inv {s : State} {i : Nat} {r : Request} (h : s.nextRequest = some (i, r)) :
    i < 16 ∧ ∃ t, (s.session i).queue = r :: t := by
  unfold State.nextRequest at h
  split at h
  · cases h
  · obtain ⟨j, hj, hfound⟩ := List.exists_of_findSome?_eq_some h
    obtain ⟨k, -, rfl⟩ := List.mem_map.1 hj
    cases hqueue : (s.session ((s.wonel.served + 1 + k) % 16)).queue with
    | nil => simp [hqueue] at hfound
    | cons q t =>
      simp only [hqueue, Option.ite_none_left_eq_some, Option.some.injEq, Prod.mk.injEq] at hfound
      obtain ⟨-, rfl, rfl⟩ := hfound
      exact ⟨Nat.mod_lt _ (by decide), t, hqueue⟩

theorem State.readyFor_iff (s : State) (i : Nat) (r : Request) (op : Nat) :
    s.readyFor i r op = true ↔ s.nextRequest = some (i, r) ∧ msgOpcode r.msg = op ∧ wholeTest (s.session i).isOpen r.msg = Res.ok := by
  simp [State.readyFor, isOp, and_assoc]

theorem State.readyFor_lt {s : State} {i : Nat} {r : Request} {op : Nat} (h : s.readyFor i r op = true) : i < 16 :=
  (State.nextRequest_inv ((s.readyFor_iff i r op).1 h).1).1

@[simp] theorem State.get_turnOf (s : State) (i k : Nat) : (s.turnOf i).get k = s.get k := rfl

@[simp] theorem State.page_turnOf (s : State) (i j : Nat) : (s.turnOf i).page j = s.page j := rfl

@[simp] theorem State.sessions_length_turnOf (s : State) (i : Nat) : (s.turnOf i).wonel.sessions.length = s.wonel.sessions.length :=
  s.sessions_length_modSession i _

/-- Taking a request from a queue opens and closes no session. -/
@[simp] theorem State.isOpen_turnOf (s : State) (i j : Nat) : ((s.turnOf i).session j).isOpen = (s.session j).isOpen := by
  change (listAt _ (listMod s.wonel.sessions i _) j).isOpen = _
  rw [listAt_listMod]
  split <;> rfl

theorem State.tests_of_readyFor {s : State} {i : Nat} {r : Request} {op : Nat} (h : s.readyFor i r op = true) :
    msgOpcode r.msg = op ∧ wholeTest (s.session i).isOpen r.msg = Res.ok := ((s.readyFor_iff i r op).1 h).2

theorem State.serve_of_queue {s : State} {i : Nat} {r : Request} {t : List Request} (hqueue : (s.session i).queue = r :: t) (gone : Bool) :
    s.serve i gone = (((s.turnOf i).perform i r gone).state.answer i r.msg r.via ((s.turnOf i).perform i r gone).code
      ((s.turnOf i).perform i r gone).payload true).afterReply i ((s.turnOf i).perform i r gone) := by
  simp only [State.serve, State.turnOf, hqueue, List.drop_succ_cons, List.drop_zero]

/-- A request at its turn is carried out in the state of its turn and answered. -/
theorem State.serveIf_of_readyFor {s : State} {i : Nat} {r : Request} {op : Nat} (h : s.readyFor i r op = true) (gone : Bool) :
    s.serveIf (isOp op) gone = State.finish i r ((s.turnOf i).perform i r gone) := by
  obtain ⟨hnext, hop, -⟩ := (s.readyFor_iff i r op).1 h
  obtain ⟨-, t, hqueue⟩ := State.nextRequest_inv hnext
  have hisOp : isOp op r.msg = true := decide_eq_true hop
  simp only [State.serveIf, hnext, hisOp, if_true, State.serve_of_queue hqueue, State.finish]

/-! ### What a request of each opcode comes to (R97, R98, R106 to R109) -/

section
variable {s : State} {i : Nat} {r : Request} (gone : Bool)

theorem State.perform_hello (h : s.readyFor i r 0x01 = true) : (s.turnOf i).perform i r gone = (s.turnOf i).doHello i r.msg := by
  simp [State.perform, State.tests_of_readyFor h]

theorem State.perform_bye (h : s.readyFor i r 0x02 = true) :
    (s.turnOf i).perform i r gone = ⟨Res.ok, [], s.turnOf i, [], none, (s.session i).isOpen⟩ := by
  simp [State.perform, State.tests_of_readyFor h]

theorem State.perform_read (h : s.readyFor i r 0x10 = true) :
    let x := (s.turnOf i).readRef i r.grant (refAt (msgPayload r.msg) 0)
    (s.turnOf i).perform i r gone = ⟨x.1, x.2.1, x.2.2, [], none, false⟩ := by
  simp [State.perform, State.tests_of_readyFor h]

theorem State.perform_readMulti (h : s.readyFor i r 0x12 = true) :
    (s.turnOf i).perform i r gone = (s.turnOf i).doReadMulti i r.grant (msgPayload r.msg) := by
  simp [State.perform, State.tests_of_readyFor h]

theorem State.perform_write (h : s.readyFor i r 0x11 = true) :
    let x := (s.turnOf i).writeItems i r.grant ((parseItems (msgPayload r.msg) 1).getD [])
    (s.turnOf i).perform i r gone = ⟨x.1, x.2.1, x.2.2.2, x.2.2.1, none, false⟩ := by
  simp [State.perform, State.tests_of_readyFor h]

theorem State.perform_writeMulti (h : s.readyFor i r 0x13 = true) :
    let pl := msgPayload r.msg
    let x := (s.turnOf i).writeItems i r.grant ((parseItems (pl.drop 4) (u pl 0 2)).getD [])
    (s.turnOf i).perform i r gone = ⟨x.1, slice pl 0 2 ++ [0, 0] ++ x.2.1, x.2.2.2, x.2.2.1, none, false⟩ := by
  simp [State.perform, State.tests_of_readyFor h]

end

/-! ### HELLO and BYE (R97, R98) -/

/-- The idle timeout that a HELLO gives its session, in seconds. -/
def State.helloIdle (s : State) (m : Bytes) : Nat :=
  max 1 (min 3600 (if u (msgPayload m) 0 2 = 0 then s.get Obj.SES_IDLE_DEFAULT else u (msgPayload m) 0 2))

/-- A session as HELLO opens it: closed first, then open with an idle time, ATTN_LOST latched and the requests that may still wait. -/
def State.opened (s : State) (i idle : Nat) : State :=
  ((s.closeSession i).modSession i fun x =>
    { x with isOpen := true, idle := idle, deadline := s.now + secTicks idle, latches := 1 <<< Attn.lost,
             queue := if (s.session i).isOpen then [] else (s.session i).queue }).put (Obj.SES_ACCEPTED i) 1

theorem State.session_opened (s : State) {i : Nat} (idle : Nat) (hi : i < s.wonel.sessions.length) :
    (s.opened i idle).session i =
      { isOpen := true, idle := idle, deadline := s.now + idle * 800000000, latches := 32768,
        queue := if (s.session i).isOpen then [] else (s.session i).queue, cache := (s.session i).cache } := by
  have hclose : i < (s.closeSession i).wonel.sessions.length := by rwa [State.closeSession, State.sessions_length_modSession]
  change ((s.closeSession i).modSession i _).session i = _
  rw [State.session_modSession_same _ _ hclose, State.session_closeSession_same s hi]
  rfl

theorem State.doHello_of_barred {s : State} {i : Nat} (m : Bytes) (hbar : (s.get Obj.LCY_STATE = 0 ∨ s.get Obj.LCY_STATE = 3) ∧ i ≠ 0) :
    s.doHello i m = ⟨Res.badState, [], s, [], none, false⟩ := if_pos hbar

theorem State.doHello_of_admitted {s : State} {i : Nat} (m : Bytes)
    (hadmit : ¬ ((s.get Obj.LCY_STATE = 0 ∨ s.get Obj.LCY_STATE = 3) ∧ i ≠ 0)) :
    s.doHello i m = ⟨Res.ok, [u8 (s.page i).cls, u8 (s.get Obj.LCY_STATE)] ++ beBytes 2 (s.helloIdle m) ++ beBytes 2 1280 ++ [0, 0] ++
      beBytes 8 (s.page i).counter ++ beBytes 8 (2 ^ 48 - (s.page i).used), s.opened i (s.helloIdle m), [], none, false⟩ := if_neg hadmit

theorem exec_hello_of_readyFor {s : State} {i : Nat} {r : Request} (h : s.readyFor i r 0x01 = true) :
    exec .hello s = .next (State.finish i r ((s.turnOf i).doHello i r.msg)) := by
  change Host.Outcome.next (s.serveIf (isOp 0x01) false) = _
  rw [State.serveIf_of_readyFor h, State.perform_hello false h]

theorem exec_bye_of_readyFor {s : State} {i : Nat} {r : Request} (h : s.readyFor i r 0x02 = true) :
    exec .bye s = .next (State.finish i r ⟨Res.ok, [], s.turnOf i, [], none, (s.session i).isOpen⟩) := by
  change Host.Outcome.next (s.serveIf (isOp 0x02) false) = _
  rw [State.serveIf_of_readyFor h, State.perform_bye false h]

/-- After the reply to a BYE the session is closed, and closing the spent ones opens none. -/
theorem State.closed_afterReply_of_bye (s : State) {i : Nat} {d : Done} (hi : i < s.wonel.sessions.length) (hwrites : d.writes = [])
    (hstarted : d.started = none) (hbye : d.bye = true) : ((s.afterReply i d).session i).isOpen = false := by
  have hafter : s.afterReply i d = (s.closeSession i).closeSpent := by
    simp only [State.afterReply, hwrites, hstarted, hbye, List.foldl_nil, if_true]
  rw [hafter]
  exact State.closed_closeSpent _ (by rw [State.session_closeSession_same s hi])

/-- Settles O21: HELLO opens the session in the state of its turn, whose page, clock and objects are those before it. -/
theorem helloOpensAndByeCloses : Obligations.HelloOpensAndByeCloses := by
  refine ⟨fun s i r h hlen => ⟨fun hadmit => ?_, fun hbar => ?_⟩, fun s i r h => exec_bye_of_readyFor h,
    fun s i d hi hwrites hstarted hbye => State.closed_afterReply_of_bye s hi hwrites hstarted hbye⟩
  · refine ⟨(s.turnOf i).opened i ((s.turnOf i).helloIdle r.msg), ?_, ?_⟩
    · rw [exec_hello_of_readyFor h, State.doHello_of_admitted (s := s.turnOf i) r.msg hadmit]
      simp only [State.page_turnOf, State.get_turnOf, State.helloIdle]
    · have hi : i < (s.turnOf i).wonel.sessions.length := by rw [State.sessions_length_turnOf, hlen]; exact State.readyFor_lt h
      rw [State.session_opened (s.turnOf i) _ hi]
      exact ⟨rfl, rfl, rfl, rfl, rfl, State.get_put_same _ _ _⟩
  · rw [exec_hello_of_readyFor h, State.doHello_of_barred (s := s.turnOf i) r.msg hbar]

/-! ### READ and READ_MULTI (R106, R108, R129, R130) -/

section
variable {s : State} {i g : Nat} {f : Ref}

theorem State.readRef_of_refused (h : (s.judgeRef i g .read f).1 ≠ Res.ok) :
    s.readRef i g f = ((s.judgeRef i g .read f).1, itemBytes f.idx f.sub (s.judgeRef i g .read f).1 .u8 0, s) := if_pos h

/-- Subindex 0x00 reads the number of the object's last subindex. -/
theorem State.readRef_of_count (h : (s.judgeRef i g .read f).1 = Res.ok) (hsub : f.sub = 0) :
    s.readRef i g f = (Res.ok, itemBytes f.idx 0 Res.ok .u8 (((maxSub f.idx).map Prod.fst).getD 0), s.serveCmp i (f.idx * 256)) := by
  rw [State.readRef, if_neg (not_not_intro h), if_pos hsub, hsub, Nat.add_zero]

theorem State.readRef_of_value (h : (s.judgeRef i g .read f).1 = Res.ok) (hsub : f.sub ≠ 0) :
    let x := (s.serveCmp i (f.idx * 256 + f.sub)).readObject i (f.idx * 256 + f.sub)
    s.readRef i g f = (x.1, itemBytes f.idx f.sub x.1 (s.judgeRef i g .read f).2 x.2.1, x.2.2) := by
  rw [State.readRef, if_neg (not_not_intro h), if_neg hsub]

end

theorem exec_read_of_readyFor {s : State} {i : Nat} {r : Request} (h : s.readyFor i r 0x10 = true) :
    let x := (s.turnOf i).readRef i r.grant (refAt (msgPayload r.msg) 0)
    exec .read s = .next (State.finish i r ⟨x.1, x.2.1, x.2.2, [], none, false⟩) := by
  change Host.Outcome.next (s.serveIf (isOp 0x10) false) = _
  rw [State.serveIf_of_readyFor h, State.perform_read false h]

theorem exec_readMulti_of_readyFor {s : State} {i : Nat} {r : Request} (h : s.readyFor i r 0x12 = true) :
    exec .readMulti s = .next (State.finish i r ((s.turnOf i).doReadMulti i r.grant (msgPayload r.msg))) := by
  change Host.Outcome.next (s.serveIf (isOp 0x12) false) = _
  rw [State.serveIf_of_readyFor h, State.perform_readMulti false h]

/-- Settles O22: the three answers to a reference are those of `State.readRef`, and READ_MULTI measures its reply before it reads. -/
theorem readsAnswerItemsInOrder : Obligations.ReadsAnswerItemsInOrder := by
  refine ⟨fun s i r h => ⟨fun hrefused => ?_, fun hok hsub => ?_, fun hok hsub => ?_⟩, fun s i r h => ⟨fun hlong => ?_, fun hfits => ?_⟩,
    fun s i g res out f l => rfl⟩
  · rw [exec_read_of_readyFor h, State.readRef_of_refused hrefused]
  · rw [exec_read_of_readyFor h, State.readRef_of_value hok hsub]
  · rw [exec_read_of_readyFor h, State.readRef_of_count hok hsub]
  · rw [exec_readMulti_of_readyFor h, State.doReadMulti, if_pos hlong]
  · rw [exec_readMulti_of_readyFor h, State.doReadMulti, if_neg (Nat.not_lt.2 hfits)]

/-! ### WRITE and WRITE_MULTI (R107, R109, R129) -/

theorem State.writeItems_of_failed {s : State} {i g bad : Nat} {l : List WItem}
    (h : (l.map (s.checkItem i g)).find? (fun c => decide (c ≠ Res.ok)) = some bad) :
    s.writeItems i g l =
      (bad, (l.zip (l.map (s.checkItem i g))).flatMap (fun e => resultBytes e.1 (if e.2 = Res.ok then Res.notApplied else e.2)), [], s) := by
  simp only [State.writeItems, h]

theorem State.writeItems_of_passed {s : State} {i g : Nat} {l : List WItem} (h : ∀ x ∈ l, s.checkItem i g x = Res.ok) :
    s.writeItems i g l = s.applyItems i g l := by
  have hnone : (l.map (s.checkItem i g)).find? (fun c => decide (c ≠ Res.ok)) = none := by simpa using h
  simp only [State.writeItems, hnone]

/-- WRITE is WRITE_MULTI of one item whose reply has no head. -/
theorem exec_write_of_readyFor {s : State} {i : Nat} {r : Request} {multi : Bool} (h : s.readyFor i r (if multi then 0x13 else 0x11) = true) :
    let pl := msgPayload r.msg
    let items := (if multi then parseItems (pl.drop 4) (u pl 0 2) else parseItems pl 1).getD []
    let x := (s.turnOf i).writeItems i r.grant items
    exec (if multi then .writeMulti else .write) s =
      .next (State.finish i r ⟨x.1, (if multi then slice pl 0 2 ++ [0, 0] else []) ++ x.2.1, x.2.2.2, x.2.2.1, none, false⟩) := by
  cases multi with
  | true =>
    replace h : s.readyFor i r 0x13 = true := h
    change Host.Outcome.next (s.serveIf (isOp 0x13) false) = _
    rw [State.serveIf_of_readyFor h, State.perform_writeMulti false h]
    rfl
  | false =>
    replace h : s.readyFor i r 0x11 = true := h
    change Host.Outcome.next (s.serveIf (isOp 0x11) false) = _
    rw [State.serveIf_of_readyFor h, State.perform_write false h]
    rfl

/-- Settles O23: `State.writeItems` checks every item in the state of the turn before the apply pass begins. -/
theorem writesAreCheckedBeforeAnyIsApplied : Obligations.WritesAreCheckedBeforeAnyIsApplied := by
  refine fun s i r multi h => ⟨fun bad hbad => ?_, fun hpass => ?_⟩
  · rw [exec_write_of_readyFor h, State.writeItems_of_failed hbad]
  · rw [exec_write_of_readyFor h, State.writeItems_of_passed hpass]

end Sys2Proof.Machine
end

section
/-! PROOFS. The keyed check engine (06): which message runs next, and how one arrives, is suspended, ends, and is stopped by an error. -/

namespace Sys2Proof.Machine
open Sys2Proof

/-! ### Key pages (R149) -/

theorem State.page_of_kce_eq {s t : State} (h : t.kce = s.kce) (i : Nat) : t.page i = s.page i := by
  rw [State.page, State.page, h]

@[simp] theorem State.pages_length_modPage (s : State) (i : Nat) (f : KeyPage → KeyPage) :
    (s.modPage i f).kce.pages.length = s.kce.pages.length := listMod_length _ _ _

theorem State.page_modPage_same (s : State) {i : Nat} (f : KeyPage → KeyPage) (hi : i < s.kce.pages.length) :
    (s.modPage i f).page i = f (s.page i) := by
  rw [State.page, State.modPage, listAt_listMod, if_pos ⟨rfl, hi⟩]
  rfl

theorem unchangedBut_kce (s : State) (k : Kce) : unchangedBut [.kce] s { s with kce := k } := by
  intro p hp
  cases p with
  | kce => exact absurd (List.mem_singleton.2 rfl) hp
  | _ => rfl

/-! ### Counters of the engine (R169) -/

theorem State.get_bump_same (s : State) (k : Nat) : (s.bump k).get k = (s.get k + 1) % 2 ^ widthOf k := State.get_put_same _ _ _

theorem State.get_bumpBy_ne (s : State) {k j : Nat} (n : Nat) (h : k ≠ j) : (s.bumpBy k n).get j = s.get j := State.get_put_ne _ _ _ _ h

@[simp] theorem State.kce_raiseTo (s : State) (k v : Nat) : (s.raiseTo k v).kce = s.kce := by
  unfold State.raiseTo
  split <;> rfl

/-! ### Faults and the key region leave the engine as it is -/

/-- `KCE_MESSAGES` is not among the objects that the ladder of reactions changes. -/
theorem reactKeys_ne_kceMessages : ReactKeys (· ≠ Obj.KCE_MESSAGES) := by
  constructor
  case shed => intro q; unfold Obj.QD_OCTETS_SHED Obj.KCE_MESSAGES; omega
  all_goals decide

@[simp] theorem State.kce_report (s : State) (r : Report) : (s.report r).kce = s.kce := by
  have hkept : Kept reaction (· ≠ Obj.KCE_MESSAGES) s (s.report r) := by
    apply State.report_kept
    case ko => exact reactKeys_ne_kceMessages
    case hK => exact Kept.refl _ _ s
    all_goals decide
  exact hkept.same .kce (by decide)

@[simp] theorem State.kce_failureOf (s : State) (src cause detail : Nat) : (s.failureOf src cause detail).kce = s.kce := State.kce_report s _

@[simp] theorem State.kce_writeKeyRec (s : State) (page : Nat) (r : KeyRec) : (s.writeKeyRec page r).kce = s.kce := by
  have hkept : Kept (reaction ++ [.store]) (· ≠ Obj.KCE_MESSAGES) s (s.writeKeyRec page r) := by
    apply State.writeKeyRec_kept
    case ko => exact reactKeys_ne_kceMessages
    case hK => exact Kept.refl _ _ s
    all_goals decide
  exact hkept.same .kce (by decide)

@[simp] theorem State.kce_keyOnset (s old : State) (page : Nat) : (s.keyOnset old page).kce = s.kce := by
  unfold State.keyOnset
  split <;> rfl

/-! ### Counting messages against a page (R153, R155) -/

/-- A page with its usage count and, within 2²³ of it, its ceiling raised. -/
def KeyPage.counted (x : KeyPage) (n : Nat) : KeyPage :=
  let u := x.used + n
  if x.ceilU < u + 2 ^ 23 then
    let v := min (u + 2 ^ 24) (2 ^ 48)
    { x with used := u, ceilU := v, raiseU := some v }
  else { x with used := u }

theorem KeyPage.used_counted (x : KeyPage) (n : Nat) : (x.counted n).used = x.used + n :=
  (apply_ite KeyPage.used _ _ _).trans (ite_self _)

@[simp] theorem State.kce_lockPage (s : State) (page : Nat) :
    (s.lockPage page).kce = (s.modPage page fun x => { x with state := 2 }).kce := State.kce_writeKeyRec _ _ _

/-- A counted page is the page with its count, locked or not. -/
theorem State.kce_countUse (s : State) (page n : Nat) :
    (s.countUse page n).kce = (s.modPage page (·.counted n)).kce ∨
      (s.countUse page n).kce = ((s.modPage page (·.counted n)).modPage page fun x => { x with state := 2 }).kce := by
  have hcounted : ((s.modPage page (·.counted n)).keyOnset s page).kce = (s.modPage page (·.counted n)).kce := State.kce_keyOnset _ _ _
  have hlocked : (((s.modPage page (·.counted n)).keyOnset s page).lockPage page).kce =
      ((s.modPage page (·.counted n)).modPage page fun x => { x with state := 2 }).kce := by
    rw [State.kce_lockPage, State.modPage, hcounted]
    rfl
  rw [← hcounted, ← hlocked]
  by_cases hspent : (((s.modPage page (·.counted n)).keyOnset s page).page page).spent = true ∧
      (((s.modPage page (·.counted n)).keyOnset s page).page page).state = 1
  · exact .inr (congrArg State.kce (if_pos hspent))
  · exact .inl (congrArg State.kce (if_neg hspent))

@[simp] theorem State.results_countUse (s : State) (page n : Nat) : (s.countUse page n).kce.results = s.kce.results := by
  obtain h | h := s.kce_countUse page n <;> rw [h] <;> rfl

theorem State.used_countUse (s : State) {page : Nat} (n : Nat) (hpage : page < s.kce.pages.length) :
    ((s.countUse page n).page page).used = (s.page page).used + n := by
  have hcount : ((s.modPage page (·.counted n)).page page).used = (s.page page).used + n := by
    rw [State.page_modPage_same s _ hpage, KeyPage.used_counted]
  obtain h | h := s.kce_countUse page n
  · rw [State.page_of_kce_eq h, hcount]
  · rw [State.page_of_kce_eq h, State.page_modPage_same _ _ (by rwa [State.pages_length_modPage]), hcount]

theorem State.kceMessages_countUse (s : State) (page n : Nat) : (s.countUse page n).get Obj.KCE_MESSAGES = s.get Obj.KCE_MESSAGES := by
  have hkept : Kept everyPart (· ≠ Obj.KCE_MESSAGES) s (s.countUse page n) := by
    apply State.countUse_kept
    case ko => exact reactKeys_ne_kceMessages
    case hK => exact Kept.refl _ _ s
    all_goals decide
  exact hkept.2.1 _ fun h => h rfl

/-! ### A refused message (R153, R169) -/

/-- What a customer is told of a message that was refused or stopped: no tag, and no pass. -/
def KceMsg.refusal (m : KceMsg) : Nat × Bytes × Bool := (m.handle, [], false)

theorem State.kce_kceRefuse (s : State) (m : KceMsg) : (s.kceRefuse m).kce = { s.kce with results := s.kce.results ++ [m.refusal] } := by
  change { (s.bump Obj.KCE_REFUSED).kce with results := (s.bump Obj.KCE_REFUSED).kce.results ++ [m.refusal] } = _
  rw [State.kce_bump]

theorem State.kceRefused_kceRefuse (s : State) (m : KceMsg) :
    (s.kceRefuse m).get Obj.KCE_REFUSED = (s.get Obj.KCE_REFUSED + 1) % 2 ^ widthOf Obj.KCE_REFUSED := State.get_bump_same s _

theorem State.kce_foldl_kceRefuse (s : State) (l : List KceMsg) :
    (l.foldl State.kceRefuse s).kce = { s.kce with results := s.kce.results ++ l.map KceMsg.refusal } := by
  induction l generalizing s with
  | nil => simp
  | cons m l ih => simp [ih, State.kce_kceRefuse]

/-! ### The message that runs next (R163 to R165) -/

/-- No message of a list is of a higher level than this one; level 0 is the highest. -/
def KceMsg.Leads (m : KceMsg) (l : List KceMsg) : Prop := ∀ x ∈ l, m.level ≤ x.level

/-- The earlier of the messages of the highest level so far. -/
def earliestLeader (b : Option KceMsg) (m : KceMsg) : Option KceMsg :=
  match b with
  | some x => if m.level < x.level then some m else b
  | none => some m

theorem foldl_earliestLeader_some (l : List KceMsg) (x : KceMsg) :
    ∃ m ∈ x :: l, l.foldl earliestLeader (some x) = some m ∧ m.Leads (x :: l) := by
  induction l generalizing x with
  | nil => exact ⟨x, List.mem_singleton.2 rfl, rfl, by simp [KceMsg.Leads]⟩
  | cons y l ih =>
    by_cases hlt : y.level < x.level
    · obtain ⟨m, hm, hfold, hlead⟩ := ih y
      have hmy : m.level ≤ y.level := hlead y List.mem_cons_self
      exact ⟨m, List.mem_cons_of_mem x hm, by simpa [earliestLeader, hlt] using hfold,
        List.forall_mem_cons.2 ⟨by omega, hlead⟩⟩
    · obtain ⟨m, hm, hfold, hlead⟩ := ih x
      obtain ⟨hmx, hml⟩ := List.forall_mem_cons.1 hlead
      refine ⟨m, ?_, by simpa [earliestLeader, hlt] using hfold, List.forall_mem_cons.2 ⟨hmx, List.forall_mem_cons.2 ⟨by omega, hml⟩⟩⟩
      exact (List.mem_cons.1 hm).elim (fun h => h ▸ List.mem_cons_self) fun h => List.mem_cons_of_mem x (List.mem_cons_of_mem y h)

/-- The scan of a list finds nothing when it is empty, else a message that leads it. -/
theorem foldl_earliestLeader_cases (l : List KceMsg) :
    (l = [] ∧ l.foldl earliestLeader none = none) ∨ ∃ m ∈ l, l.foldl earliestLeader none = some m ∧ m.Leads l := by
  cases l with
  | nil => exact .inl ⟨rfl, rfl⟩
  | cons x l => exact .inr (foldl_earliestLeader_some l x)

/-- A suspended message runs on (R165). -/
def State.resumed (s : State) (m : KceMsg) : State := { s with kce := { s.kce with running := some m, slots := s.kce.slots.erase m } }

/-- A waiting message has left its queue and nothing runs yet. -/
def State.unqueued (s : State) (m : KceMsg) : State := { s with kce := { s.kce with queues := s.kce.queues.erase m, running := none } }

/-- A waiting message as it begins, under the key that its page has then (R163). -/
def State.keyedMsg (s : State) (m : KceMsg) : KceMsg := { m with key := (s.page m.page).key }

/-- A waiting message begins, or is refused on a page that does not serve it (R153, R163). -/
def State.begun (s : State) (m : KceMsg) : State :=
  if (s.page m.page).serves (levelUse m.level) then
    let t : State := { s with kce := { (s.unqueued m).kce with running := some (s.keyedMsg m) } }
    if m.level = 0 then t.raiseTo Obj.KCE_L0_WAIT_MAX (s.now - m.arrived) else t
  else (s.unqueued m).kceRefuse m

theorem State.kce_begun_of_serves {s : State} {m : KceMsg} (h : (s.page m.page).serves (levelUse m.level) = true) :
    (s.begun m).kce = { (s.unqueued m).kce with running := some (s.keyedMsg m) } := by
  rw [State.begun, if_pos h]
  split
  · rw [State.kce_raiseTo]
  · rfl

theorem State.begun_of_not_serves {s : State} {m : KceMsg} (h : (s.page m.page).serves (levelUse m.level) = false) :
    s.begun m = (s.unqueued m).kceRefuse m := by
  rw [State.begun, if_neg (by rw [h]; decide)]

/-- Beginning a message changes its queue and what runs, and at most adds a verdict. -/
theorem State.begun_inv (s : State) (m : KceMsg) :
    (s.begun m).kce.queues = s.kce.queues.erase m ∧ (s.begun m).kce.slots = s.kce.slots ∧ (s.begun m).kce.pages = s.kce.pages ∧
      ∀ x, (s.begun m).kce.running = some x → x = s.keyedMsg m := by
  cases hserves : (s.page m.page).serves (levelUse m.level) with
  | true =>
    rw [State.kce_begun_of_serves hserves]
    exact ⟨rfl, rfl, rfl, fun x hx => (Option.some.inj hx).symm⟩
  | false =>
    rw [State.begun_of_not_serves hserves, State.kce_kceRefuse]
    exact ⟨rfl, rfl, rfl, fun x hx => by cases hx⟩

/-- The next message: a suspended one unless a waiting one is of a higher level, and each leads its kind (R164, R165). -/
theorem State.kceNext_cases (s : State) :
    (s.kce.slots = [] ∧ s.kce.queues = [] ∧ s.kceNext = { s with kce := { s.kce with running := none } }) ∨
    (∃ m ∈ s.kce.slots, m.Leads s.kce.slots ∧ m.Leads s.kce.queues ∧ s.kceNext = s.resumed m) ∨
    (∃ m ∈ s.kce.queues, m.Leads s.kce.slots ∧ m.Leads s.kce.queues ∧ s.kceNext = s.begun m) := by
  have hnext : s.kceNext = match s.kce.slots.foldl earliestLeader none, s.kce.queues.foldl earliestLeader none with
    | none, none => { s with kce := { s.kce with running := none } }
    | some m, none => s.resumed m
    | none, some m => s.begun m
    | some x, some m => if m.level < x.level then s.begun m else s.resumed x := rfl
  rw [hnext]
  obtain ⟨hslots, hslot⟩ | ⟨x, hx, hslot, hxlead⟩ := foldl_earliestLeader_cases s.kce.slots <;>
    obtain ⟨hqueues, hhead⟩ | ⟨m, hm, hhead, hmlead⟩ := foldl_earliestLeader_cases s.kce.queues <;> rw [hslot, hhead]
  · exact .inl ⟨hslots, hqueues, rfl⟩
  · exact .inr (.inr ⟨m, hm, by simp [hslots, KceMsg.Leads], hmlead, rfl⟩)
  · exact .inr (.inl ⟨x, hx, hxlead, by simp [hqueues, KceMsg.Leads], rfl⟩)
  · by_cases hlt : m.level < x.level
    · exact .inr (.inr ⟨m, hm, fun y hy => Nat.le_trans (Nat.le_of_lt hlt) (hxlead y hy), hmlead, if_pos hlt⟩)
    · exact .inr (.inl ⟨x, hx, hxlead, fun y hy => Nat.le_trans (Nat.not_lt.1 hlt) (hmlead y hy), if_neg hlt⟩)

/-- With one message waiting and none suspended, that one begins. -/
theorem State.kceNext_of_single {s : State} {m : KceMsg} (hslots : s.kce.slots = []) (hqueues : s.kce.queues = [m]) : s.kceNext = s.begun m := by
  obtain ⟨-, hnone, -⟩ | ⟨x, hx, -⟩ | ⟨x, hx, -, -, hnext⟩ := s.kceNext_cases
  · rw [hqueues] at hnone; cases hnone
  · rw [hslots] at hx; cases hx
  · rw [hqueues, List.mem_singleton] at hx
    rw [hnext, hx]

/-- What runs next leads everything that waited and everything suspended. -/
theorem State.leads_of_running_kceNext {s : State} {m : KceMsg} (h : s.kceNext.kce.running = some m) :
    m.Leads s.kce.queues ∧ m.Leads s.kce.slots := by
  obtain ⟨-, -, hnext⟩ | ⟨x, -, hslots, hqueues, hnext⟩ | ⟨x, -, hslots, hqueues, hnext⟩ := s.kceNext_cases <;> rw [hnext] at h
  · cases h
  · cases h
    exact ⟨hqueues, hslots⟩
  · obtain ⟨-, -, -, hrun⟩ := s.begun_inv x
    cases hrun m h
    exact ⟨hqueues, hslots⟩

@[simp] theorem State.pages_kceNext (s : State) : s.kceNext.kce.pages = s.kce.pages := by
  obtain ⟨-, -, hnext⟩ | ⟨x, -, -, -, hnext⟩ | ⟨x, -, -, -, hnext⟩ := s.kceNext_cases <;> rw [hnext]
  · rfl
  · obtain ⟨-, -, hpages, -⟩ := s.begun_inv x
    exact hpages

/-! ### A message arrives (R164) -/

section
variable {s : State} {level page : Nat} (handle : Nat) (data : Bytes) (expect : Option Bytes)

/-- A message as it reaches the engine. -/
def State.arrival (s : State) (level page handle : Nat) (data : Bytes) (expect : Option Bytes) : KceMsg :=
  ⟨level, page, handle, data, expect, [], 0, s.now⟩

/-- A message put at the end of the queues. -/
def State.queued (s : State) (m : KceMsg) : State := { s with kce := { s.kce with queues := s.kce.queues ++ [m] } }

/-- How many messages of a level wait. -/
def State.waiting (s : State) (level : Nat) : Nat := (s.kce.queues.filter fun x => decide (x.level = level)).length

variable (hlevel : level < 5) (hpage : page < 16)
include hlevel hpage

theorem exec_kceMessage_of_ranges : exec (.kceMessage level page handle data expect) s = .next (s.kcePut level page handle data expect) := by
  change Host.Outcome.next (if _ then _ else _) = _
  rw [if_pos ⟨hlevel, hpage⟩]

theorem exec_kceMessage_of_full (hfull : 16 ≤ s.waiting level) : exec (.kceMessage level page handle data expect) s = .next s := by
  rw [exec_kceMessage_of_ranges handle data expect hlevel hpage]
  exact congrArg _ (if_pos hfull)

theorem exec_kceMessage_of_room (hroom : s.waiting level < 16) :
    let t := s.queued (s.arrival level page handle data expect)
    exec (.kceMessage level page handle data expect) s = .next (if s.kce.running.isNone then t.kceNext else t) := by
  rw [exec_kceMessage_of_ranges handle data expect hlevel hpage]
  exact congrArg _ (if_neg (Nat.not_le.2 hroom))

theorem exec_kceMessage_of_busy (hroom : s.waiting level < 16) (hrun : s.kce.running.isSome = true) :
    exec (.kceMessage level page handle data expect) s = .next (s.queued (s.arrival level page handle data expect)) := by
  rw [exec_kceMessage_of_room handle data expect hlevel hpage hroom, if_neg (by simpa [Option.isSome_iff_ne_none] using hrun)]

/-- An engine with nothing to do begins the message at once. -/
theorem exec_kceMessage_of_idle (hrun : s.kce.running = none) (hqueues : s.kce.queues = []) (hslots : s.kce.slots = []) :
    let m := s.arrival level page handle data expect
    exec (.kceMessage level page handle data expect) s = .next ((s.queued m).begun m) := by
  have hroom : s.waiting level < 16 := by simp [State.waiting, hqueues]
  have hsingle : (s.queued (s.arrival level page handle data expect)).kce.queues = [s.arrival level page handle data expect] := by
    simp [State.queued, hqueues]
  rw [exec_kceMessage_of_room handle data expect hlevel hpage hroom, if_pos (by rw [hrun]; rfl)]
  exact congrArg _ (State.kceNext_of_single (by exact hslots) hsingle)

end

/-! ### Suspension at a block boundary (R165) -/

/-- The running message goes to a slot with the blocks it has done. -/
def State.suspended (s : State) (m : KceMsg) (blocks : Nat) : State :=
  { s with kce := { s.kce with running := none, slots := s.kce.slots ++ [{ m with done := m.done + blocks }] } }

section
variable {s : State} {m : KceMsg} {blocks : Nat} (hrun : s.kce.running = some m)
include hrun

theorem exec_kceSuspend_of_overtaken (hblocks : m.done + blocks < kceBlocks m.data) (hhigher : ∃ x ∈ s.kce.queues, x.level < m.level) :
    exec (.kceSuspend blocks) s = .next (s.suspended m blocks).kceNext := by
  change execKceSuspend blocks s = _
  simp only [execKceSuspend, hrun]
  rw [if_pos ⟨by simpa using hhigher, hblocks⟩]
  rfl

theorem exec_kceSuspend_of_leads (hlead : m.Leads s.kce.queues) : exec (.kceSuspend blocks) s = .next s := by
  have hnone : ¬ (s.kce.queues.any fun x => decide (x.level < m.level)) = true := by simpa [KceMsg.Leads] using hlead
  change execKceSuspend blocks s = _
  simp only [execKceSuspend, hrun]
  rw [if_neg fun h => hnone h.1]

end

/-! ### The end of a message (R147, R153, R166) -/

/-- The tag of a message, as much of it as its level uses. -/
def KceMsg.tag (m : KceMsg) : Bytes := usedTag m.level (cmac m.key m.data)

/-- The message agrees with the tag it is checked against; one without such a tag passes. -/
def KceMsg.passes (m : KceMsg) : Bool :=
  match m.expect with
  | some e => decide (e = m.tag)
  | none => true

/-- What the customer of a message that ends is told. -/
def KceMsg.verdict (m : KceMsg) : Nat × Bytes × Bool := (m.handle, if m.expect.isSome then [] else m.tag, m.passes)

/-- The engine's counters at the end of a message. -/
def State.messageCounted (s : State) (m : KceMsg) : State := (s.bumpBy Obj.KCE_BLOCKS (kceBlocks m.data)).bump Obj.KCE_MESSAGES

/-- The page's count at the end of a message: PTP messages that pass (R153). -/
def State.useCounted (s : State) (m : KceMsg) : State := if decide (m.level < 3) && m.passes then s.countUse m.page 1 else s

/-- A message that ended, before the next one begins. -/
def State.messageEnded (s : State) (m : KceMsg) : State :=
  let t := (s.messageCounted m).useCounted m
  { t with kce := { t.kce with running := none, results := t.kce.results ++ [m.verdict] } }

theorem exec_kceMessageDone_of_running {s : State} {m : KceMsg} (hrun : s.kce.running = some m) :
    exec .kceMessageDone s = .next (s.messageEnded m).kceNext := by
  change execKceMessageDone s = _
  simp only [execKceMessageDone, hrun]
  rfl

@[simp] theorem State.kce_messageCounted (s : State) (m : KceMsg) : (s.messageCounted m).kce = s.kce := by
  rw [State.messageCounted, State.kce_bump, State.kce_bumpBy]

theorem State.kceMessages_messageCounted (s : State) (m : KceMsg) :
    (s.messageCounted m).get Obj.KCE_MESSAGES = (s.get Obj.KCE_MESSAGES + 1) % 2 ^ widthOf Obj.KCE_MESSAGES := by
  rw [State.messageCounted, State.get_bump_same, State.get_bumpBy_ne _ _ (by decide)]

theorem State.results_useCounted (s : State) (m : KceMsg) : (s.useCounted m).kce.results = s.kce.results := by
  unfold State.useCounted
  split
  · exact s.results_countUse _ _
  · rfl

theorem State.kceMessages_useCounted (s : State) (m : KceMsg) : (s.useCounted m).get Obj.KCE_MESSAGES = s.get Obj.KCE_MESSAGES := by
  unfold State.useCounted
  split
  · exact s.kceMessages_countUse _ _
  · rfl

theorem State.used_useCounted (s : State) {m : KceMsg} (hpage : m.page < s.kce.pages.length) :
    ((s.useCounted m).page m.page).used = (s.page m.page).used + if m.level < 3 ∧ m.passes = true then 1 else 0 := by
  unfold State.useCounted
  by_cases hcounts : m.level < 3 ∧ m.passes = true
  · rw [if_pos hcounts, if_pos (by simpa using hcounts), State.used_countUse _ _ hpage]
  · rw [if_neg hcounts, if_neg (by simpa using hcounts), Nat.add_zero]

theorem State.results_messageEnded (s : State) (m : KceMsg) : (s.messageEnded m).kce.results = s.kce.results ++ [m.verdict] := by
  change ((s.messageCounted m).useCounted m).kce.results ++ _ = _
  rw [State.results_useCounted, State.kce_messageCounted]

theorem State.kceMessages_messageEnded (s : State) (m : KceMsg) :
    (s.messageEnded m).get Obj.KCE_MESSAGES = (s.get Obj.KCE_MESSAGES + 1) % 2 ^ widthOf Obj.KCE_MESSAGES := by
  change ((s.messageCounted m).useCounted m).get _ = _
  rw [State.kceMessages_useCounted, State.kceMessages_messageCounted]

theorem State.used_messageEnded (s : State) {m : KceMsg} (hpage : m.page < s.kce.pages.length) :
    ((s.messageEnded m).page m.page).used = (s.page m.page).used + if m.level < 3 ∧ m.passes = true then 1 else 0 := by
  change (((s.messageCounted m).useCounted m).page m.page).used = _
  rw [State.used_useCounted _ (by rwa [State.kce_messageCounted]), State.page_of_kce_eq (s.kce_messageCounted m)]

/-! ### An uncorrectable error (R167) -/

/-- The context of a message lost to an error: its slot is free and its customer is told. -/
def State.contextLost (s : State) (m : KceMsg) : State :=
  (({ s with kce := { s.kce with slots := s.kce.slots.erase m } } : State).kceRefuse m).failureOf 250 12 0

theorem exec_kceUncorrectable_of_slot {s : State} (page : Nat) {i : Nat} {m : KceMsg} (hslot : s.kce.slots[i]? = some m) :
    exec (.kceUncorrectable page (some i)) s = .next (s.contextLost m) := by
  change execKceUncorrectable page (some i) s = _
  simp only [execKceUncorrectable, hslot]
  rfl

theorem State.kce_contextLost (s : State) (m : KceMsg) :
    (s.contextLost m).kce = { s.kce with slots := s.kce.slots.erase m, results := s.kce.results ++ [m.refusal] } := by
  rw [State.contextLost, State.kce_failureOf, State.kce_kceRefuse]

/-- Nothing in the engine runs, is suspended or waits on a page. -/
structure State.NoneOnPage (s : State) (page : Nat) : Prop where
  queues : ∀ x ∈ s.kce.queues, x.page ≠ page
  slots : ∀ x ∈ s.kce.slots, x.page ≠ page
  running : ∀ x, s.kce.running = some x → x.page ≠ page

/-- What runs next was in the engine before. -/
theorem State.NoneOnPage.kceNext {s : State} {page : Nat} (h : s.NoneOnPage page) : s.kceNext.NoneOnPage page := by
  obtain ⟨-, -, hnext⟩ | ⟨m, hm, -, -, hnext⟩ | ⟨m, hm, -, -, hnext⟩ := s.kceNext_cases <;> rw [hnext]
  · exact ⟨h.queues, h.slots, fun x hx => by cases hx⟩
  · refine ⟨h.queues, fun x hx => h.slots x (List.mem_of_mem_erase hx), fun x hx => ?_⟩
    cases hx
    exact h.slots m hm
  · obtain ⟨hqueues, hslots, -, hrun⟩ := s.begun_inv m
    refine ⟨fun x hx => h.queues x (List.mem_of_mem_erase (hqueues ▸ hx)), fun x hx => h.slots x (hslots ▸ hx), fun x hx => ?_⟩
    rw [hrun x hx]
    exact h.queues m hm

/-- Every message of a page taken out of the engine. -/
def State.pageStopped (s : State) (page : Nat) : State :=
  { s with kce := { s.kce with
      running := match s.kce.running with | some m => if m.page = page then none else some m | none => none
      slots := s.kce.slots.filter fun m => !decide (m.page = page)
      queues := s.kce.queues.filter fun m => !decide (m.page = page) } }

/-- The messages of a page that the engine holds. -/
def State.onPage (s : State) (page : Nat) : List KceMsg :=
  (s.kce.running.toList ++ s.kce.slots ++ s.kce.queues).filter fun m => decide (m.page = page)

/-- The page failed, with its messages stopped and the fault reported. -/
def State.pageFailed (s : State) (page : Nat) : State :=
  (((s.onPage page).foldl State.kceRefuse (s.pageStopped page)).modPage page fun x => { x with state := 3 }).report
    { src := 250, cls := Cls.failure, cause := 12, tile := page }

/-- A page as loaded again, with where its rings stand and the hold that it has. -/
def KeyPage.reloaded (x : KeyPage) (c : KeyCopy) (page : Nat) : KeyPage :=
  { loadPage c page with posS := x.posS, posU := x.posU, timesS := x.timesS, timesU := x.timesU, holdUntil := x.holdUntil }

/-- The active copy of the key region. -/
def State.activeKeys (s : State) : KeyCopy := if s.store.active = 0 then s.store.keys0 else s.store.keys1

/-- The failed page loaded again from the active copy. -/
def State.pageReloaded (s : State) (page : Nat) : State := (s.pageFailed page).modPage page (·.reloaded s.activeKeys page)

/-- The failed page loaded again, and an engine with nothing left to run at its next message. -/
def State.pageRecovered (s : State) (page : Nat) : State :=
  if (s.pageReloaded page).kce.running.isNone then (s.pageReloaded page).kceNext else s.pageReloaded page

theorem exec_kceUncorrectable_of_page (s : State) (page : Nat) : exec (.kceUncorrectable page none) s = .next (s.pageRecovered page) := rfl

/-- The failed page's engine: the page marked, the messages stopped, a verdict for each. -/
theorem State.kce_pageFailed (s : State) (page : Nat) :
    (s.pageFailed page).kce = { (s.pageStopped page).kce with
      pages := listMod s.kce.pages page fun x => { x with state := 3 }
      results := s.kce.results ++ (s.onPage page).map KceMsg.refusal } := by
  rw [State.pageFailed, State.kce_report, State.modPage, State.kce_foldl_kceRefuse]
  rfl

theorem State.noneOnPage_pageStopped (s : State) (page : Nat) : (s.pageStopped page).NoneOnPage page where
  queues x hx := by simpa using (List.mem_filter.1 hx).2
  slots x hx := by simpa using (List.mem_filter.1 hx).2
  running x hx := by
    cases hrun : s.kce.running with
    | none => simp [State.pageStopped, hrun] at hx
    | some m =>
      simp only [State.pageStopped, hrun, Option.ite_none_left_eq_some, Option.some.injEq] at hx
      obtain ⟨hne, rfl⟩ := hx
      exact hne

theorem State.noneOnPage_pageReloaded (s : State) (page : Nat) : (s.pageReloaded page).NoneOnPage page := by
  obtain ⟨hqueues, hslots, hrun⟩ := s.noneOnPage_pageStopped page
  constructor
  · change ∀ x ∈ (s.pageFailed page).kce.queues, _
    rwa [State.kce_pageFailed]
  · change ∀ x ∈ (s.pageFailed page).kce.slots, _
    rwa [State.kce_pageFailed]
  · change ∀ x, (s.pageFailed page).kce.running = some x → _
    rwa [State.kce_pageFailed]

theorem State.page_pageReloaded (s : State) {page : Nat} (hpage : page < s.kce.pages.length) :
    (s.pageReloaded page).page page = ((s.pageFailed page).page page).reloaded s.activeKeys page :=
  State.page_modPage_same _ _ (by rwa [State.kce_pageFailed, listMod_length])

theorem State.noneOnPage_pageRecovered (s : State) (page : Nat) : (s.pageRecovered page).NoneOnPage page := by
  unfold State.pageRecovered
  split
  · exact (s.noneOnPage_pageReloaded page).kceNext
  · exact s.noneOnPage_pageReloaded page

theorem State.page_pageRecovered (s : State) {page : Nat} (hpage : page < s.kce.pages.length) :
    (s.pageRecovered page).page page = ((s.pageFailed page).page page).reloaded s.activeKeys page := by
  rw [← s.page_pageReloaded hpage, State.pageRecovered]
  split
  · rw [State.page, State.pages_kceNext, State.page]
  · rfl

/-- Settles O28: every clause about what runs next comes from the three cases of `State.kceNext_cases`; the others are what the engine's state is
just before the next message is chosen. -/
theorem checkEngineServesLevelsInOrder : Obligations.CheckEngineServesLevelsInOrder := by
  refine ⟨fun s level page handle data expect hlevel hpage => ⟨fun hfull => ?_, fun hroom hrun => ?_, fun hrun hqueues hslots => ?_⟩,
    fun s m blocks hrun hblocks => ⟨fun hhigher => ?_, fun hlead => exec_kceSuspend_of_leads hrun hlead⟩,
    fun s m h => State.leads_of_running_kceNext h, fun s m hrun hpage => ?_, fun s page i m hslot => ?_, fun s page hpage => ?_⟩
  · exact exec_kceMessage_of_full handle data expect hlevel hpage hfull
  · exact ⟨_, exec_kceMessage_of_busy handle data expect hlevel hpage hroom hrun, rfl, rfl, unchangedBut_kce s _⟩
  · refine ⟨_, exec_kceMessage_of_idle handle data expect hlevel hpage hrun hqueues hslots, ?_, fun hserves => ?_, fun hserves => ?_⟩
    · obtain ⟨hleft, -⟩ := State.begun_inv (s.queued (s.arrival level page handle data expect)) (s.arrival level page handle data expect)
      rw [hleft]
      simp [State.queued, hqueues]
    · rw [State.kce_begun_of_serves (by exact hserves)]
      rfl
    · rw [State.begun_of_not_serves (by exact hserves)]
      refine ⟨?_, ?_, State.kceRefused_kceRefuse _ _⟩ <;> rw [State.kce_kceRefuse] <;> rfl
  · exact ⟨s.suspended m blocks, exec_kceSuspend_of_overtaken hrun hblocks hhigher, rfl, rfl, rfl⟩
  · exact ⟨s.messageEnded m, exec_kceMessageDone_of_running hrun, rfl, s.results_messageEnded m, s.kceMessages_messageEnded m,
      s.used_messageEnded hpage⟩
  · refine ⟨_, exec_kceUncorrectable_of_slot page hslot, ?_⟩
    rw [State.kce_contextLost]
    exact ⟨rfl, rfl, rfl⟩
  · obtain ⟨hqueues, hslots, hrun⟩ := s.noneOnPage_pageRecovered page
    refine ⟨_, exec_kceUncorrectable_of_page s page, hqueues, hslots, hrun, ?_⟩
    rw [s.page_pageRecovered hpage]
    exact ⟨rfl, rfl, rfl, rfl⟩

end Sys2Proof.Machine
end

section
/-! PROOFS. Pipelines' programs (09): the check, the install and the switch of images, and the two halves of a bank switch. -/

namespace Sys2Proof.Machine
open Sys2Proof

/-! ### Pipelines of the state (R267) -/

theorem State.pipe_of_pipes_eq {s t : State} (h : t.pipes = s.pipes) (k : Nat) : t.pipe k = s.pipe k := by
  rw [State.pipe, State.pipe, h]

theorem State.pipe_modPipe (s : State) (k : Nat) (f : Pipe → Pipe) (j : Nat) :
    (s.modPipe k f).pipe j = if k = j then f (s.pipe k) else s.pipe j := smGet_set _ _ _ _ _

theorem mem_maskPipes {mask k : Nat} : k ∈ maskPipes mask ↔ k < 32 ∧ bitOf mask k = true := by
  simp [maskPipes, upTo]

theorem nodup_maskPipes (mask : Nat) : (maskPipes mask).Nodup := List.nodup_range.filter _

/-- A step that changes the pipeline it names by `f`, taken once for each of some pipelines. -/
theorem State.pipe_foldl (step : State → Nat → State) (f : Pipe → Pipe)
    (hstep : ∀ (a : State) (k j : Nat), (step a k).pipe j = if k = j then f (a.pipe k) else a.pipe j) (l : List Nat) (hl : l.Nodup) (s : State) (j : Nat) :
    (l.foldl step s).pipe j = if j ∈ l then f (s.pipe j) else s.pipe j := by
  induction l generalizing s with
  | nil => simp
  | cons k l ih =>
    obtain ⟨hk, hl⟩ := List.nodup_cons.1 hl
    rw [List.foldl_cons, ih hl, hstep]
    by_cases hkj : k = j
    · subst hkj; simp [hk]
    · simp [hkj, Ne.symm hkj]

/-- The same over the pipelines of a mask. -/
theorem State.pipe_foldl_maskPipes (step : State → Nat → State) (f : Pipe → Pipe)
    (hstep : ∀ (a : State) (k j : Nat), (step a k).pipe j = if k = j then f (a.pipe k) else a.pipe j) (mask : Nat) (s : State) {j : Nat} (hj : j < 32) :
    ((maskPipes mask).foldl step s).pipe j = if bitOf mask j then f (s.pipe j) else s.pipe j := by
  rw [State.pipe_foldl step f hstep _ (nodup_maskPipes mask)]
  simp [mem_maskPipes, hj]

/-- What no step of a fold changes, the fold does not. -/
theorem foldl_keeps {α β γ : Type} (g : β → γ) (step : β → α → β) (hstep : ∀ a e, g (step a e) = g a) (l : List α) (b : β) :
    g (l.foldl step b) = g b := by
  induction l generalizing b with
  | nil => rfl
  | cons e l ih => rw [List.foldl_cons, ih, hstep]

/-! ### A run's end (R110) -/

@[simp] theorem State.get_runEnd_same (s : State) (key outcome detail : Nat) :
    (s.runEnd key outcome detail).get key = runRecord (s.get key) outcome detail := by
  rw [State.runEnd, State.get_runStop, State.get_put_same]

theorem State.get_runEnd_ne (s : State) {key j : Nat} (outcome detail : Nat) (h : key ≠ j) : (s.runEnd key outcome detail).get j = s.get j := by
  rw [State.runEnd, State.get_runStop, State.get_put_ne _ _ _ _ h]

theorem State.get_bump_ne (s : State) {k j : Nat} (h : k ≠ j) : (s.bump k).get j = s.get j := s.get_bumpBy_ne 1 h

/-! ### The halves of a bank switch (R268) -/

/-- The state with another bank switch running, or none. -/
def State.withSwitch (s : State) (x : Option PlnSwitch) : State := { s with pipes := { s.pipes with switch := x } }

@[simp] theorem State.pipe_withSwitch (s : State) (x : Option PlnSwitch) (k : Nat) : (s.withSwitch x).pipe k = s.pipe k := rfl

@[simp] theorem State.get_withSwitch (s : State) (x : Option PlnSwitch) (k : Nat) : (s.withSwitch x).get k = s.get k := rfl

/-- A pipeline whose ingress takes its other bank, and in mode 0 its egress the same one. -/
def Pipe.ingressSwitched (mode : Nat) (y : Pipe) : Pipe :=
  { y with ingress1 := !y.ingress1, egress1 := if mode = 0 then !y.ingress1 else y.egress1 }

/-- Clock T of a switch: the ingress of every pipeline of its mask. -/
def State.ingressSwitched (s : State) (x : PlnSwitch) : State :=
  (maskPipes x.mask).foldl (fun a k => (a.bump (Obj.PLN_SWITCHES k)).modPipe k (Pipe.ingressSwitched x.mode)) s

theorem State.pipe_ingressSwitched (s : State) (x : PlnSwitch) {k : Nat} (hk : k < 32) :
    (s.ingressSwitched x).pipe k = if bitOf x.mask k then (s.pipe k).ingressSwitched x.mode else s.pipe k := by
  refine State.pipe_foldl_maskPipes _ _ (fun a k j => ?_) x.mask s hk
  have hbump (j : Nat) : (a.bump (Obj.PLN_SWITCHES k)).pipe j = a.pipe j := State.pipe_of_pipes_eq (State.pipes_bump a _) j
  rw [State.pipe_modPipe, hbump, hbump]

theorem State.get_ingressSwitched (s : State) (x : PlnSwitch) {key : Nat} (hkey : key < Obj.PLN_SWITCHES 0) : (s.ingressSwitched x).get key = s.get key := by
  refine foldl_keeps (State.get · key) _ (fun a k => ?_) (maskPipes x.mask) s
  rw [State.get_modPipe, State.get_bump_ne]
  unfold Obj.PLN_SWITCHES at *
  omega

theorem State.now_ingressSwitched (s : State) (x : PlnSwitch) : (s.ingressSwitched x).now = s.now :=
  foldl_keeps State.now _ (fun a k => (State.now_modPipe _ k _).trans (State.now_bump a _)) (maskPipes x.mask) s

theorem State.sched_ingressSwitched (s : State) (x : PlnSwitch) : (s.ingressSwitched x).sched = s.sched :=
  foldl_keeps State.sched _ (fun a k => (State.sched_modPipe _ k _).trans (State.sched_bump a _)) (maskPipes x.mask) s

/-- The switch after its clock T, with frames to drain. -/
def State.draining (s : State) (x : PlnSwitch) : PlnSwitch :=
  { x with passed := true, seqT := s.sched.enqSeq + 1, deadline := s.now + msTicks (s.get Obj.PLN_DRAIN_TIMEOUT) }

theorem exec_ingressBankSwitch_of_pending {s : State} {x : PlnSwitch} (hswitch : s.pipes.switch = some x) (hpassed : x.passed = false) :
    exec .ingressBankSwitch s = .next (if x.mode = 0 then ((s.ingressSwitched x).withSwitch none).runEnd Obj.PLN_SWITCH Res.ok 0
      else (s.ingressSwitched x).withSwitch (some ((s.ingressSwitched x).draining x))) := by
  change execIngressBankSwitch s = _
  rw [execIngressBankSwitch]
  simp only [hswitch, hpassed]
  rfl

/-- The end of a drain: the egress of every pipeline of the mask takes the bank of its ingress, and the frames left are counted. -/
def State.egressSwitched (s : State) (x : PlnSwitch) : State :=
  (((maskPipes x.mask).foldl (fun a k => a.modPipe k fun y => { y with egress1 := y.ingress1 }) s).withSwitch none).put Obj.PLN_DRAIN_LEFT (s.drainLeft x)

theorem State.pipe_egressSwitched (s : State) (x : PlnSwitch) {k : Nat} (hk : k < 32) :
    (s.egressSwitched x).pipe k = if bitOf x.mask k then { s.pipe k with egress1 := (s.pipe k).ingress1 } else s.pipe k :=
  State.pipe_foldl_maskPipes _ (fun y => { y with egress1 := y.ingress1 }) (fun a k j => State.pipe_modPipe a k _ j) x.mask s hk

theorem State.get_egressSwitched (s : State) (x : PlnSwitch) (key : Nat) :
    (s.egressSwitched x).get key = if Obj.PLN_DRAIN_LEFT = key then s.drainLeft x else s.get key := by
  rw [State.egressSwitched, State.get_put, State.get_withSwitch, foldl_keeps (State.get · key) _ (fun a k => State.get_modPipe a k _ key)]

theorem exec_egressBankSwitch_of_ended {s : State} {x : PlnSwitch} (hswitch : s.pipes.switch = some x) (hpassed : x.passed = true)
    (hend : x.abort = true ∨ s.drainLeft x = 0 ∨ x.deadline ≤ s.now) :
    exec .egressBankSwitch s = .next ((s.egressSwitched x).runEnd Obj.PLN_SWITCH (if x.abort then Res.aborted else Res.ok)
      (if x.abort = false ∧ s.drainLeft x ≠ 0 then 1 else 0)) := by
  change execEgressBankSwitch s = _
  rw [execEgressBankSwitch]
  simp only [hswitch, hpassed, hend, not_true_eq_false, or_self, if_false]
  cases habort : x.abort with
  | true => simp [State.egressSwitched, State.withSwitch]
  | false => simp [State.egressSwitched, State.withSwitch]

theorem exec_egressBankSwitch_of_draining {s : State} {x : PlnSwitch} (hswitch : s.pipes.switch = some x) (habort : x.abort = false)
    (hleft : s.drainLeft x ≠ 0) (hnow : s.now < x.deadline) :
    exec .egressBankSwitch s = .next s := by
  change execEgressBankSwitch s = _
  rw [execEgressBankSwitch]
  simp only [hswitch]
  rw [if_pos (.inr (by simp [habort, hleft, hnow]))]

/-- Settles O42: clock T is `State.ingressSwitched` and the end of the drain `State.egressSwitched`, each a fold over the pipelines of the mask. -/
theorem bankSwitchesDrainBeforeEgress : Obligations.BankSwitchesDrainBeforeEgress := by
  refine ⟨fun s x hswitch hpassed => ⟨_, exec_ingressBankSwitch_of_pending hswitch hpassed, fun k hk => ?_, fun hmode => ?_, fun hmode => ?_⟩,
    fun s x hswitch hpassed => ⟨fun hend => ⟨_, exec_egressBankSwitch_of_ended hswitch hpassed hend, ?_, ?_, fun k hk => ?_, ?_⟩,
      exec_egressBankSwitch_of_draining hswitch⟩⟩
  · have hpipe : (if x.mode = 0 then ((s.ingressSwitched x).withSwitch none).runEnd Obj.PLN_SWITCH Res.ok 0
        else (s.ingressSwitched x).withSwitch (some ((s.ingressSwitched x).draining x))).pipe k = (s.ingressSwitched x).pipe k := by
      split <;> rfl
    rw [hpipe, s.pipe_ingressSwitched x hk]
    cases bitOf x.mask k <;> simp [Pipe.ingressSwitched]
  · rw [if_pos hmode, State.get_runEnd_same, State.get_withSwitch, s.get_ingressSwitched x (by decide)]
    exact ⟨rfl, rfl⟩
  · rw [if_neg hmode, State.draining, s.get_ingressSwitched x (by decide), s.now_ingressSwitched x, s.sched_ingressSwitched x]
    rfl
  · rfl
  · rw [State.get_runEnd_ne _ _ _ (by decide), s.get_egressSwitched, if_pos rfl]
  · have hpipe := State.pipe_of_pipes_eq (State.pipes_runEnd (s.egressSwitched x) Obj.PLN_SWITCH (if x.abort then Res.aborted else Res.ok)
      (if x.abort = false ∧ s.drainLeft x ≠ 0 then 1 else 0)) k
    rw [hpipe, s.pipe_egressSwitched x hk]
    cases bitOf x.mask k <;> exact ⟨rfl, rfl⟩
  · rw [State.get_runEnd_same, s.get_egressSwitched, if_neg (by decide)]

end Sys2Proof.Machine
end

section
/-! PROOFS. Pipelines' programs (09): the check, the install and the switch of images as the STARTs that begin them. -/

namespace Sys2Proof.Machine
open Sys2Proof

/-! ### A START at its turn (R96, R111) -/

theorem isStart_iff (key count : Nat) (m : Bytes) :
    isStart key count m = true ↔
      msgOpcode m = 0x30 ∧ ∃ k, k < count ∧ (refAt (msgPayload m) 0).idx * 256 + (refAt (msgPayload m) 0).sub = key + 256 * k := by
  simp only [isStart, isOp, refAt, Nat.zero_add, Bool.and_eq_true, decide_eq_true_eq, and_assoc]
  refine and_congr_right fun _ => ⟨fun ⟨hle, hmod, hlt⟩ => ⟨_, hlt, by omega⟩, ?_⟩
  rintro ⟨k, hk, h⟩
  omega

theorem State.perform_start {s : State} {i : Nat} {r : Request} (gone : Bool) (h : s.readyFor i r 0x30 = true) :
    (s.turnOf i).perform i r gone = (s.turnOf i).doStart i r.grant (msgPayload r.msg) gone := by
  simp [State.perform, State.tests_of_readyFor h]

/-- A START that its session may make is answered with what `State.startObject` gives in the state of its turn. -/
theorem State.serveIf_of_readyToStart {s : State} {i : Nat} {r : Request} {key : Nat} (h : s.readyToStart i r key = true) (base count : Nat)
    (hnamed : ∃ k, k < count ∧ key = base + 256 * k) (gone : Bool) :
    let x := (s.startTurn i key).startObject i ((s.turnOf i).page i).cls key gone
    s.serveIf (isStart base count) gone = x.2.started i r key x.1 := by
  simp only [State.readyToStart, Bool.and_eq_true, decide_eq_true_eq] at h
  obtain ⟨⟨hready, hkey⟩, hmay⟩ := h
  obtain ⟨hnext, hop, -⟩ := (s.readyFor_iff i r 0x30).1 hready
  obtain ⟨-, t, hqueue⟩ := State.nextRequest_inv hnext
  have hstart : isStart base count r.msg = true := (isStart_iff base count r.msg).2 ⟨hop, by rwa [hkey]⟩
  simp only [State.serveIf, hnext, hstart, if_true, State.serve_of_queue hqueue, State.perform_start gone hready, State.doStart, hmay,
    not_true_eq_false, if_false, hkey, ne_eq]
  rfl

/-- A START of a run that begins, on an object with no run, is answered with that run. -/
theorem State.startObject_of_ok {s u : State} {i cls key : Nat} {gone : Bool} (hrun : s.startRun i cls key gone = (Res.ok, u))
    (hfree : s.isBusy key = false) (hnow : (decide (0x016000 ≤ key ∧ key < 0x017000) || decide (key = Obj.PWR_SHUTDOWN)) = false) :
    s.startObject i cls key gone = (Res.ok, u) := by
  simp only [State.startObject, hrun, hfree, hnow, ne_eq, not_true_eq_false, if_false, Bool.false_eq_true, false_and]

theorem State.startTurn_of_not_held (s : State) (i : Nat) {key : Nat} (h : heldByCmp key = false) : s.startTurn i key = s.turnOf i := by
  rw [State.startTurn, State.serveCmp, h]
  rfl

/-! ### STARTs on programs (R268) -/

theorem State.notBusy_of_plnBusy {s : State} (h : s.plnBusy = false) :
    s.isBusy Obj.PLN_CHECK = false ∧ s.isBusy Obj.PLN_INSTALL = false ∧ s.isBusy Obj.PLN_SWITCH = false := by
  simpa [State.plnBusy, and_assoc] using h

section
variable {s : State} {i : Nat} {r : Request} (hbusy : s.plnBusy = false)
include hbusy

/-- A START on a program object whose run begins. -/
theorem State.serveIf_program {key : Nat} {u : State} (h : s.readyToStart i r key = true)
    (hkey : key = Obj.PLN_CHECK ∨ key = Obj.PLN_INSTALL ∨ key = Obj.PLN_SWITCH)
    (hrun : (s.turnOf i).startRun i ((s.turnOf i).page i).cls key false = (Res.ok, u)) :
    s.serveIf (isStart key 1) false = u.started i r key Res.ok := by
  obtain ⟨hcheck, hinstall, hswitch⟩ := State.notBusy_of_plnBusy hbusy
  have hfree : (s.turnOf i).isBusy key = false := by obtain rfl | rfl | rfl := hkey <;> assumption
  have hheld : heldByCmp key = false := by obtain rfl | rfl | rfl := hkey <;> decide
  have hnow : (decide (0x016000 ≤ key ∧ key < 0x017000) || decide (key = Obj.PWR_SHUTDOWN)) = false := by
    obtain rfl | rfl | rfl := hkey <;> decide
  rw [State.serveIf_of_readyToStart h key 1 ⟨0, by decide, rfl⟩ false, s.startTurn_of_not_held i hheld, State.startObject_of_ok hrun hfree hnow]

end

/-! ### PLN_CHECK (R266) -/

/-- The state with another staged image. -/
def State.withStaging (s : State) (im : Image) : State := { s with pipes := { s.pipes with staging := im } }

theorem State.get_withStaging (s : State) (im : Image) (k : Nat) : (s.withStaging im).get k = s.get k := rfl

section
variable {s : State} (hbusy : s.plnBusy = false)
include hbusy

theorem startPlnCheck_of_failed {detail place : Nat} (h : imageCheck s.pipes.staging s.pipes.stagedTotal = some (detail, place)) :
    startPlnCheck s = (Res.ok, (s.put Obj.PLN_CHECK_WHERE place).runOnce Obj.PLN_CHECK Res.badValue detail) := by
  simp only [startPlnCheck, hbusy, Bool.false_eq_true, if_false, h]

/-- An image that passes is left in the form of the check, and its number is answered. -/
theorem startPlnCheck_of_passed (h : imageCheck s.pipes.staging s.pipes.stagedTotal = none) :
    startPlnCheck s = (Res.ok, (((s.withStaging (imageClean s.pipes.staging)).put Obj.PLN_CHECK_WHERE 0).put Obj.PLN_CHECK_ID (imageId s.pipes.staging)).runOnce
      Obj.PLN_CHECK Res.ok 0) := by
  simp only [startPlnCheck, hbusy, Bool.false_eq_true, if_false, h, State.withStaging]

theorem startPlnCheck_code : (startPlnCheck s).1 = Res.ok := by
  cases h : imageCheck s.pipes.staging s.pipes.stagedTotal with
  | none => rw [startPlnCheck_of_passed hbusy h]
  | some e => rw [startPlnCheck_of_failed hbusy h]

theorem exec_plnCheck_of_ready {i : Nat} {r : Request} (h : s.readyToStart i r Obj.PLN_CHECK = true) :
    exec .plnCheck s = .next ((startPlnCheck (s.turnOf i)).2.started i r Obj.PLN_CHECK Res.ok) :=
  congrArg Host.Outcome.next (State.serveIf_program hbusy h (.inl rfl) (Prod.ext (startPlnCheck_code (s := s.turnOf i) hbusy) rfl))

theorem get_startPlnCheck_of_failed {detail place : Nat} (h : imageCheck s.pipes.staging s.pipes.stagedTotal = some (detail, place)) :
    (startPlnCheck s).2.get Obj.PLN_CHECK_WHERE = place ∧ (startPlnCheck s).2.get Obj.PLN_CHECK_ID = s.get Obj.PLN_CHECK_ID ∧
      (startPlnCheck s).2.get Obj.PLN_CHECK = runRecord (s.get Obj.PLN_CHECK) Res.badValue detail := by
  rw [startPlnCheck_of_failed hbusy h, State.runOnce]
  refine ⟨?_, ?_, ?_⟩
  · rw [State.get_runEnd_ne _ _ _ (by decide), State.get_put_same]
  · rw [State.get_runEnd_ne _ _ _ (by decide), State.get_put_ne _ _ _ _ (by decide)]
  · rw [State.get_runEnd_same, State.get_put_ne _ _ _ _ (by decide)]

theorem get_startPlnCheck_of_passed (h : imageCheck s.pipes.staging s.pipes.stagedTotal = none) :
    (startPlnCheck s).2.get Obj.PLN_CHECK_ID = imageId s.pipes.staging ∧
      (startPlnCheck s).2.get Obj.PLN_CHECK = runRecord (s.get Obj.PLN_CHECK) Res.ok 0 := by
  rw [startPlnCheck_of_passed hbusy h, State.runOnce]
  refine ⟨?_, ?_⟩
  · rw [State.get_runEnd_ne _ _ _ (by decide), State.get_put_same]
  · rw [State.get_runEnd_same, State.get_put_ne _ _ _ _ (by decide), State.get_put_ne _ _ _ _ (by decide), State.get_withStaging]

end

/-! ### PLN_INSTALL (R267) -/

/-- A pipeline with an image in the bank that its ingress does not use. -/
def Pipe.installed (im : Image) (id : Nat) (y : Pipe) : Pipe :=
  if y.ingress1 then { y with bank0 := im, id0 := id } else { y with bank1 := im, id1 := id }

/-- An install leaves what ingress and egress use, and the number of the active image. -/
theorem Pipe.installed_active (y : Pipe) (im : Image) (id : Nat) :
    (y.installed im id).ingress1 = y.ingress1 ∧ (y.installed im id).egress1 = y.egress1 ∧ (y.installed im id).bankId y.ingress1 = y.bankId y.ingress1 := by
  obtain ⟨_, _, _, _, ingress1, _⟩ := y
  cases ingress1 <;> exact ⟨rfl, rfl, rfl⟩

theorem Pipe.installed_standby (y : Pipe) (im : Image) (id : Nat) :
    (y.installed im id).bankId (!y.ingress1) = id ∧ (y.installed im id).bank (!y.ingress1) = im := by
  obtain ⟨_, _, _, _, ingress1, _⟩ := y
  cases ingress1 <;> exact ⟨rfl, rfl⟩

/-- The standby bank of every pipeline of a mask written from the staging area. -/
def State.installed (s : State) (mask id : Nat) : State :=
  (maskPipes mask).foldl (fun a k => a.bankWrite k (!(a.pipe k).ingress1) s.pipes.staging id) s

theorem State.pipe_bankWrite_standby (s : State) (k : Nat) (im : Image) (id j : Nat) :
    (s.bankWrite k (!(s.pipe k).ingress1) im id).pipe j = if k = j then (s.pipe k).installed im id else s.pipe j := by
  have hkept (lo hi j : Nat) : (s.memRangeWritten lo hi).pipe j = s.pipe j := rfl
  rw [State.bankWrite, State.pipe_modPipe, hkept, hkept, Pipe.installed]
  cases (s.pipe k).ingress1 <;> rfl

theorem State.pipe_installed (s : State) (mask id : Nat) {k : Nat} (hk : k < 32) :
    (s.installed mask id).pipe k = if bitOf mask k then (s.pipe k).installed s.pipes.staging id else s.pipe k :=
  State.pipe_foldl_maskPipes _ _ (fun a k j => a.pipe_bankWrite_standby k _ id j) mask s hk

theorem State.get_installed (s : State) (mask id : Nat) {key : Nat} (h : Obj.FLT_DIAG_LOGGED ≠ key) :
    (s.installed mask id).get key = s.get key := by
  refine foldl_keeps (State.get · key) _ (fun a k => ?_) (maskPipes mask) s
  rw [State.bankWrite, State.get_modPipe, State.memRangeWritten, State.get_put_ne _ _ _ _ h]
  rfl

section
variable {s : State} (hbusy : s.plnBusy = false)
include hbusy

theorem startPlnInstall_of_unchecked (hid : s.get Obj.PLN_CHECK_ID = 0) :
    startPlnInstall s = (Res.ok, s.runOnce Obj.PLN_INSTALL Res.badState 1) := by
  simp only [startPlnInstall, hbusy, Bool.false_eq_true, if_false, hid, if_true]

theorem startPlnInstall_of_unmasked (hid : s.get Obj.PLN_CHECK_ID ≠ 0) (hmask : s.get Obj.PLN_INSTALL_MASK = 0) :
    startPlnInstall s = (Res.ok, s.runOnce Obj.PLN_INSTALL Res.badState 2) := by
  simp only [startPlnInstall, hbusy, Bool.false_eq_true, if_false, hid, hmask, if_true]

theorem startPlnInstall_of_checked (hid : s.get Obj.PLN_CHECK_ID ≠ 0) (hmask : s.get Obj.PLN_INSTALL_MASK ≠ 0) :
    startPlnInstall s = (Res.ok, (s.installed (s.get Obj.PLN_INSTALL_MASK) (s.get Obj.PLN_CHECK_ID)).runOnce Obj.PLN_INSTALL Res.ok 0) := by
  simp only [startPlnInstall, hbusy, Bool.false_eq_true, if_false, hid, hmask, State.installed]

theorem startPlnInstall_code : (startPlnInstall s).1 = Res.ok := by
  by_cases hid : s.get Obj.PLN_CHECK_ID = 0
  · rw [startPlnInstall_of_unchecked hbusy hid]
  · by_cases hmask : s.get Obj.PLN_INSTALL_MASK = 0
    · rw [startPlnInstall_of_unmasked hbusy hid hmask]
    · rw [startPlnInstall_of_checked hbusy hid hmask]

theorem exec_plnInstall_of_ready {i : Nat} {r : Request} (h : s.readyToStart i r Obj.PLN_INSTALL = true) :
    exec .plnInstall s = .next ((startPlnInstall (s.turnOf i)).2.started i r Obj.PLN_INSTALL Res.ok) :=
  congrArg Host.Outcome.next (State.serveIf_program hbusy h (.inr (.inl rfl)) (Prod.ext (startPlnInstall_code (s := s.turnOf i) hbusy) rfl))

omit hbusy in
/-- A refused install answers its DETAIL and leaves the programs. -/
theorem startPlnInstall_refused {detail : Nat} (h : startPlnInstall s = (Res.ok, s.runOnce Obj.PLN_INSTALL Res.badState detail)) :
    (startPlnInstall s).2.pipes = s.pipes ∧
      (startPlnInstall s).2.get Obj.PLN_INSTALL = runRecord (s.get Obj.PLN_INSTALL) Res.badState detail := by
  rw [h, State.runOnce]
  exact ⟨State.pipes_runEnd _ _ _ _, State.get_runEnd_same _ _ _ _⟩

theorem get_startPlnInstall_of_checked (hid : s.get Obj.PLN_CHECK_ID ≠ 0) (hmask : s.get Obj.PLN_INSTALL_MASK ≠ 0) :
    (startPlnInstall s).2.get Obj.PLN_INSTALL = runRecord (s.get Obj.PLN_INSTALL) Res.ok 0 := by
  rw [startPlnInstall_of_checked hbusy hid hmask, State.runOnce, State.get_runEnd_same, State.get_installed _ _ _ (by decide)]

theorem pipe_startPlnInstall_of_checked (hid : s.get Obj.PLN_CHECK_ID ≠ 0) (hmask : s.get Obj.PLN_INSTALL_MASK ≠ 0) {k : Nat} (hk : k < 32) :
    (startPlnInstall s).2.pipe k =
      if bitOf (s.get Obj.PLN_INSTALL_MASK) k then (s.pipe k).installed s.pipes.staging (s.get Obj.PLN_CHECK_ID) else s.pipe k := by
  rw [startPlnInstall_of_checked hbusy hid hmask, State.pipe_of_pipes_eq (State.pipes_runOnce _ _ _ _), State.pipe_installed _ _ _ hk]

/-- An install changes the standby bank of each pipeline of its mask, and nothing else of a pipeline that is in use. -/
theorem startPlnInstall_standby_only (hid : s.get Obj.PLN_CHECK_ID ≠ 0) (hmask : s.get Obj.PLN_INSTALL_MASK ≠ 0) {k : Nat} (hk : k < 32) :
    let v := (startPlnInstall s).2
    let named := bitOf (s.get Obj.PLN_INSTALL_MASK) k
    (v.pipe k).ingress1 = (s.pipe k).ingress1 ∧ (v.pipe k).egress1 = (s.pipe k).egress1 ∧ v.activeId k = s.activeId k ∧
      v.standbyId k = (if named then s.get Obj.PLN_CHECK_ID else s.standbyId k) ∧
      (v.pipe k).bank (!(s.pipe k).ingress1) = (if named then s.pipes.staging else (s.pipe k).bank (!(s.pipe k).ingress1)) := by
  obtain ⟨hingress, hegress, hactive⟩ := (s.pipe k).installed_active s.pipes.staging (s.get Obj.PLN_CHECK_ID)
  obtain ⟨hstandby, hbank⟩ := (s.pipe k).installed_standby s.pipes.staging (s.get Obj.PLN_CHECK_ID)
  simp only [State.activeId, State.standbyId, pipe_startPlnInstall_of_checked hbusy hid hmask hk]
  cases bitOf (s.get Obj.PLN_INSTALL_MASK) k with
  | true => simp only [if_true, hingress, hegress, hactive, hstandby, hbank, and_self]
  | false => exact ⟨rfl, rfl, rfl, rfl, rfl⟩

end

/-! ### PLN_SWITCH (R268) -/

theorem mem_setInsert_self (l : List Nat) (k : Nat) : k ∈ setInsert l k := by
  induction l with
  | nil => simp [setInsert]
  | cons x l ih =>
    rw [setInsert]
    split
    · simp_all
    · split <;> simp [ih]

theorem State.isBusy_runBegin_same (s : State) (key : Nat) : (s.runBegin key).isBusy key = true :=
  List.contains_iff_mem.2 (mem_setInsert_self s.busy key)

/-- Some pipeline of a mask has no image in its standby bank. -/
def State.LacksStandby (s : State) (mask : Nat) : Prop := ∃ k, k < 32 ∧ bitOf mask k = true ∧ s.standbyId k = 0

theorem State.any_standby_empty_iff (s : State) (mask : Nat) :
    ((maskPipes mask).any fun k => decide (s.standbyId k = 0)) = true ↔ s.LacksStandby mask := by
  simp [State.LacksStandby, mem_maskPipes, and_assoc]

section
variable {s : State} (hbusy : s.plnBusy = false)
include hbusy

theorem startPlnSwitch_of_lacking (hempty : s.LacksStandby (s.get Obj.PLN_SWITCH_MASK)) :
    startPlnSwitch s = (Res.ok, s.runOnce Obj.PLN_SWITCH Res.badState 1) := by
  simp only [startPlnSwitch, hbusy, Bool.false_eq_true, if_false, State.any_standby_empty_iff, hempty, if_true]

theorem startPlnSwitch_of_unmasked (hfull : ¬ s.LacksStandby (s.get Obj.PLN_SWITCH_MASK)) (hmask : s.get Obj.PLN_SWITCH_MASK = 0) :
    startPlnSwitch s = (Res.ok, s.runOnce Obj.PLN_SWITCH Res.badState 2) := by
  have hany := mt (s.any_standby_empty_iff _).1 hfull
  rw [startPlnSwitch, if_neg (by simp [hbusy])]
  dsimp only
  rw [if_neg hany, if_pos hmask]

/-- The switch waits for its clock T. -/
theorem startPlnSwitch_of_full (hfull : ¬ s.LacksStandby (s.get Obj.PLN_SWITCH_MASK)) (hmask : s.get Obj.PLN_SWITCH_MASK ≠ 0) :
    startPlnSwitch s = (Res.ok,
      (s.withSwitch (some ⟨s.get Obj.PLN_SWITCH_MASK, s.get Obj.PLN_SWITCH_MODE, false, 0, 0, false⟩)).runBegin Obj.PLN_SWITCH) := by
  simp only [startPlnSwitch, hbusy, Bool.false_eq_true, if_false, State.any_standby_empty_iff, hfull, hmask, State.withSwitch]

theorem startPlnSwitch_code : (startPlnSwitch s).1 = Res.ok := by
  by_cases hempty : s.LacksStandby (s.get Obj.PLN_SWITCH_MASK)
  · rw [startPlnSwitch_of_lacking hbusy hempty]
  · by_cases hmask : s.get Obj.PLN_SWITCH_MASK = 0
    · rw [startPlnSwitch_of_unmasked hbusy hempty hmask]
    · rw [startPlnSwitch_of_full hbusy hempty hmask]

theorem exec_plnSwitch_of_ready {i : Nat} {r : Request} (h : s.readyToStart i r Obj.PLN_SWITCH = true) :
    exec .plnSwitch s = .next ((startPlnSwitch (s.turnOf i)).2.started i r Obj.PLN_SWITCH Res.ok) :=
  congrArg Host.Outcome.next (State.serveIf_program hbusy h (.inr (.inr rfl)) (Prod.ext (startPlnSwitch_code (s := s.turnOf i) hbusy) rfl))

theorem get_startPlnSwitch_of_lacking (hempty : s.LacksStandby (s.get Obj.PLN_SWITCH_MASK)) :
    (startPlnSwitch s).2.get Obj.PLN_SWITCH = runRecord (s.get Obj.PLN_SWITCH) Res.badState 1 := by
  rw [startPlnSwitch_of_lacking hbusy hempty, State.runOnce, State.get_runEnd_same]

theorem waits_startPlnSwitch_of_full (hfull : ¬ s.LacksStandby (s.get Obj.PLN_SWITCH_MASK)) (hmask : s.get Obj.PLN_SWITCH_MASK ≠ 0) :
    (startPlnSwitch s).2.isBusy Obj.PLN_SWITCH = true ∧
      (startPlnSwitch s).2.pipes.switch = some ⟨s.get Obj.PLN_SWITCH_MASK, s.get Obj.PLN_SWITCH_MODE, false, 0, 0, false⟩ := by
  rw [startPlnSwitch_of_full hbusy hfull hmask]
  exact ⟨State.isBusy_runBegin_same _ _, rfl⟩

end

/-- Settles O41: each START runs in the state of its turn, whose programs and objects are those before it, and every clause reads the state that the
run leaves. -/
theorem imagesAreCheckedInstalledAndSwitched : Obligations.ImagesAreCheckedInstalledAndSwitched := by
  refine ⟨fun s i r h hbusy => ⟨_, exec_plnCheck_of_ready hbusy h, fun detail place => get_startPlnCheck_of_failed (s := s.turnOf i) hbusy,
      get_startPlnCheck_of_passed (s := s.turnOf i) hbusy⟩,
    fun s i r h hbusy => ⟨_, exec_plnInstall_of_ready hbusy h, fun hid => ?_, fun hid hmask => ?_, fun hid hmask => ⟨?_, fun k hk => ?_⟩⟩,
    fun s i r h hbusy => ⟨_, exec_plnSwitch_of_ready hbusy h, get_startPlnSwitch_of_lacking (s := s.turnOf i) hbusy, fun hfull => ?_⟩⟩
  · exact startPlnInstall_refused (startPlnInstall_of_unchecked (s := s.turnOf i) hbusy hid)
  · exact startPlnInstall_refused (startPlnInstall_of_unmasked (s := s.turnOf i) hbusy hid hmask)
  · exact get_startPlnInstall_of_checked (s := s.turnOf i) hbusy hid hmask
  · exact startPlnInstall_standby_only (s := s.turnOf i) hbusy hid hmask hk
  · exact waits_startPlnSwitch_of_full (s := s.turnOf i) hbusy fun ⟨k, hk, hbit, hzero⟩ => hfull k hk hbit hzero

end Sys2Proof.Machine
end

section
/-! PROOFS. The descriptors of the galley (11): reads under codes, the ladder of reactions, a buffer's request and a word's store leave them. -/

namespace Sys2Proof.Machine
open Sys2Proof

theorem State.descs_ite {c : Prop} [Decidable c] {s a b : State} (ha : a.galley.descs = s.galley.descs) (hb : b.galley.descs = s.galley.descs) :
    (if c then a else b).galley.descs = s.galley.descs := by
  split
  · exact ha
  · exact hb

/-! ### The ladder of reactions (R480 to R486) -/

/-- Every part but the galley. -/
def besideGalley : List Part := everyPart.erase .galley

section
variable (s : State) (src : Nat)

theorem State.galley_event (cls flags : Nat) (scope : Scope) (cause rung detail : Nat) :
    (s.event src cls flags scope cause rung detail).galley = s.galley :=
  (State.event_kept (K := fun _ => True) s src cls flags scope cause rung detail (by decide) (by decide) (by decide) trivial trivial
    (Kept.refl besideGalley _ s)).same .galley (by decide)

theorem State.galley_rung2 : (s.rung2 src).galley = s.galley :=
  (State.rung2_kept (K := fun _ => True) s src (by decide) (by decide) (by decide) (by decide) trivial trivial trivial (fun _ => trivial)
    (Kept.refl besideGalley _ s)).same .galley (by decide)

theorem State.galley_rung3 : (s.rung3 src).galley = s.galley :=
  (State.rung3_kept (K := fun _ => True) s src (by decide) (by decide) (by decide) (by decide) (by decide) trivial trivial trivial trivial trivial
    (Kept.refl besideGalley _ s)).same .galley (by decide)

theorem State.galley_rungAfter1 : (s.rungAfter1 src).galley = s.galley :=
  (State.rungAfter1_kept (K := fun _ => True) s src (by decide) (by decide) (by decide) (by decide) (by decide) (by decide) trivial trivial trivial
    trivial trivial (fun _ => trivial) (Kept.refl besideGalley _ s)).same .galley (by decide)

theorem State.galley_retireIdle : (s.retireIdle src).galley = s.galley :=
  (State.retireIdle_kept (K := fun _ => True) s src (by decide) (by decide) (Kept.refl besideGalley _ s)).same .galley (by decide)

/-- A repair that begins in the Forme stack notes the copy of a bank, and touches nothing else of the galley. -/
theorem State.descs_dispatchForme : s.dispatchForme.galley.descs = s.galley.descs := by
  unfold State.dispatchForme
  split
  · rfl
  · split
    · rfl
    · dsimp only
      split
      · split
        · rfl
        · split
          · rw [State.galley_rungAfter1]
          · rfl
      · split
        · rfl
        · split
          · rw [State.galley_rungAfter1]
          · rfl
      · rfl

theorem State.descs_rung1 : (s.rung1 src).galley.descs = s.galley.descs := by
  unfold State.rung1
  rw [State.descs_dispatchForme]
  change ((s.bump Obj.FLT_RUNGS).rungEvent src Cls.rungTaken 1).galley.descs = _
  rw [State.rungEvent, State.note, State.galley_event, State.galley_bump]

theorem State.descs_takeRung : (s.takeRung src).galley.descs = s.galley.descs := by
  unfold State.takeRung
  split
  · split
    · rw [State.galley_retireIdle]
    · split
      · rw [State.galley_rungAfter1]
      · exact s.descs_rung1 src
  · split
    · rw [State.galley_rung2]
    · split
      · rfl
      · rw [State.galley_rung3]

theorem State.descs_becomeSevere (tile : Nat) (scope : Scope) (cause flags : Nat) :
    (s.becomeSevere src tile scope cause flags).galley.descs = s.galley.descs := by
  unfold State.becomeSevere
  dsimp only
  split
  · rw [State.descs_takeRung, State.galley_cmpPush, State.galley_event, State.galley_modSource]
  · rw [State.galley_cmpPush, State.galley_event, State.galley_modSource]

end

theorem State.galley_queueRec (s : State) (src cls flags : Nat) (scope : Scope) (cause rung detail : Nat) :
    (s.queueRec src cls flags scope cause rung detail).galley = s.galley :=
  (State.queueRec_kept (K := fun _ => True) s src cls flags scope cause rung detail (by decide) (by decide) (by decide) trivial
    (Kept.refl besideGalley _ s)).same .galley (by decide)

theorem State.descs_report (s : State) (r : Report) : (s.report r).galley.descs = s.galley.descs := by
  unfold State.report
  dsimp only
  refine State.descs_ite ((State.descs_becomeSevere _ _ _ _ _ _).trans (State.descs_ite ?_ ?_)) (State.descs_ite ?_ ?_)
  all_goals simp [State.galley_queueRec]

/-! ### Reads under a code (R462 to R465, R490) -/

section
variable (s : State) (kind inst addr source flags syn : Nat)

theorem State.descs_memEvent (result p1 p2 : Nat) : (s.memEvent kind inst addr result source flags syn p1 p2).galley.descs = s.galley.descs := by
  unfold State.memEvent
  rw [State.descs_report]
  repeat' split
  all_goals simp

theorem State.galley_useInjection (j : Injection) : (s.useInjection j).galley = s.galley :=
  (State.useInjection_kept (K := fun _ => True) s j (by decide) (by decide) (by decide) trivial trivial trivial
    (Kept.refl besideGalley _ s)).same .galley (by decide)

theorem State.galley_schedBack (key : Nat) (poison : Bool) : (s.schedBack key poison).galley = s.galley :=
  (State.schedBack_kept (K := fun _ => True) s key poison (by decide) (Kept.refl besideGalley _ s)).same .galley (by decide)

theorem State.descs_readInjected (pat : Nat) (j : Injection) :
    (s.readInjected kind inst addr source flags pat j).state.galley.descs = s.galley.descs := by
  unfold State.readInjected
  split
  · rw [State.galley_useInjection]
  · rw [State.galley_useInjection, State.descs_memEvent]
  · rw [State.galley_useInjection, State.descs_memEvent]

theorem State.descs_readFixed (pat p1 : Nat) (p2 : Option Nat) :
    (s.readFixed kind inst addr source flags pat p1 p2 syn).state.galley.descs = s.galley.descs := by
  unfold State.readFixed
  dsimp only
  split <;> simp only [State.galley_schedBack, State.descs_memEvent]

theorem State.descs_readLost : (s.readLost kind inst addr source flags syn).state.galley.descs = s.galley.descs := by
  unfold State.readLost
  dsimp only
  split <;> simp only [State.galley_schedBack, State.descs_memEvent]

theorem State.descs_readCoincident (j : Injection) :
    (s.readCoincident kind inst addr source flags syn j).state.galley.descs = s.galley.descs := by
  unfold State.readCoincident
  dsimp only
  split <;> simp only [State.galley_schedBack, State.galley_useInjection, State.galley_bump, State.descs_memEvent]

theorem State.descs_readWord : (s.readWord kind inst addr source).state.galley.descs = s.galley.descs := by
  unfold State.readWord
  dsimp only
  split
  · rfl
  · rw [State.descs_readInjected]
  · rw [State.descs_readFixed]
  · rw [State.descs_readLost]
  · rw [State.descs_readCoincident]
  · rw [State.descs_readCoincident]

end

/-! ### Requests for buffers (R320 to R327) -/

theorem State.descs_galleyRaw (s : State) (w source : Nat) : (s.galleyRaw w source).state.galley.descs = s.galley.descs := by
  unfold State.galleyRaw
  dsimp only
  split <;> rw [State.descs_readWord]

theorem State.descs_ptrFault (s : State) (cause c h p quar lost : Nat) : (s.ptrFault cause c h p quar lost).galley.descs = s.galley.descs := by
  unfold State.ptrFault
  simp [State.descs_report]

theorem State.descs_refill (s : State) (c h : Nat) : (s.refill c h).galley.descs = s.galley.descs := by
  unfold State.refill
  dsimp only
  split
  · rfl
  · split
    · rw [State.descs_ptrFault]
      exact s.descs_galleyRaw _ 1
    · exact s.descs_galleyRaw _ 1

theorem State.descs_fillHank (s : State) (c h n : Nat) : (s.fillHank c h n).galley.descs = s.galley.descs := by
  induction n generalizing s with
  | zero => rfl
  | succ n ih => rw [State.fillHank, ih, State.descs_refill]

/-- A case's pointer is no longer held: its valid bits go, one stripe at a time. -/
def Galley.unmarkStripe (p : Nat) (g : Galley) (i : Nat) : Galley :=
  { g with valid := smSet 0 g.valid ((p + i) / 64) (setBit (smGet 0 g.valid ((p + i) / 64)) ((p + i) % 64) false) }

theorem State.descs_clearValid (s : State) (c p : Nat) : (s.clearValid c p).galley.descs = s.galley.descs :=
  foldl_keeps Galley.descs (Galley.unmarkStripe p) (fun _ _ => rfl) (upTo (caseStripes c)) s.galley

theorem State.descs_popHank (s : State) (c h : Nat) : (s.popHank c h).2.galley.descs = s.galley.descs := by
  have hfill := s.descs_fillHank c h 16
  unfold State.popHank
  generalize s.fillHank c h 16 = s1 at hfill ⊢
  dsimp only
  split
  · exact hfill
  · split
    · rw [State.descs_clearValid]
      exact hfill
    · rw [State.descs_ptrFault]
      exact hfill

theorem State.descs_popFrom (s : State) (c h n : Nat) : (s.popFrom c h n).2.galley.descs = s.galley.descs := by
  induction n generalizing s h with
  | zero => rfl
  | succ n ih =>
    unfold State.popFrom
    dsimp only
    split
    · exact s.descs_popHank c h
    · rw [ih, State.descs_popHank]

theorem State.descs_pop (s : State) (c : Nat) : (s.pop c).2.galley.descs = s.galley.descs := by
  rw [State.pop, State.descs_popFrom]

theorem State.descs_request (s : State) (r c n : Nat) : (s.request r c n).2.galley.descs = s.galley.descs := by
  induction n generalizing s c with
  | zero => rfl
  | succ n ih =>
    have hpop := s.descs_pop c
    unfold State.request
    generalize s.pop c = popped at hpop ⊢
    split
    · split
      · refine State.descs_ite ?_ ?_
        · simpa [State.chargeBuf, State.modGalley] using hpop
        · simpa [State.chargeBuf, State.modGalley] using hpop
      · simpa using hpop
    · split
      · rw [ih, State.galley_bump]
      · rw [State.galley_bump]

theorem State.galley_pmc (s : State) (block code n : Nat) (a : PmcAttr) : (s.pmc block code n a).galley = s.galley := by
  unfold State.pmc
  split <;> rfl

theorem State.descs_ask (s : State) (r c : Nat) (prio : Option Nat) : (s.ask r c prio).2.galley.descs = s.galley.descs := by
  have hasked : (if s.wiping then ((none, c), s.bump (Obj.GAL_C_REFUSED c)) else s.request r c 4).2.galley.descs = s.galley.descs := by
    split
    · rw [State.galley_bump]
    · exact s.descs_request r c 4
  unfold State.ask
  dsimp only
  split <;> rw [State.galley_pmc, hasked]

end Sys2Proof.Machine
end

section
/-! PROOFS. What a port takes in: its FIFO, its writer and its pipeline's count of frames, and the operations that leave the three (09 R264, 11 R327). -/

namespace Sys2Proof.Machine
open Sys2Proof

/-! ### The relation -/

/-- Every object but the count of the frames that enter a pipeline. -/
def BesideInPkts (k key : Nat) : Prop := key ≠ Obj.PLN_IN_PKTS k

/-- The count's byte index within its page is 6; an object with another one is another object. -/
theorem besideInPkts_of_mod {k key : Nat} (h : key % 256 ≠ 6) : BesideInPkts k key := by
  unfold BesideInPkts Obj.PLN_IN_PKTS
  omega

/-- A port's FIFO and writer are the same, and so is the count of the frames that its pipeline took in. -/
structure SameInflow (p : Nat) (z t : State) : Prop where
  count : t.get (Obj.PLN_IN_PKTS (p / 32)) = z.get (Obj.PLN_IN_PKTS (p / 32))
  fifo : (t.port p).fifo = (z.port p).fifo
  writing : (t.port p).writing = (z.port p).writing

theorem SameInflow.refl (p : Nat) (z : State) : SameInflow p z z := ⟨rfl, rfl, rfl⟩

theorem SameInflow.trans {p : Nat} {a b c : State} (hab : SameInflow p a b) (hbc : SameInflow p b c) : SameInflow p a c :=
  ⟨hbc.count.trans hab.count, hbc.fifo.trans hab.fifo, hbc.writing.trans hab.writing⟩

theorem SameInflow.ite {p : Nat} {z a b : State} {c : Prop} [Decidable c] (ha : SameInflow p z a) (hb : SameInflow p z b) :
    SameInflow p z (if c then a else b) := by
  split
  · exact ha
  · exact hb

theorem SameInflow.foldl {α : Type} {p : Nat} (step : State → α → State) (hstep : ∀ a e, SameInflow p a (step a e)) (l : List α) (s : State) :
    SameInflow p s (l.foldl step s) := by
  induction l generalizing s with
  | nil => exact SameInflow.refl p s
  | cons e l ih => exact (hstep s e).trans (ih _)

theorem SameInflow.of_kept {p : Nat} {ps : List Part} {z t : State} (h : Kept ps (BesideInPkts (p / 32)) z t) (hports : Part.ports ∉ ps) :
    SameInflow p z t := by
  obtain ⟨-, hget, -, -⟩ := id h
  have hsame : t.ports = z.ports := h.same .ports hports
  have hport : t.port p = z.port p := by rw [State.port, State.port, hsame]
  exact ⟨hget _ fun hne => hne rfl, by rw [hport], by rw [hport]⟩

/-! ### The operations that change no port -/

/-- Every part but the ports. -/
def besidePorts : List Part := everyPart.erase .ports

section
variable (p : Nat) (s : State)

theorem besidePorts_inflow {t : State} (h : Kept besidePorts (BesideInPkts (p / 32)) s t) : SameInflow p s t :=
  SameInflow.of_kept h (by decide)

theorem codedKeys_besideInPkts (hp : p < 1024) : CodedKeys (BesideInPkts (p / 32)) where
  events := besideInPkts_of_mod (by decide)
  lost := by simp only [BesideInPkts, Obj.FLT_EVENT_LOST, Obj.PLN_IN_PKTS]; omega
  rungs := besideInPkts_of_mod (by decide)
  state := besideInPkts_of_mod (by decide)
  cause := besideInPkts_of_mod (by decide)
  shed _ := besideInPkts_of_mod (by simp only [Obj.QD_OCTETS_SHED]; omega)
  ue _ := besideInPkts_of_mod (by simp only [Obj.FLT_MI_UE]; omega)
  ce _ := besideInPkts_of_mod (by simp only [Obj.FLT_MI_CE]; omega)
  last _ := besideInPkts_of_mod (by simp only [Obj.FLT_MI_LAST]; omega)
  labelUe _ := besideInPkts_of_mod (by simp only [Obj.CHS_LABEL_UE]; omega)
  labelCe _ := besideInPkts_of_mod (by simp only [Obj.CHS_LABEL_CE]; omega)
  nhUe _ := besideInPkts_of_mod (by simp only [Obj.CHS_NH_UE]; omega)
  nhCe _ := besideInPkts_of_mod (by simp only [Obj.CHS_NH_CE]; omega)
  mismatch _ := besideInPkts_of_mod (by simp only [Obj.CHS_LPM_MISMATCH]; omega)
  parity _ := by simp only [BesideInPkts, Obj.CHS_LPM_PARITY, Obj.PLN_IN_PKTS]; omega
  lrn _ := besideInPkts_of_mod (by simp only [Obj.TBL_LRN_UNCORR]; omega)
  fetchUe := besideInPkts_of_mod (by decide)
  fetchCe := besideInPkts_of_mod (by decide)
  injArm := besideInPkts_of_mod (by decide)
  injDone := besideInPkts_of_mod (by decide)
  injLeft := besideInPkts_of_mod (by decide)
  injCoincident := besideInPkts_of_mod (by decide)

theorem bufferKeys_besideInPkts (hp : p < 1024) : BufferKeys (BesideInPkts (p / 32)) where
  toCodedKeys := codedKeys_besideInPkts p hp
  logged := besideInPkts_of_mod (by decide)
  galLost := besideInPkts_of_mod (by decide)
  ptrFaults := besideInPkts_of_mod (by decide)
  quarantined := by simp only [BesideInPkts, Obj.GAL_QUARANTINED, Obj.PLN_IN_PKTS]; omega
  quarLast := besideInPkts_of_mod (by decide)

theorem State.inflow_bumpBy {key : Nat} (n : Nat) (hkey : BesideInPkts (p / 32) key) : SameInflow p s (s.bumpBy key n) :=
  besidePorts_inflow p s (State.bumpBy_kept s key n (by decide) hkey (Kept.refl _ _ s))

theorem State.inflow_bump {key : Nat} (hkey : BesideInPkts (p / 32) key) : SameInflow p s (s.bump key) :=
  besidePorts_inflow p s (State.bump_kept s key (by decide) hkey (Kept.refl _ _ s))

theorem State.inflow_put {key : Nat} (v : Nat) (hkey : BesideInPkts (p / 32) key) : SameInflow p s (s.put key v) :=
  besidePorts_inflow p s (State.put_kept s key v (by decide) hkey (Kept.refl _ _ s))

theorem State.inflow_emit (o : Out) : SameInflow p s (s.emit o) :=
  besidePorts_inflow p s (State.emit_kept s o (by decide) (Kept.refl _ _ s))

theorem State.inflow_pmc (block code n : Nat) (a : PmcAttr) : SameInflow p s (s.pmc block code n a) :=
  besidePorts_inflow p s (State.pmc_kept s block code n a (by decide) (Kept.refl _ _ s))

theorem State.inflow_pmcPulse (block code : Nat) : SameInflow p s (s.pmcPulse block code) :=
  besidePorts_inflow p s (State.pmcPulse_kept s block code (by decide) (Kept.refl _ _ s))

end

end Sys2Proof.Machine
end

section
/-! PROOFS. The operations of a frame's way through the pipeline that leave what its port takes in: reads under codes, buffers, descriptors and
tables (09 R264 to R293, 10 R304 to R312, 11 R320 to R330). -/

namespace Sys2Proof.Machine
open Sys2Proof

/-! ### Reads under codes and requests for buffers -/

section
variable (p : Nat) (hp : p < 1024) (s : State)
include hp

theorem State.inflow_parse (pipe : Nat) (bank : Bool) (w : Bytes) : SameInflow p s (s.parse pipe bank w).2.2 := by
  apply besidePorts_inflow
  apply State.parse_kept
  case ko => exact codedKeys_besideInPkts p hp
  case oPLN_PARSE_ERR => exact fun _ => besideInPkts_of_mod (by simp only [Obj.PLN_PARSE_ERR]; omega)
  case hK => exact Kept.refl _ _ s
  all_goals decide

theorem State.inflow_progRead (pipe : Nat) (bank : Bool) (arr idx : Nat) : SameInflow p s (s.progRead pipe bank arr idx).2 := by
  apply besidePorts_inflow
  apply State.progRead_kept
  case ko => exact codedKeys_besideInPkts p hp
  case hK => exact Kept.refl _ _ s
  all_goals decide

theorem State.inflow_ask (r c : Nat) (prio : Option Nat) : SameInflow p s (s.ask r c prio).2 := by
  apply besidePorts_inflow
  apply State.ask_kept
  case ko => exact codedKeys_besideInPkts p hp
  case oGAL_C_FALLBACKS => exact fun _ => besideInPkts_of_mod (by simp only [Obj.GAL_C_FALLBACKS]; omega)
  case oGAL_C_FREE_MIN => exact fun _ => besideInPkts_of_mod (by simp only [Obj.GAL_C_FREE_MIN]; omega)
  case oGAL_C_GRANTS => exact fun _ => besideInPkts_of_mod (by simp only [Obj.GAL_C_GRANTS]; omega)
  case oGAL_C_REFUSED => exact fun _ => besideInPkts_of_mod (by simp only [Obj.GAL_C_REFUSED]; omega)
  case oGAL_LOST => exact besideInPkts_of_mod (by decide)
  case oGAL_PTR_FAULTS => exact besideInPkts_of_mod (by decide)
  case oGAL_QUARANTINED => exact (bufferKeys_besideInPkts p hp).quarantined
  case oGAL_QUAR_LAST => exact besideInPkts_of_mod (by decide)
  case hK => exact Kept.refl _ _ s
  all_goals decide

theorem State.inflow_push (c buf : Nat) (req : Option Nat) : SameInflow p s (s.push c buf req) := by
  apply besidePorts_inflow
  apply State.push_kept
  case ko => exact bufferKeys_besideInPkts p hp
  case hK => exact Kept.refl _ _ s
  all_goals decide

theorem State.inflow_lrnBucket (k b source : Nat) : SameInflow p s (s.lrnBucket k b source).2 := by
  apply besidePorts_inflow
  apply State.lrnBucket_kept
  case ko => exact codedKeys_besideInPkts p hp
  case oFLT_DIAG_LOGGED => exact besideInPkts_of_mod (by decide)
  case hK => exact Kept.refl _ _ s
  all_goals decide

theorem State.inflow_install (k : Nat) (m : LMsg) : SameInflow p s (s.install k m).2 := by
  apply besidePorts_inflow
  apply State.install_kept
  case ko => exact codedKeys_besideInPkts p hp
  case oFLT_DIAG_LOGGED => exact besideInPkts_of_mod (by decide)
  case oTBL_EVENT_LOST => exact besideInPkts_of_mod (by decide)
  case oTBL_LRN_FULL => exact fun _ => besideInPkts_of_mod (by simp only [Obj.TBL_LRN_FULL]; omega)
  case oTBL_LRN_INSTALLS => exact fun _ => besideInPkts_of_mod (by simp only [Obj.TBL_LRN_INSTALLS]; omega)
  case hK => exact Kept.refl _ _ s
  all_goals decide

theorem State.inflow_labelRead (c e source : Nat) : SameInflow p s (s.labelRead c e source).2 := by
  apply besidePorts_inflow
  apply State.labelRead_kept
  case ko => exact codedKeys_besideInPkts p hp
  case hK => exact Kept.refl _ _ s
  all_goals decide

theorem State.inflow_nhRead (c e source : Nat) : SameInflow p s (s.nhRead c e source).2 := by
  apply besidePorts_inflow
  apply State.nhRead_kept
  case ko => exact codedKeys_besideInPkts p hp
  case hK => exact Kept.refl _ _ s
  all_goals decide

theorem State.inflow_lpm (c : Nat) (v6 : Bool) (vrf addr : Nat) : SameInflow p s (s.lpm c v6 vrf addr).2 := by
  apply besidePorts_inflow
  apply State.lpm_kept
  case ko => exact codedKeys_besideInPkts p hp
  case hK => exact Kept.refl _ _ s
  all_goals decide

theorem State.inflow_lookupDst (k vid mac : Nat) : SameInflow p s (s.lookupDst k vid mac).2 := by
  apply besidePorts_inflow
  apply State.lookupDst_kept
  case ko => exact codedKeys_besideInPkts p hp
  case oFLT_DIAG_LOGGED => exact besideInPkts_of_mod (by decide)
  case hK => exact Kept.refl _ _ s
  all_goals decide

theorem State.inflow_lookupPolicer (pipe k : Nat) (aware : Bool) (inp millibits : Nat) : SameInflow p s (s.lookupPolicer pipe k aware inp millibits).2 := by
  apply besidePorts_inflow
  apply State.lookupPolicer_kept
  case ko => exact codedKeys_besideInPkts p hp
  case hK => exact Kept.refl _ _ s
  all_goals decide

end

/-! ### Descriptors, buffers' words and learners -/

section
variable (p : Nat) (s : State)

theorem State.inflow_store32 (req : Option Nat) (bufs : List (Nat × Nat)) (off : Nat) (l : Bytes) : SameInflow p s (s.store32 req bufs off l) := by
  apply besidePorts_inflow
  apply State.store32_kept
  case oFLT_DIAG_LOGGED => exact besideInPkts_of_mod (by decide)
  case hK => exact Kept.refl _ _ s
  all_goals decide

theorem State.inflow_addRef (d n : Nat) : SameInflow p s (s.addRef d n) := by
  apply besidePorts_inflow
  apply State.addRef_kept
  case hK => exact Kept.refl _ _ s
  all_goals decide

theorem State.inflow_chargeBuf (r c : Nat) (add : Bool) : SameInflow p s (s.chargeBuf r c add) := by
  apply besidePorts_inflow
  apply State.chargeBuf_kept
  case hK => exact Kept.refl _ _ s
  all_goals decide

theorem State.inflow_setDescr (d : Nat) (x : Option Descr) : SameInflow p s (s.setDescr d x) := by
  apply besidePorts_inflow
  apply State.setDescr_kept
  case oFLT_DIAG_LOGGED => exact besideInPkts_of_mod (by decide)
  case hK => exact Kept.refl _ _ s
  all_goals decide

theorem State.inflow_newDescr (x : Descr) : SameInflow p s (s.newDescr x).2 := by
  apply besidePorts_inflow
  apply State.newDescr_kept
  case oFLT_DIAG_LOGGED => exact besideInPkts_of_mod (by decide)
  case hK => exact Kept.refl _ _ s
  all_goals decide

theorem State.inflow_modDescr (d : Nat) (f : Descr → Descr) : SameInflow p s (s.modDescr d f) := by
  apply besidePorts_inflow
  apply State.modDescr_kept
  case hK => exact Kept.refl _ _ s
  all_goals decide

theorem State.inflow_toCmp (d pipe queue : Nat) : SameInflow p s (s.toCmp d pipe queue) := by
  apply besidePorts_inflow
  apply State.toCmp_kept
  case oFLT_DIAG_LOGGED => exact besideInPkts_of_mod (by decide)
  case oGAL_DESC_COPY_REFUSED => exact besideInPkts_of_mod (by decide)
  case oPLN_TO_CMP => exact fun _ => besideInPkts_of_mod (by simp only [Obj.PLN_TO_CMP]; omega)
  case hK => exact Kept.refl _ _ s
  all_goals decide

theorem State.inflow_lrnWrite (k slot v : Nat) : SameInflow p s (s.lrnWrite k slot v) := by
  apply besidePorts_inflow
  apply State.lrnWrite_kept
  case oFLT_DIAG_LOGGED => exact besideInPkts_of_mod (by decide)
  case hK => exact Kept.refl _ _ s
  all_goals decide

theorem State.inflow_modLearner (k : Nat) (f : Learner → Learner) : SameInflow p s (s.modLearner k f) := by
  apply besidePorts_inflow
  apply State.modLearner_kept
  case hK => exact Kept.refl _ _ s
  all_goals decide

theorem State.inflow_lrnLag (k : Nat) (m : LMsg) : SameInflow p s (s.lrnLag k m) := by
  apply besidePorts_inflow
  apply State.lrnLag_kept
  case oTBL_LRN_LAG_MAX => exact fun _ => besideInPkts_of_mod (by simp only [Obj.TBL_LRN_LAG_MAX]; omega)
  case hK => exact Kept.refl _ _ s
  all_goals decide

theorem State.inflow_learnRecord (kind pipe port oldPort vid mac stamp : Nat) : SameInflow p s (s.learnRecord kind pipe port oldPort vid mac stamp) := by
  apply besidePorts_inflow
  apply State.learnRecord_kept
  case oTBL_EVENT_LOST => exact besideInPkts_of_mod (by decide)
  case hK => exact Kept.refl _ _ s
  all_goals decide

theorem State.inflow_modQueue (q r : Nat) (f : Queue → Queue) : SameInflow p s (s.modQueue q r f) := by
  apply besidePorts_inflow
  apply State.modQueue_kept
  case hK => exact Kept.refl _ _ s
  all_goals decide

end

end Sys2Proof.Machine
end

section
/-! PROOFS. The operations on ports, buffers' charges and queues that leave what a port takes in (07 R234 to R240, 11 R323 to R330, 12 R340 to R342). -/

namespace Sys2Proof.Machine
open Sys2Proof

theorem State.port_modPort (s : State) (q : Nat) (f : Port → Port) (p : Nat) : (s.modPort q f).port p = if q = p then f (s.port p) else s.port p := by
  unfold State.modPort
  refine (smGet_set {} s.ports q (f (s.port q)) p).trans ?_
  split
  · subst q
    rfl
  · rfl

theorem State.port_modPort_same (s : State) (p : Nat) (f : Port → Port) : (s.modPort p f).port p = f (s.port p) := by
  rw [State.port_modPort, if_pos rfl]

/-! ### Ports and pause -/

section
variable (p : Nat) (s : State)

theorem State.inflow_modPort (q : Nat) (f : Port → Port) (hfifo : ∀ x, (f x).fifo = x.fifo) (hwriting : ∀ x, (f x).writing = x.writing) :
    SameInflow p s (s.modPort q f) := by
  refine ⟨s.get_modPort q f _, ?_, ?_⟩
  · rw [State.port_modPort]
    split
    · exact hfifo _
    · rfl
  · rw [State.port_modPort]
    split
    · exact hwriting _
    · rfl

theorem State.inflow_toWire (q : Nat) (o : Out) (wire : Bytes) : SameInflow p s (s.toWire q o wire) :=
  SameInflow.ite (s.inflow_modPort p q _ (fun _ => rfl) fun _ => rfl) (s.inflow_emit p o)

theorem State.inflow_sendPause (q mode on off : Nat) : SameInflow p s (s.sendPause q mode on off) := by
  unfold State.sendPause
  have hcount : SameInflow p s (((s.bump (Obj.CTR_TX_PAUSE q)).bump (Obj.CTR_TX_FRAMES q)).bumpBy (Obj.CTR_TX_OCTETS q) 64) :=
    ((s.inflow_bump p (besideInPkts_of_mod (by simp only [Obj.CTR_TX_PAUSE]; omega))).trans
      (State.inflow_bump p _ (besideInPkts_of_mod (by simp only [Obj.CTR_TX_FRAMES]; omega)))).trans
      (State.inflow_bumpBy p _ 64 (besideInPkts_of_mod (by simp only [Obj.CTR_TX_OCTETS]; omega)))
  exact (hcount.trans (State.inflow_toWire p _ q _ _)).trans (State.inflow_modPort p _ q _ (fun _ => rfl) fun _ => rfl)

theorem State.inflow_pauseNow (q left : Nat) : SameInflow p s (s.pauseNow q left) := by
  unfold State.pauseNow
  refine SameInflow.ite (SameInflow.refl p s) (SameInflow.ite ?_ (SameInflow.ite ?_ ?_))
  · exact s.inflow_modPort p q _ (fun _ => rfl) fun _ => rfl
  · exact (s.inflow_emit p _).trans (State.inflow_modPort p _ q _ (fun _ => rfl) fun _ => rfl)
  · exact s.inflow_sendPause p q _ _ _

theorem State.inflow_xoffEval (q : Nat) : SameInflow p s (s.xoffEval q) := by
  unfold State.xoffEval
  refine SameInflow.ite (SameInflow.refl p s) (SameInflow.ite (SameInflow.refl p s) ?_)
  refine SameInflow.trans ?_ (State.inflow_pauseNow p _ q _)
  exact s.inflow_modPort p q _ (fun _ => rfl) fun _ => rfl

theorem State.inflow_chargeBytes (q prio : Nat) (add : Bool) (n : Nat) : SameInflow p s (s.chargeBytes q prio add n) := by
  unfold State.chargeBytes
  refine SameInflow.trans ?_ (State.inflow_xoffEval p _ q)
  exact s.inflow_modPort p q _ (fun _ => rfl) fun _ => rfl

theorem State.inflow_holdRefused (q prio c : Nat) : SameInflow p s (s.holdRefused q prio c) := by
  unfold State.holdRefused
  refine SameInflow.ite ?_ (SameInflow.trans ?_ (State.inflow_pauseNow p _ q 0))
  · exact s.inflow_modPort p q _ (fun _ => rfl) fun _ => rfl
  · exact s.inflow_modPort p q _ (fun _ => rfl) fun _ => rfl

theorem State.inflow_countRefused (q prio c : Nat) (ll : Bool) : SameInflow p s (s.countRefused q prio c ll) := by
  unfold State.countRefused
  refine SameInflow.ite (SameInflow.trans ?_ (State.inflow_holdRefused p _ q prio c)) ?_
  · exact s.inflow_bump p (besideInPkts_of_mod (by simp only [Obj.CTR_RX_LOSSLESS_DROP]; omega))
  · exact s.inflow_bump p (besideInPkts_of_mod (by simp only [Obj.CTR_RX_OVERFLOW_DROP]; omega))

/-! ### Queues -/

theorem State.inflow_wake (q : Nat) : SameInflow p s (s.wake q) :=
  SameInflow.ite ((s.inflow_emit p _).trans (State.inflow_modPort p _ q _ (fun _ => rfl) fun _ => rfl)) (SameInflow.refl p s)

theorem State.inflow_wakeTx (q : Nat) : SameInflow p s (s.wakeTx q) :=
  SameInflow.ite ((s.inflow_bumpBy p _ (besideInPkts_of_mod (by simp only [Obj.CTR_LPI_TX_US]; omega))).trans (State.inflow_wake p _ q))
    (SameInflow.refl p s)

/-- The counters of a queue of index below 16 stand at byte indices 25 to 222 of their page. -/
theorem besideInPkts_enq {k q r : Nat} (hr : r < 16) : BesideInPkts k (Obj.Q_ENQ q r) :=
  besideInPkts_of_mod (by simp only [Obj.Q_ENQ]; omega)

theorem besideInPkts_tailDrops {k q r : Nat} (hr : r < 16) : BesideInPkts k (Obj.Q_TAIL_DROPS q r) :=
  besideInPkts_of_mod (by simp only [Obj.Q_TAIL_DROPS]; omega)

theorem State.inflow_enqueueEntry (q desc cl : Nat) {r : Nat} (hr : r < 16) : SameInflow p s (s.enqueueEntry q r desc cl) := by
  unfold State.enqueueEntry
  dsimp only
  refine SameInflow.trans ?_ (State.inflow_wakeTx p _ q)
  refine SameInflow.trans ?_ (State.inflow_modPort p _ q _ (fun _ => rfl) fun _ => rfl)
  refine SameInflow.trans ?_ (State.inflow_pmc p _ _ _ _ _)
  refine SameInflow.trans ?_ (State.inflow_bump p _ (besideInPkts_enq hr))
  refine SameInflow.trans ?_ (State.inflow_modQueue p _ q r _)
  exact ⟨rfl, rfl, rfl⟩

end

/-! ### Releases -/

section
variable (p : Nat) (hp : p < 1024) (s : State)
include hp

theorem State.inflow_askFirst (q : Nat) (iplen : Option (Nat × Nat)) (f : RxFrame) : SameInflow p s (s.askFirst q iplen f).2 := by
  have hask := s.inflow_ask p hp q (firstCase iplen) (some f.prio)
  unfold State.askFirst
  dsimp only
  split
  · exact hask.trans (State.inflow_chargeBytes p _ q f.prio true _)
  · exact hask.trans (State.inflow_countRefused p _ q f.prio _ _)

theorem State.inflow_freeFrame (d : Nat) : SameInflow p s (s.freeFrame d) := by
  unfold State.freeFrame
  split
  · refine (SameInflow.foldl _ (fun a e => ?_) _ s).trans (State.inflow_setDescr p _ d none)
    have hlost : SameInflow p a (a.bump Obj.GAL_LOST) := a.inflow_bump p (besideInPkts_of_mod (by decide))
    refine SameInflow.ite ?_ ?_
    · refine SameInflow.trans ?_ (State.inflow_chargeBytes p _ _ _ false _)
      exact (SameInflow.ite hlost (a.inflow_push p hp _ _ _)).trans (State.inflow_chargeBuf p _ _ _ false)
    · exact (SameInflow.ite hlost (a.inflow_push p hp _ _ _)).trans (State.inflow_chargeBuf p _ _ _ false)
  · exact SameInflow.refl p s

theorem State.inflow_releaseFrame (d : Nat) : SameInflow p s (s.releaseFrame d) := by
  unfold State.releaseFrame
  split
  · exact SameInflow.ite (SameInflow.ite (s.inflow_modDescr p d _) (s.inflow_freeFrame p hp d)) (s.inflow_modDescr p d _)
  · exact SameInflow.refl p s

theorem State.inflow_releaseDesc (d : Nat) : SameInflow p s (s.releaseDesc d) := by
  unfold State.releaseDesc
  split
  · exact (s.inflow_setDescr p d none).trans (State.inflow_releaseFrame p hp _ _)
  · exact s.inflow_releaseFrame p hp d
  · exact SameInflow.refl p s

theorem State.inflow_enqueue (q desc cl : Nat) {r : Nat} (hr : r < 16) : SameInflow p s (s.enqueue q r desc cl) := by
  unfold State.enqueue
  refine SameInflow.ite ?_ (SameInflow.ite ?_ (s.inflow_enqueueEntry p q desc cl hr))
  · exact (s.inflow_bump p (besideInPkts_of_mod (by simp only [Obj.CTR_TX_FLUSHED]; omega))).trans (State.inflow_releaseDesc p hp _ desc)
  · exact ((s.inflow_bump p (besideInPkts_tailDrops hr)).trans (State.inflow_pmc p _ _ _ _ _)).trans
      (State.inflow_releaseDesc p hp _ desc)

end

end Sys2Proof.Machine
end

section
/-! PROOFS. A frame's way through the pipeline leaves its port's FIFO, and its pipeline counts it once (09 R264, R285 to R293). -/

namespace Sys2Proof.Machine
open Sys2Proof

theorem field_lt (v hi lo : Nat) : field v hi lo < 2 ^ (hi + 1 - lo) := by
  unfold field
  rw [Nat.one_shiftLeft]
  exact Nat.mod_lt _ (Nat.two_pow_pos _)

theorem directSlot_state (bit : Nat) (r : Option Nat × State) : (directSlot bit r).2 = r.2 := by
  unfold directSlot
  split <;> rfl

/-! ### Lookups and stages -/

theorem besideInPkts_injDrops {p k : Nat} (hk : k < 32) : BesideInPkts (p / 32) (Obj.TBL_LRN_INJ_DROPS k) := by
  simp only [BesideInPkts, Obj.TBL_LRN_INJ_DROPS, Obj.PLN_IN_PKTS]
  omega

section
variable (p : Nat) (hp : p < 1024) (s : State)
include hp

theorem State.inflow_learnEvent {k : Nat} (hk : k < 32) (m : LMsg) : SameInflow p s (s.learnEvent k m) := by
  have hinject (a : State) : SameInflow p a (if (a.learner k).inj.length < 32 then a.modLearner k fun x => { x with inj := x.inj ++ [m] }
      else a.bump (Obj.TBL_LRN_INJ_DROPS k)) :=
    SameInflow.ite (a.inflow_modLearner p k _) (a.inflow_bump p (besideInPkts_injDrops hk))
  unfold State.learnEvent
  refine SameInflow.ite (s.inflow_bump p (besideInPkts_of_mod (by simp only [Obj.TBL_LRN_SUPPRESSED]; omega))) ?_
  have hinstall (f : Learner → Learner) : SameInflow p s ((s.modLearner k f).install k m).2 :=
    (s.inflow_modLearner p k f).trans (State.inflow_install p hp _ k m)
  dsimp only
  split
  · refine SameInflow.trans ?_ (hinject _)
    refine SameInflow.trans ?_ (State.inflow_learnRecord p _ _ _ _ _ _ _ _)
    exact (hinstall _).trans (State.inflow_lrnLag p _ k m)
  · refine SameInflow.trans ?_ (hinject _)
    refine SameInflow.ite ?_ (SameInflow.trans ?_ (State.inflow_learnRecord p _ _ _ _ _ _ _ _))
    · exact (hinstall _).trans (State.inflow_lrnLag p _ k m)
    · exact (hinstall _).trans (State.inflow_lrnLag p _ k m)
  · exact hinstall _

theorem State.inflow_lookupSrc {k : Nat} (hk : k < 32) (vid mac inPort stamp : Nat) (noLearn : Bool) :
    SameInflow p s (s.lookupSrc k vid mac inPort stamp noLearn).2 := by
  have hread := s.inflow_lrnBucket p hp k (s.bucket vid mac) 1
  have hevent (c : Bool) (m : LMsg) (a : State) : SameInflow p a (if c then a.learnEvent k m else a) :=
    SameInflow.ite (a.inflow_learnEvent p hp hk m) (SameInflow.refl p a)
  unfold State.lookupSrc
  dsimp only
  split
  · exact hread.trans (hevent _ _ _)
  · split
    · split
      · exact hread.trans (hevent _ _ _)
      · exact hread.trans (State.inflow_lrnWrite p _ k _ _)
    · split
      · exact hread.trans (State.inflow_bump p _ (besideInPkts_of_mod (by simp only [Obj.TBL_LRN_STATIC_MOVES]; omega)))
      · exact hread.trans (hevent _ _ _)

theorem State.inflow_lookup {pipe : Nat} (hpipe : pipe < 32) (x : Pkt) (w : Nat) : SameInflow p s (s.lookup pipe x w).2 := by
  unfold State.lookup
  dsimp only
  split
  · rw [directSlot_state]
    exact s.inflow_labelRead p hp _ _ 1
  · rw [directSlot_state]
    exact s.inflow_nhRead p hp _ _ 1
  · exact s.inflow_lpm p hp _ false _ _
  · exact s.inflow_lpm p hp _ true _ _
  · exact s.inflow_lookupDst p hp pipe _ _
  · exact s.inflow_lookupSrc p hp hpipe _ _ _ _ _
  · exact s.inflow_lookupPolicer p hp pipe _ _ _ _
  · exact SameInflow.refl p s

theorem State.inflow_ingressStage {pipe : Nat} (hpipe : pipe < 32) (bank : Bool) (cls i : Nat) (x : Run) :
    SameInflow p s (s.ingressStage pipe bank cls i x).2 := by
  have hread := s.inflow_progRead p hp pipe bank i cls
  unfold State.ingressStage
  dsimp only
  split
  · exact hread.trans (State.inflow_lookup p hp _ hpipe _ _)
  · exact hread

theorem State.inflow_ingressStages {pipe : Nat} (hpipe : pipe < 32) (bank : Bool) (cls i : Nat) (x : Run) (n : Nat) :
    SameInflow p s (s.ingressStages pipe bank cls i x n).2 := by
  induction n generalizing s i x with
  | zero => exact SameInflow.refl p s
  | succ n ih => exact (s.inflow_ingressStage p hp hpipe bank cls i x).trans (ih _ _ _)

end

/-! ### A frame's disposition (R290 to R293) -/

section
variable (p : Nat) (s : State)

theorem besideInPkts_psSeen {k j : Nat} (hj : j < 8) : BesideInPkts k (Obj.PMC_PS_SEEN j) := by
  simp only [BesideInPkts, Obj.PMC_PS_SEEN, Obj.PLN_IN_PKTS]
  omega

theorem State.inflow_setTelem (u : Telem) : SameInflow p s { s with telem := u } := ⟨rfl, rfl, rfl⟩

theorem State.inflow_proofOffer (x : Pkt) (d : Nat) : SameInflow p s (s.proofOffer x d) := by
  unfold State.proofOffer
  refine SameInflow.ite (SameInflow.refl p s) ?_
  have hseen := s.inflow_bump p (besideInPkts_psSeen (k := p / 32) (field_lt (x.m 3) 10 8))
  dsimp only
  split
  · exact hseen.trans (State.inflow_setTelem p _ _)
  · have hselected (a : State) (k : Nat) : SameInflow p a (a.bump (Obj.PMC_PS_SELECTED k)) :=
      a.inflow_bump p (besideInPkts_of_mod (by simp only [Obj.PMC_PS_SELECTED]; omega))
    split
    · refine SameInflow.trans ?_ (State.inflow_bump p _ (besideInPkts_of_mod (by simp only [Obj.PMC_PS_MISSED]; omega)))
      refine SameInflow.trans ?_ (hselected _ _)
      exact hseen.trans (State.inflow_setTelem p _ _)
    · refine SameInflow.trans ?_ (State.inflow_addRef p _ d 1)
      refine SameInflow.trans (SameInflow.trans ?_ (hselected _ _)) (State.inflow_setTelem p _ _)
      exact hseen.trans (State.inflow_setTelem p _ _)

theorem State.inflow_beginWrite (q : Nat) (buf : Nat × Nat) (f : RxFrame) (body : Bytes) (iplen : Option (Nat × Nat)) (refs : Nat) :
    SameInflow p s (s.beginWrite q buf f body iplen refs).2.2 :=
  (s.inflow_newDescr p _).trans (State.inflow_store32 p _ _ _ _ _)

/-- From `z` to `t` a port's FIFO and its pipeline's count of frames are the same; its writer may have changed. -/
def SameIntake (p : Nat) (z t : State) : Prop :=
  t.get (Obj.PLN_IN_PKTS (p / 32)) = z.get (Obj.PLN_IN_PKTS (p / 32)) ∧ (t.port p).fifo = (z.port p).fifo

theorem SameIntake.ite {p : Nat} {z a b : State} {c : Prop} [Decidable c] (ha : SameIntake p z a) (hb : SameIntake p z b) :
    SameIntake p z (if c then a else b) := by
  split
  · exact ha
  · exact hb

theorem SameIntake.trans {p : Nat} {a b c : State} (hab : SameIntake p a b) (hbc : SameIntake p b c) : SameIntake p a c :=
  ⟨hbc.1.trans hab.1, hbc.2.trans hab.2⟩

theorem SameInflow.intake {z t : State} (h : SameInflow p z t) : SameIntake p z t := ⟨h.count, h.fifo⟩

/-- The writer's own change, at the end of an operation, changes nothing else that the port takes in. -/
theorem SameInflow.intake_writer {z t : State} (h : SameInflow p z t) (w : Option Writing) :
    SameIntake p z (t.modPort p fun x => { x with writing := w }) := by
  refine ⟨h.count, ?_⟩
  rw [State.port_modPort_same]
  exact h.fifo

theorem State.intake_dispose (hp : p < 1024) (f : RxFrame) (w : Writing) (x : Pkt) : SameIntake p s (s.dispose p f w x) := by
  have hoffer := s.inflow_proofOffer p (s.judge x) w.desc
  unfold State.dispose
  split
  · exact hoffer.intake_writer p _
  · refine SameIntake.ite ?_ (SameIntake.ite ?_ (hoffer.intake_writer p _))
    · refine SameInflow.intake_writer p ?_ _
      refine SameInflow.trans ?_ (State.inflow_pmc p _ _ _ _ _)
      refine SameInflow.trans ?_ (State.inflow_put p _ _ (besideInPkts_of_mod (by simp only [Obj.PLN_LAST_DROP]; omega)))
      refine SameInflow.trans ?_ (State.inflow_bump p _ (besideInPkts_of_mod (by simp only [Obj.PLN_DROPS]; omega)))
      exact hoffer.trans (State.inflow_releaseFrame p hp _ _)
    · refine SameInflow.intake_writer p ?_ _
      refine SameInflow.trans ?_ (State.inflow_enqueue p hp _ _ _ _ (field_lt _ 15 12))
      refine SameInflow.trans ?_ (State.inflow_bump p _ (besideInPkts_of_mod (by decide)))
      refine SameInflow.trans (hoffer.trans (State.inflow_modDescr p _ w.desc _)) (SameInflow.ite ?_ (SameInflow.refl p _))
      exact State.inflow_toCmp p _ _ _ _

end

/-! ### A frame in the ingress pipeline (R264) -/

/-- What a frame that enters the parser leaves: one more frame counted by its pipeline, and the port's FIFO. -/
theorem State.intake_ingressFrame (p : Nat) (hp : p < 1024) (s : State) (f : RxFrame) :
    SameIntake p (s.bump (Obj.PLN_IN_PKTS (p / 32))) (s.ingressFrame p f) := by
  have hpipe : p / 32 < 32 := by omega
  unfold State.ingressFrame
  extract_lets pipe bank s1 win pr r cls iplen buf run s2 x
  have hcounted : SameInflow p (s.bump (Obj.PLN_IN_PKTS (p / 32))) s1 := (State.inflow_pmc p _ _ 1 1 _).trans (State.inflow_pmcPulse p _ _ 3)
  have hasked : SameInflow p (s.bump (Obj.PLN_IN_PKTS (p / 32))) buf.2 :=
    (hcounted.trans (s1.inflow_parse p hp pipe bank win)).trans (pr.2.2.inflow_askFirst p hp p iplen f)
  have hran : SameInflow p (s.bump (Obj.PLN_IN_PKTS (p / 32))) s2 :=
    (hasked.trans (buf.2.inflow_ingressStages p hp hpipe bank cls 0 _ 24)).trans
      (SameInflow.ite (run.2.inflow_bump p (besideInPkts_of_mod (by simp only [Obj.PLN_WINDOW_OVF]; omega))) (SameInflow.refl p run.2))
  split
  · exact hran.intake
  · rename_i b _
    have hbegun (body : Bytes) : SameInflow p _ (s2.beginWrite p b f body iplen 1).2.2 := hran.trans (s2.inflow_beginWrite p p b f body iplen 1)
    refine SameIntake.ite (SameIntake.trans ?_ (State.intake_dispose p _ hp _ _ _)) (SameInflow.intake_writer p ?_ _)
    · exact (hbegun _).intake
    · refine SameInflow.trans ?_ (State.inflow_bump p _ (besideInPkts_of_mod (by simp only [Obj.FLT_MI_DISCARDS]; omega)))
      exact (hbegun _).trans (State.inflow_releaseFrame p hp _ _)

end Sys2Proof.Machine
end

section
/-! PROOFS. A frame's descriptor while the writer stores it, and the obligation that frames are written to the galley (09 R264, 11 R318, R327, R330). -/

namespace Sys2Proof.Machine
open Sys2Proof

/-! ### Stores leave the descriptors -/

section
variable (s : State)

theorem State.galley_memWritten (kind inst addr : Nat) : (s.memWritten kind inst addr).galley = s.galley := by
  unfold State.memWritten
  split
  · rfl
  · rfl

theorem State.descs_galleyWrite (w v : Nat) (req : Option Nat) : (s.galleyWrite w v req).galley.descs = s.galley.descs := by
  unfold State.galleyWrite
  change (State.memWritten _ _ _ _).galley.descs = _
  rw [State.galley_memWritten, State.galley_pmc]

theorem State.descs_storeAt (req : Option Nat) (bufs : List (Nat × Nat)) (poison : Bool) (i : Nat) (l : Bytes) (n : Nat) :
    (s.storeAt req bufs poison i l n).galley.descs = s.galley.descs := by
  induction n generalizing s i l with
  | zero => rfl
  | succ n ih =>
    unfold State.storeAt
    split
    · rfl
    · split
      · rw [ih, State.descs_galleyWrite]
      · rfl

theorem State.descs_store32 (req : Option Nat) (bufs : List (Nat × Nat)) (off : Nat) (l : Bytes) :
    (s.store32 req bufs off l).galley.descs = s.galley.descs :=
  s.descs_storeAt req bufs false _ l _

theorem State.galley_chargeBytes (p prio : Nat) (add : Bool) (n : Nat) : (s.chargeBytes p prio add n).galley = s.galley :=
  (State.chargeBytes_kept (K := fun _ => True) s p prio add n (by decide) (by decide) (by decide) (fun _ => trivial) (fun _ => trivial)
    (fun _ => trivial) (Kept.refl besideGalley _ s)).same .galley (by decide)

end

/-! ### One descriptor -/

section
variable (s : State) (d : Nat)

theorem State.descr_of_descs {s t : State} (h : t.galley.descs = s.galley.descs) (d : Nat) : t.descr d = s.descr d := by
  rw [State.descr, State.descr, h]

theorem State.descr_setDescr_same (x : Option Descr) : (s.setDescr d x).descr d = x := by
  unfold State.setDescr State.descr
  change smGet none (smSet none _ d x) d = x
  rw [smGet_set, if_pos rfl]

theorem State.descr_newDescr (x : Descr) : (s.newDescr x).2.descr (s.newDescr x).1 = some x :=
  s.descr_setDescr_same _ (some x)

theorem State.descr_modDescr_same (f : Descr → Descr) : (s.modDescr d f).descr d = (s.descr d).map f := by
  unfold State.modDescr
  split
  · rename_i x hx
    rw [hx]
    change smGet none (smSet none _ d (some (f x))) d = _
    rw [smGet_set, if_pos rfl]
    rfl
  · rename_i hx
    rw [hx]
    rfl

theorem State.ports_modDescr (f : Descr → Descr) : (s.modDescr d f).ports = s.ports := by
  unfold State.modDescr
  split
  · rfl
  · rfl

theorem State.sched_modDescr (f : Descr → Descr) : (s.modDescr d f).sched = s.sched := by
  unfold State.modDescr
  split
  · rfl
  · rfl

theorem State.descr_modDescr_of_some {s : State} {d : Nat} {f : Descr → Descr} {x y : Descr} (hx : s.descr d = some x) (hy : f x = y) :
    (s.modDescr d f).descr d = some y := by
  rw [State.descr_modDescr_same, hx, Option.map_some, hy]

variable {s d} {st src prio stored refs ip cle : Nat} {ll ct po : Bool} {bufs : List (Nat × Nat)}
  (h : s.descr d = some (.frame st src prio ll ct po stored refs bufs ip cle))
include h

theorem State.origOf_of_frame : s.origOf d = d := by
  rw [State.origOf, h]

theorem State.chainOf_of_frame : s.chainOf d = bufs := by
  rw [State.chainOf, State.origOf_of_frame h, h]

theorem State.storedOf_of_frame : s.storedOf d = stored := by
  rw [State.storedOf, State.origOf_of_frame h, h]

theorem State.dstateOf_of_frame : s.dstateOf d = st := by
  rw [State.dstateOf, State.origOf_of_frame h, h]

theorem State.tcOf_of_frame (p q : Nat) : (s.attrOf d p q).tc = some prio := by
  rw [State.attrOf, State.origOf_of_frame h, h]

end

/-! ### The first frame of a FIFO (R264, R318) -/

section
variable {s : State} {p : Nat} {f : RxFrame}

/-- The state in which the oldest frame has left the FIFO and the pause thresholds have been evaluated (R234). -/
def State.fifoTaken (s : State) (p : Nat) (rest : List RxFrame) : State := (s.modPort p fun x => { x with fifo := rest }).xoffEval p

theorem State.execIngressPipeline_of_fifo {rest : List RxFrame} (hp : p < 1024) (hservice : s.inService = true) (hsafe : s.flt.safe = false)
    (hgated : s.pipeGated (p / 32) = false) (hwriting : (s.port p).writing = none) (hfifo : (s.port p).fifo = f :: rest) :
    execIngressPipeline p s =
      .next (if (s.fifoTaken p rest).entersParser f then (s.fifoTaken p rest).ingressFrame p f else (s.fifoTaken p rest).ingressPlain p f) := by
  have hfree : ¬(1024 ≤ p ∨ ¬s.inService = true ∨ s.flt.safe = true ∨ s.pipeGated (p / 32) = true ∨ (s.port p).writing.isSome = true) := by
    simp [hservice, hsafe, hgated, hwriting]
    omega
  unfold execIngressPipeline State.fifoTaken
  rw [if_neg hfree, hfifo]

theorem State.ingressPlain_refused (h : (s.askFirst p none f).1 = none) : s.ingressPlain p f = (s.askFirst p none f).2 := by
  unfold State.ingressPlain
  dsimp only
  rw [h]

theorem State.ingressPlain_granted {b : Nat × Nat} (h : (s.askFirst p none f).1 = some b) :
    s.ingressPlain p f =
      ((s.askFirst p none f).2.beginWrite p b f (plainMeta p f.bytes.length f ++ f.bytes) none 1).2.2.modPort p fun x =>
        { x with writing := some ((s.askFirst p none f).2.beginWrite p b f (plainMeta p f.bytes.length f ++ f.bytes) none 1).2.1 } := by
  unfold State.ingressPlain
  dsimp only
  rw [h]

/-- A frame whose first buffer is granted has a descriptor of that buffer alone, still receiving. -/
theorem State.descr_beginWrite (s : State) (p : Nat) (b : Nat × Nat) (f : RxFrame) (body : Bytes) (iplen : Option (Nat × Nat)) (refs : Nat) :
    ∃ cle, (s.beginWrite p b f body iplen refs).2.2.descr (s.beginWrite p b f body iplen refs).2.1.desc =
      some (.frame 0 p f.prio f.lossless false false (firstPart (caseSize b.1) body).1.length refs [b] p cle) := by
  exact ⟨_, (State.descr_of_descs (State.descs_store32 _ _ _ _ _) _).trans (State.descr_newDescr _ _)⟩

section
variable (s : State) (p : Nat) (rest : List RxFrame)

theorem State.fifo_fifoTaken : ((s.fifoTaken p rest).port p).fifo = rest := by
  rw [State.fifoTaken, (State.inflow_xoffEval p _ p).fifo, State.port_modPort_same]

theorem State.writing_fifoTaken : ((s.fifoTaken p rest).port p).writing = (s.port p).writing := by
  rw [State.fifoTaken, (State.inflow_xoffEval p _ p).writing, State.port_modPort_same]

theorem State.inPkts_fifoTaken : (s.fifoTaken p rest).get (Obj.PLN_IN_PKTS (p / 32)) = s.get (Obj.PLN_IN_PKTS (p / 32)) := by
  rw [State.fifoTaken, (State.inflow_xoffEval p _ p).count, State.get_modPort]

end

/-- A frame that enters the parser: its FIFO moves on and its pipeline counts it. -/
theorem State.ingressFrame_fifoTaken (hp : p < 1024) (rest : List RxFrame) :
    (((s.fifoTaken p rest).ingressFrame p f).port p).fifo = rest ∧
    ((s.fifoTaken p rest).ingressFrame p f).get (Obj.PLN_IN_PKTS (p / 32)) =
      (s.get (Obj.PLN_IN_PKTS (p / 32)) + 1) % 2 ^ widthOf (Obj.PLN_IN_PKTS (p / 32)) := by
  obtain ⟨hcount, hfifo⟩ := (s.fifoTaken p rest).intake_ingressFrame p hp f
  constructor
  · rw [hfifo, State.port, State.ports_bump]
    exact s.fifo_fifoTaken p rest
  · rw [hcount, State.get_bump_same, State.inPkts_fifoTaken]

theorem State.fifo_ingressPlain (hp : p < 1024) (s : State) (f : RxFrame) : ((s.ingressPlain p f).port p).fifo = (s.port p).fifo := by
  have hasked := s.inflow_askFirst p hp p none f
  cases hgrant : (s.askFirst p none f).1 with
  | none => rw [State.ingressPlain_refused hgrant, hasked.fifo]
  | some b =>
    rw [State.ingressPlain_granted hgrant, State.port_modPort_same]
    exact (hasked.trans (State.inflow_beginWrite p _ p b f _ none 1)).fifo

theorem State.writing_ingressPlain_refused (hp : p < 1024) (h : (s.askFirst p none f).1 = none) :
    ((s.ingressPlain p f).port p).writing = (s.port p).writing := by
  rw [State.ingressPlain_refused h, (s.inflow_askFirst p hp p none f).writing]

/-- A granted frame is stored as it is: its first buffer holds what fits, and the writer keeps the rest. -/
theorem State.ingressPlain_stores {b : Nat × Nat} (h : (s.askFirst p none f).1 = some b) :
    let t := s.ingressPlain p f
    let part := firstPart (caseSize b.1) (plainMeta p f.bytes.length f ++ f.bytes)
    ∃ w, (t.port p).writing = some w ∧ w.rest = part.2 ∧ w.bad = f.bad ∧ w.dest = f.dest ∧ w.dtype = 3 ∧ w.failed = false ∧
      t.chainOf w.desc = [b] ∧ t.storedOf w.desc = part.1.length ∧ t.dstateOf w.desc = 0 := by
  intro t part
  obtain ⟨cle, hdescr⟩ := (s.askFirst p none f).2.descr_beginWrite p b f (plainMeta p f.bytes.length f ++ f.bytes) none 1
  have ht : t.descr _ = _ := (congrArg (fun a : State => a.descr _) (State.ingressPlain_granted h)).trans hdescr
  have hwriting : (t.port p).writing = some _ :=
    (congrArg (fun a : State => (a.port p).writing) (State.ingressPlain_granted h)).trans
      (congrArg Port.writing (State.port_modPort_same _ p fun x => { x with
        writing := some ((s.askFirst p none f).2.beginWrite p b f (plainMeta p f.bytes.length f ++ f.bytes) none 1).2.1 }))
  exact ⟨_, hwriting, rfl, rfl, rfl, rfl, rfl, State.chainOf_of_frame ht, State.storedOf_of_frame ht, State.dstateOf_of_frame ht⟩

end

/-! ### Growth (R318, R327) -/

section
variable {s : State} {p st src prio stored refs ip cle : Nat} {ll ct po : Bool} {bufs : List (Nat × Nat)} {w : Writing}

theorem State.growth_refused (hdescr : s.descr w.desc = some (.frame st src prio ll ct po stored refs bufs ip cle))
    (hask : (s.ask p (nextCase w.iplen bufs) (some prio)).1.1 = none) :
    ((s.growth p w).port p).writing = some { w with failed := true } := by
  unfold State.growth
  dsimp only
  rw [State.tcOf_of_frame hdescr, State.chainOf_of_frame hdescr, hask]
  dsimp only
  rw [State.port_modPort_same]

theorem State.descr_storeMore {d : Nat} {bufs' : List (Nat × Nat)} {n : Nat} {part : Bytes}
    (hdescr : s.descr d = some (.frame st src prio ll ct po stored refs bufs ip cle)) :
    (s.storeMore p d bufs' n part).descr d = some (.frame st src prio ll ct po (n + part.length) refs bufs' ip cle) := by
  unfold State.storeMore
  dsimp only
  exact State.descr_modDescr_of_some ((State.descr_of_descs (s.descs_store32 (some p) bufs' n part) d).trans hdescr) rfl

theorem State.growth_granted {b : Nat × Nat} (hdescr : s.descr w.desc = some (.frame st src prio ll ct po stored refs bufs ip cle))
    (hask : (s.ask p (nextCase w.iplen bufs) (some prio)).1.1 = some b) :
    (s.growth p w).chainOf w.desc = bufs ++ [b] ∧
    ((s.growth p w).port p).writing = some { w with rest := (firstPart (chainCap (bufs ++ [b]) - stored) w.rest).2 } := by
  unfold State.growth
  dsimp only
  rw [State.tcOf_of_frame hdescr, State.chainOf_of_frame hdescr, State.storedOf_of_frame hdescr, hask]
  constructor
  · have hcharged (n : Nat) : ((s.ask p (nextCase w.iplen bufs) (some prio)).2.chargeBytes p prio true n).descr w.desc = _ :=
      (State.descr_of_descs ((congrArg Galley.descs (State.galley_chargeBytes _ p prio true n)).trans (s.descs_ask p _ (some prio))) w.desc).trans hdescr
    exact State.chainOf_of_frame (s := State.modPort _ p _) (State.descr_storeMore (hcharged _))
  · rw [State.port_modPort_same]

end

/-! ### The tail (R330) -/

section
variable {s : State} {p st src prio stored refs ip cle : Nat} {ll ct po : Bool} {bufs : List (Nat × Nat)} {w : Writing}

theorem State.tail_failed (hfailed : w.failed = true) : s.tail p w = s.modPort p fun x => { x with writing := none } := by
  unfold State.tail
  rw [if_pos hfailed]

theorem State.correctTail_of_not_enqueued (henqueued : w.enqueued = false) : s.correctTail w = s := by
  unfold State.correctTail
  rw [if_pos (by simp [henqueued])]

theorem State.dispatch_unicast (hdest : w.dest = .pipeline) (hdtype : w.dtype = 1) (hcmp : w.toCmp = false) :
    s.dispatch p w = s.enqueue w.dval w.queue w.desc (chargedLen (s.storedOf w.desc)) := by
  unfold State.dispatch
  rw [hdest]
  dsimp only
  rw [if_pos hdtype, if_neg (by simp [hcmp])]

/-- The tail of a good unicast frame: its descriptor is complete, and the frame goes to its queue at its stored length. -/
theorem State.tail_good (hfailed : w.failed = false) (hbad : w.bad = false) (henqueued : w.enqueued = false) (hdtype : w.dtype = 1)
    (hdest : w.dest = .pipeline) (hcmp : w.toCmp = false) (hdescr : s.descr w.desc = some (.frame st src prio ll ct po stored refs bufs ip cle)) :
    ∃ a : State, s.tail p w = a.enqueue w.dval w.queue w.desc (chargedLen stored) ∧ (a.port p).writing = none ∧
      a.descr w.desc = some (.frame 1 src prio ll ct po stored refs bufs ip cle) ∧ a.sched = s.sched := by
  unfold State.tail
  dsimp only
  rw [if_neg (by simp [hfailed]), if_neg (by simp [hbad]), if_neg (by simp [henqueued, hdtype]), State.correctTail_of_not_enqueued henqueued,
    State.dispatch_unicast hdest hdtype hcmp]
  have hfreed : (s.modPort p fun x => { x with writing := none }).descr w.desc = _ := hdescr
  refine ⟨_, congrArg (fun n => State.enqueue _ _ _ _ (chargedLen n)) (State.storedOf_of_frame (State.descr_modDescr_of_some hfreed rfl)), ?_,
    State.descr_modDescr_of_some hfreed rfl, ?_⟩
  · rw [State.port, State.ports_modDescr, ← State.port, State.port_modPort_same]
  · rw [State.sched_modDescr, State.sched_modPort]

end

/-! ### The obligation -/

section
variable {s : State} {p : Nat} {w : Writing} (hwriting : (s.port p).writing = some w)
include hwriting

theorem State.execGrowthRequest_of_writing (hfailed : w.failed = false) (hrest : w.rest ≠ []) : execGrowthRequest p s = .next (s.growth p w) := by
  unfold execGrowthRequest
  rw [hwriting]
  dsimp only
  rw [if_neg (by simp [hfailed, hrest])]

theorem State.execFrameTailWritten_of_writing (h : w.rest = [] ∨ w.failed = true) : execFrameTailWritten p s = .next (s.tail p w) := by
  unfold execFrameTailWritten
  rw [hwriting]
  dsimp only
  rw [if_pos (h.imp_left List.isEmpty_iff.mpr)]

end

/-- Settles O40: a frame of the FIFO by whether it enters the parser; the writer's growth by the answer to its request; the tail by its frame's state. -/
theorem framesAreWrittenToTheGalley : Obligations.FramesAreWrittenToTheGalley := by
  unfold Obligations.FramesAreWrittenToTheGalley
  refine ⟨?_, ?_⟩
  · intro s p f rest hp hservice hsafe hgated hwriting hfifo a
    have hexec := State.execIngressPipeline_of_fifo hp hservice hsafe hgated hwriting hfifo
    have ha : a = s.fifoTaken p rest := rfl
    clear_value a
    subst ha
    cases henters : (s.fifoTaken p rest).entersParser f with
    | true =>
      obtain ⟨hfifo', hcount⟩ := State.ingressFrame_fifoTaken (s := s) (f := f) hp rest
      rw [if_pos henters] at hexec
      exact ⟨_, hexec, hfifo', fun _ => hcount, nofun, nofun⟩
    | false =>
      have hfifo' := State.fifo_ingressPlain hp (s.fifoTaken p rest) f
      have hwriter := s.writing_fifoTaken p rest
      rw [State.fifo_fifoTaken] at hfifo'
      rw [hwriting] at hwriter
      rw [if_neg (by simp [henters])] at hexec
      exact ⟨_, hexec, hfifo', nofun, fun _ hask => (State.writing_ingressPlain_refused hp hask).trans hwriter,
        fun _ b hask => State.ingressPlain_stores hask⟩
  · intro s p st src prio stored refs ip cle ll ct po bufs w hwriting hdescr
    refine ⟨fun hfailed hrest => ?_, fun hfailed => ?_, fun hfailed hrest hbad henqueued hdtype hdest hcmp => ?_⟩
    · have hexec := State.execGrowthRequest_of_writing hwriting hfailed hrest
      exact ⟨_, hexec, fun hask => State.growth_refused hdescr hask, fun b hask => State.growth_granted hdescr hask⟩
    · exact (State.execFrameTailWritten_of_writing hwriting (.inr hfailed)).trans (congrArg _ (State.tail_failed hfailed))
    · obtain ⟨a, htail, hfree, hcomplete, hsched⟩ := State.tail_good hfailed hbad henqueued hdtype hdest hcmp hdescr
      exact ⟨a, (State.execFrameTailWritten_of_writing hwriting (.inl hrest)).trans (congrArg _ htail), hfree, hcomplete, hsched⟩

end Sys2Proof.Machine
end

section
/-! PROOFS. The forwarding tables (10): what a START that the Compositor serves finds, and what leaves the tables as they are. -/

namespace Sys2Proof.Machine
open Sys2Proof

/-! ### The turn of a START that the Compositor serves (R96, R437) -/

/-- A START's turn changes the sessions, the Compositor's queue and its counters. -/
theorem State.startTurn_kept (s : State) (i key : Nat) :
    Kept [.wonel, .cmp, .fresh, .telem] (fun _ => False) (s.turnOf i) (s.startTurn i key) := by
  apply State.serveCmp_kept
  case hK => exact Kept.refl _ _ _
  all_goals decide

@[simp] theorem State.get_startTurn (s : State) (i key k : Nat) : (s.startTurn i key).get k = s.get k :=
  (s.startTurn_kept i key).2.1 k id

@[simp] theorem State.tables_startTurn (s : State) (i key : Nat) : (s.startTurn i key).tables = s.tables :=
  (s.startTurn_kept i key).same .tables (by decide)

@[simp] theorem State.flt_startTurn (s : State) (i key : Nat) : (s.startTurn i key).flt = s.flt :=
  (s.startTurn_kept i key).same .flt (by decide)

@[simp] theorem State.isBusy_startTurn (s : State) (i key k : Nat) : (s.startTurn i key).isBusy k = s.isBusy k :=
  congrArg (List.contains · k) ((s.startTurn_kept i key).same .busy (by decide))

theorem State.cmp_pmc (s : State) (block code n : Nat) (a : PmcAttr) : (s.pmc block code n a).cmp = s.cmp := by
  unfold State.pmc
  split <;> rfl

theorem State.ctx_cmpPush_ne (s : State) {c j : Nat} (h : c ≠ j) : (s.cmpPush c).ctx j = s.ctx j :=
  (listAt_listMod _ _ _ _ _).trans (if_neg fun hc => h hc.1)

/-- The request waits at context 6, so context 0 is as it was. -/
@[simp] theorem State.ctx_zero_startTurn (s : State) (i key : Nat) : (s.startTurn i key).ctx 0 = s.ctx 0 := by
  rw [State.startTurn, State.serveCmp]
  split
  · rw [State.ctx, State.cmp_pmc]
    exact (s.turnOf i).ctx_cmpPush_ne (by decide)
  · rfl

/-- A START of a run that begins, on an object with no run. -/
theorem State.serveIf_begins {s u : State} {i : Nat} {r : Request} {key base count : Nat} (h : s.readyToStart i r key = true)
    (hbusy : s.isBusy key = false) (hnamed : ∃ k, k < count ∧ key = base + 256 * k)
    (hnow : (decide (0x016000 ≤ key ∧ key < 0x017000) || decide (key = Obj.PWR_SHUTDOWN)) = false)
    (hrun : (s.startTurn i key).startRun i ((s.turnOf i).page i).cls key false = (Res.ok, u)) :
    s.serveIf (isStart base count) false = u.started i r key Res.ok := by
  rw [State.serveIf_of_readyToStart h base count hnamed false, State.startObject_of_ok hrun (by rwa [State.isBusy_startTurn]) hnow]

/-! ### What leaves the tables as they are -/

@[simp] theorem State.tables_pmc (s : State) (block code n : Nat) (a : PmcAttr) : (s.pmc block code n a).tables = s.tables := by
  unfold State.pmc
  split <;> rfl

@[simp] theorem State.get_pmc (s : State) (block code n : Nat) (a : PmcAttr) (k : Nat) : (s.pmc block code n a).get k = s.get k := by
  unfold State.pmc
  split <;> rfl

@[simp] theorem State.tables_memWritten (s : State) (kind inst addr : Nat) : (s.memWritten kind inst addr).tables = s.tables := by
  unfold State.memWritten
  split <;> rfl

end Sys2Proof.Machine
end

section
/-! PROOFS. The learning tables (10): messages on the learn ring, a new entry of a bucket, and the visits of the ager. -/

namespace Sys2Proof.Machine
open Sys2Proof

/-! ### Learners and learning tables (R291, R294) -/

theorem State.learner_of_tables {s t : State} (h : t.tables = s.tables) (k : Nat) : t.learner k = s.learner k := by
  rw [State.learner, State.learner, h]

theorem State.lrn_of_learn {s t : State} (h : t.tables.learn = s.tables.learn) (k slot : Nat) : t.lrn k slot = s.lrn k slot := by
  rw [State.lrn, State.lrn, h]

@[simp] theorem State.learner_modLearner_same (s : State) (k : Nat) (f : Learner → Learner) : (s.modLearner k f).learner k = f (s.learner k) :=
  (smGet_set _ _ _ _ _).trans (if_pos rfl)

@[simp] theorem State.lrn_modLearner (s : State) (j : Nat) (f : Learner → Learner) (k slot : Nat) : (s.modLearner j f).lrn k slot = s.lrn k slot :=
  rfl

@[simp] theorem State.lrn_bump (s : State) (key k slot : Nat) : (s.bump key).lrn k slot = s.lrn k slot :=
  State.lrn_of_learn (by rw [State.tables_bump]) k slot

@[simp] theorem State.lrn_lrnWrite_same (s : State) (k slot v : Nat) : (s.lrnWrite k slot v).lrn k slot = v :=
  (smGet_set _ _ _ _ _).trans (if_pos rfl)

@[simp] theorem State.lrn_injectHeld (s : State) (j : Nat) (m : LMsg) (k slot : Nat) : (s.injectHeld j m).lrn k slot = s.lrn k slot :=
  s.lrn_modLearner j _ k slot

@[simp] theorem State.lrn_learnRecord (s : State) (kind pipe port oldPort vid mac stamp k slot : Nat) :
    (s.learnRecord kind pipe port oldPort vid mac stamp).lrn k slot = s.lrn k slot := by
  unfold State.learnRecord
  apply State.lrn_of_learn
  split
  · dsimp only
    split <;> simp [State.modTables]
  · simp

/-! ### The learn ring (R295) -/

/-- A pipeline's injection queue with its first message gone and one that waited behind it. -/
def Learner.injected (rest : List LMsg) (y : Learner) : Learner := { y with inj := rest ++ y.waiting.take 1, waiting := y.waiting.drop 1 }

/-- The message of pipeline `k` is on the ring, on its way to the next pipeline. -/
def State.ringInjected (s : State) (k : Nat) (m : LMsg) (rest : List LMsg) : State :=
  (s.modLearner k (Learner.injected rest)).modTables fun t => { t with ring := t.ring ++ [(m, (k + 1) % 32)] }

/-- A LEARN that is injected counts. -/
def State.injectCounted (s : State) (k : Nat) (m : LMsg) : State :=
  if m.kind = 1 then (s.bump (Obj.TBL_LRN_EVENTS k)).pmc (1160 + k) 6 1 else s

@[simp] theorem State.tables_injectCounted (s : State) (k : Nat) (m : LMsg) : (s.injectCounted k m).tables = s.tables := by
  unfold State.injectCounted
  split <;> simp

theorem State.learner_injectCounted (s : State) (k : Nat) (m : LMsg) (j : Nat) : (s.injectCounted k m).learner j = s.learner j :=
  State.learner_of_tables (s.tables_injectCounted k m) j

theorem State.learner_ringInjected (s : State) (k : Nat) (m : LMsg) (rest : List LMsg) :
    (s.ringInjected k m rest).learner k = (s.learner k).injected rest := s.learner_modLearner_same k _

theorem State.events_injectCounted (s : State) (k : Nat) {m : LMsg} (hkind : m.kind = 1) :
    (s.injectCounted k m).get (Obj.TBL_LRN_EVENTS k) = (s.get (Obj.TBL_LRN_EVENTS k) + 1) % 2 ^ widthOf (Obj.TBL_LRN_EVENTS k) := by
  rw [State.injectCounted, if_pos hkind, State.get_pmc, State.get_bump_same]

section
variable {s : State} {k : Nat}

theorem exec_ringInject_of_room {m : LMsg} {rest : List LMsg} (hk : k < 32) (hinj : (s.learner k).inj = m :: rest)
    (hroom : s.tables.ring.length < 32) : exec (.ringInject k) s = .next ((s.ringInjected k m rest).injectCounted k m) := by
  change execRingInject k s = _
  simp only [execRingInject, hinj]
  rw [if_neg (by omega)]
  rfl

theorem exec_ringInject_of_full (hfull : 32 ≤ s.tables.ring.length) : exec (.ringInject k) s = .next s := by
  change execRingInject k s = _
  rw [execRingInject]
  dsimp only
  rw [if_pos (.inr hfull)]

end

/-- The message at pipeline `k` leaves the ring. -/
def State.ringGone (s : State) (k : Nat) (m : LMsg) : State := s.modTables fun t => { t with ring := t.ring.erase (m, k) }

/-- The message at pipeline `k` goes on to the next. -/
def State.ringPassed (s : State) (k : Nat) (m : LMsg) : State :=
  s.modTables fun t => { t with ring := t.ring.map fun x => if x = (m, k) then (m, (k + 1) % 32) else x }

section
variable {s : State} {k : Nat} {m : LMsg} (hfind : s.tables.ring.find? (fun e => decide (e.2 = k)) = some (m, k))
include hfind

theorem exec_ringMessageArrival_damaged :
    exec (.ringMessageArrival k true) s = .next ((s.ringGone k m).bump (Obj.TBL_LRN_RING_ERR k)) := by
  change execRingMessageArrival k true s = _
  simp only [execRingMessageArrival, hfind]
  rfl

theorem exec_ringMessageArrival_home (horigin : m.origin = k) : exec (.ringMessageArrival k false) s = .next (s.ringGone k m) := by
  change execRingMessageArrival k false s = _
  simp only [execRingMessageArrival, hfind, horigin, if_true]
  rfl

variable (horigin : m.origin ≠ k)
include horigin

theorem exec_ringMessageArrival_gated (hgated : s.pipeGated k = true) : exec (.ringMessageArrival k false) s = .next (s.ringPassed k m) := by
  change execRingMessageArrival k false s = _
  simp only [execRingMessageArrival, hfind, horigin, hgated, if_true, if_false]
  rfl

variable (hserved : s.pipeGated k = false)
include hserved

theorem exec_ringMessageArrival_remove (hkind : m.kind = 2) :
    exec (.ringMessageArrival k false) s = .next ((s.ringPassed k m).lrnRemove k m) := by
  change execRingMessageArrival k false s = _
  simp only [execRingMessageArrival, hfind, horigin, hserved, hkind, if_true, if_false]
  rfl

theorem exec_ringMessageArrival_unchanged (hkind : m.kind ≠ 2) (hinstall : ((s.ringPassed k m).install k m).1 = .nothing) :
    exec (.ringMessageArrival k false) s = .next ((s.ringPassed k m).install k m).2 := by
  change execRingMessageArrival k false s = _
  simp only [State.ringPassed] at hinstall
  simp only [execRingMessageArrival, hfind, horigin, hserved, hkind, if_false, hinstall]
  rfl

theorem exec_ringMessageArrival_created (hkind : m.kind ≠ 2) (hinstall : ((s.ringPassed k m).install k m).1 = .created) :
    exec (.ringMessageArrival k false) s = .next (((s.ringPassed k m).install k m).2.lrnLag k m) := by
  change execRingMessageArrival k false s = _
  simp only [State.ringPassed] at hinstall
  simp only [execRingMessageArrival, hfind, horigin, hserved, hkind, if_false, hinstall]
  rfl

end

/-! ### A new entry of a bucket (R292, R296) -/

/-- The ways read for a bucket are the bucket's. -/
theorem State.mem_lrnBucket {s : State} {k b source slot e : Nat} (h : (slot, e) ∈ (s.lrnBucket k b source).1) : slot / 4 = b := by
  have hways : (s.lrnBucket k b source).1.map Prod.fst = (upTo 4).map fun w => 4 * b + w := rfl
  obtain ⟨w, hw, rfl⟩ := List.mem_map.1 (hways ▸ List.mem_map_of_mem (f := Prod.fst) h)
  have hlt : w < 4 := List.mem_range.1 hw
  omega

/-- An install that creates an entry found an empty way of the key's bucket and wrote it. -/
theorem State.install_created_inv {s : State} {k : Nat} {m : LMsg} (h : (s.install k m).1 = .created) :
    ∃ slot e, (slot, e) ∈ (s.lrnBucket k (s.bucket m.vid m.mac) 1).1 ∧ (s.install k m).2 =
      ((s.lrnBucket k (s.bucket m.vid m.mac) 1).2.lrnWrite k slot (Lrn.entry m.static true false m.vid m.mac m.port m.stamp)).bump
        (Obj.TBL_LRN_INSTALLS k) := by
  unfold State.install at h ⊢
  dsimp only at h ⊢
  split at h
  case h_1 =>
    split at h
    case h_1 slot e hfree => exact ⟨slot, e, List.mem_of_find?_eq_some hfree, rfl⟩
    case h_2 => cases h
  case h_2 =>
    split at h
    · cases h
    · split at h
      · cases h
      · split at h
        · cases h
        · cases h

/-! ### Ageing (R298) -/

/-- The bucket of a pipeline's next visit, aged. -/
def State.bucketAged (s : State) (k : Nat) : State :=
  (upTo 4).foldl (fun a w => a.ageWay k (4 * ((s.learner k).visit % 16384) + w) (decide ((s.learner k).visit < 16384))
    (decide ((s.learner k).ageTime ≠ 0))) s

/-- The seconds that a pass takes; with ageing off, its length for the marking of old entries. -/
def Learner.passTime (x : Learner) : Nat := if x.ageTime = 0 then 1000000 else x.ageTime

/-- The learner after a visit: at the next bucket, or at the first of a new pass. -/
def Learner.visited (x : Learner) (ageTime : Nat) (y : Learner) : Learner :=
  if x.visit = 32767 then { y with visit := 0, passStart := x.passStart + x.passTime * 1000000000, ageTime := ageTime }
  else { y with visit := x.visit + 1 }

theorem exec_agerVisit_of_due {s : State} {k : Nat} (hk : k < 32) (hrun : s.tim.running = true) (hserved : s.pipeGated k = false)
    (hstart : (s.learner k).passStart ≤ s.uptime)
    (hdue : (s.learner k).visit * (s.learner k).passTime * 1000000000 ≤ 32768 * (s.uptime - (s.learner k).passStart)) :
    exec (.agerVisit k) s = .next ((s.bucketAged k).modLearner k ((s.learner k).visited (s.get Obj.TBL_AGE_TIME))) := by
  change execAgerVisit k s = _
  rw [Learner.passTime] at hdue
  simp only [execAgerVisit, hrun, hserved, hstart, hdue, Nat.not_le.2 hk]
  rfl

theorem exec_agerVisit_of_early {s : State} {k : Nat}
    (hearly : 32768 * (s.uptime - (s.learner k).passStart) < (s.learner k).visit * (s.learner k).passTime * 1000000000) :
    exec (.agerVisit k) s = .next s := by
  change execAgerVisit k s = _
  rw [Learner.passTime] at hearly
  simp only [execAgerVisit, decide_eq_false (Nat.not_le.2 hearly), Bool.false_and, Bool.false_eq_true, not_false_eq_true, or_true, if_true]

/-- An entry of the visited half that nothing has marked since the last visit is removed. -/
theorem State.lrn_ageWay_unseen {s : State} {k slot : Nat} {half : Bool} (hvalid : Lrn.valid (s.lrnRead k slot 1).1 = true)
    (hstatic : Lrn.static (s.lrnRead k slot 1).1 = false) (hact : Lrn.act (s.lrnRead k slot 1).1 = false)
    (hhalf : decide (Lrn.port (s.lrnRead k slot 1).1 / 32 = k) = half) : (s.ageWay k slot half true).lrn k slot = 0 := by
  unfold State.ageWay
  dsimp only
  rw [if_neg (by simp [hvalid, hstatic, hhalf]), if_neg (by simp), if_neg (by simp [hact])]
  split <;> simp

/-- Settles O43: each arrival is one case of the message; an install that creates writes a way of the key's bucket; a visit ages a bucket and moves
its learner on. -/
theorem learnRingCarriesMessages : Obligations.LearnRingCarriesMessages := by
  refine ⟨fun s k m rest hk hinj => ⟨fun hroom => ⟨_, exec_ringInject_of_room hk hinj hroom, ?_, ?_, ?_, State.events_injectCounted _ k⟩,
      exec_ringInject_of_full⟩,
    fun s k m hfind => ⟨⟨_, exec_ringMessageArrival_damaged hfind, congrArg Tables.ring (State.tables_bump _ _), State.get_bump_same _ _⟩,
      exec_ringMessageArrival_home hfind, exec_ringMessageArrival_gated hfind, exec_ringMessageArrival_remove hfind,
      exec_ringMessageArrival_unchanged hfind, exec_ringMessageArrival_created hfind⟩,
    fun s k m hcreated => ?_, fun s k hk hrun hserved hstart => ⟨fun hdue => ⟨_, exec_agerVisit_of_due hk hrun hserved hstart hdue, ?_, ?_⟩,
      exec_agerVisit_of_early⟩, fun s k slot half => State.lrn_ageWay_unseen⟩
  · rw [State.tables_injectCounted]
    rfl
  · rw [State.learner_injectCounted, State.learner_ringInjected, Learner.injected]
  · rw [State.learner_injectCounted, State.learner_ringInjected, Learner.injected]
  · obtain ⟨slot, e, hmem, hstate⟩ := State.install_created_inv hcreated
    exact ⟨slot, State.mem_lrnBucket hmem, by rw [hstate, State.lrn_bump, State.lrn_lrnWrite_same]⟩
  · intro hvisit
    rw [State.learner_modLearner_same, Learner.visited, if_neg hvisit]
  · intro hvisit
    rw [State.learner_modLearner_same, Learner.visited, if_pos hvisit]
    exact ⟨rfl, rfl⟩

end Sys2Proof.Machine
end

section
/-! PROOFS. Routes (10): the START that begins a route window's run, and the record that is applied, fails or ends it. -/

namespace Sys2Proof.Machine
open Sys2Proof

/-! ### Progress objects (R456) -/

/-- The objects of a long routine's progress have the sub-indexes below 6. -/
theorem progress_ne_of_mod (k : Nat) {key : Nat} (h : 6 ≤ key % 256) :
    Obj.CMP_P_RUN k ≠ key ∧ Obj.CMP_P_STATE k ≠ key ∧ Obj.CMP_P_DONE k ≠ key ∧ Obj.CMP_P_TOTAL k ≠ key ∧ Obj.CMP_P_RESTART k ≠ key := by
  simp only [Obj.CMP_P_RUN, Obj.CMP_P_STATE, Obj.CMP_P_DONE, Obj.CMP_P_TOTAL, Obj.CMP_P_RESTART]
  omega

theorem State.get_progBegin_of_mod (s : State) (k total : Nat) {key : Nat} (h : 6 ≤ key % 256) : (s.progBegin k total).get key = s.get key := by
  obtain ⟨hrun, hstate, hdone, htotal, hrestart⟩ := progress_ne_of_mod k h
  unfold State.progBegin
  rw [State.get_put_ne _ _ _ _ hrestart, State.get_put_ne _ _ _ _ htotal, State.get_put_ne _ _ _ _ hdone, State.get_put_ne _ _ _ _ hstate,
    State.get_bump_ne _ hrun]

theorem State.get_progDone_of_mod (s : State) (k n : Nat) {key : Nat} (h : 6 ≤ key % 256) : (s.progDone k n).get key = s.get key := by
  obtain ⟨-, -, hdone, -, -⟩ := progress_ne_of_mod k h
  exact s.get_bumpBy_ne n hdone

theorem State.get_progEnd_of_mod (s : State) (k outcome restart : Nat) {key : Nat} (h : 6 ≤ key % 256) :
    (s.progEnd k outcome restart).get key = s.get key := by
  obtain ⟨-, hstate, -, -, hrestart⟩ := progress_ne_of_mod k h
  unfold State.progEnd
  rw [State.get_put_ne _ _ _ _ hrestart, State.get_put_ne _ _ _ _ hstate]

/-! ### The START of a run (R290) -/

section
variable {s : State}

theorem startTblLpmApply_of_incomplete (h : s.tables.opsTotal = none) :
    startTblLpmApply s = (Res.ok, (s.put Obj.TBL_LPM_DONE 0).runOnce Obj.TBL_LPM_APPLY Res.badState 1) := by
  rw [startTblLpmApply, h]

/-- The run waits at its first record. -/
theorem startTblLpmApply_of_complete {n : Nat} (h : s.tables.opsTotal = some n) :
    startTblLpmApply s = (Res.ok, (((s.put Obj.TBL_LPM_DONE 0).progBegin 3 (n / 32)).modTables fun t =>
      { t with apply := some (0, n / 32, false) }).runBegin Obj.TBL_LPM_APPLY) := by
  rw [startTblLpmApply, h]

theorem startTblLpmApply_code : (startTblLpmApply s).1 = Res.ok := by
  cases h : s.tables.opsTotal with
  | none => rw [startTblLpmApply_of_incomplete h]
  | some n => rw [startTblLpmApply_of_complete h]

theorem done_startTblLpmApply : (startTblLpmApply s).2.get Obj.TBL_LPM_DONE = 0 := by
  cases h : s.tables.opsTotal with
  | none => rw [startTblLpmApply_of_incomplete h, State.runOnce, State.get_runEnd_ne _ _ _ (by decide), State.get_put_same]
  | some n =>
    rw [startTblLpmApply_of_complete h, State.get_runBegin, State.get_modTables, State.get_progBegin_of_mod _ _ _ (by decide), State.get_put_same]

theorem record_startTblLpmApply_of_incomplete (h : s.tables.opsTotal = none) :
    (startTblLpmApply s).2.get Obj.TBL_LPM_APPLY = runRecord (s.get Obj.TBL_LPM_APPLY) Res.badState 1 := by
  rw [startTblLpmApply_of_incomplete h, State.runOnce, State.get_runEnd_same, State.get_put_ne _ _ _ _ (by decide)]

theorem apply_startTblLpmApply_of_complete {n : Nat} (h : s.tables.opsTotal = some n) :
    (startTblLpmApply s).2.isBusy Obj.TBL_LPM_APPLY = true ∧ (startTblLpmApply s).2.tables.apply = some (0, n / 32, false) := by
  rw [startTblLpmApply_of_complete h]
  exact ⟨State.isBusy_runBegin_same _ _, rfl⟩

theorem exec_tblLpmApply_of_ready {i : Nat} {r : Request} (h : s.readyToStart i r Obj.TBL_LPM_APPLY = true)
    (hbusy : s.isBusy Obj.TBL_LPM_APPLY = false) :
    exec .tblLpmApply s = .next ((startTblLpmApply (s.startTurn i Obj.TBL_LPM_APPLY)).2.started i r Obj.TBL_LPM_APPLY Res.ok) :=
  congrArg Host.Outcome.next (State.serveIf_begins h hbusy ⟨0, by decide, rfl⟩ (by decide) (Prod.ext startTblLpmApply_code rfl))

end

/-! ### A record of the window (R289, R290) -/

/-- What record `k` comes to: its family, the new tables and the change of the family's count, or OUTCOME and DETAIL. -/
def State.routeStep (s : State) (k : Nat) : Except (Nat × Nat) (Bool × Tables × Int) :=
  (parseRoute (s.routeRecord k)).bind fun p => (s.tables.applyRoute p.1 p.2).map fun q => (p.2.v6, q)

/-- The run of the window ends. -/
def State.routesEnded (s : State) (outcome detail restart : Nat) : State :=
  ((s.modTables fun t => { t with apply := none }).runEnd Obj.TBL_LPM_APPLY outcome detail).progEnd 3 outcome restart

/-- The object that counts a family's routes. -/
def routeCount (v6 : Bool) : Nat := if v6 then Obj.TBL_LPM_V6 else Obj.TBL_LPM_V4

/-- Record `k` is applied: the new tables are in force and everything that counts has counted. -/
def State.routeApplied (s : State) (k : Nat) (v6 : Bool) (t1 : Tables) (d : Int) : State :=
  let s1 := ({ s with tables := t1 }.slotsWritten s.tables.slots).put Obj.TBL_LPM_DONE (k + 1)
  ((s1.put (routeCount v6) ((s1.get (routeCount v6) : Int) + d).toNat).put Obj.TBL_LPM_BLOCKS
    ((t1.blocks false).length + (t1.blocks true).length)).progDone 3 1

/-- After record `k` of `n` the run ends, at the last record or at an ABORT, or waits at the next one. -/
def State.afterRecord (s : State) (k n : Nat) (abort : Bool) : State :=
  if n ≤ k + 1 then s.routesEnded Res.ok 0 0
  else if abort then s.routesEnded Res.aborted 0 (k + 1)
  else s.modTables fun t => { t with apply := some (k + 1, n, false) }

section
variable {s : State} {k : Nat}

theorem State.routeStep_of_unparsed {e : Nat × Nat} (hparse : parseRoute (s.routeRecord k) = .error e) : s.routeStep k = .error e := by
  rw [State.routeStep, hparse]
  rfl

theorem State.routeStep_of_parsed {op : Nat} {route : Route} (hparse : parseRoute (s.routeRecord k) = .ok (op, route)) :
    s.routeStep k = (s.tables.applyRoute op route).map fun q => (route.v6, q) := by
  rw [State.routeStep, hparse]
  rfl

variable {n : Nat} {abort : Bool}

theorem exec_lpmRecordComplete_of_halted (hhalted : s.halted = true) : exec .lpmRecordComplete s = .next s := by
  change execLpmRecordComplete s = _
  rw [execLpmRecordComplete, if_pos hhalted]

variable (hrun : s.tables.apply = some (k, n, abort)) (hgoes : s.halted = false)
include hrun hgoes

theorem exec_lpmRecordComplete_of_failed {e : Nat × Nat} (hfails : s.routeStep k = .error e) :
    exec .lpmRecordComplete s = .next (s.routesEnded e.1 e.2 k) := by
  change execLpmRecordComplete s = _
  rw [State.routeStep] at hfails
  simp only [execLpmRecordComplete, hgoes, Bool.false_eq_true, if_false, hrun, hfails]
  rfl

theorem exec_lpmRecordComplete_of_applied {v6 : Bool} {t1 : Tables} {d : Int} (hstep : s.routeStep k = .ok (v6, t1, d)) :
    exec .lpmRecordComplete s = .next ((s.routeApplied k v6 t1 d).afterRecord k n abort) := by
  change execLpmRecordComplete s = _
  rw [State.routeStep] at hstep
  simp only [execLpmRecordComplete, hgoes, Bool.false_eq_true, if_false, hrun, hstep]
  rfl

end

/-! ### What a run's end and an applied record leave -/

section
variable (s : State)

theorem State.tables_routesEnded (outcome detail restart : Nat) : (s.routesEnded outcome detail restart).tables = { s.tables with apply := none } := by
  simp [State.routesEnded, State.modTables]

theorem State.record_routesEnded (outcome detail restart : Nat) :
    (s.routesEnded outcome detail restart).get Obj.TBL_LPM_APPLY = runRecord (s.get Obj.TBL_LPM_APPLY) outcome detail := by
  rw [State.routesEnded, State.get_progEnd_of_mod _ _ _ _ (by decide), State.get_runEnd_same, State.get_modTables]

theorem State.restart_routesEnded (outcome detail restart : Nat) : (s.routesEnded outcome detail restart).get (Obj.CMP_P_RESTART 3) = restart :=
  State.get_put_same _ _ _

theorem State.done_routesEnded (outcome detail restart : Nat) :
    (s.routesEnded outcome detail restart).get Obj.TBL_LPM_DONE = s.get Obj.TBL_LPM_DONE := by
  rw [State.routesEnded, State.get_progEnd_of_mod _ _ _ _ (by decide), State.get_runEnd_ne _ _ _ (by decide), State.get_modTables]

variable (k : Nat)

theorem State.tables_afterRecord (n : Nat) (abort : Bool) : (s.afterRecord k n abort).tables =
    { s.tables with apply := if n ≤ k + 1 ∨ abort = true then none else some (k + 1, n, false) } := by
  unfold State.afterRecord
  by_cases hlast : n ≤ k + 1
  · simp [hlast, State.tables_routesEnded]
  · cases abort with
    | true => simp [hlast, State.tables_routesEnded]
    | false => simp [hlast, State.modTables]

theorem State.done_afterRecord (n : Nat) (abort : Bool) : (s.afterRecord k n abort).get Obj.TBL_LPM_DONE = s.get Obj.TBL_LPM_DONE := by
  unfold State.afterRecord
  split
  · rw [State.done_routesEnded]
  · split
    · rw [State.done_routesEnded]
    · rw [State.get_modTables]

theorem State.record_afterRecord_last {n : Nat} (abort : Bool) (hlast : n ≤ k + 1) :
    (s.afterRecord k n abort).get Obj.TBL_LPM_APPLY = runRecord (s.get Obj.TBL_LPM_APPLY) Res.ok 0 := by
  rw [State.afterRecord, if_pos hlast, State.record_routesEnded]

theorem State.record_afterRecord_aborted {n : Nat} {abort : Bool} (hmore : k + 1 < n) (habort : abort = true) :
    (s.afterRecord k n abort).get Obj.TBL_LPM_APPLY = runRecord (s.get Obj.TBL_LPM_APPLY) Res.aborted 0 := by
  rw [State.afterRecord, if_neg (Nat.not_le.2 hmore), if_pos habort, State.record_routesEnded]

variable (v6 : Bool) (t1 : Tables) (d : Int)

theorem State.tables_slotsWritten (old : List (Nat × Nat)) : (s.slotsWritten old).tables = s.tables := by
  unfold State.slotsWritten
  split <;> rfl

theorem State.get_slotsWritten (old : List (Nat × Nat)) (key : Nat) : (s.slotsWritten old).get key = s.get key := by
  unfold State.slotsWritten
  split <;> rfl

theorem State.tables_routeApplied : (s.routeApplied k v6 t1 d).tables = t1 := by
  simp [State.routeApplied, State.tables_slotsWritten]

theorem State.done_routeApplied : (s.routeApplied k v6 t1 d).get Obj.TBL_LPM_DONE = k + 1 := by
  have hcount : routeCount v6 ≠ Obj.TBL_LPM_DONE := by cases v6 <;> decide
  rw [State.routeApplied, State.get_progDone_of_mod _ _ _ (by decide), State.get_put_ne _ _ _ _ (by decide), State.get_put_ne _ _ _ _ hcount,
    State.get_put_same]

theorem State.record_routeApplied : (s.routeApplied k v6 t1 d).get Obj.TBL_LPM_APPLY = s.get Obj.TBL_LPM_APPLY := by
  have hcount : routeCount v6 ≠ Obj.TBL_LPM_APPLY := by cases v6 <;> decide
  rw [State.routeApplied, State.get_progDone_of_mod _ _ _ (by decide), State.get_put_ne _ _ _ _ (by decide), State.get_put_ne _ _ _ _ hcount,
    State.get_put_ne _ _ _ _ (by decide), State.get_slotsWritten]
  rfl

end

/-- Settles O45: the START runs in the state of its turn, whose tables are those before it; a record is one `State.routeStep`, and what follows it is
`State.routesEnded` or `State.afterRecord`. -/
theorem routesAreAppliedRecordByRecord : Obligations.RoutesAreAppliedRecordByRecord := by
  refine ⟨fun s i r h hbusy => ⟨_, exec_tblLpmApply_of_ready h hbusy, done_startTblLpmApply, fun htotal => ?_, fun n htotal => ?_⟩,
    fun s k n abort hrun => ⟨exec_lpmRecordComplete_of_halted, fun hgoes o d hparse => ?_, fun hgoes op route o d hparse happly => ?_,
      fun hgoes op route t1 d hparse happly => ?_⟩⟩
  · rw [record_startTblLpmApply_of_incomplete (by rwa [State.tables_startTurn]), State.get_startTurn]
  · exact apply_startTblLpmApply_of_complete (by rwa [State.tables_startTurn])
  · exact ⟨_, exec_lpmRecordComplete_of_failed hrun hgoes (State.routeStep_of_unparsed hparse), s.tables_routesEnded o d k, s.record_routesEnded o d k,
      s.restart_routesEnded o d k⟩
  · have hstep : s.routeStep k = .error (o, d) := by rw [State.routeStep_of_parsed hparse, happly]; rfl
    exact ⟨_, exec_lpmRecordComplete_of_failed hrun hgoes hstep, s.tables_routesEnded o d k, s.record_routesEnded o d k⟩
  · have hstep : s.routeStep k = .ok (route.v6, t1, d) := by rw [State.routeStep_of_parsed hparse, happly]; rfl
    have htables : ((s.routeApplied k route.v6 t1 d).afterRecord k n abort).tables =
        { t1 with apply := if n ≤ k + 1 ∨ abort = true then none else some (k + 1, n, false) } := by
      rw [State.tables_afterRecord, State.tables_routeApplied]
    refine ⟨_, exec_lpmRecordComplete_of_applied hrun hgoes hstep, ?_, ?_, ?_, ?_, fun hmore habort => ?_, fun hlast => ⟨?_, ?_⟩,
      fun hmore habort => ⟨?_, ?_⟩⟩
    · rw [State.done_afterRecord, State.done_routeApplied]
    · rw [htables]
    · rw [htables]
    · rw [htables]
    · rw [htables]
      exact if_neg (by simp [habort, hmore])
    · rw [htables]
      exact if_pos (.inl hlast)
    · rw [State.record_afterRecord_last _ _ _ hlast, State.record_routeApplied]
    · rw [htables]
      exact if_pos (.inr habort)
    · rw [State.record_afterRecord_aborted _ _ hmore habort, State.record_routeApplied]

end Sys2Proof.Machine
end

section
/-! PROOFS. Restoration and sparing of table entries (10): reads of sound words, an entry taken from another chase, a slot rewritten from its shadow,
and a spare block copied in. -/

namespace Sys2Proof.Machine
open Sys2Proof

/-! ### Sound words (R458, R462) -/

/-- Every code takes a word with no bit in error as clean. -/
theorem decodeKind_zero (kind : Nat) : decodeKind kind 0 = .clean := by
  unfold decodeKind
  repeat' split
  all_goals rfl

theorem dataBits_zero (kind : Nat) : dataBits kind 0 = 0 := by
  unfold dataBits
  repeat' split
  all_goals rfl

section
variable {s : State} {kind inst addr : Nat} (hinj : s.flt.inj = none)
include hinj

/-- With no injection armed, a sound word reads as its content and changes nothing. -/
theorem State.readWord_of_sound (source : Nat) (h : s.flipsAt kind inst addr = 0) : s.readWord kind inst addr source = ⟨some 0, s⟩ := by
  have harmed : s.armedFor kind inst source = none := by rw [State.armedFor, hinj]
  simp only [State.readWord, h, decodeKind_zero, harmed, dataBits_zero]

theorem State.readPair_of_sound (source v : Nat) (hhi : s.flipsAt kind inst addr = 0) (hlo : s.flipsAt kind inst (addr + 1) = 0) :
    s.readPair kind inst addr source v = (some v, s) := by
  simp only [State.readPair, State.readWord_of_sound hinj source hhi, State.readWord_of_sound hinj source hlo, Nat.zero_mul, Nat.add_zero,
    Nat.xor_zero]

end

/-! ### Stored errors after a write (R459) -/

theorem State.flipsAt_of_mem {s t : State} (h : t.mem = s.mem) (kind inst addr : Nat) : t.flipsAt kind inst addr = s.flipsAt kind inst addr := by
  rw [State.flipsAt, State.flipsAt, h]

theorem State.flipsAt_memWritten (s : State) (kind inst addr kind' inst' addr' : Nat) :
    (s.memWritten kind inst addr).flipsAt kind' inst' addr' =
      if memKey kind inst addr = memKey kind' inst' addr' then 0 else s.flipsAt kind' inst' addr' := by
  unfold State.memWritten
  dsimp only
  split
  · next h => simp [State.flipsAt, h.1, smGet]
  · exact smGet_erase 0 s.mem.flips _ _

theorem State.flipsAt_setFlips (s : State) (kind inst addr pat kind' inst' addr' : Nat) :
    (s.setFlips kind inst addr pat).flipsAt kind' inst' addr' =
      if memKey kind inst addr = memKey kind' inst' addr' then pat else s.flipsAt kind' inst' addr' := smGet_set _ _ _ _ _

theorem State.get_memWritten_ne (s : State) (kind inst addr : Nat) {key : Nat} (h : Obj.FLT_DIAG_LOGGED ≠ key) :
    (s.memWritten kind inst addr).get key = s.get key := by
  unfold State.memWritten
  dsimp only
  split
  · rfl
  · rw [State.get_put_ne _ _ _ _ h]
    rfl

/-- A key below an object's first index is at none of its indexes. -/
theorem ne_indexed_of_lt {key base c : Nat} (h : key < base) : key ≠ base + 256 * c := by omega

/-! ### What a note leaves (R483, R489) -/

section
variable (s : State) (src cls cause rung detail tile : Nat)

theorem State.note_kept_beside {key : Nat} (hevents : Obj.FLT_EVENTS ≠ key) (hlost : Obj.FLT_EVENT_LOST ≠ key) :
    Kept [.wonel, .flt, .dict] (· ≠ key) s (s.note src cls cause rung detail tile) :=
  State.note_kept s src cls cause rung detail tile (by decide) (by decide) (by decide) hevents hlost (Kept.refl _ _ s)

theorem State.get_note_ne {key : Nat} (hevents : Obj.FLT_EVENTS ≠ key) (hlost : Obj.FLT_EVENT_LOST ≠ key) :
    (s.note src cls cause rung detail tile).get key = s.get key :=
  (s.note_kept_beside src cls cause rung detail tile hevents hlost).2.1 key fun h => h rfl

theorem State.mem_note : (s.note src cls cause rung detail tile).mem = s.mem :=
  (s.note_kept_beside src cls cause rung detail tile (key := 0) (by decide) (by decide)).same .mem (by decide)

theorem State.tables_note : (s.note src cls cause rung detail tile).tables = s.tables :=
  (s.note_kept_beside src cls cause rung detail tile (key := 0) (by decide) (by decide)).same .tables (by decide)

theorem State.isBusy_note (key : Nat) : (s.note src cls cause rung detail tile).isBusy key = s.isBusy key :=
  congrArg (List.contains · key)
    ((s.note_kept_beside src cls cause rung detail tile (key := 0) (by decide) (by decide)).same .busy (by decide))

/-- An event joins the collector's queue, not its repairs. -/
theorem State.repairs_note : (s.note src cls cause rung detail tile).flt.repairs = s.flt.repairs := by
  unfold State.note State.event State.queueRec
  split <;> simp

end

/-! ### An entry taken from another chase (R302) -/

/-- The code finds the word uncorrectable. -/
def Decoded.lost : Decoded → Bool
  | .bad _ => true
  | _ => false

/-- A word of an entry, or both, reads uncorrectable in a chase. -/
def State.entryLost (s : State) (kind c e : Nat) : Bool :=
  (decodeKind kind (s.flipsAt kind (c * 2 ^ 24) (2 * e))).lost || (decodeKind kind (s.flipsAt kind (c * 2 ^ 24) (2 * e + 1))).lost

/-- A word of an entry of a chase takes a value whose difference from the content is `v`. -/
def State.entryWord (s : State) (kind c e i v : Nat) : State :=
  (s.memWritten kind (c * 2 ^ 24) (2 * e + i)).setFlips kind (c * 2 ^ 24) (2 * e + i) v

/-- A copy of an entry that reads in chase `c`, written to `chase`, unless an earlier one has been. -/
def State.restoreFrom (kind chase e : Nat) (a : Bool × State) (c : Nat) : Bool × State :=
  if a.1 then a
  else
    let r := a.2.readPair kind (c * 2 ^ 24) (2 * e) 6 0
    match r.1 with
    | some d => (true, (r.2.entryWord kind chase e 0 (d / 2 ^ 64)).entryWord kind chase e 1 (d % 2 ^ 64))
    | none => (false, r.2)

/-- The chases that can give a copy. -/
def State.otherChases (s : State) (chase : Nat) : List Nat := (upTo 8).filter fun c => decide (c ≠ chase) && !(s.chaseGated c)

theorem exec_entryRestoration_of_lost {s : State} {c table e : Nat} (hc : c ≤ 7) (htable : table ≤ 1)
    (hlost : s.entryLost (3 + table) c e = true) :
    exec (.entryRestoration c table e) s =
      let go := (s.otherChases c).foldl (State.restoreFrom (3 + table) c e) (false, s)
      .next (if go.1 then (go.2.bump (Obj.CHS_RESTORED c)).note (192 + c) Cls.restoration (3 + table) 0 0 (1 + table)
        else go.2.bump (Obj.CHS_UNRESTORED c)) := by
  have hgoes : ¬ (7 < c ∨ 1 < table ∨ s.entryLost (3 + table) c e = false) := by
    rintro (h | h | h)
    · omega
    · omega
    · exact Bool.false_ne_true (h.symm.trans hlost)
  exact congrArg Host.Outcome.next (if_neg hgoes)

theorem State.mem_otherChases {s : State} {c o : Nat} : o ∈ s.otherChases c ↔ o < 8 ∧ o ≠ c ∧ s.chaseGated o = false := by
  simp [State.otherChases, upTo]

/-- Once a copy has been taken, no other chase is asked. -/
theorem State.foldl_restoreFrom_done (kind chase e : Nat) (l : List Nat) (s : State) :
    l.foldl (State.restoreFrom kind chase e) (true, s) = (true, s) := by
  induction l with
  | nil => rfl
  | cons c l ih => exact ih

theorem State.entryLost_of_bad {s : State} {kind c e w syn : Nat} (hw : w < 2)
    (h : decodeKind kind (s.flipsAt kind (c * 2 ^ 24) (2 * e + w)) = .bad syn) : s.entryLost kind c e = true := by
  rw [State.entryLost, Bool.or_eq_true]
  obtain rfl | rfl : w = 0 ∨ w = 1 := by omega
  · exact .inl (congrArg Decoded.lost h)
  · exact .inr (congrArg Decoded.lost h)

/-- The entry of a chase as it is after a sound copy has been taken. -/
def State.entryRestored (s : State) (kind c e : Nat) : State := (s.entryWord kind c e 0 0).entryWord kind c e 1 0

section
variable {s : State} {kind c e : Nat}

theorem State.foldl_restoreFrom_of_sound (hinj : s.flt.inj = none)
    (hsound : ∀ o w, o < 8 → o ≠ c → w < 2 → s.flipsAt kind (o * 2 ^ 24) (2 * e + w) = 0)
    (hother : ∃ o, o < 8 ∧ o ≠ c ∧ s.chaseGated o = false) :
    (s.otherChases c).foldl (State.restoreFrom kind c e) (false, s) = (true, s.entryRestored kind c e) := by
  cases hchases : s.otherChases c with
  | nil =>
    obtain ⟨o, ho⟩ := hother
    exact absurd (State.mem_otherChases.2 ho) (by simp [hchases])
  | cons o l =>
    obtain ⟨ho, hne, -⟩ := State.mem_otherChases.1 (hchases ▸ List.mem_cons_self : o ∈ s.otherChases c)
    have hread : s.readPair kind (o * 2 ^ 24) (2 * e) 6 0 = (some 0, s) :=
      State.readPair_of_sound hinj 6 0 (hsound o 0 ho hne (by decide)) (hsound o 1 ho hne (by decide))
    have hfirst : State.restoreFrom kind c e (false, s) o = (true, s.entryRestored kind c e) := by
      simp only [State.restoreFrom, hread]
      rfl
    rw [List.foldl_cons, hfirst, State.foldl_restoreFrom_done]

theorem exec_entryRestoration_of_sound {table : Nat} (hc : c ≤ 7) (htable : table ≤ 1) (hlost : s.entryLost (3 + table) c e = true)
    (hinj : s.flt.inj = none) (hsound : ∀ o w, o < 8 → o ≠ c → w < 2 → s.flipsAt (3 + table) (o * 2 ^ 24) (2 * e + w) = 0)
    (hother : ∃ o, o < 8 ∧ o ≠ c ∧ s.chaseGated o = false) :
    exec (.entryRestoration c table e) s = .next (((s.entryRestored (3 + table) c e).bump (Obj.CHS_RESTORED c)).note (192 + c) Cls.restoration
      (3 + table) 0 0 (1 + table)) := by
  rw [exec_entryRestoration_of_lost hc htable hlost, State.foldl_restoreFrom_of_sound hinj hsound hother]
  rfl

theorem State.flipsAt_entryRestored {w : Nat} (hw : w < 2) : (s.entryRestored kind c e).flipsAt kind (c * 2 ^ 24) (2 * e + w) = 0 := by
  simp only [State.entryRestored, State.entryWord, State.flipsAt_setFlips, State.flipsAt_memWritten]
  obtain rfl | rfl : w = 0 ∨ w = 1 := by omega
  · simp
  · simp

theorem State.get_entryRestored {key : Nat} (h : Obj.FLT_DIAG_LOGGED ≠ key) : (s.entryRestored kind c e).get key = s.get key :=
  (State.get_memWritten_ne _ kind _ _ h).trans (State.get_memWritten_ne s kind _ _ h)

end

/-! ### A slot rewritten from its shadow (R303) -/

/-- Where a slot of the LPM memory lies in a chase. -/
def State.slotPlace (s : State) (c slot : Nat) : Nat := s.physBlock c (slot / 2048) * 2048 + slot % 2048

theorem exec_lpmShadowRewrite_of_sound {s : State} {c slot : Nat} (hc : c ≤ 7) (hslot : slot < 131072) (hinj : s.flt.inj = none)
    (hsound : s.flipsAt 6 (c * 2 ^ 24) slot = 0) :
    exec (.lpmShadowRewrite c slot) s =
      .next (if s.flipsAt 5 (c * 2 ^ 24) (s.slotPlace c slot) = 0 then s else s.memWritten 5 (c * 2 ^ 24) (s.slotPlace c slot)) := by
  change execLpmShadowRewrite c slot s = _
  simp only [execLpmShadowRewrite, State.readWord_of_sound hinj 6 hsound, Option.isSome_some, if_true]
  rw [if_neg (by omega)]
  rfl

/-! ### A spare block begins to be filled (R305 steps 1 and 2) -/

section
variable {s : State} {c : Nat}

theorem chase_cases (hc : c < 8) : c = 0 ∨ c = 1 ∨ c = 2 ∨ c = 3 ∨ c = 4 ∨ c = 5 ∨ c = 6 ∨ c = 7 := by omega

theorem startRun_chsLpmSpareIn (session cls : Nat) (hc : c < 8) (gone : Bool) :
    s.startRun session cls (Obj.CHS_LPM_SPARE_IN c) gone = startChsLpmSpareIn s c := by
  obtain rfl | rfl | rfl | rfl | rfl | rfl | rfl | rfl := chase_cases hc
  all_goals rfl

/-- The repair of a controller's spare-in. -/
def State.spareRepair (s : State) (c : Nat) : Repair :=
  { stack := 0, source := none, kind := .lpmBlock c (s.get (Obj.CHS_LPM_SPARE_LBLOCK c)), reason := 2, dueAt := s.now, begun := false }

/-- The spare-in runs, its repair waiting for the Forme stack. -/
def State.spareAsked (s : State) (c : Nat) : State :=
  { s.runBegin (Obj.CHS_LPM_SPARE_IN c) with flt := { s.flt with repairs := s.flt.repairs ++ [s.spareRepair c] } }

theorem startChsLpmSpareIn_of_used (hused : s.get (Obj.CHS_LPM_SPARE c) ≠ 0xFF) :
    startChsLpmSpareIn s c = (Res.ok, s.runOnce (Obj.CHS_LPM_SPARE_IN c) Res.badState 1) := by
  rw [startChsLpmSpareIn, if_pos hused]

theorem startChsLpmSpareIn_of_free (hfree : s.get (Obj.CHS_LPM_SPARE c) = 0xFF) (hrepairs : s.flt.repairs = []) :
    startChsLpmSpareIn s c = (Res.ok, (s.spareAsked c).dispatchForme) := by
  rw [startChsLpmSpareIn, if_neg fun hused => hused hfree, hrepairs]
  simp [State.spareAsked, State.spareRepair, hrepairs]

theorem startChsLpmSpareIn_code (hrepairs : s.flt.repairs = []) : (startChsLpmSpareIn s c).1 = Res.ok := by
  by_cases hfree : s.get (Obj.CHS_LPM_SPARE c) = 0xFF
  · rw [startChsLpmSpareIn_of_free hfree hrepairs]
  · rw [startChsLpmSpareIn_of_used hfree]

theorem State.isBusy_dispatchForme (s : State) (key : Nat) : s.dispatchForme.isBusy key = s.isBusy key := by
  have hkept : Kept reaction (fun _ => True) s s.dispatchForme :=
    State.dispatchForme_kept s (by decide) (by decide) (by decide) (by decide) (by decide) (by decide) (by decide) (by decide) trivial trivial trivial
      trivial trivial (fun _ => trivial) (Kept.refl _ _ s)
  exact congrArg (List.contains · key) (hkept.same .busy (by decide))

/-- The only repair of the Forme stack, of an LPM block, begins when context 0 runs and the chase's spare is free. -/
theorem State.spares_dispatchForme_of_lpmBlock {r : Repair} {c b : Nat} (hrepairs : s.flt.repairs = [r]) (hstack : r.stack = 0)
    (hwaits : r.begun = false) (hkind : r.kind = .lpmBlock c b) (hctx : (s.ctx 0).state ≠ .parked) (hfree : s.get (Obj.CHS_LPM_SPARE c) = 0xFF)
    (hspares : s.tables.spares = []) : s.dispatchForme.tables.spares = [(c, ⟨b, b, r.source⟩)] := by
  have hidle : s.repairRuns 0 = false := by simp [State.repairRuns, hrepairs, hwaits]
  rw [State.ctx] at hctx
  simp [State.dispatchForme, hidle, hctx, hrepairs, hstack, hkind, hfree, hspares, smGet, smInsert]

/-- The spare of a chase with none in use is being filled for the logical block that the controller names. -/
theorem State.spares_spareAsked (hrepairs : s.flt.repairs = []) (hctx : (s.ctx 0).state ≠ .parked) (hfree : s.get (Obj.CHS_LPM_SPARE c) = 0xFF)
    (hspares : s.tables.spares = []) : (s.spareAsked c).dispatchForme.tables.spares =
      [(c, ⟨s.get (Obj.CHS_LPM_SPARE_LBLOCK c), s.get (Obj.CHS_LPM_SPARE_LBLOCK c), none⟩)] :=
  State.spares_dispatchForme_of_lpmBlock (s := s.spareAsked c) (r := s.spareRepair c) (by simp [State.spareAsked, hrepairs]) rfl rfl rfl hctx hfree
    hspares

theorem State.dispatchForme_of_no_repairs (h : s.flt.repairs = []) : s.dispatchForme = s := by
  simp [State.dispatchForme, h]

theorem exec_chsLpmSpareIn_of_ready {i : Nat} {r : Request} (hc : c < 8) (h : s.readyToStart i r (Obj.CHS_LPM_SPARE_IN c) = true)
    (hbusy : s.isBusy (Obj.CHS_LPM_SPARE_IN c) = false) (hrepairs : s.flt.repairs = []) :
    exec .chsLpmSpareIn s =
      .next ((startChsLpmSpareIn (s.startTurn i (Obj.CHS_LPM_SPARE_IN c)) c).2.started i r (Obj.CHS_LPM_SPARE_IN c) Res.ok) := by
  have hnow : ∀ c < 8, (decide (0x016000 ≤ Obj.CHS_LPM_SPARE_IN c ∧ Obj.CHS_LPM_SPARE_IN c < 0x017000) ||
      decide (Obj.CHS_LPM_SPARE_IN c = Obj.PWR_SHUTDOWN)) = false := by decide
  refine congrArg Host.Outcome.next (State.serveIf_begins h hbusy ⟨c, hc, rfl⟩ (hnow c hc) ?_)
  rw [startRun_chsLpmSpareIn _ _ hc]
  exact Prod.ext (startChsLpmSpareIn_code (by rwa [State.flt_startTurn])) rfl

end

/-! ### A spare block serves (R305 steps 3 and 4) -/

/-- The spare holds no stored error and serves the logical block. -/
def State.spareServes (s : State) (c : Nat) (x : LpmSpare) : State :=
  let base := memKey 5 (c * 2 ^ 24) (64 * 2048)
  (({ s with mem := { s.mem with flips := smClearRange s.mem.flips base (base + 2048) } }).modTables fun t =>
    { t with spares := smErase t.spares c }).put (Obj.CHS_LPM_SPARE c) x.logical

theorem spare_ne_spareIn (c : Nat) : Obj.CHS_LPM_SPARE c ≠ Obj.CHS_LPM_SPARE_IN c := by
  unfold Obj.CHS_LPM_SPARE Obj.CHS_LPM_SPARE_IN
  omega

theorem State.flt_spareServes (s : State) (c : Nat) (x : LpmSpare) : (s.spareServes c x).flt = s.flt := rfl

theorem State.get_spareServes (s : State) (c : Nat) (x : LpmSpare) (key : Nat) :
    (s.spareServes c x).get key = if Obj.CHS_LPM_SPARE c = key then x.logical else s.get key := State.get_put _ _ _ _

/-- The run of a controller's spare-in ends, where one lasts. -/
def State.spareRunEnded (s : State) (c : Nat) : State :=
  if s.isBusy (Obj.CHS_LPM_SPARE_IN c) then s.runEnd (Obj.CHS_LPM_SPARE_IN c) Res.ok 0 else s

theorem exec_lpmSpareSwitch_of_filled {s : State} {c : Nat} {x : LpmSpare} (hspares : s.tables.spares = [(c, x)]) :
    exec (.lpmSpareSwitch c) s = .next (((s.spareServes c x).repairDone x.source (184 + c) x.old 64 0).spareRunEnded c) := by
  change execLpmSpareSwitch c s = _
  simp only [execLpmSpareSwitch, hspares, List.map_cons, List.map_nil, smGet, if_true]
  rfl

/-- The repair of a controller's run, with no other one waiting, is noted and nothing more. -/
theorem State.repairDone_of_commanded {s : State} (asSrc tile detail stack : Nat) (hrepairs : s.flt.repairs = []) :
    s.repairDone none asSrc tile detail stack = s.note asSrc Cls.commanded 0 0 detail tile := by
  have hsame : { s with flt := { s.flt with repairs := s.flt.repairs.filter fun r => !(decide (r.stack = stack) && r.begun) } } = s := by
    rw [hrepairs, List.filter_nil, ← hrepairs]
  rw [State.repairDone, hsame]
  exact State.dispatchForme_of_no_repairs ((State.repairs_note s _ _ _ _ _ _).trans hrepairs)

/-- The map of a chase's spare is not among the objects that the ladder of reactions changes. -/
theorem reactKeys_ne_spare (c : Nat) : ReactKeys (· ≠ Obj.CHS_LPM_SPARE c) := by
  constructor
  case shed => intro q; unfold Obj.QD_OCTETS_SHED Obj.CHS_LPM_SPARE; omega
  all_goals exact ne_indexed_of_lt (by decide)

theorem State.spare_repairDone (s : State) (c : Nat) (src : Option Nat) (asSrc tile detail stack : Nat) :
    (s.repairDone src asSrc tile detail stack).get (Obj.CHS_LPM_SPARE c) = s.get (Obj.CHS_LPM_SPARE c) := by
  have hkept : Kept reaction (· ≠ Obj.CHS_LPM_SPARE c) s (s.repairDone src asSrc tile detail stack) := by
    apply State.repairDone_kept
    case ko => exact reactKeys_ne_spare c
    case hK => exact Kept.refl _ _ s
    all_goals decide
  exact hkept.2.1 _ fun h => h rfl

theorem State.get_spareRunEnded_ne (s : State) {c key : Nat} (h : Obj.CHS_LPM_SPARE_IN c ≠ key) : (s.spareRunEnded c).get key = s.get key := by
  unfold State.spareRunEnded
  split
  · rw [State.get_runEnd_ne _ _ _ h]
  · rfl

theorem State.tables_spareRunEnded (s : State) (c : Nat) : (s.spareRunEnded c).tables = s.tables := by
  unfold State.spareRunEnded
  split
  · rw [State.tables_runEnd]
  · rfl

/-- Settles O46: with no injection armed the first other chase reads sound, so its copy is written; the shadow reads sound and the slot is written;
a spare-in is the START's repair, and its switch ends the run. -/
theorem tableEntriesAreRestored : Obligations.TableEntriesAreRestored := by
  refine ⟨fun s c table e hc htable hinj hbad hsound hother => ?_, fun s c slot hc hslot hinj hsound => ?_,
    fun s i r c hc h hbusy hrepairs => ⟨_, exec_chsLpmSpareIn_of_ready hc h hbusy hrepairs, fun hused => ?_,
      fun hfree => ⟨?_, fun hctx hspares => ?_⟩⟩,
    fun s c x hc hspares hrepairs => ⟨_, exec_lpmSpareSwitch_of_filled hspares, ?_, fun hsource => ?_, fun hbusy hsource => ?_⟩⟩
  · obtain ⟨w, syn, hw, hdecode⟩ := hbad
    refine ⟨_, exec_entryRestoration_of_sound hc htable (State.entryLost_of_bad hw hdecode) hinj hsound hother, fun w hw => ?_, ?_⟩
    · exact (State.flipsAt_of_mem ((State.mem_note _ _ _ _ _ _ _).trans (State.mem_bump _ _)) _ _ _).trans (State.flipsAt_entryRestored hw)
    · rw [State.get_note_ne _ _ _ _ _ _ _ (ne_indexed_of_lt (by decide)) (ne_indexed_of_lt (by decide)), State.get_bump_same,
        State.get_entryRestored (ne_indexed_of_lt (by decide))]
  · refine ⟨_, exec_lpmShadowRewrite_of_sound hc hslot hinj hsound, ?_, ?_⟩
    · split
      · assumption
      · exact (State.flipsAt_memWritten _ _ _ _ _ _ _).trans (if_pos rfl)
    · split
      · rfl
      · rw [State.tables_memWritten]
  · rw [startChsLpmSpareIn_of_used (by rwa [State.get_startTurn]), State.runOnce, State.get_runEnd_same, State.get_startTurn]
  · rw [startChsLpmSpareIn_of_free (by rwa [State.get_startTurn]) (by rwa [State.flt_startTurn]), State.isBusy_dispatchForme]
    exact State.isBusy_runBegin_same _ _
  · rw [startChsLpmSpareIn_of_free (by rwa [State.get_startTurn]) (by rwa [State.flt_startTurn])]
    have hspared := State.spares_spareAsked (s := s.startTurn i (Obj.CHS_LPM_SPARE_IN c)) (c := c) (by rwa [State.flt_startTurn])
      (by rwa [State.ctx_zero_startTurn]) (by rwa [State.get_startTurn]) (by rwa [State.tables_startTurn])
    rwa [State.get_startTurn] at hspared
  · rw [State.get_spareRunEnded_ne _ (spare_ne_spareIn c).symm, State.spare_repairDone, State.get_spareServes, if_pos rfl]
  · rw [State.tables_spareRunEnded, hsource, State.repairDone_of_commanded _ _ _ _ (by rwa [State.flt_spareServes]), State.tables_note]
    simp [State.spareServes, State.modTables, hspares, smErase]
  · have hlasts : ((s.spareServes c x).note (184 + c) Cls.commanded 0 0 64 x.old).isBusy (Obj.CHS_LPM_SPARE_IN c) = true :=
      (State.isBusy_note _ _ _ _ _ _ _ _).trans hbusy
    rw [hsource, State.repairDone_of_commanded _ _ _ _ (by rwa [State.flt_spareServes]), State.spareRunEnded, if_pos hlasts, State.get_runEnd_same,
      State.get_note_ne _ _ _ _ _ _ _ (ne_indexed_of_lt (by decide)) (ne_indexed_of_lt (by decide)), State.get_spareServes,
      if_neg (spare_ne_spareIn c)]

end Sys2Proof.Machine
end

section
/-! PROOFS. The galley's pool and banks (11): a hank is refilled, a carving is applied, a bank is remapped. -/

namespace Sys2Proof.Machine
open Sys2Proof

/-! ### A hank is refilled (R319, R320) -/

@[simp] theorem Galley.hank_setHank_same (g : Galley) (c h : Nat) (x : Hank) : (g.setHank c h x).hank c h = x :=
  (smGet_set _ _ _ _ _).trans (if_pos rfl)

/-- A link word names its own hank, and a next buffer only where the case has one. -/
def Galley.LinkSound (g : Galley) (c h w : Nat) : Prop :=
  field w 63 56 = 0xA5 ∧ field w 55 54 = c ∧ field w 53 48 = h ∧ (bitOf w 47 = true → g.ptrOk c (w % 2 ^ 22) = true)

/-- The head has joined the prefetch, and what its link word names is the head. -/
def Hank.refilled (k : Hank) (w : Nat) : Hank :=
  { head := if bitOf w 47 then w % 2 ^ 22 else 0, headV := bitOf w 47, len := k.len - 1, pf := k.pf ++ [k.head] }

/-- The read of a hank's next link word. -/
abbrev State.linkRead (s : State) (c h : Nat) : GalRead := s.galleyRaw (8 * (s.galley.hank c h).head) 1

section
variable {s : State} {c h : Nat}

theorem State.refill_of_sound (hhead : (s.galley.hank c h).headV = true) (hroom : (s.galley.hank c h).pf.length < 16)
    (hread : (s.linkRead c h).poison = false) (hlink : (s.linkRead c h).state.galley.LinkSound c h ((s.linkRead c h).data / 2 ^ 192)) :
    s.refill c h = (s.linkRead c h).state.modGalley fun g =>
      g.setHank c h ((s.galley.hank c h).refilled ((s.linkRead c h).data / 2 ^ 192)) := by
  obtain ⟨hmark, hcase, hhank, hnext⟩ := hlink
  have hgoes : ¬ (¬ (s.galley.hank c h).headV = true ∨ 16 ≤ (s.galley.hank c h).pf.length) := by
    rintro (hends | hfull)
    · exact hends hhead
    · exact Nat.not_le.2 hroom hfull
  rw [State.refill, if_neg hgoes]
  dsimp only
  rw [if_neg]
  · rfl
  · rintro (hpoison | hunmarked | hother | hother | ⟨hmore, hastray⟩)
    · exact Bool.false_ne_true (hread.symm.trans hpoison)
    · exact hunmarked hmark
    · exact hother hcase
    · exact hother hhank
    · exact hastray (hnext hmore)

theorem exec_hankRefill_of_sound (hc : c < 4) (hh : h < 64) (hphase : s.boot.phase = .service) (hhead : (s.galley.hank c h).headV = true)
    (hroom : (s.galley.hank c h).pf.length < 16) (hread : (s.linkRead c h).poison = false)
    (hlink : (s.linkRead c h).state.galley.LinkSound c h ((s.linkRead c h).data / 2 ^ 192)) :
    exec (.hankRefill c h) s = .next ((s.linkRead c h).state.modGalley fun g =>
      g.setHank c h ((s.galley.hank c h).refilled ((s.linkRead c h).data / 2 ^ 192))) := by
  change execHankRefill c h s = _
  rw [execHankRefill, if_pos ⟨hc, hh, hphase⟩, State.refill_of_sound hhead hroom hread hlink]

end

/-! ### The turn of a START leaves the galley (R96) -/

@[simp] theorem State.galley_startTurn (s : State) (i key : Nat) : (s.startTurn i key).galley = s.galley :=
  (s.startTurn_kept i key).same .galley (by decide)

@[simp] theorem State.stagedCarve_startTurn (s : State) (i key : Nat) : (s.startTurn i key).stagedCarve = s.stagedCarve := by
  simp only [State.stagedCarve, State.get_startTurn]

@[simp] theorem State.sumMin_startTurn (s : State) (i key c : Nat) : (s.startTurn i key).sumMin c = s.sumMin c := by
  have hget : (s.startTurn i key).get = s.get := funext (s.get_startTurn i key)
  unfold State.sumMin State.profUsers State.profMin State.profileOf
  rw [hget]

@[simp] theorem State.carveCheck_startTurn (s : State) (i key : Nat) : (s.startTurn i key).carveCheck = s.carveCheck := by
  simp only [State.carveCheck, State.stagedCarve_startTurn, State.galley_startTurn, State.sumMin_startTurn]

@[simp] theorem State.bankSpares_startTurn (s : State) (i key die group : Nat) :
    (s.startTurn i key).bankSpares die group = s.bankSpares die group := by
  simp only [State.bankSpares, State.galley_startTurn]

@[simp] theorem State.bankLogical_startTurn (s : State) (i key die group bank : Nat) :
    (s.startTurn i key).bankLogical die group bank = s.bankLogical die group bank := by
  simp only [State.bankLogical, State.galley_startTurn]

/-! ### A carving is applied (R315) -/

section
variable {s : State}

theorem State.galley_carve (s : State) (n : Nat) (counts : List Nat) : (s.carve n counts).galley =
    { groups := n, counts := counts, free := counts, remap := s.galley.remap, retired := s.galley.retired, copying := s.galley.copying } :=
  (foldl_keeps State.galley _ (by intros; rfl) _ _).trans (foldl_keeps State.galley _ (by intros; rfl) _ _)

/-- Writes of other objects leave an object as it was. -/
theorem State.get_foldl_put_ne {α : Type} (k v : α → Nat) {key : Nat} (l : List α) (h : ∀ e ∈ l, k e ≠ key) (s : State) :
    (l.foldl (fun a e => a.put (k e) (v e)) s).get key = s.get key := by
  induction l generalizing s with
  | nil => rfl
  | cons e l ih =>
    rw [List.foldl_cons, ih fun x hx => h x (List.mem_cons_of_mem e hx), State.get_put_ne _ _ _ _ (h e List.mem_cons_self)]

theorem State.capacity_carve (s : State) (n : Nat) (counts : List Nat) : (s.carve n counts).get Obj.GAL_CAPACITY = 32 * n := by
  refine (State.get_foldl_put_ne Obj.GAL_C_FREE_MIN _ _ (by decide) _).trans ?_
  simp only [List.foldl_cons, List.foldl_nil]
  rw [State.get_put_ne _ _ _ _ (by decide), State.get_put_ne _ _ _ _ (by decide), State.get_put_ne _ _ _ _ (by decide),
    State.get_put_ne _ _ _ _ (by decide), State.get_put_same]

theorem State.applyRecord_carve (s : State) (n : Nat) (counts : List Nat) :
    (s.carve n counts).get Obj.GAL_CARVE_APPLY = s.get Obj.GAL_CARVE_APPLY := by
  refine (State.get_foldl_put_ne Obj.GAL_C_FREE_MIN _ _ (by decide) _).trans (State.get_foldl_put_ne Prod.fst Prod.snd _ (fun e he => ?_) _)
  have hkey : e.1 ∈ [Obj.GAL_GROUPS_ACTIVE, Obj.GAL_CAPACITY, Obj.GAL_QUARANTINED, Obj.GAL_LOST, Obj.GAL_DESC_COPY_LIMIT, Obj.PWR_GATED_GROUPS] :=
    List.mem_map_of_mem (f := Prod.fst) he
  exact fun happly => absurd (happly ▸ hkey) (by decide)

theorem startGalCarveApply_of_failed {o d : Nat} (h : s.carveCheck = some (o, d)) :
    startGalCarveApply s = (Res.ok, s.runOnce Obj.GAL_CARVE_APPLY o d) := by
  rw [startGalCarveApply, h]

theorem startGalCarveApply_of_passed (h : s.carveCheck = none) :
    startGalCarveApply s = (Res.ok, (s.carve s.stagedCarve.1 s.stagedCarve.2).runOnce Obj.GAL_CARVE_APPLY Res.ok 0) := by
  rw [startGalCarveApply, h]

theorem startGalCarveApply_code (s : State) : (startGalCarveApply s).1 = Res.ok := by
  cases h : s.carveCheck with
  | none => rw [startGalCarveApply_of_passed h]
  | some e => rw [startGalCarveApply_of_failed h]

theorem exec_galCarveApply_of_ready {i : Nat} {r : Request} (h : s.readyToStart i r Obj.GAL_CARVE_APPLY = true)
    (hbusy : s.isBusy Obj.GAL_CARVE_APPLY = false) :
    exec .galCarveApply s = .next ((startGalCarveApply (s.startTurn i Obj.GAL_CARVE_APPLY)).2.started i r Obj.GAL_CARVE_APPLY Res.ok) :=
  congrArg Host.Outcome.next (State.serveIf_begins h hbusy ⟨0, by decide, rfl⟩ (by decide) (Prod.ext (startGalCarveApply_code _) rfl))

end

/-! ### The remap of a bank is asked for (R335, R336) -/

/-- The die of the bank that a controller names. -/
abbrev State.remapDie (s : State) : Nat := s.get Obj.GAL_REMAP_BANK / 2 ^ 15

/-- Its group. -/
abbrev State.remapGroup (s : State) : Nat := s.get Obj.GAL_REMAP_BANK / 2 ^ 11 % 16

/-- Its place in the group. -/
abbrev State.remapBank (s : State) : Nat := s.get Obj.GAL_REMAP_BANK % 128

/-- The number of the bank in the device. -/
abbrev State.remapPlace (s : State) : Nat := (s.remapDie * 16 + s.remapGroup) * 66 + s.remapBank

@[simp] theorem State.remapDie_startTurn (s : State) (i key : Nat) : (s.startTurn i key).remapDie = s.remapDie := by
  rw [State.remapDie, State.get_startTurn, State.remapDie]

@[simp] theorem State.remapGroup_startTurn (s : State) (i key : Nat) : (s.startTurn i key).remapGroup = s.remapGroup := by
  rw [State.remapGroup, State.get_startTurn, State.remapGroup]

@[simp] theorem State.remapBank_startTurn (s : State) (i key : Nat) : (s.startTurn i key).remapBank = s.remapBank := by
  rw [State.remapBank, State.get_startTurn, State.remapBank]

@[simp] theorem State.remapPlace_startTurn (s : State) (i key : Nat) : (s.startTurn i key).remapPlace = s.remapPlace := by
  simp only [State.remapPlace, State.remapDie_startTurn, State.remapGroup_startTurn, State.remapBank_startTurn]

/-- A free spare is out of service, on a controller's word. -/
def State.spareRetired (s : State) : State :=
  ((s.modGalley fun g => { g with retired := setInsert g.retired s.remapPlace }).put Obj.GAL_LAST_REMAP
    (lastRemap 2 s.remapDie s.remapGroup 0 s.remapBank 0xFF)).note (152 + 16 * s.remapDie + s.remapGroup) Cls.commanded 0 0 0 s.remapBank

/-- The repair of a controller's remap. -/
def State.bankRepair (s : State) : Repair :=
  { stack := 0, source := none, kind := .bank s.remapDie s.remapGroup s.remapBank, reason := 2, dueAt := s.now, begun := false }

/-- The remap runs, its repair waiting for the Forme stack. -/
def State.remapAsked (s : State) : State :=
  { s.runBegin Obj.GAL_REMAP with flt := { s.flt with repairs := s.flt.repairs ++ [s.bankRepair] } }

section
variable {s : State} (hrepairs : s.flt.repairs = [])
include hrepairs

theorem State.no_formeRepair : ¬ (s.flt.repairs.any fun r => decide (r.stack = 0)) = true := by
  rw [hrepairs]
  exact Bool.false_ne_true

theorem startGalRemap_of_beyond (hbank : 65 < s.remapBank) : startGalRemap s = (Res.ok, s.runOnce Obj.GAL_REMAP Res.badValue 1) := by
  unfold startGalRemap
  dsimp only
  rw [if_neg (State.no_formeRepair hrepairs), if_pos hbank]

theorem startGalRemap_of_gated (hbank : s.remapBank ≤ 65) (hgroup : s.galley.groups / 2 ≤ s.remapGroup) :
    startGalRemap s = (Res.ok, s.runOnce Obj.GAL_REMAP Res.badState 0) := by
  unfold startGalRemap
  dsimp only
  rw [if_neg (State.no_formeRepair hrepairs), if_neg (Nat.not_lt.2 hbank), if_pos hgroup]

section
variable (hbank : s.remapBank ≤ 65) (hgroup : s.remapGroup < s.galley.groups / 2)
include hbank hgroup

theorem startGalRemap_of_retired (hretired : s.remapPlace ∈ s.galley.retired) :
    startGalRemap s = (Res.ok, s.runOnce Obj.GAL_REMAP Res.badValue 2) := by
  unfold startGalRemap
  dsimp only
  rw [if_neg (State.no_formeRepair hrepairs), if_neg (Nat.not_lt.2 hbank), if_neg (Nat.not_le.2 hgroup), if_pos (List.contains_iff_mem.2 hretired)]

theorem startGalRemap_of_spare (hretired : s.remapPlace ∉ s.galley.retired) (hserves : s.bankLogical s.remapDie s.remapGroup s.remapBank = none) :
    startGalRemap s = (Res.ok, s.spareRetired.runOnce Obj.GAL_REMAP Res.ok 0) := by
  unfold startGalRemap
  dsimp only
  rw [if_neg (State.no_formeRepair hrepairs), if_neg (Nat.not_lt.2 hbank), if_neg (Nat.not_le.2 hgroup),
    if_neg (mt List.contains_iff_mem.1 hretired), hserves]
  rfl

theorem startGalRemap_of_spared (hretired : s.remapPlace ∉ s.galley.retired) {lb sp : Nat} {l : List Nat}
    (hserves : s.bankLogical s.remapDie s.remapGroup s.remapBank = some lb) (hspares : s.bankSpares s.remapDie s.remapGroup = sp :: l) :
    startGalRemap s = (Res.ok, s.remapAsked.dispatchForme) := by
  unfold startGalRemap
  dsimp only
  rw [if_neg (State.no_formeRepair hrepairs), if_neg (Nat.not_lt.2 hbank), if_neg (Nat.not_le.2 hgroup),
    if_neg (mt List.contains_iff_mem.1 hretired), hserves]
  dsimp only
  rw [hspares, if_neg (List.cons_ne_nil _ _)]
  rfl

end

theorem startGalRemap_code : (startGalRemap s).1 = Res.ok := by
  simp only [startGalRemap, hrepairs, List.any_nil, Bool.false_eq_true, if_false]
  repeat' split
  all_goals rfl

theorem exec_galRemap_of_ready {i : Nat} {r : Request} (h : s.readyToStart i r Obj.GAL_REMAP = true) (hbusy : s.isBusy Obj.GAL_REMAP = false) :
    exec .galRemap s = .next ((startGalRemap (s.startTurn i Obj.GAL_REMAP)).2.started i r Obj.GAL_REMAP Res.ok) :=
  congrArg Host.Outcome.next (State.serveIf_begins h hbusy ⟨0, by decide, rfl⟩ (by decide)
    (Prod.ext (startGalRemap_code (by rwa [State.flt_startTurn])) rfl))

end

/-! ### What the remap's START leaves (R335, R336) -/

theorem State.galley_note (s : State) (src cls cause rung detail tile : Nat) : (s.note src cls cause rung detail tile).galley = s.galley :=
  s.galley_event src cls 0 _ cause rung detail

theorem State.place_mem_spareRetired (s : State) : s.remapPlace ∈ s.spareRetired.galley.retired := by
  rw [State.spareRetired, State.galley_note]
  exact mem_setInsert_self _ _

theorem State.remap_spareRetired (s : State) : s.spareRetired.get Obj.GAL_REMAP = s.get Obj.GAL_REMAP := by
  rw [State.spareRetired, State.get_note_ne _ _ _ _ _ _ _ (by decide) (by decide), State.get_put_ne _ _ _ _ (by decide), State.get_modGalley]

/-- The only repair of the Forme stack, of a bank that serves, begins when context 0 runs and its group has a free spare. -/
theorem State.copying_dispatchForme_of_bank {s : State} {r : Repair} {die group bank lb sp : Nat} {l : List Nat} (hrepairs : s.flt.repairs = [r])
    (hstack : r.stack = 0) (hwaits : r.begun = false) (hkind : r.kind = .bank die group bank) (hctx : (s.ctx 0).state ≠ .parked)
    (hserves : s.bankLogical die group bank = some lb) (hspares : s.bankSpares die group = sp :: l) :
    s.dispatchForme.galley.copying = some ⟨die, group, lb, bank, sp, r.reason⟩ := by
  have hidle : s.repairRuns 0 = false := by simp [State.repairRuns, hrepairs, hwaits]
  rw [State.ctx] at hctx
  simp [State.dispatchForme, hidle, hctx, hrepairs, hstack, hkind, hserves, hspares]

theorem State.copying_remapAsked {s : State} {lb sp : Nat} {l : List Nat} (hrepairs : s.flt.repairs = []) (hctx : (s.ctx 0).state ≠ .parked)
    (hserves : s.bankLogical s.remapDie s.remapGroup s.remapBank = some lb) (hspares : s.bankSpares s.remapDie s.remapGroup = sp :: l) :
    s.remapAsked.dispatchForme.galley.copying = some ⟨s.remapDie, s.remapGroup, lb, s.remapBank, sp, 2⟩ :=
  State.copying_dispatchForme_of_bank (s := s.remapAsked) (r := s.bankRepair) (by simp [State.remapAsked, hrepairs]) rfl rfl rfl hctx hserves hspares

/-! ### A bank is switched (R335 steps 3 and 4, R337) -/

/-- A repair that begins in the Forme stack notes the copy of a bank, and leaves the rest of the galley. -/
theorem State.galley_dispatchForme (s : State) : ∃ x, s.dispatchForme.galley = { s.galley with copying := x } := by
  unfold State.dispatchForme
  dsimp only
  split
  · exact ⟨_, rfl⟩
  · split
    · exact ⟨_, rfl⟩
    · split
      · split
        · exact ⟨_, rfl⟩
        · split
          · exact ⟨_, State.galley_rungAfter1 _ _⟩
          · exact ⟨_, rfl⟩
      · split
        · exact ⟨_, rfl⟩
        · split
          · exact ⟨_, State.galley_rungAfter1 _ _⟩
          · exact ⟨_, rfl⟩
      · exact ⟨_, rfl⟩

theorem State.galley_repairDone_commanded (s : State) (asSrc tile detail stack : Nat) :
    ∃ x, (s.repairDone none asSrc tile detail stack).galley = { s.galley with copying := x } := by
  obtain ⟨x, hx⟩ := State.galley_dispatchForme
    (State.note { s with flt := { s.flt with repairs := s.flt.repairs.filter fun r => !(decide (r.stack = stack) && r.begun) } }
      asSrc Cls.commanded 0 0 detail tile)
  rw [State.galley_note] at hx
  exact ⟨x, hx⟩

/-- The spare serves the logical bank, the old bank is retired, and no copy runs. -/
def Galley.switched (g : Galley) (b : BankRemap) : Galley :=
  { g with copying := none
           remap := smSet 0 g.remap (b.die * 1024 + b.group * 64 + b.logical) (if b.toBank = b.logical then 0 else b.toBank + 1)
           retired := setInsert g.retired ((b.die * 16 + b.group) * 66 + b.fromBank) }

/-- The bank has been switched and the remap noted. -/
def State.bankSwitched (s : State) (b : BankRemap) : State :=
  (((s.copyErrors b).modGalley fun g => g.switched b).put Obj.GAL_LAST_REMAP
    (lastRemap b.reason b.die b.group b.logical b.fromBank b.toBank)).bump Obj.GAL_REMAPS

/-- The run of a controller's remap ends, where one lasts. -/
def State.remapRunEnded (s : State) (reason : Nat) : State :=
  if s.isBusy Obj.GAL_REMAP ∧ reason = 2 then s.runEnd Obj.GAL_REMAP Res.ok 0 else s

/-- The repair of a bank is done. -/
def State.bankRepaired (s : State) (b : BankRemap) : State :=
  (s.bankSwitched b).repairDone none (152 + 16 * b.die + b.group) b.fromBank b.toBank 0

theorem exec_bankRemapSwitch_of_copied {s : State} {b : BankRemap} (hcopying : s.galley.copying = some b) (hrepairs : s.flt.repairs = []) :
    exec .bankRemapSwitch s = .next ((s.bankRepaired b).remapRunEnded b.reason) := by
  change execBankRemapSwitch s = _
  rw [execBankRemapSwitch, hcopying, hrepairs]
  rfl

/-- The objects that tell of remaps (R337). -/
def remapObjects : List Nat := [Obj.GAL_REMAPS, Obj.GAL_LAST_REMAP, Obj.GAL_REMAP]

/-- The other objects. -/
abbrev BesideRemaps (key : Nat) : Prop := key ∉ remapObjects

theorem besideRemaps_of_lt {key : Nat} (h : Obj.GAL_REMAP < key) : BesideRemaps key := by
  simp only [Obj.GAL_REMAP] at h
  simp only [BesideRemaps, remapObjects, List.mem_cons, List.not_mem_nil, or_false, Obj.GAL_REMAPS, Obj.GAL_LAST_REMAP, Obj.GAL_REMAP]
  omega

theorem besideRemaps_of_mod {key : Nat} (h : key % 256 < 3 ∨ key % 256 = 5) : BesideRemaps key := by
  simp only [BesideRemaps, remapObjects, List.mem_cons, List.not_mem_nil, or_false, Obj.GAL_REMAPS, Obj.GAL_LAST_REMAP, Obj.GAL_REMAP]
  omega

theorem reactKeys_besideRemaps : ReactKeys BesideRemaps where
  events := by decide
  lost := by decide
  rungs := by decide
  state := by decide
  cause := by decide
  shed _ := besideRemaps_of_lt (by simp only [Obj.GAL_REMAP, Obj.QD_OCTETS_SHED]; omega)

theorem State.copyErrors_kept_besideRemaps (s : State) (b : BankRemap) : Kept (.mem :: reaction) BesideRemaps s (s.copyErrors b) := by
  apply State.copyErrors_kept
  case ko => exact reactKeys_besideRemaps
  case hK => exact Kept.refl _ _ s
  case oCHS_LABEL_CE => exact fun i => besideRemaps_of_lt (by simp only [Obj.GAL_REMAP, Obj.CHS_LABEL_CE]; omega)
  case oCHS_LABEL_UE => exact fun i => besideRemaps_of_lt (by simp only [Obj.GAL_REMAP, Obj.CHS_LABEL_UE]; omega)
  case oCHS_LPM_MISMATCH => exact fun i => besideRemaps_of_lt (by simp only [Obj.GAL_REMAP, Obj.CHS_LPM_MISMATCH]; omega)
  case oCHS_LPM_PARITY => exact fun i => besideRemaps_of_lt (by simp only [Obj.GAL_REMAP, Obj.CHS_LPM_PARITY]; omega)
  case oCHS_NH_CE => exact fun i => besideRemaps_of_lt (by simp only [Obj.GAL_REMAP, Obj.CHS_NH_CE]; omega)
  case oCHS_NH_UE => exact fun i => besideRemaps_of_lt (by simp only [Obj.GAL_REMAP, Obj.CHS_NH_UE]; omega)
  case oTBL_LRN_UNCORR => exact fun i => besideRemaps_of_lt (by simp only [Obj.GAL_REMAP, Obj.TBL_LRN_UNCORR]; omega)
  case oFLT_MI_CE => exact fun i => besideRemaps_of_mod (by simp only [Obj.FLT_MI_CE]; omega)
  case oFLT_MI_UE => exact fun i => besideRemaps_of_mod (by simp only [Obj.FLT_MI_UE]; omega)
  case oFLT_MI_LAST => exact fun i => besideRemaps_of_mod (by simp only [Obj.FLT_MI_LAST]; omega)
  all_goals decide

theorem State.repairDone_kept_besideRemaps (s : State) (src : Option Nat) (asSrc tile detail stack : Nat) :
    Kept reaction BesideRemaps s (s.repairDone src asSrc tile detail stack) := by
  apply State.repairDone_kept
  case ko => exact reactKeys_besideRemaps
  case hK => exact Kept.refl _ _ s
  all_goals decide

section
variable (s : State) (b : BankRemap)

theorem State.get_copyErrors {key : Nat} (h : key ∈ remapObjects) : (s.copyErrors b).get key = s.get key :=
  (s.copyErrors_kept_besideRemaps b).2.1 key fun hbeside => hbeside h

theorem State.get_bankRepaired {key : Nat} (h : key ∈ remapObjects) : (s.bankRepaired b).get key = (s.bankSwitched b).get key :=
  (State.repairDone_kept_besideRemaps _ _ _ _ _ _).2.1 key fun hbeside => hbeside h

theorem State.lastRemap_bankRepaired : (s.bankRepaired b).get Obj.GAL_LAST_REMAP =
    lastRemap b.reason b.die b.group b.logical b.fromBank b.toBank := by
  rw [s.get_bankRepaired b (by decide), State.bankSwitched, State.get_bump_ne _ (by decide), State.get_put_same]

theorem State.remaps_bankRepaired : (s.bankRepaired b).get Obj.GAL_REMAPS = (s.get Obj.GAL_REMAPS + 1) % 2 ^ widthOf Obj.GAL_REMAPS := by
  rw [s.get_bankRepaired b (by decide), State.bankSwitched, State.get_bump_same, State.get_put_ne _ _ _ _ (by decide),
    State.get_modGalley, s.get_copyErrors b (by decide)]

theorem State.remap_bankRepaired : (s.bankRepaired b).get Obj.GAL_REMAP = s.get Obj.GAL_REMAP := by
  rw [s.get_bankRepaired b (by decide), State.bankSwitched, State.get_bump_ne _ (by decide), State.get_put_ne _ _ _ _ (by decide),
    State.get_modGalley, s.get_copyErrors b (by decide)]

theorem State.busy_bankRepaired : (s.bankRepaired b).busy = s.busy := by
  have hrepaired : (s.bankRepaired b).busy = (s.bankSwitched b).busy := (State.repairDone_kept_besideRemaps _ _ _ _ _ _).same .busy (by decide)
  have hcopied : (s.copyErrors b).busy = s.busy := (s.copyErrors_kept_besideRemaps b).same .busy (by decide)
  rw [hrepaired, State.bankSwitched, State.busy_bump, State.busy_put, State.busy_modGalley, hcopied]

theorem State.galley_bankRepaired : ∃ x, (s.bankRepaired b).galley = { (s.copyErrors b).galley.switched b with copying := x } := by
  obtain ⟨x, hx⟩ := (s.bankSwitched b).galley_repairDone_commanded (152 + 16 * b.die + b.group) b.fromBank b.toBank 0
  rw [State.bankSwitched, State.galley_bump, State.galley_put] at hx
  exact ⟨x, hx⟩

/-- A bank with no stored error moves none, so no fault is reported and no other repair waits. -/
theorem State.repairs_copyErrors_of_sound (hflips : s.mem.flips = []) : (s.copyErrors b).flt.repairs = s.flt.repairs := by
  simp [State.copyErrors, hflips]

theorem State.copying_bankRepaired_of_sound (hflips : s.mem.flips = []) (hrepairs : s.flt.repairs = []) :
    (s.bankRepaired b).galley.copying = none := by
  have hnone : (s.bankSwitched b).flt.repairs = [] := by
    rw [State.bankSwitched, State.flt_bump, State.flt_put, State.flt_modGalley, s.repairs_copyErrors_of_sound b hflips, hrepairs]
  rw [State.bankRepaired, State.repairDone_of_commanded _ _ _ _ hnone, State.galley_note, State.bankSwitched, State.galley_bump, State.galley_put]
  rfl

@[simp] theorem State.galley_remapRunEnded (reason : Nat) : (s.remapRunEnded reason).galley = s.galley := by
  unfold State.remapRunEnded
  split
  · rw [State.galley_runEnd]
  · rfl

theorem State.get_remapRunEnded_ne (reason : Nat) {key : Nat} (h : Obj.GAL_REMAP ≠ key) : (s.remapRunEnded reason).get key = s.get key := by
  unfold State.remapRunEnded
  split
  · rw [State.get_runEnd_ne _ _ _ h]
  · rfl

end

/-- Settles O47: a refill goes by a sound link word; each START runs in the state of its turn, whose galley and objects are those before it; the
switch's repair is a controller's, so what follows it changes of the galley at most the next bank to copy. -/
theorem galleyIsRefilledCarvedAndRemapped : Obligations.GalleyIsRefilledCarvedAndRemapped := by
  refine ⟨fun s c h hc hh hphase hhead hroom => ?refill, fun s i r h hbusy => ⟨_, exec_galCarveApply_of_ready h hbusy, fun o d hfails => ?failed,
    fun hpasses => ?passed⟩, fun s i r h hbusy hrepairs => ?remap, fun s b hcopying hrepairs => ?switch⟩
  case refill =>
    intro k w hread hmark hcase hhank hnext hgalley
    have hlink : (s.linkRead c h).state.galley.LinkSound c h w := by
      rw [hgalley]
      exact ⟨hmark, hcase, hhank, hnext⟩
    have hrefilled : ((s.linkRead c h).state.modGalley fun g => g.setHank c h (k.refilled w)).galley.hank c h = k.refilled w :=
      Galley.hank_setHank_same _ _ _ _
    have hfree : (s.linkRead c h).state.galley.free = s.galley.free := congrArg Galley.free hgalley
    exact ⟨_, exec_hankRefill_of_sound hc hh hphase hhead hroom hread hlink, congrArg Hank.pf hrefilled, congrArg Hank.len hrefilled,
      congrArg Hank.headV hrefilled, fun hmore => (congrArg Hank.head hrefilled).trans (if_pos hmore), hfree⟩
  case failed =>
    rw [startGalCarveApply_of_failed (by rwa [State.carveCheck_startTurn]), State.galley_runOnce, State.galley_startTurn, State.runOnce,
      State.get_runEnd_same, State.get_startTurn]
    exact ⟨rfl, rfl⟩
  case passed =>
    rw [startGalCarveApply_of_passed (by rwa [State.carveCheck_startTurn]), State.galley_runOnce, State.galley_carve, State.galley_startTurn,
      State.stagedCarve_startTurn, State.runOnce, State.get_runEnd_ne _ _ _ (by decide), State.capacity_carve, State.get_runEnd_same,
      State.applyRecord_carve, State.get_startTurn]
    exact ⟨rfl, rfl, rfl, rfl, rfl, rfl, rfl⟩
  case remap =>
    intro w die group bank rec_
    have hturn : (s.startTurn i Obj.GAL_REMAP).flt.repairs = [] := by rwa [State.flt_startTurn]
    refine ⟨_, exec_galRemap_of_ready hrepairs h hbusy, fun hbank => ?_, fun hbank hgroup => ?_, fun hbank hgroup hretired => ?_,
      fun hbank hgroup hretired hserves => ?_, fun hbank hgroup hretired lb sp l hserves hspares => ?_⟩
    · rw [startGalRemap_of_beyond hturn (by rwa [State.remapBank_startTurn]), State.runOnce, State.get_runEnd_same, State.get_startTurn]
    · rw [startGalRemap_of_gated hturn (by rwa [State.remapBank_startTurn]) (by rwa [State.remapGroup_startTurn, State.galley_startTurn]),
        State.runOnce, State.get_runEnd_same, State.get_startTurn]
    · rw [startGalRemap_of_retired hturn (by rwa [State.remapBank_startTurn]) (by rwa [State.remapGroup_startTurn, State.galley_startTurn])
        (by rwa [State.remapPlace_startTurn, State.galley_startTurn]), State.runOnce, State.get_runEnd_same, State.get_startTurn]
    · have hmem := State.place_mem_spareRetired (s.startTurn i Obj.GAL_REMAP)
      rw [State.remapPlace_startTurn] at hmem
      rw [startGalRemap_of_spare hturn (by rwa [State.remapBank_startTurn]) (by rwa [State.remapGroup_startTurn, State.galley_startTurn])
        (by rwa [State.remapPlace_startTurn, State.galley_startTurn])
        (by rwa [State.bankLogical_startTurn, State.remapDie_startTurn, State.remapGroup_startTurn, State.remapBank_startTurn]), State.galley_runOnce,
        State.runOnce, State.get_runEnd_same, State.remap_spareRetired, State.get_startTurn]
      exact ⟨hmem, rfl⟩
    · have hserved : (s.startTurn i Obj.GAL_REMAP).bankLogical (s.startTurn i Obj.GAL_REMAP).remapDie (s.startTurn i Obj.GAL_REMAP).remapGroup
          (s.startTurn i Obj.GAL_REMAP).remapBank = some lb := by
        rwa [State.bankLogical_startTurn, State.remapDie_startTurn, State.remapGroup_startTurn, State.remapBank_startTurn]
      have hspared : (s.startTurn i Obj.GAL_REMAP).bankSpares (s.startTurn i Obj.GAL_REMAP).remapDie (s.startTurn i Obj.GAL_REMAP).remapGroup =
          sp :: l := by
        rwa [State.bankSpares_startTurn, State.remapDie_startTurn, State.remapGroup_startTurn]
      rw [startGalRemap_of_spared hturn (by rwa [State.remapBank_startTurn]) (by rwa [State.remapGroup_startTurn, State.galley_startTurn])
        (by rwa [State.remapPlace_startTurn, State.galley_startTurn]) hserved hspared]
      refine ⟨(State.isBusy_dispatchForme _ _).trans (State.isBusy_runBegin_same _ _), fun hctx => ?_⟩
      have hcopying := State.copying_remapAsked hturn (by rwa [State.ctx_zero_startTurn]) hserved hspared
      rwa [State.remapDie_startTurn, State.remapGroup_startTurn, State.remapBank_startTurn] at hcopying
  case switch =>
    obtain ⟨x, hgalley⟩ := s.galley_bankRepaired b
    refine ⟨_, exec_bankRemapSwitch_of_copied hcopying hrepairs, fun hflips => ?_, ?_, ?_, ?_, ?_, fun hbusy hreason => ?_⟩
    · rw [State.galley_remapRunEnded, s.copying_bankRepaired_of_sound b hflips hrepairs]
    · rw [State.galley_remapRunEnded, hgalley]
      exact (smGet_set _ _ _ _ _).trans (if_pos rfl)
    · rw [State.galley_remapRunEnded, hgalley]
      exact mem_setInsert_self _ _
    · rw [State.get_remapRunEnded_ne _ _ (by decide), State.lastRemap_bankRepaired]
    · rw [State.get_remapRunEnded_ne _ _ (by decide), State.remaps_bankRepaired]
    · rw [State.remapRunEnded, if_pos ⟨by rwa [State.isBusy, State.busy_bankRepaired], hreason⟩, State.get_runEnd_same, State.remap_bankRepaired]

end Sys2Proof.Machine
end
